-- ==== Sys2Proof/Word.lean ====
section
/-! DEFINITION. The plain data every other file is written over: register words, bytes, times, and banks (sparse
maps kept as sorted lists). -/

namespace Sys2Proof

/-- A register word (R7: every register is 32 bits wide). -/
abbrev Word := BitVec 32

/-- One byte. -/
abbrev Byte := BitVec 8

/-- A 64-bit word of memory or of a queue. -/
abbrev Dword := BitVec 64

/-- Like things numbered by a natural number, as sorted pairs; an unlisted number holds the bank's default. -/
abbrev Bank (α : Type) := List (Nat × α)

end Sys2Proof
end

