-- ==== Sys2Proof/Syntax.lean ====
section
/-! DEFINITION. The commands and events of the part: one constructor per row of the table of operations and events. -/

namespace Sys2Proof

/-- The transports of R496; a mailbox and a message transport are per link, numbered 4 × port + link. -/
inductive Transport where
  | mailbox (link : Fin 16) (slot : Fin 32)
  | message (link : Fin 16) (requester : BitVec 16)
  | slave
  | sideband
  | debug
deriving DecidableEq, Repr

/-- A Cykai command packet without its opcode, as a transport delivers it (R500, R501): the header fields and the
bytes after the header, padding included. -/
structure Packet where
  via : Transport
  version : Byte
  flags : Byte
  seq : BitVec 16
  target : BitVec 16
  plen : BitVec 32
  zeros : BitVec 160
  params : List Byte
deriving DecidableEq, Repr

/-- The agents that make accesses (R661), with the host link an access comes through. -/
inductive Agent where
  | core (c : Fin 16)
  | mgmt (h : Fin 2)
  | sched (h : Fin 2)
  | coh (h : Fin 2)
  | link (l : Fin 16)
  | debug
deriving DecidableEq, Repr

/-- A read of a queue window (R153): who reads, and which of its eight 64-bit words (0 is DATA). -/
structure WindowRead where
  agent : Agent
  off : Fin 8
deriving DecidableEq, Repr

/-- What else happens in the register clock cycle in which a watch point begins an episode (R81): the pan's other watch points
that begin one, and a write of 1 to STALLED. -/
structure SameCycle where
  points : List (Fin 512)
  clear : Bool
deriving DecidableEq, Repr

/-- One access of a block-memory port (R93). -/
structure BmemAccess where
  write : Bool
  addr : BitVec 16
  data : BitVec 64
deriving DecidableEq, Repr

/-- What a single-event upset strikes (R76): the pair of a grain's output (0 empty, 1 zero, 2 one, 3 both rails), a stored
bit of a block memory, of a cached line, or of a 64-bit word of the lagoon or a stack (its address div 8). -/
inductive Upset where
  | grain (g : Fin 8388608) (o : Fin 2) (rails : Fin 4)
  | bmem (b : Fin 8192) (addr : BitVec 16) (bit : Fin 72)
  | cache (c : Fin 16) (target : Fin 3) (line : BitVec 58)
  | word (w : BitVec 61) (bit : Fin 72)
deriving DecidableEq, Repr

/-- The table of operations and events, one constructor a row. -/
inductive Instr where
  /-- REGISTER_WRITE, R11. -/
  | registerWrite (a : Agent) (addr : BitVec 25) (v : Word)
  /-- MISALIGNED_ACCESS, R8. -/
  | misalignedAccess (a : Agent) (addr : BitVec 25) (size : Fin 4) (write : Bool)
  /-- OUTSIDE_ACCESS, R26. -/
  | outsideAccess (a : Agent) (addr : Word) (write : Bool)
  /-- HOST_WRITE_REFUSED, R10. -/
  | hostWriteRefused (l : Fin 16) (addr : BitVec 25) (v : Word)
  /-- GRAIN_EVALUATE, R43. -/
  | grainEvaluate (g : Fin 8388608)
  /-- MUTEX_GRANT, R61. -/
  | mutexGrant (g : Fin 4194304)
  /-- STALL_THRESHOLD_EXPIRY, R73. -/
  | stallThresholdExpiry (n : Fin 256) (wp : Fin 512) (same : SameCycle)
  /-- STALL_INJECT, R77. -/
  | stallInject (n : Fin 256) (wp : Fin 512)
  /-- STALL_STATUS_CLEAR, R80. -/
  | stallStatusClear (n : Fin 256)
  /-- PIN_CHANNEL_INPUT, R89. -/
  | pinChannelInput (i : Fin 384)
  /-- PIN_CHANNEL_OUTPUT, R89. -/
  | pinChannelOutput (i : Fin 384) (v : Bool)
  /-- BMEM_ACCESS_CYCLE, R96. -/
  | bmemAccessCycle (b : Fin 8192) (opA opB : Option BmemAccess) (takeA takeB late : Bool)
  /-- BMEM_SCRUB_WORD, R99. -/
  | bmemScrubWord (b : Fin 8192) (waited : Bool)
  /-- BMEM_INJECT, R125. -/
  | bmemInject (n : Fin 256) (m : Fin 32) (addr : BitVec 13) (bit : BitVec 7) (double : Bool)
  /-- BMEM_CE_CLEAR, R123. -/
  | bmemCeClear (n : Fin 256)
  /-- CLOCK_TREE_RECONFIGURE, R106. -/
  | clockTreeReconfigure (i : Fin 32) (en src : Bool) (div : Byte)
  /-- FLOP_EDGE, R109. -/
  | flopEdge (i : Fin 32) (rising : Bool)
  /-- ISLAND_LATE_CLEAR, R127. -/
  | islandLateClear (n : Fin 256)
  /-- PAN_GATING_DONE, R115. -/
  | panGatingDone (n : Fin 256)
  /-- PAN_AUTO_GATE, R128. -/
  | panAutoGate (n : Fin 256)
  /-- PAN_WAKE_START, R116. -/
  | panWakeStart (h : Fin 2)
  /-- PAN_WAKE_DONE, R116. -/
  | panWakeDone (n : Fin 256)
  /-- QUEUE_WRITE_UNIT, R139. -/
  | queueWriteUnit (d : Fin 1024) (data : Word) (last cls null : Bool)
  /-- QUEUE_CREDIT_ACK, R145. -/
  | queueCreditAck (d : Fin 1024)
  /-- QUEUE_READ_WORD, R143. -/
  | queueReadWord (d : Fin 1024)
  /-- QUEUE_WINDOW_POP, R153. -/
  | queueWindowPop (d : Fin 1024) (rd : WindowRead)
  /-- QUEUE_WINDOW_PUSH, R153. -/
  | queueWindowPush (d : Fin 1024) (a : Agent) (v : Dword)
  /-- QUEUE_PUSH_RESUME, R147. -/
  | queuePushResume (d : Fin 1024)
  /-- QUEUE_PUSH_TIMEOUT, R147. -/
  | queuePushTimeout (d : Fin 1024)
  /-- QUEUE_WINDOW_MISUSE, R134. -/
  | queueWindowMisuse (d : Fin 1024) (a : Agent) (off : Fin 64) (aligned push : Bool)
  /-- QUEUE_LOST_CLEAR, R153. -/
  | queueLostClear (d : Fin 1024) (a : Agent)
  /-- QUEUE_IDLE_SET, R153. -/
  | queueIdleSet (d : Fin 1024) (a : Agent) (v : Dword)
  /-- QB_FLUSH, R152. -/
  | qbFlush (d : Fin 1024)
  /-- QB_FLUSH_HI, R151. -/
  | qbFlushHi (d : Fin 1024)
  /-- QB_FLUSH_LO, R151. -/
  | qbFlushLo (d : Fin 1024)
  /-- SEGMENT_FLUSH_EFFECT, R151. -/
  | segmentFlushEffect (d : Fin 1024) (cls : Bool)
  /-- QUEUE_SETTING_APPLY, R155. -/
  | queueSettingApply (d : Fin 1024)
  /-- QUEUE_RESYNC_DONE, R165. -/
  | queueResyncDone (d : Fin 1024)
  /-- QUEUE_REBIND_DRAINED, R158. -/
  | queueRebindDrained (d : Fin 1024)
  /-- QUEUE_REBIND_TIMEOUT, R158. -/
  | queueRebindTimeout (d : Fin 1024)
  /-- STEP, R172. -/
  | step (r : Fin 4096)
  /-- NOP, R200. -/
  | nop (r : Fin 4096)
  /-- REP, R204. -/
  | rep (r : Fin 4096)
  /-- BR, R202. -/
  | br (r : Fin 4096)
  /-- DBNZ, R203. -/
  | dbnz (r : Fin 4096)
  /-- SETR, R206. -/
  | setr (r : Fin 4096)
  /-- RESCALE, R193. -/
  | rescale (r : Fin 4096)
  /-- CLRF, R200. -/
  | clrf (r : Fin 4096)
  /-- ATOM, R219. -/
  | atom (r : Fin 4096)
  /-- ENDATOM, R219. -/
  | endatom (r : Fin 4096)
  /-- RETA, R217. -/
  | reta (r : Fin 4096)
  /-- RESUME, R221. -/
  | resume (r : Fin 4096)
  /-- WAIT, R218. -/
  | waitCmd (r : Fin 4096)
  /-- HALT, R227. -/
  | halt (r : Fin 4096)
  /-- SEGEND, R207. -/
  | segend (r : Fin 4096)
  /-- NOTE, R200. -/
  | note (r : Fin 4096)
  /-- ILLEGAL_INSTRUCTION, R225. -/
  | illegalInstruction (r : Fin 4096)
  /-- ATTENTION_ENTRY, R216. -/
  | attentionEntry (r : Fin 4096)
  /-- COMMIT_ENTRY, R219. -/
  | commitEntry (r : Fin 4096)
  /-- RAKE_INBOUND_TOKEN, R188. -/
  | rakeInboundToken (r : Fin 4096) (data : BitVec 36)
  /-- RAKE_FABRIC_ATTENTION, R210. -/
  | rakeFabricAttention (r : Fin 4096) (data : BitVec 36)
  /-- RAKE_RESULT_TAKEN, R189. -/
  | rakeResultTaken (r : Fin 4096)
  /-- RAKE_DOORBELL_POST, R211. -/
  | rakeDoorbellPost (r : Fin 4096) (a : Agent) (write : Bool) (v : Dword)
  /-- DOORBELL_MISUSE, R212. -/
  | doorbellMisuse (r : Fin 4096) (a : Agent) (off : Fin 8) (aligned : Bool)
  /-- RAKE_INJECT_PAR, R231. -/
  | rakeInjectPar (r : Fin 4096)
  /-- RAKE_INJECT_OVF, R231. -/
  | rakeInjectOvf (r : Fin 4096)
  /-- RAKE_INJECT_SAT, R231. -/
  | rakeInjectSat (r : Fin 4096)
  /-- RAKE_INJECT_EXPT_SAT, R231. -/
  | rakeInjectExptSat (r : Fin 4096)
  /-- RAKE_INJECT_ILLEGAL, R231. -/
  | rakeInjectIllegal (r : Fin 4096)
  /-- RAKE_STOP_DRAINED, R228. -/
  | rakeStopDrained (r : Fin 4096)
  /-- RAKE_STOP_TIMEOUT, R228. -/
  | rakeStopTimeout (r : Fin 4096)
  /-- SLUICE_CLOSE_COMPLETE, R244. -/
  | sluiceCloseComplete (n : Fin 256)
  /-- SLUICE_DRAIN_TIMEOUT, R245. -/
  | sluiceDrainTimeout (n : Fin 256)
  /-- SLUICE_DEBUG_HOLD, R239. -/
  | sluiceDebugHold (n : Fin 256) (b : Bool)
  /-- SLUICE_DISCARD_SET, R237. -/
  | sluiceDiscardSet (n : Fin 256) (b : Bool)
  /-- SLUICE_TOKEN_DROP, R237. -/
  | sluiceTokenDrop (n : Fin 256) (side : Fin 4) (k : Fin 64) (word : BitVec 16)
  /-- SLUICE_STEP, R246. -/
  | sluiceStep (n : Fin 256) (side : Fin 4) (k : Fin 64)
  /-- SLUICE_STEP_DONE, R246. -/
  | sluiceStepDone (n : Fin 256) (word : BitVec 16)
  /-- SLUICE_DISCARD_CLEAR, R268. -/
  | sluiceDiscardClear (n : Fin 256)
  /-- RECONFIG_GRANT, R248. -/
  | reconfigGrant (h : Fin 2) (agent : List Byte)
  /-- RECONFIG_MASTER_STALL, R250. -/
  | reconfigMasterStall (h : Fin 2) (m : Fin 3)
  /-- PAN_LOAD_HEADER, R257. -/
  | panLoadHeader (h : Fin 2)
  /-- PAN_FRAME, R259. -/
  | panFrame (h : Fin 2)
  /-- PAN_SIGNATURE_DONE, R258. -/
  | panSignatureDone (h : Fin 2) (m : Fin 3)
  /-- PAN_LOAD_END, R260. -/
  | panLoadEnd (h : Fin 2)
  /-- PAN_LOAD_FLOOR_REACHED, R262. -/
  | panLoadFloorReached (h : Fin 2) (m : Fin 3)
  /-- DISPATCH_ROUND, R291. -/
  | dispatchRound (h : Fin 2)
  /-- SCHED_DISPATCH_PUSH, R297. -/
  | schedDispatchPush (h : Fin 2) (number : BitVec 16)
  /-- SCHED_COMPLETION_POP, R297. -/
  | schedCompletionPop (d : Fin 1024)
  /-- DISPATCH_DONE_WRITE, R295. -/
  | dispatchDoneWrite (a : Agent) (c : Fin 16) (stores : List (BitVec 14 × Byte))
  /-- DISPATCH_WINDOW_MISUSE, R295. -/
  | dispatchWindowMisuse (a : Agent) (c : Fin 16) (off : BitVec 14) (write : Bool)
  /-- PREEMPT_LIMIT_EXPIRY, R296. -/
  | preemptLimitExpiry (c : Fin 16)
  /-- SCHED_RELOAD_COMPLETE, R302. -/
  | schedReloadComplete (h : Fin 2)
  /-- SLICE_PROMOTE, R301. -/
  | slicePromote (n : Fin 256)
  /-- CROSS_HALF_TOKEN_ARRIVE, R305. -/
  | crossHalfTokenArrive (id : BitVec 16)
  /-- SCHED_STEP, R310. -/
  | schedStep (h : Fin 2)
  /-- SCHED_DRAIN_TIMEOUT, R307. -/
  | schedDrainTimeout (h : Fin 2) (graph : Option (Fin 256)) (cores : Byte)
  /-- SCHED_INJECT, R319. -/
  | schedInject (h : Fin 2) (kind : Fin 8)
  /-- SCHED_COUNTS_CLEAR, R318. -/
  | schedCountsClear (h : Fin 2)
  /-- COP_ISSUE, R334. -/
  | copIssue (c : Fin 16) (w : Word)
  /-- COP_RESPONSE, R339. -/
  | copResponse (c : Fin 16)
  /-- COP_TIMEOUT, R340. -/
  | copTimeout (c : Fin 16) (rid : BitVec 16)
  /-- COP_SQUASH, R342. -/
  | copSquash (c : Fin 16) (k : Fin 8) (target : Dword)
  /-- COP_UNBIND_TIMEOUT, R344. -/
  | copUnbindTimeout (c : Fin 16)
  /-- PINSET, R346. -/
  | pinset (c : Fin 16) (v : Dword)
  /-- PINCLR, R346. -/
  | pinclr (c : Fin 16) (v : Dword)
  /-- PINTGL, R346. -/
  | pintgl (c : Fin 16) (v : Dword)
  /-- MTIMECMP_WRITE, R326. -/
  | mtimecmpWrite (a c : Fin 16) (high : Bool) (v : Word)
  /-- MSIP_WRITE, R326. -/
  | msipWrite (a c : Fin 16) (v : Bool)
  /-- MACHINE_TIMER_EXPIRY, R326. -/
  | machineTimerExpiry (c : Fin 16)
  /-- CORE_CACHE_CHECK, R325. -/
  | coreCacheCheck (c : Fin 16) (target : Fin 3) (addr : Dword) (fill : Bool)
  /-- CORE_CE_CLEAR, R355. -/
  | coreCeClear (c : Fin 16)
  /-- COP_STRAY_CLEAR, R359. -/
  | copStrayClear (c : Fin 16)
  /-- TCORE_INJECT, R360. -/
  | tcoreInject (c : Fin 16) (target : Fin 4) (double : Bool)
  /-- MGMT_LOCKSTEP_MISMATCH, R352. -/
  | mgmtLockstepMismatch (h : Fin 2)
  /-- MGMT_RESTART_DONE, R352. -/
  | mgmtRestartDone (h : Fin 2)
  /-- UNMAPPED_ACCESS, R362. -/
  | unmappedAccess (a : Agent) (addr : Dword) (kind : Fin 3)
  /-- MEMORY_READ, R376. -/
  | memoryRead (a : Agent) (addr : Dword) (n : Byte)
  /-- MEMORY_PARTIAL_WRITE, R377. -/
  | memoryPartialWrite (a : Agent) (addr : Dword) (data : List Byte)
  /-- SCRUB_LINE, R378. -/
  | scrubLine (h sel : Fin 2) (stuck upset : Bool)
  /-- SCRUB_PARITY_CHECK, R381. -/
  | scrubParityCheck (h sel : Fin 2)
  /-- SCRUB_RESTART, R382. -/
  | scrubRestart (h sel : Fin 2)
  /-- SCRUB_ENABLE, R387. -/
  | scrubEnable (h sel : Fin 2) (en : Bool)
  /-- MEM_INJECT_FLIP, R389. -/
  | memInjectFlip (h sel : Fin 2) (word : Word) (bit : BitVec 7)
  /-- MEM_INJECT_FLIP_DOUBLE, R389. -/
  | memInjectFlipDouble (h sel : Fin 2) (word : Word) (bit : BitVec 7)
  /-- MEM_INJECT_SKIP_LINE, R389. -/
  | memInjectSkipLine (h sel : Fin 2)
  /-- MEM_INJECT_PAR_FLIP, R389. -/
  | memInjectParFlip (h sel : Fin 2)
  /-- MEM_ECC_CE_CLEAR, R386. -/
  | memEccCeClear (h : Fin 2)
  /-- HBM_TRAINING_DONE, R371. -/
  | hbmTrainingDone (h : Fin 2) (good : Bool)
  /-- MEMORY_FILL_DONE, R372. -/
  | memoryFillDone (h sel : Fin 2)
  /-- PARTITION_DRAIN_TIMEOUT, R367. -/
  | partitionDrainTimeout (h : Fin 2)
  /-- LINK_TRAINING_DONE, R394. -/
  | linkTrainingDone (l : Fin 16) (rate : Fin 6) (width : Fin 5) (framing : Fin 4) (cxl : Bool)
  /-- FLIT_RECEIVE, R395. -/
  | flitReceive (l : Fin 16) (fec crc : Bool)
  /-- REPLAY_ROLLOVER, R396. -/
  | replayRollover (l : Fin 16)
  /-- LINK_HOLD_END, R396. -/
  | linkHoldEnd (l : Fin 16)
  /-- CXL_MEM_REQUEST, R404. -/
  | cxlMemRequest (l : Fin 16) (dpa : Dword) (write : Option (BitVec 512)) (poison : Bool)
  /-- BAR2_ACCESS, R402. -/
  | bar2Access (l : Fin 16) (off : BitVec 25) (write : Option (List Byte)) (n : Byte) (poison : Bool)
  /-- BAR0_MISUSE, R401. -/
  | bar0Misuse (l : Fin 16) (off : BitVec 20) (write : Bool)
  /-- COMPLETION_TIMEOUT, R409. -/
  | completionTimeout (l : Fin 16) (a : Agent) (addr : Dword)
  /-- IDE_INTEGRITY_FAIL, R411. -/
  | ideIntegrityFail (l : Fin 16) (stream : Fin 6)
  /-- MAILBOX_SUBMIT, R414. -/
  | mailboxSubmit (l : Fin 16) (a : Agent) (slot : BitVec 6)
  /-- MAILBOX_SLOT_WRITE, R416. -/
  | mailboxSlotWrite (l : Fin 16) (a : Agent) (slot : Fin 32) (off : Fin 128) (data : List Byte)
  /-- VDM_FRAGMENT, R420. -/
  | vdmFragment (l : Fin 16) (requester xid : BitVec 16) (mtype mflags : Byte) (offset : Word) (bytes : List Byte)
  /-- VDM_REASSEMBLY_TIMEOUT, R420. -/
  | vdmReassemblyTimeout (l : Fin 16) (requester xid : BitVec 16)
  /-- LINK_LOSS, R423. -/
  | linkLoss (l : Fin 16)
  /-- PER_PORT_RESET, R425. -/
  | perPortReset (l : Fin 16)
  /-- PORT_DRAIN_TIMEOUT, R422. -/
  | portDrainTimeout (l : Fin 16)
  /-- PORT_INJECT_FEC, R429. -/
  | portInjectFec (p l : Fin 4)
  /-- PORT_INJECT_CRC, R429. -/
  | portInjectCrc (p l : Fin 4)
  /-- PORT_INJECT_REPLAY, R429. -/
  | portInjectReplay (p l : Fin 4)
  /-- PORT_INJECT_POISON, R429. -/
  | portInjectPoison (p l : Fin 4)
  /-- ERRCNT_CLEAR, R431. -/
  | errcntClear (l : Fin 16)
  /-- CXL_IDENTIFY, R400. -/
  | cxlIdentify (l : Fin 16)
  /-- CXL_IDENTIFY_MEMORY_DEVICE, R400. -/
  | cxlIdentifyMemoryDevice (l : Fin 16)
  /-- GET_SUPPORTED_LOGS, R400. -/
  | getSupportedLogs (l : Fin 16)
  /-- GET_LOG, R400. -/
  | getLog (l : Fin 16) (log : BitVec 128) (offset len : Word)
  /-- GET_EVENT_RECORDS, R400. -/
  | getEventRecords (l : Fin 16) (log : Byte)
  /-- CLEAR_EVENT_RECORDS, R400. -/
  | clearEventRecords (l : Fin 16) (log : Byte) (n : Byte)
  /-- GET_POISON_LIST, R400. -/
  | getPoisonList (l : Fin 16) (dpa len : Dword)
  /-- GET_HEALTH_INFO, R400. -/
  | getHealthInfo (l : Fin 16)
  /-- GET_TIMESTAMP, R400. -/
  | getTimestamp (l : Fin 16)
  /-- SET_TIMESTAMP, R400. -/
  | setTimestamp (l : Fin 16) (v : Dword)
  /-- CXL_UNSUPPORTED_OPCODE, R400. -/
  | cxlUnsupportedOpcode (l : Fin 16) (opcode : BitVec 16)
  /-- GET_VERSION, R574. -/
  | getVersion (l : Fin 16)
  /-- GET_CAPABILITIES, R574. -/
  | getCapabilities (l : Fin 16)
  /-- NEGOTIATE_ALGORITHMS, R574. -/
  | negotiateAlgorithms (l : Fin 16)
  /-- GET_DIGESTS, R574. -/
  | getDigests (l : Fin 16)
  /-- GET_CERTIFICATE, R574. -/
  | getCertificate (l : Fin 16) (slot : Byte) (offset len : BitVec 16)
  /-- CHALLENGE, R574. -/
  | challenge (l : Fin 16) (slot : Byte) (nonce : BitVec 256)
  /-- GET_MEASUREMENTS, R575. -/
  | getMeasurements (l : Fin 16) (index : Byte)
  /-- KEY_EXCHANGE, R574. -/
  | keyExchange (l : Fin 16) (slot : Byte)
  /-- FINISH, R574. -/
  | finish (l : Fin 16)
  /-- KEY_UPDATE, R574. -/
  | keyUpdate (l : Fin 16)
  /-- HEARTBEAT, R574. -/
  | heartbeat (l : Fin 16)
  /-- END_SESSION, R574. -/
  | endSession (l : Fin 16)
  /-- IDE_KEY_RETRIEVE, R576. -/
  | ideKeyRetrieve (l : Fin 16) (stream : Fin 6)
  /-- KEY_PROG, R576. -/
  | keyProg (l : Fin 16) (stream : Fin 6) (key : BitVec 256)
  /-- CORE_RD, R454. -/
  | coreRd (c : Fin 16) (line : BitVec 58)
  /-- CORE_OWN, R454. -/
  | coreOwn (c : Fin 16) (line : BitVec 58)
  /-- CORE_WB, R454. -/
  | coreWb (c : Fin 16) (line : BitVec 58) (data : BitVec 512)
  /-- CORE_EVICT, R454. -/
  | coreEvict (c : Fin 16) (line : BitVec 58)
  /-- AGENT_RD, R454. -/
  | agentRd (h : Fin 2) (mgmt : Bool) (line : BitVec 58)
  /-- AGENT_WR, R454. -/
  | agentWr (h : Fin 2) (mgmt : Bool) (line : BitVec 58) (data : BitVec 512)
  /-- HOST_RD, R454. -/
  | hostRd (l : Fin 16) (line : BitVec 58)
  /-- HOST_OWN, R454. -/
  | hostOwn (l : Fin 16) (line : BitVec 58)
  /-- HOST_CUR, R454. -/
  | hostCur (l : Fin 16) (line : BitVec 58)
  /-- HOST_WR, R454. -/
  | hostWr (l : Fin 16) (line : BitVec 58) (data : BitVec 512)
  /-- HOST_INV, R454. -/
  | hostInv (l : Fin 16) (line : BitVec 58)
  /-- BICONFLICT, R453. -/
  | biconflict (l : Fin 16) (line : BitVec 58)
  /-- CORE_SNPRSP, R454. -/
  | coreSnprsp (c : Fin 16) (line : BitVec 58) (data : Option (BitVec 512))
  /-- BIRSP, R454. -/
  | birsp (l : Fin 16) (line : BitVec 58) (data : Option (BitVec 512))
  /-- HOST_SNPRSP, R454. -/
  | hostSnprsp (l : Fin 16) (line : BitVec 58) (data : Option (BitVec 512))
  /-- SNP_DATA, R450. -/
  | snpData (h : Fin 2) (line : BitVec 58)
  /-- SNP_INV, R450. -/
  | snpInv (h : Fin 2) (line : BitVec 58)
  /-- SNP_CUR, R450. -/
  | snpCur (h : Fin 2) (line : BitVec 58)
  /-- GO_I, R454. -/
  | goI (h : Fin 2) (line : BitVec 58)
  /-- GO_S, R454. -/
  | goS (h : Fin 2) (line : BitVec 58) (data : BitVec 512)
  /-- GO_E, R454. -/
  | goE (h : Fin 2) (line : BitVec 58) (data : BitVec 512)
  /-- GO_M, R454. -/
  | goM (h : Fin 2) (line : BitVec 58) (data : BitVec 512)
  /-- GO_ERR, R454. -/
  | goErr (h : Fin 2) (line : BitVec 58)
  /-- WRITEPULL, R454. -/
  | writepull (h : Fin 2) (line : BitVec 58)
  /-- COH_WAIT_RELEASE, R447. -/
  | cohWaitRelease (h role : Fin 2) (line : BitVec 58)
  /-- COH_FLUSH_TIMEOUT, R441. -/
  | cohFlushTimeout (h : Fin 2)
  /-- COH_TABLE_SWITCH, R464. -/
  | cohTableSwitch (h : Fin 2)
  /-- COH_TABLE_QUIESCE_TIMEOUT, R464. -/
  | cohTableQuiesceTimeout (h : Fin 2)
  /-- COH_INJECT, R471. -/
  | cohInject (h : Fin 2) (kind : Fin 4)
  /-- EVICTS_CLEAR, R470. -/
  | evictsClear (h : Fin 2)
  /-- FLIPS_CLEAR, R470. -/
  | flipsClear (h : Fin 2)
  /-- WARM_COH_DRAIN_TIMEOUT, R466. -/
  | warmCohDrainTimeout (h : Fin 2)
  /-- CSW_FLIT_RECEIVE, R472. -/
  | cswFlitReceive (h : Fin 2) (g : Fin 4) (good : Bool)
  /-- CSW_GROUP_LOCK_LOSS, R473. -/
  | cswGroupLockLoss (g : Fin 4)
  /-- CSW_TRAINING_END, R473. -/
  | cswTrainingEnd (g : Fin 4) (trained : Bool)
  /-- CSW_GROUP_RETRY, R473. -/
  | cswGroupRetry (g : Fin 4)
  /-- CSW_RETIRE_TIMEOUT, R476. -/
  | cswRetireTimeout (h : Fin 2)
  /-- CSW_RESTORE_DONE, R477. -/
  | cswRestoreDone (mask : BitVec 4)
  /-- CSW_XHOME_TIMEOUT, R530. -/
  | cswXhomeTimeout (h : Fin 2)
  /-- HEARTBEAT_SEND, R480. -/
  | heartbeatSend (h : Fin 2)
  /-- HEARTBEAT_RECEIVE, R481. -/
  | heartbeatReceive (h : Fin 2)
  /-- HEARTBEAT_LOSS, R480. -/
  | heartbeatLoss (h : Fin 2)
  /-- CAUSEWAY_SPLIT, R482. -/
  | causewaySplit (h : Fin 2)
  /-- CAUSEWAY_REJOIN_READY, R488. -/
  | causewayRejoinReady (h : Fin 2)
  /-- LAND_CLEAR, R494. -/
  | landClear (h : Fin 2)
  /-- CSW_INJECT_CRC, R495. -/
  | cswInjectCrc (g : Fin 4)
  /-- CSW_INJECT_LOCK_LOSS, R495. -/
  | cswInjectLockLoss (g : Fin 4)
  /-- CSW_INJECT_HEARTBEAT_DROP, R495. -/
  | cswInjectHeartbeatDrop (h : Fin 2) (g : Fin 4)
  /-- UNASSIGNED_OPCODE, R518. -/
  | unassignedOpcode (opcode : BitVec 16) (p : Packet)
  /-- COMMAND_DEFERRED_START, R512. -/
  | commandDeferredStart
  /-- NOP_COMMAND, R519. -/
  | nopCommand (p : Packet)
  /-- IDENTIFY, R519. -/
  | identify (p : Packet)
  /-- DEVICE_STATUS, R519. -/
  | deviceStatus (p : Packet)
  /-- REG_READ, R519. -/
  | regRead (p : Packet)
  /-- REG_WRITE, R520. -/
  | regWrite (p : Packet)
  /-- WARM_RESET, R717. -/
  | warmReset (p : Packet)
  /-- WARM_RESET_BEGIN, R717. -/
  | warmResetBegin
  /-- WARM_LOG_FLUSH_TIMEOUT, R678. -/
  | warmLogFlushTimeout (h : Fin 2)
  /-- ABORT, R519. -/
  | abort (p : Packet)
  /-- CORE_START, R327. -/
  | coreStart (p : Packet)
  /-- CORE_STOP, R328. -/
  | coreStop (p : Packet)
  /-- COP_BIND, R336. -/
  | copBind (p : Packet)
  /-- COP_UNBIND, R344. -/
  | copUnbind (p : Packet)
  /-- PAN_LOAD, R521. -/
  | panLoad (p : Packet)
  /-- PAN_OPEN, R241. -/
  | panOpen (p : Packet)
  /-- PAN_CLOSE, R243. -/
  | panClose (p : Packet)
  /-- PAN_POWER, R115. -/
  | panPower (p : Packet)
  /-- PAN_RESET, R719. -/
  | panReset (p : Packet)
  /-- QUEUE_FLUSH, R152. -/
  | queueFlush (p : Packet)
  /-- QUEUE_BIND, R158. -/
  | queueBind (p : Packet)
  /-- RAKE_RUN, R228. -/
  | rakeRun (p : Packet)
  /-- CFG_LOAD, R555. -/
  | cfgLoad (p : Packet)
  /-- KERNEL_REGISTER, R271. -/
  | kernelRegister (p : Packet)
  /-- KERNEL_UNREGISTER, R522. -/
  | kernelUnregister (p : Packet)
  /-- GRAPH_LOAD, R277. -/
  | graphLoad (p : Packet)
  /-- GRAPH_START, R522. -/
  | graphStart (p : Packet)
  /-- GRAPH_STOP, R307. -/
  | graphStop (p : Packet)
  /-- GRAPH_UNLOAD, R307. -/
  | graphUnload (p : Packet)
  /-- GRAPH_STATUS, R522. -/
  | graphStatus (p : Packet)
  /-- GRAPH_LINK, R304. -/
  | graphLink (p : Packet)
  /-- GRAPH_UNLINK, R522. -/
  | graphUnlink (p : Packet)
  /-- TOKEN_INJECT, R287. -/
  | tokenInject (p : Packet)
  /-- TOKEN_DRAIN, R287. -/
  | tokenDrain (p : Packet)
  /-- NODE_FIRE, R281. -/
  | nodeFire (p : Packet)
  /-- NODE_CLEAR, R289. -/
  | nodeClear (p : Packet)
  /-- SCHED_RESOURCES, R269. -/
  | schedResources (p : Packet)
  /-- SCHED_ENABLE, R310. -/
  | schedEnable (p : Packet)
  /-- LAGOON_PARTITION, R366. -/
  | lagoonPartition (p : Packet)
  /-- MEM_CLEAR, R523. -/
  | memClear (p : Packet)
  /-- MEM_READ, R523. -/
  | memRead (p : Packet)
  /-- MEM_WRITE, R523. -/
  | memWrite (p : Packet)
  /-- MEM_COPY, R523. -/
  | memCopy (p : Packet)
  /-- PORT_ENABLE, R422. -/
  | portEnable (p : Packet)
  /-- MEM_EXPOSE, R403. -/
  | memExpose (p : Packet)
  /-- PORT_ROUTE, R405. -/
  | portRoute (p : Packet)
  /-- BIAS_TO_DEVICE, R443. -/
  | biasToDevice (p : Packet)
  /-- COH_TABLE_READ, R461. -/
  | cohTableRead (p : Packet)
  /-- COH_TABLE_LOAD, R463. -/
  | cohTableLoad (p : Packet)
  /-- COH_TABLE_RESTORE, R465. -/
  | cohTableRestore (p : Packet)
  /-- GOV_PROFILE, R616. -/
  | govProfile (p : Packet)
  /-- GOV_CAP, R525. -/
  | govCap (p : Packet)
  /-- GOV_FIXED, R617. -/
  | govFixed (p : Packet)
  /-- GOV_TARGET, R525. -/
  | govTarget (p : Packet)
  /-- GOV_STATUS, R525. -/
  | govStatus (p : Packet)
  /-- THERMAL_STOP, R620. -/
  | thermalStop (p : Packet)
  /-- THERMAL_CLEAR, R622. -/
  | thermalClear (p : Packet)
  /-- PIN_CONFIG, R639. -/
  | pinConfig (p : Packet)
  /-- PIN_OWNER, R643. -/
  | pinOwner (p : Packet)
  /-- PIN_WRITE, R526. -/
  | pinWrite (p : Packet)
  /-- PIN_READ, R526. -/
  | pinRead (p : Packet)
  /-- PIN_IRQ, R650. -/
  | pinIrq (p : Packet)
  /-- LOG_READ, R679. -/
  | logRead (p : Packet)
  /-- LOG_STATUS, R680. -/
  | logStatus (p : Packet)
  /-- ERR_CLEAR, R674. -/
  | errClear (p : Packet)
  /-- ERR_INJECT_SECURE, R591. -/
  | errInjectSecure (p : Packet)
  /-- TIME_SET, R685. -/
  | timeSet (p : Packet)
  /-- TIME_GET, R527. -/
  | timeGet (p : Packet)
  /-- TEST_CONFIG, R702. -/
  | testConfig (p : Packet)
  /-- TEST_RUN, R702. -/
  | testRun (p : Packet)
  /-- TEST_STATUS, R702. -/
  | testStatus (p : Packet)
  /-- QUARANTINE_RELEASE, R703. -/
  | quarantineRelease (p : Packet)
  /-- SEC_STATUS, R592. -/
  | secStatus (p : Packet)
  /-- APPROVED_ENTER, R586. -/
  | approvedEnter (p : Packet)
  /-- APPROVED_LEAVE, R588. -/
  | approvedLeave (p : Packet)
  /-- KEY_LOAD, R592. -/
  | keyLoad (p : Packet)
  /-- FUSE_PROGRAM, R571. -/
  | fuseProgram (p : Packet)
  /-- ZEROIZE, R583. -/
  | zeroize (p : Packet)
  /-- PATCH_LOAD, R573. -/
  | patchLoad (p : Packet)
  /-- PATCH_APPLY, R529. -/
  | patchApply (h : Fin 2)
  /-- TAMPER_CONFIG, R581. -/
  | tamperConfig (p : Packet)
  /-- DBG_CHALLENGE, R589. -/
  | dbgChallenge (p : Packet)
  /-- DBG_RESPONSE, R590. -/
  | dbgResponse (p : Packet)
  /-- DBG_REVOKE, R592. -/
  | dbgRevoke (p : Packet)
  /-- CSW_POLICY, R530. -/
  | cswPolicy (p : Packet)
  /-- CSW_XHOME, R484. -/
  | cswXhome (p : Packet)
  /-- CSW_RETIRE, R476. -/
  | cswRetire (p : Packet)
  /-- CSW_RESTORE, R477. -/
  | cswRestore (p : Packet)
  /-- CSW_REJOIN, R489. -/
  | cswRejoin (p : Packet)
  /-- CFG_DEVICE_FRAME, R539. -/
  | cfgDeviceFrame (f : Option (List Byte))
  /-- CFG_GLOBAL_FRAME, R541. -/
  | cfgGlobalFrame (f : Option (List Byte))
  /-- CFG_SEGTAG_FRAME, R542. -/
  | cfgSegtagFrame (f : Option (List Byte))
  /-- CFG_PAN_FRAME, R547. -/
  | cfgPanFrame (f : Option (List Byte))
  /-- CFG_DEVICE_END, R548. -/
  | cfgDeviceEnd (f : Option (List Byte))
  /-- CFG_COMMAND_FRAME, R537. -/
  | cfgCommandFrame (f : List Byte)
  /-- CFG_REPLY_READ, R537. -/
  | cfgReplyRead
  /-- CFG_SIGNATURE_CHECKED, R544. -/
  | cfgSignatureChecked
  /-- CFG_VERIFY_DONE, R549. -/
  | cfgVerifyDone
  /-- CFG_DONE_HIGH, R553. -/
  | cfgDoneHigh
  /-- CFG_STREAM_STALL, R554. -/
  | cfgStreamStall
  /-- MODULE_SELFTEST_DONE, R566. -/
  | moduleSelftestDone (cause : Fin 7)
  /-- ENTROPY_HEALTH_FAIL, R566. -/
  | entropyHealthFail (cause : Fin 3)
  /-- DRBG_RESEED, R566. -/
  | drbgReseed
  /-- TAMPER_DETECTION, R579. -/
  | tamperDetection (src : Fin 7)
  /-- ZEROIZATION_COMPLETE, R582. -/
  | zeroizationComplete
  /-- DBG_CHALLENGE_EXPIRY, R589. -/
  | dbgChallengeExpiry
  /-- DBG_GRANT_EXPIRY, R590. -/
  | dbgGrantExpiry
  /-- GOV_TSENSE_SAMPLE, R599. -/
  | govTsenseSample (h : Fin 2) (temps : List (BitVec 16))
  /-- SENSOR_DISAGREE_EXPIRY, R602. -/
  | sensorDisagreeExpiry (h : Fin 2) (k : Fin 64)
  /-- RATE_MONITOR_WINDOW, R599. -/
  | rateMonitorWindow (n : Fin 256) (rate : BitVec 12)
  /-- TOKEN_RATE_PUBLISH, R27. -/
  | tokenRatePublish (h : Fin 2)
  /-- ADC_CONVERSION, R600. -/
  | adcConversion (h : Fin 2) (c : Fin 24) (code : BitVec 12)
  /-- REGULATOR_POLL, R604. -/
  | regulatorPoll (h : Fin 2) (r : Fin 8) (acked : Bool) (status : BitVec 16) (iout : BitVec 12) (pout : BitVec 16)
  /-- HBM_TEMPERATURE_READ, R369. -/
  | hbmTemperatureRead (h : Fin 2) (temp : Byte)
  /-- TACH_MEASURE, R609. -/
  | tachMeasure (h : Fin 2) (j : Fin 4) (rpm : Word)
  /-- FAN_STALL, R609. -/
  | fanStall (h : Fin 2) (j : Fin 4)
  /-- FLOW_LOW_EXPIRY, R613. -/
  | flowLowExpiry (h : Fin 2) (i : Fin 8)
  /-- PUMP_LOSS_END, R613. -/
  | pumpLossEnd (h : Fin 2)
  /-- THERMAL_MODEL_UPDATE, R610. -/
  | thermalModelUpdate (h : Fin 2)
  /-- VFAB_TARGET_UPDATE, R612. -/
  | vfabTargetUpdate (h : Fin 2)
  /-- VFAB_STEP, R605. -/
  | vfabStep (h : Fin 2)
  /-- VFAB_TRACK_FAULT, R605. -/
  | vfabTrackFault (h : Fin 2) (r : Fin 8)
  /-- VFAB_OUT_OF_RANGE, R606. -/
  | vfabOutOfRange (h : Fin 2)
  /-- CAP_SHARE_UPDATE, R618. -/
  | capShareUpdate
  /-- CAP_EXCHANGE_LOST, R618. -/
  | capExchangeLost (h : Fin 2)
  /-- THERMAL_AUTO_CLEAR, R622. -/
  | thermalAutoClear
  /-- REG_SLOT_DISABLE, R607. -/
  | regSlotDisable (h : Fin 2) (r : Fin 8)
  /-- REG_SLOT_DRAIN_TIMEOUT, R607. -/
  | regSlotDrainTimeout (h : Fin 2) (r : Fin 8)
  /-- GOV_INJECT, R633. -/
  | govInject (h : Fin 2) (kind : Fin 8) (unit : Fin 64)
  /-- PIN_INPUT_EDGE, R651. -/
  | pinInputEdge (i : Fin 384) (level : Bool)
  /-- PIN_BANK_SET, R656. -/
  | pinBankSet (b : Fin 12) (a : Agent) (mask : Word)
  /-- PIN_BANK_CLR, R656. -/
  | pinBankClr (b : Fin 12) (a : Agent) (mask : Word)
  /-- PIN_BANK_TGL, R656. -/
  | pinBankTgl (b : Fin 12) (a : Agent) (mask : Word)
  /-- PIN_MIRROR_MISUSE, R656. -/
  | pinMirrorMisuse (l : Fin 16) (off : BitVec 16) (write : Bool)
  /-- PIN_INJECT, R658. -/
  | pinInject (kind : Fin 4)
  /-- BANK_VIO_CHANGE, R634. -/
  | bankVioChange (b : Fin 12) (low : Bool)
  /-- SERIAL_PUSH, R655. -/
  | serialPush (c : Fin 16) (v : Dword)
  /-- SERIAL_POP, R653. -/
  | serialPop (c : Fin 16)
  /-- SERIAL_CONFIG, R655. -/
  | serialConfig (c : Fin 16) (v : Dword)
  /-- SERIAL_BYTE_DONE, R654. -/
  | serialByteDone (e : Fin 12) (receive : Bool) (data : Byte) (err lost : Bool)
  /-- LOG_WRITER_SLOT, R667. -/
  | logWriterSlot (h : Fin 2) (good : Bool)
  /-- ERR_INJECT_LOG_CE, R692. -/
  | errInjectLogCe (h b : Fin 2)
  /-- ERR_INJECT_LOG_UE, R692. -/
  | errInjectLogUe (h b : Fin 2)
  /-- ERR_INJECT_WORD, R692. -/
  | errInjectWord (h : Fin 2) (word ctx : Word)
  /-- ERR_INJECT_STORM, R692. -/
  | errInjectStorm (h : Fin 2) (word ctx : Word) (n : BitVec 16)
  /-- LR_CLR, R690. -/
  | lrClr (h : Fin 2)
  /-- RTC_TICK, R684. -/
  | rtcTick
  /-- RTC_CRYSTAL_STOPPED, R687. -/
  | rtcCrystalStopped
  /-- RTC_COPY_UPDATE, R688. -/
  | rtcCopyUpdate
  /-- RTC_DATE_READ, R693. -/
  | rtcDateRead (a : Agent)
  /-- SELFTEST_SWEEP_START, R701. -/
  | selftestSweepStart (h : Fin 2)
  /-- SLICE_SAVE_DONE, R696. -/
  | sliceSaveDone (n : Fin 256)
  /-- SLICE_PATTERNS_DONE, R696. -/
  | slicePatternsDone (n : Fin 256) (signature : Dword)
  /-- SLICE_RESTORE_DONE, R696. -/
  | sliceRestoreDone (n : Fin 256) (lost : Bool)
  /-- ST_INJECT_REPORT, R706. -/
  | stInjectReport (h : Fin 2) (pan : BitVec 8)
  /-- ST_INJECT_FAIL, R706. -/
  | stInjectFail (h : Fin 2) (pan : BitVec 8)
  /-- ST_COUNTS_CLEAR, R705. -/
  | stCountsClear (h : Fin 2)
  /-- PORESETN_ASSERT, R753. -/
  | poresetnAssert
  /-- PORESETN_RELEASE, R713. -/
  | poresetnRelease (mode : Fin 8)
  /-- POWER_UP_END, R713. -/
  | powerUpEnd
  /-- SUPPLY_DETECTOR_LOW, R713. -/
  | supplyDetectorLow
  /-- SECURE_BOOT_END, R714. -/
  | secureBootEnd
  /-- BOOT_TIMEOUT, R714. -/
  | bootTimeout
  /-- PLL_LOCK_LOSS, R710. -/
  | pllLockLoss (loop : Fin 7) (long : Bool)
  /-- TAP_RESET, R724. -/
  | tapReset
  /-- IDCODE, R725. -/
  | idcode
  /-- SAMPLE_PRELOAD, R725. -/
  | samplePreload (cells : List Bool)
  /-- EXTEST, R726. -/
  | extest (cells : List Bool)
  /-- CLAMP, R725. -/
  | clamp
  /-- HIGHZ, R725. -/
  | highz
  /-- BYPASS, R725. -/
  | bypass
  /-- DMI, R729. -/
  | dmi (a : BitVec 12) (write : Bool) (v : Word)
  /-- DX_PUSH, R728. -/
  | dxPush (data : Dword) (last : Bool)
  /-- DX_POP, R728. -/
  | dxPop
  /-- DX_ABANDON, R728. -/
  | dxAbandon
  /-- DX_NOP, R727. -/
  | dxNop
  /-- DM_HALTREQ, R730. -/
  | dmHaltreq (c : Fin 16)
  /-- DM_RESUMEREQ, R730. -/
  | dmResumereq (c : Fin 16)
  /-- DM_HARTRESET, R730. -/
  | dmHartreset (c : Fin 16)
  /-- DM_NDMRESET, R730. -/
  | dmNdmreset
  /-- DM_SINGLE_STEP, R730. -/
  | dmSingleStep (c : Fin 16)
  /-- DM_ACCESS_REGISTER, R730. -/
  | dmAccessRegister (c : Fin 16) (regno : BitVec 16) (write : Bool) (v : Dword)
  /-- DM_TRIGGER_FIRE, R730. -/
  | dmTriggerFire (c : Fin 16) (t : Fin 4)
  /-- SYSTEM_BUS_ACCESS, R738. -/
  | systemBusAccess (addr : Dword) (size : Fin 8) (write : Bool) (v : Dword)
  /-- RAKE_DEBUG_HALTREQ, R732. -/
  | rakeDebugHaltreq (n : Fin 256) (k : Fin 16) (all : Bool)
  /-- RAKE_DEBUG_RESUMEREQ, R734. -/
  | rakeDebugResumereq (n : Fin 256) (k : Fin 16) (all : Bool)
  /-- RAKE_DEBUG_STEP, R733. -/
  | rakeDebugStep (n : Fin 256) (k : Fin 16)
  /-- RAKE_BREAKPOINT_HIT, R733. -/
  | rakeBreakpointHit
  /-- TRACE_RECORD_EMIT, R740. -/
  | traceRecordEmit
  /-- TRACE_DROPS_CLEAR, R741. -/
  | traceDropsClear
  /-- GRAIN_SPACER_RETURN, R43. -/
  | grainSpacerReturn (g : Fin 8388608)
  /-- SINGLE_EVENT_UPSET, R76. -/
  | singleEventUpset (u : Upset)
  /-- MEMORY_FULL_WRITE, R377. -/
  | memoryFullWrite (a : Agent) (addr : Dword) (data : Dword)
  /-- SERSTAT_CLEAR, R653. -/
  | serstatClear (c : Fin 16) (v : Dword)
  /-- SIDEBAND_MESSAGE, R496. -/
  | sidebandMessage (m : List Byte)
  /-- VBAT_LOSS, R16. -/
  | vbatLoss
  /-- POWER_ON_DETECTOR_RELEASE, R713. -/
  | powerOnDetectorRelease
  /-- FUSE_WORD_PROGRAMMED, R571. -/
  | fuseWordProgrammed (good : Bool)
deriving DecidableEq, Repr

end Sys2Proof
end

