-- ==== Sys2Proof/WellFormed.lean ====
section
/-! DEFINITION. Well-formed commands: what the types of the operands leave to be checked. A command that is not well-formed still has a
meaning; the checks say which operands the row's rule speaks of. -/

namespace Sys2Proof

/-- The delivered length is the packet's own length (R501), and no more than 4,096 bytes. -/
def Packet.wellFormed (p : Packet) : Bool :=
  p.params.length == (p.plen.toNat + 7) / 8 * 8 && decide (32 + p.params.length ≤ 4096)

/-- The operands are those of the row's rule: whole packets (R501), aligned registers (R7), an access that R8 or R26 speaks of, whole
beats of a frame (R251), data within a mailbox slot (R413), a message no larger than a packet (R420), 64 sensors (R599), the 384 pin cells
of the boundary register (R726), and stores within a line. -/
def Instr.wellFormed : Instr → Bool
  | .registerWrite _ addr _ => addr.toNat % 4 == 0
  | .misalignedAccess _ addr size _ => size != 2 || addr.toNat % 4 != 0
  | .outsideAccess _ addr _ => decide (0x02000000 ≤ addr.toNat)
  | .hostWriteRefused _ _ _ => true
  | .grainEvaluate _ => true
  | .mutexGrant _ => true
  | .stallThresholdExpiry _ _ _ => true
  | .stallInject _ _ => true
  | .stallStatusClear _ => true
  | .pinChannelInput _ => true
  | .pinChannelOutput _ _ => true
  | .bmemAccessCycle _ _ _ _ _ _ => true
  | .bmemScrubWord _ _ => true
  | .bmemInject _ _ _ _ _ => true
  | .bmemCeClear _ => true
  | .clockTreeReconfigure _ _ _ _ => true
  | .flopEdge _ _ => true
  | .islandLateClear _ => true
  | .panGatingDone _ => true
  | .panAutoGate _ => true
  | .panWakeStart _ => true
  | .panWakeDone _ => true
  | .queueWriteUnit _ _ _ _ _ => true
  | .queueCreditAck _ => true
  | .queueReadWord _ => true
  | .queueWindowPop _ _ => true
  | .queueWindowPush _ _ _ => true
  | .queuePushResume _ => true
  | .queuePushTimeout _ => true
  | .queueWindowMisuse _ _ _ _ _ => true
  | .queueLostClear _ _ => true
  | .queueIdleSet _ _ _ => true
  | .qbFlush _ => true
  | .qbFlushHi _ => true
  | .qbFlushLo _ => true
  | .segmentFlushEffect _ _ => true
  | .queueSettingApply _ => true
  | .queueResyncDone _ => true
  | .queueRebindDrained _ => true
  | .queueRebindTimeout _ => true
  | .step _ => true
  | .nop _ => true
  | .rep _ => true
  | .br _ => true
  | .dbnz _ => true
  | .setr _ => true
  | .rescale _ => true
  | .clrf _ => true
  | .atom _ => true
  | .endatom _ => true
  | .reta _ => true
  | .resume _ => true
  | .waitCmd _ => true
  | .halt _ => true
  | .segend _ => true
  | .note _ => true
  | .illegalInstruction _ => true
  | .attentionEntry _ => true
  | .commitEntry _ => true
  | .rakeInboundToken _ _ => true
  | .rakeFabricAttention _ _ => true
  | .rakeResultTaken _ => true
  | .rakeDoorbellPost _ _ _ _ => true
  | .doorbellMisuse _ _ _ _ => true
  | .rakeInjectPar _ => true
  | .rakeInjectOvf _ => true
  | .rakeInjectSat _ => true
  | .rakeInjectExptSat _ => true
  | .rakeInjectIllegal _ => true
  | .rakeStopDrained _ => true
  | .rakeStopTimeout _ => true
  | .sluiceCloseComplete _ => true
  | .sluiceDrainTimeout _ => true
  | .sluiceDebugHold _ _ => true
  | .sluiceDiscardSet _ _ => true
  | .sluiceTokenDrop _ _ _ _ => true
  | .sluiceStep _ _ _ => true
  | .sluiceStepDone _ _ => true
  | .sluiceDiscardClear _ => true
  | .reconfigGrant _ agent => agent.length % 32 == 0
  | .reconfigMasterStall _ _ => true
  | .panLoadHeader _ => true
  | .panFrame _ => true
  | .panSignatureDone _ _ => true
  | .panLoadEnd _ => true
  | .panLoadFloorReached _ _ => true
  | .dispatchRound _ => true
  | .schedDispatchPush _ _ => true
  | .schedCompletionPop _ => true
  | .dispatchDoneWrite _ _ _ => true
  | .dispatchWindowMisuse _ _ _ _ => true
  | .preemptLimitExpiry _ => true
  | .schedReloadComplete _ => true
  | .slicePromote _ => true
  | .crossHalfTokenArrive _ => true
  | .schedStep _ => true
  | .schedDrainTimeout _ _ _ => true
  | .schedInject _ _ => true
  | .schedCountsClear _ => true
  | .copIssue _ _ => true
  | .copResponse _ => true
  | .copTimeout _ _ => true
  | .copSquash _ _ _ => true
  | .copUnbindTimeout _ => true
  | .pinset _ _ => true
  | .pinclr _ _ => true
  | .pintgl _ _ => true
  | .mtimecmpWrite _ _ _ _ => true
  | .msipWrite _ _ _ => true
  | .machineTimerExpiry _ => true
  | .coreCacheCheck _ _ _ _ => true
  | .coreCeClear _ => true
  | .copStrayClear _ => true
  | .tcoreInject _ _ _ => true
  | .mgmtLockstepMismatch _ => true
  | .mgmtRestartDone _ => true
  | .unmappedAccess _ _ _ => true
  | .memoryRead _ _ _ => true
  | .memoryPartialWrite _ _ data => decide (data.length ≤ 64)
  | .scrubLine _ _ _ _ => true
  | .scrubParityCheck _ _ => true
  | .scrubRestart _ _ => true
  | .scrubEnable _ _ _ => true
  | .memInjectFlip _ _ _ _ => true
  | .memInjectFlipDouble _ _ _ _ => true
  | .memInjectSkipLine _ _ => true
  | .memInjectParFlip _ _ => true
  | .memEccCeClear _ => true
  | .hbmTrainingDone _ _ => true
  | .memoryFillDone _ _ => true
  | .partitionDrainTimeout _ => true
  | .linkTrainingDone _ _ _ _ _ => true
  | .flitReceive _ _ _ => true
  | .replayRollover _ => true
  | .linkHoldEnd _ => true
  | .cxlMemRequest _ _ _ _ => true
  | .bar2Access _ _ _ _ _ => true
  | .bar0Misuse _ _ _ => true
  | .completionTimeout _ _ _ => true
  | .ideIntegrityFail _ _ => true
  | .mailboxSubmit _ _ _ => true
  | .mailboxSlotWrite _ _ _ off data => decide (off.val + data.length ≤ 128)
  | .vdmFragment _ _ _ _ _ _ bytes => decide (bytes.length ≤ 4096)
  | .vdmReassemblyTimeout _ _ _ => true
  | .linkLoss _ => true
  | .perPortReset _ => true
  | .portDrainTimeout _ => true
  | .portInjectFec _ _ => true
  | .portInjectCrc _ _ => true
  | .portInjectReplay _ _ => true
  | .portInjectPoison _ _ => true
  | .errcntClear _ => true
  | .cxlIdentify _ => true
  | .cxlIdentifyMemoryDevice _ => true
  | .getSupportedLogs _ => true
  | .getLog _ _ _ _ => true
  | .getEventRecords _ _ => true
  | .clearEventRecords _ _ _ => true
  | .getPoisonList _ _ _ => true
  | .getHealthInfo _ => true
  | .getTimestamp _ => true
  | .setTimestamp _ _ => true
  | .cxlUnsupportedOpcode _ _ => true
  | .getVersion _ => true
  | .getCapabilities _ => true
  | .negotiateAlgorithms _ => true
  | .getDigests _ => true
  | .getCertificate _ _ _ _ => true
  | .challenge _ _ _ => true
  | .getMeasurements _ _ => true
  | .keyExchange _ _ => true
  | .finish _ => true
  | .keyUpdate _ => true
  | .heartbeat _ => true
  | .endSession _ => true
  | .ideKeyRetrieve _ _ => true
  | .keyProg _ _ _ => true
  | .coreRd _ _ => true
  | .coreOwn _ _ => true
  | .coreWb _ _ _ => true
  | .coreEvict _ _ => true
  | .agentRd _ _ _ => true
  | .agentWr _ _ _ _ => true
  | .hostRd _ _ => true
  | .hostOwn _ _ => true
  | .hostCur _ _ => true
  | .hostWr _ _ _ => true
  | .hostInv _ _ => true
  | .biconflict _ _ => true
  | .coreSnprsp _ _ _ => true
  | .birsp _ _ _ => true
  | .hostSnprsp _ _ _ => true
  | .snpData _ _ => true
  | .snpInv _ _ => true
  | .snpCur _ _ => true
  | .goI _ _ => true
  | .goS _ _ _ => true
  | .goE _ _ _ => true
  | .goM _ _ _ => true
  | .goErr _ _ => true
  | .writepull _ _ => true
  | .cohWaitRelease _ _ _ => true
  | .cohFlushTimeout _ => true
  | .cohTableSwitch _ => true
  | .cohTableQuiesceTimeout _ => true
  | .cohInject _ _ => true
  | .evictsClear _ => true
  | .flipsClear _ => true
  | .warmCohDrainTimeout _ => true
  | .cswFlitReceive _ _ _ => true
  | .cswGroupLockLoss _ => true
  | .cswTrainingEnd _ _ => true
  | .cswGroupRetry _ => true
  | .cswRetireTimeout _ => true
  | .cswRestoreDone _ => true
  | .cswXhomeTimeout _ => true
  | .heartbeatSend _ => true
  | .heartbeatReceive _ => true
  | .heartbeatLoss _ => true
  | .causewaySplit _ => true
  | .causewayRejoinReady _ => true
  | .landClear _ => true
  | .cswInjectCrc _ => true
  | .cswInjectLockLoss _ => true
  | .cswInjectHeartbeatDrop _ _ => true
  | .unassignedOpcode _ p => p.wellFormed
  | .commandDeferredStart => true
  | .nopCommand p => p.wellFormed
  | .identify p => p.wellFormed
  | .deviceStatus p => p.wellFormed
  | .regRead p => p.wellFormed
  | .regWrite p => p.wellFormed
  | .warmReset p => p.wellFormed
  | .warmResetBegin => true
  | .warmLogFlushTimeout _ => true
  | .abort p => p.wellFormed
  | .coreStart p => p.wellFormed
  | .coreStop p => p.wellFormed
  | .copBind p => p.wellFormed
  | .copUnbind p => p.wellFormed
  | .panLoad p => p.wellFormed
  | .panOpen p => p.wellFormed
  | .panClose p => p.wellFormed
  | .panPower p => p.wellFormed
  | .panReset p => p.wellFormed
  | .queueFlush p => p.wellFormed
  | .queueBind p => p.wellFormed
  | .rakeRun p => p.wellFormed
  | .cfgLoad p => p.wellFormed
  | .kernelRegister p => p.wellFormed
  | .kernelUnregister p => p.wellFormed
  | .graphLoad p => p.wellFormed
  | .graphStart p => p.wellFormed
  | .graphStop p => p.wellFormed
  | .graphUnload p => p.wellFormed
  | .graphStatus p => p.wellFormed
  | .graphLink p => p.wellFormed
  | .graphUnlink p => p.wellFormed
  | .tokenInject p => p.wellFormed
  | .tokenDrain p => p.wellFormed
  | .nodeFire p => p.wellFormed
  | .nodeClear p => p.wellFormed
  | .schedResources p => p.wellFormed
  | .schedEnable p => p.wellFormed
  | .lagoonPartition p => p.wellFormed
  | .memClear p => p.wellFormed
  | .memRead p => p.wellFormed
  | .memWrite p => p.wellFormed
  | .memCopy p => p.wellFormed
  | .portEnable p => p.wellFormed
  | .memExpose p => p.wellFormed
  | .portRoute p => p.wellFormed
  | .biasToDevice p => p.wellFormed
  | .cohTableRead p => p.wellFormed
  | .cohTableLoad p => p.wellFormed
  | .cohTableRestore p => p.wellFormed
  | .govProfile p => p.wellFormed
  | .govCap p => p.wellFormed
  | .govFixed p => p.wellFormed
  | .govTarget p => p.wellFormed
  | .govStatus p => p.wellFormed
  | .thermalStop p => p.wellFormed
  | .thermalClear p => p.wellFormed
  | .pinConfig p => p.wellFormed
  | .pinOwner p => p.wellFormed
  | .pinWrite p => p.wellFormed
  | .pinRead p => p.wellFormed
  | .pinIrq p => p.wellFormed
  | .logRead p => p.wellFormed
  | .logStatus p => p.wellFormed
  | .errClear p => p.wellFormed
  | .errInjectSecure p => p.wellFormed
  | .timeSet p => p.wellFormed
  | .timeGet p => p.wellFormed
  | .testConfig p => p.wellFormed
  | .testRun p => p.wellFormed
  | .testStatus p => p.wellFormed
  | .quarantineRelease p => p.wellFormed
  | .secStatus p => p.wellFormed
  | .approvedEnter p => p.wellFormed
  | .approvedLeave p => p.wellFormed
  | .keyLoad p => p.wellFormed
  | .fuseProgram p => p.wellFormed
  | .zeroize p => p.wellFormed
  | .patchLoad p => p.wellFormed
  | .patchApply _ => true
  | .tamperConfig p => p.wellFormed
  | .dbgChallenge p => p.wellFormed
  | .dbgResponse p => p.wellFormed
  | .dbgRevoke p => p.wellFormed
  | .cswPolicy p => p.wellFormed
  | .cswXhome p => p.wellFormed
  | .cswRetire p => p.wellFormed
  | .cswRestore p => p.wellFormed
  | .cswRejoin p => p.wellFormed
  | .cfgDeviceFrame _ => true
  | .cfgGlobalFrame _ => true
  | .cfgSegtagFrame _ => true
  | .cfgPanFrame _ => true
  | .cfgDeviceEnd _ => true
  | .cfgCommandFrame _ => true
  | .cfgReplyRead => true
  | .cfgSignatureChecked => true
  | .cfgVerifyDone => true
  | .cfgDoneHigh => true
  | .cfgStreamStall => true
  | .moduleSelftestDone _ => true
  | .entropyHealthFail _ => true
  | .drbgReseed => true
  | .tamperDetection _ => true
  | .zeroizationComplete => true
  | .dbgChallengeExpiry => true
  | .dbgGrantExpiry => true
  | .govTsenseSample _ temps => temps.length == 64
  | .sensorDisagreeExpiry _ _ => true
  | .rateMonitorWindow _ _ => true
  | .tokenRatePublish _ => true
  | .adcConversion _ _ _ => true
  | .regulatorPoll _ _ _ _ _ _ => true
  | .hbmTemperatureRead _ _ => true
  | .tachMeasure _ _ _ => true
  | .fanStall _ _ => true
  | .flowLowExpiry _ _ => true
  | .pumpLossEnd _ => true
  | .thermalModelUpdate _ => true
  | .vfabTargetUpdate _ => true
  | .vfabStep _ => true
  | .vfabTrackFault _ _ => true
  | .vfabOutOfRange _ => true
  | .capShareUpdate => true
  | .capExchangeLost _ => true
  | .thermalAutoClear => true
  | .regSlotDisable _ _ => true
  | .regSlotDrainTimeout _ _ => true
  | .govInject _ _ _ => true
  | .pinInputEdge _ _ => true
  | .pinBankSet _ _ _ => true
  | .pinBankClr _ _ _ => true
  | .pinBankTgl _ _ _ => true
  | .pinMirrorMisuse _ _ _ => true
  | .pinInject _ => true
  | .bankVioChange _ _ => true
  | .serialPush _ _ => true
  | .serialPop _ => true
  | .serialConfig _ _ => true
  | .serialByteDone _ _ _ _ _ => true
  | .logWriterSlot _ _ => true
  | .errInjectLogCe _ _ => true
  | .errInjectLogUe _ _ => true
  | .errInjectWord _ _ _ => true
  | .errInjectStorm _ _ _ _ => true
  | .lrClr _ => true
  | .rtcTick => true
  | .rtcCrystalStopped => true
  | .rtcCopyUpdate => true
  | .rtcDateRead _ => true
  | .selftestSweepStart _ => true
  | .sliceSaveDone _ => true
  | .slicePatternsDone _ _ => true
  | .sliceRestoreDone _ _ => true
  | .stInjectReport _ _ => true
  | .stInjectFail _ _ => true
  | .stCountsClear _ => true
  | .poresetnAssert => true
  | .poresetnRelease _ => true
  | .powerUpEnd => true
  | .supplyDetectorLow => true
  | .secureBootEnd => true
  | .bootTimeout => true
  | .pllLockLoss _ _ => true
  | .tapReset => true
  | .idcode => true
  | .samplePreload cells => decide (cells.length ≤ 384)
  | .extest cells => decide (cells.length ≤ 384)
  | .clamp => true
  | .highz => true
  | .bypass => true
  | .dmi _ _ _ => true
  | .dxPush _ _ => true
  | .dxPop => true
  | .dxAbandon => true
  | .dxNop => true
  | .dmHaltreq _ => true
  | .dmResumereq _ => true
  | .dmHartreset _ => true
  | .dmNdmreset => true
  | .dmSingleStep _ => true
  | .dmAccessRegister _ _ _ _ => true
  | .dmTriggerFire _ _ => true
  | .systemBusAccess _ _ _ _ => true
  | .rakeDebugHaltreq _ _ _ => true
  | .rakeDebugResumereq _ _ _ => true
  | .rakeDebugStep _ _ => true
  | .rakeBreakpointHit => true
  | .traceRecordEmit => true
  | .traceDropsClear => true
  | .grainSpacerReturn _ => true
  | .singleEventUpset _ => true
  | .memoryFullWrite _ _ _ => true
  | .serstatClear _ _ => true
  | .sidebandMessage _ => true
  | .vbatLoss => true
  | .powerOnDetectorRelease => true
  | .fuseWordProgrammed _ => true

end Sys2Proof
end

