-- ==== Sys2Proof/Decode.lean ====
section
/-! DEFINITION. The command that a word of the table's bits spells. The table of this part gives no row any bits: a Cykai command is a
packet of bytes (R500), read by packetOf of Machine/Delivery.lean, and an event is no word at all. -/

namespace Sys2Proof

/-- No row of the table has bits, so no word spells a command. -/
def decodeTableWord (_nbits _w : Nat) : Option Instr := none

end Sys2Proof
end

