-- ==== Sys2Proof/Config.lean ====
section
/-! DEFINITION. What an implementation fixes and what the spec leaves open: constants with no body, so that no proof
can see a value of them. -/

namespace Sys2Proof

/-- Assumption 2: the maximum junction temperature of the part's grade, in degrees Celsius (R628, R745). -/
opaque Config.gradeMaxTj : Nat

/-- Assumption 3: the n-th free value, taken where the spec leaves a value open. -/
opaque Config.free : Nat → Nat

/-- Assumption 6: SHA-384 of a byte string, 48 bytes (R564). -/
opaque Config.sha384 : List Byte → List Byte

/-- Assumption 6: ECDSA P-384 verification under a public key of 96 bytes, of a byte string, with a signature of 96
bytes (R564). -/
opaque Config.ecdsaVerifies : List Byte → List Byte → List Byte → Bool

/-- Assumption 6: AES-256-GCM of the ciphertext that starts at a byte offset of its segment, under a key and a nonce: the
plaintext (R542). -/
opaque Config.gcmPlain : List Byte → List Byte → Nat → List Byte → List Byte

/-- Assumption 6: the AES-256-GCM tag of a segment, under a key and a nonce, of additional data and ciphertext (R542). -/
opaque Config.gcmTag : List Byte → List Byte → List Byte → List Byte → List Byte

/-- Assumption 6: the bytes the DRBG gives at its n-th request after its m-th seeding (R566). -/
opaque Config.drbg : Nat → Nat → List Byte

/-- Assumption 7: what the manufacturer fixes of one part: IDENTIFY's serial number, ROM versions by half, and vendor
(R519), the firmware key of R572 and the SHA-384 of the ROM (R575). -/
opaque Config.serial : Nat
opaque Config.romVersion : Nat → Nat
opaque Config.vendor : Nat
opaque Config.firmwareKey : List Byte
opaque Config.romDigest : List Byte

/-- Assumption 8: what mvendorid, marchid and mimpid of a tender core read, by CSR number. -/
opaque Config.coreId : Nat → Nat

/-- Assumption 10: the entries of the shipped rule table that the spec does not give (R461), and the set of its structure
that a line falls into: core filter, tracking entries of a half with so many megabytes, device cache (R437, R439, R444), and a core's
caches by number (R322). -/
opaque Config.coreSet : Nat → Nat → Nat
opaque Config.shippedRule : Nat → Nat
opaque Config.filterSet : Nat → Nat
opaque Config.dirSet : Nat → Nat → Nat
opaque Config.cacheSet : Nat → Nat → Nat

/-- Assumption 11: what the device identity gives in SPDM (R574): the certificate chain, and a signature over a message. -/
opaque Config.certChain : List Byte
opaque Config.identitySign : List Byte → List Byte

/-- Assumption 20: whether the governor's hard logic rounds an inexact quotient up (R610 gives no rounding). -/
opaque Config.roundsUp : Int → Int → Bool

end Sys2Proof
end

