-- ==== Sys2Proof/Machine/Bank.lean ====
section
/-! DEFINITION. The operations of a bank: look one number up, write one number keeping the canonical form (numbers
strictly rising, no entry equal to the default), and change every listed entry. -/

namespace Sys2Proof

/-- What number k holds; d gives what an unlisted number holds. -/
def Bank.get {α : Type} (d : Nat → α) : Bank α → Nat → α
  | [], k => d k
  | (j, v) :: r, k => if j = k then v else Bank.get d r k

/-- Put v at number k, in its place. -/
def Bank.insert {α : Type} : Bank α → Nat → α → Bank α
  | [], k, v => [(k, v)]
  | (j, w) :: r, k, v =>
    if k < j then (k, v) :: (j, w) :: r
    else if k = j then (k, v) :: r
    else (j, w) :: Bank.insert r k v

/-- Drop number k. -/
def Bank.erase {α : Type} : Bank α → Nat → Bank α
  | [], _ => []
  | (j, w) :: r, k => if j = k then Bank.erase r k else (j, w) :: Bank.erase r k

/-- Put v at number k, dropping the entry where v is the default. -/
def Bank.set {α : Type} [DecidableEq α] (d : Nat → α) (b : Bank α) (k : Nat) (v : α) : Bank α :=
  if v = d k then Bank.erase b k else Bank.insert b k v

/-- Change every listed entry by f, dropping what becomes the default. -/
def Bank.map {α : Type} [DecidableEq α] (d : Nat → α) (f : Nat → α → α) : Bank α → Bank α
  | [] => []
  | (j, v) :: r => if f j v = d j then Bank.map d f r else (j, f j v) :: Bank.map d f r

/-- Drop every number the test names. -/
def Bank.drop {α : Type} (p : Nat → Bool) : Bank α → Bank α
  | [] => []
  | (j, v) :: r => if p j then Bank.drop p r else (j, v) :: Bank.drop p r

/-- Every listed number is lo or more, the numbers rise strictly, and no entry is at its default. -/
def Bank.wfFrom {α : Type} [DecidableEq α] (d : Nat → α) : Nat → Bank α → Bool
  | _, [] => true
  | lo, (j, v) :: r => decide (lo ≤ j) && decide (v ≠ d j) && Bank.wfFrom d (j + 1) r

/-- The canonical form of a bank. -/
def Bank.wf {α : Type} [DecidableEq α] (d : Nat → α) (b : Bank α) : Bool := Bank.wfFrom d 0 b

end Sys2Proof
end

