-- ==== Sys2Proof/Machine/Types00.lean ====
section
/-! DEFINITION. The plain data of the state: what accesses return. -/

namespace Sys2Proof.Machine

/-- What the last access returned: the model's own record, so that a reader sees what a read gave (Assumption 1). -/
inductive Answer where
  | none
  | word (v : Word)
  | words (l : List Word)
  | bytes (l : List Byte) (poison : Bool)
  | num (n : Nat)
  | done
  | refused
  | abort
  | stalled
  | item (data : Dword) (vb : Nat) (last cls idle cut : Bool)
  | tagged (data tag : Dword)
deriving DecidableEq, Repr

end Sys2Proof.Machine
end

