-- ==== Sys2Proof/Machine/Types02.lean ====
section
/-! DEFINITION. The plain data of the state: handshake channels, grains and block memories. -/

namespace Sys2Proof.Machine

/-- One dual-rail pair (the phase tables of 00_scope): the spacer, a value, or both rails high (R47). -/
inductive Rail where
  | empty | zero | one | both
deriving DecidableEq, Repr

/-- One handshake channel (R46): the pairs of its word ([] is the spacer, every pair empty), the receivers whose own
acknowledge is high, whether the channel's acknowledge is high (R48), the watch points that have reported its present stall
episode (R73), and whether a boundary stage's token has been let into a sealed pan by a step (R246). -/
structure Chan where
  word : List Rail := []
  acks : List Nat := []
  high : Bool := false
  told : List Nat := []
  passed : Bool := false
deriving DecidableEq, Repr

/-- The modes of a grain (R42), and the half-buffer stage that a segment of a global pipelined track is (R64). -/
inductive GrainMode where
  | unused | lut6 | lut5x2 | carry | mutex | flop | track
deriving DecidableEq, Repr

/-- A grain's configuration: its mode, the channels of its used inputs (R43: an unused one is none), the two tables
(O or OA, and OB or the carry out), whether its carry link comes from the grain below (R57), and its initial tokens (R52:
0 empty, 1 token 0, 2 token 1). -/
structure GrainCfg where
  mode : GrainMode := .unused
  inputs : List (Option Nat) := []
  table : Nat := 0
  tableB : Nat := 0
  chained : Bool := false
  init : Nat := 0
  initB : Nat := 0
deriving DecidableEq, Repr

/-- What a grain holds beyond its channels: the FLOP value kept, and the value waiting for Q (R109); for MUTEX the grant
raised (0 none, 1 A, 2 B) and the side that waited when the last grant fell (R62); for CARRY the value of its carry-out link
(R58: none is the spacer) and whether it has driven O for the present input set. -/
structure GrainHeld where
  value : Bool := false
  waiting : Option Bool := none
  grant : Nat := 0
  owed : Nat := 0
  link : Option Bool := none
  fired : Bool := false
deriving DecidableEq, Repr

/-- One pin channel as the pan image sets it (R89): 0 unused, 1 LEVEL input, 2 EDGE input, 3 output; and the level an
EDGE input last offered. -/
structure PinChan where
  kind : Nat := 0
  level : Bool := false
deriving DecidableEq, Repr

/-- One request at a block-memory port (R93). -/
structure BmemReq where
  write : Bool
  addr : Nat
  data : Nat
deriving DecidableEq, Repr

/-- One response of a block-memory port (R93). -/
structure BmemRsp where
  data : Nat
  status : Nat
deriving DecidableEq, Repr

/-- One word of a block memory: its data bits and which of its stored bits are wrong (R92). -/
structure BmemWord where
  data : Nat := 0
  flips : Nat := 0
deriving DecidableEq, Repr

/-- One block memory: its mode (0 W1, 1 W2, 2 W4, 3 W8P, 4 W9, 5 W16P, 6 W18, 7 W32P, 8 W36, 9 W64, 10 W72E, R91), its
words, the requests and responses each port holds (R94), and its scrubber (R99). -/
structure Bmem where
  mode : Nat := 0
  words : Bank BmemWord := []
  reqA : List BmemReq := []
  reqB : List BmemReq := []
  rspA : List BmemRsp := []
  rspB : List BmemRsp := []
  scrubAt : Nat := 0
  visited : Nat := 0
  scrubOff : Bool := false
deriving DecidableEq, Repr

end Sys2Proof.Machine
end

