-- ==== Sys2Proof/Machine/Types04.lean ====
section
/-! DEFINITION. The plain data of the state: queue blocks. -/

namespace Sys2Proof.Machine

/-- One stored word of a queue segment with its tags (R136), and the scheduler dispatch it belongs to (0 none). -/
structure QWord where
  data : Dword := 0
  vb : Nat := 0
  last : Bool := false
  disp : Nat := 0
deriving DecidableEq, Repr

/-- One unit offered at a write end (R135). -/
structure QUnit where
  data : Word
  last : Bool
  cls : Bool
  null : Bool
  disp : Nat := 0
deriving DecidableEq, Repr

/-- One segment (R136, R137): its stored words in order and its two pointers. -/
structure Segment where
  words : List QWord := []
  wptr : Nat := 0
  rptr : Nat := 0
deriving DecidableEq, Repr

/-- The end of a queue that a running pointer exchange resets (R165); both restart as for the read end (R166). -/
inductive QEnd where
  | readEnd | writeEnd
deriving DecidableEq, Repr

/-- Packets of each class that an operation has fixed and that are still in a queue, at the head of their segment (R33). -/
structure Left where
  lo : Nat := 0
  hi : Nat := 0
deriving DecidableEq, Repr

/-- A change of binding that drains (R158): the old binding, the save area of its command, the bytes saved, the packets fixed
at the start, those still in the queue, and how many have been drained. -/
structure Rebind where
  oldKind : Nat
  oldIndex : Nat
  save : Nat := 0
  saveLen : Nat := 0
  saved : Nat := 0
  items : Nat := 0
  left : Left := {}
  drained : Nat := 0
  byCommand : Bool := false
deriving DecidableEq, Repr

/-- One queue block beyond its registers. -/
structure QBlock where
  seg0 : Segment := {}
  seg1 : Segment := {}
  /-- HI_WORDS, the size of the class 1 segment (R136). -/
  hiWords : Nat := 0
  /-- The idle item (R149). -/
  idle : Dword := 0
  /-- Bytes in the packing register (R139), and the dispatch of the packet being written. -/
  pack : List Byte := []
  packDisp : Nat := 0
  /-- The class of the packet the write end is inside (R142). -/
  writing : Option Bool := none
  /-- The write end drops the rest of a packet up to its END unit (R145, R152). -/
  dropping : Bool := false
  /-- The class of the packet the read end is inside (R143). -/
  reading : Option Bool := none
  /-- The next word or idle item carries CUT (R152). -/
  cut : Bool := false
  /-- TAG of the window (R153), and the last word read since a cold or warm reset (R150). -/
  tag : Dword := 0
  lastWord : Dword := 0
  lost0 : Nat := 0
  lost1 : Nat := 0
  discards : Nat := 0
  /-- MODE and WIDTH in force (R155). -/
  mode : Nat := 0
  width : Nat := 0
  /-- The unit a fabric write end holds unacknowledged (R145, R151). -/
  waiting : Option QUnit := none
  /-- Clocked pushes held on the system network (R147). -/
  pushes : List QUnit := []
  /-- The exchange of R165 that runs. -/
  sync : Option QEnd := none
  /-- A queue flush asked for during an exchange (R167). -/
  flushDue : Bool := false
  /-- KIND and INDEX in force (R157). -/
  kind : Nat := 0
  index : Nat := 0
  rebind : Option Rebind := none
  /-- The packets of a close of the pan still in this IN queue (R243), and whether the packet being written into this OUT queue
  is one. -/
  closing : Left := {}
  closingWrite : Bool := false
deriving DecidableEq, Repr

end Sys2Proof.Machine
end

