-- ==== Sys2Proof/Machine/Types05.lean ====
section
/-! DEFINITION. The plain data of the state: rakes. -/

namespace Sys2Proof.Machine

/-- A rake's datapath (R168); an address register's O and L stand beside it, in order 0 to 3. -/
structure Datapath where
  acc : List Int := [0, 0, 0, 0]
  a : List Nat := [0, 0, 0, 0]
  o : List Int := [0, 0, 0, 0]
  l : List Nat := [0, 0, 0, 0]
  scl : Int := 0
  expt : Int := 0
  trk : Int := 63
  bexp : Int := 63
  sat : Bool := false
  par : Bool := false
  exptSat : Bool := false
  ovf : List Bool := [false, false, false, false]
deriving DecidableEq, Repr

/-- A rake's sequencer registers (R196), with the state of a repeat and of delay slots. -/
structure Sequencer where
  pc : Nat := 0
  lc : List Nat := [0, 0]
  segLen : Nat := 0
  segCnt : Nat := 0
  segCfg : Nat := 0
  vec : Nat := 0
  ie : Nat := 0
  ra : Nat := 0
  ieSaved : Nat := 0
  atomicSaved : Bool := false
  acode : Nat := 0
  asrc : Nat := 0
  atomic : Bool := false
  handler : Bool := false
  /-- Executions left of the instruction at PC under a REP; 0 outside a repeat (R204). -/
  rep : Nat := 0
  /-- The delay slot PC stands in, 1 or 2; 0 outside (R202). -/
  slot : Nat := 0
  /-- The target of the branch whose slots run, when it is taken. -/
  target : Option Nat := none
  /-- In WAIT (R218). -/
  inWait : Bool := false
  /-- The next boundary outside slots and repeats is a commit point (R219). -/
  commitDue : Bool := false
  /-- End-of-segment actions still due (R208): 0 none, 1 from the record on, 2 from the notice on. -/
  segDue : Nat := 0
  /-- The PC of the instruction whose segment end is due (R224). -/
  segPc : Nat := 0
  /-- A NOTE that waits for the notice slot (R236). -/
  noteDue : Option Nat := none
deriving DecidableEq, Repr

/-- One rake beyond its registers. -/
structure Rake where
  dp : Datapath := {}
  sq : Sequencer := {}
  /-- The operand buffer's tokens, oldest first: 36 bits each. -/
  inBuf : List Nat := []
  /-- The token that waits unacknowledged on the inbound channel: DATA and ATTN (R188). -/
  inbound : Option (Nat × Bool) := none
  /-- The result buffer: DATA and KIND (R189). -/
  resBuf : List (Nat × Bool) := []
  /-- Operand memory (R174), and its words with a wrong parity bit. -/
  opnd : Bank Word := []
  badPar : Bank Bool := []
  /-- Program memory, 40-bit instructions (R195). -/
  prog : Bank Nat := []
  /-- The save bank: the 18 words of R220. -/
  save : List Nat := List.replicate 18 0
  /-- The fabric attention latch (R210). -/
  latch : Option Nat := none
  /-- The external attention queue (R213). -/
  extQ : List Nat := []
  /-- A SEG attention event is pending (R208). -/
  segPend : Bool := false
  /-- The notice a sluice holds (R236): 1 for segment-done, and BEXP or CODE. -/
  notice : Option (Nat × Nat) := none
  /-- Armed injections (R231). -/
  armPar : Bool := false
  armIll : Bool := false
  /-- A stop that drains (R228): the result tokens taken since it began. -/
  stopping : Option Nat := none
  /-- The image's RSTATE: words 0 to 3 and EXPT with SCL (R252). -/
  image : List Nat := [0, 0, 0, 0, 0]
  /-- The debug halt (R732): 0 none, 1 HALTREQ, 2 BREAKPOINT, 3 STEP; 4 while a single step runs, 5 while a
  halt request waits for the actions due at its boundary (R733). -/
  halt : Nat := 0
  /-- The breakpoint at PC has halted the rake and does not halt it again before it issues (R733). -/
  passed : Bool := false
deriving DecidableEq, Repr

end Sys2Proof.Machine
end

