-- ==== Sys2Proof/Machine/Types07.lean ====
section
/-! DEFINITION. The plain data of the state: sluices and pan loads. -/

namespace Sys2Proof.Machine

/-- A close that drains (R243): the items fixed at its start and how many have been drained; those still in the pan are
counted by its queue blocks. -/
structure CloseJob where
  items : Nat := 0
  drained : Nat := 0
deriving DecidableEq, Repr

/-- One QUEUE record of a pan image (R252). -/
structure QueueRec where
  hiWords : Nat := 0
  dir : Nat := 0
  width : Nat := 0
  mode : Nat := 0
  kind : Nat := 0
  index : Nat := 0
  idle : Dword := 0
deriving DecidableEq, Repr

/-- A load through a reconfiguration port (R256 to R262): its pan, what its HEADER gave, and what has been taken. -/
structure LoadJob where
  pan : Nat := 0
  /-- The HEADER has been accepted (R258). -/
  accepted : Bool := false
  tag : Nat := 0
  frames : Nat := 0
  floor : Nat := 0
  signed : Bool := false
  encrypted : Bool := false
  agent : Bool := false
  keySel : Nat := 0
  bWins : Nat := 0
  digest : List Byte := []
  signature : List Byte := []
  iv : List Byte := []
  /-- HEADER bytes 0 to 79, which the signature covers (R253). -/
  signedPart : List Byte := []
  /-- Frames taken, and the SEQ the next one must have (R254). -/
  taken : Nat := 0
  /-- Header beats without PAN, payloads and trailers of frames 1 on (R253 DIGEST). -/
  digested : List Byte := []
  /-- Payloads of every frame taken, in order (R252 END CRC). -/
  payloads : List Byte := []
  /-- Ciphertext of the running segment, its number and frame count (R255). -/
  segment : List Byte := []
  segNo : Nat := 0
  segFrames : Nat := 0
  /-- A segment of fewer than 64 frames has been closed: it was the final one (R255). -/
  lastSeg : Bool := false
  /-- The outcome of the signature verification, when it has ended (R258). -/
  sigOk : Option Bool := none
  /-- The configuration cells written, by byte offset. -/
  cells : Bank Byte := []
  /-- The highest byte offset + 1 a BMEM frame wrote in each memory of the pan (R260). -/
  preload : Bank Nat := []
  /-- RSTATE records: rake, words (R252). -/
  rstates : Bank (List Nat) := []
  queueRecs : Bank QueueRec := []
  golden : Dword := 0
  /-- END has passed its checks, and the load waits for its signature (R258) or for its floor (R262). -/
  waitFloor : Bool := false
  /-- Where the next frame stands in memory, and how many bytes of the image are left (masters that read memory). -/
  src : Nat := 0
  left : Nat := 0
  /-- Directory slot + 1 for a scheduler reload (R131), 0 otherwise. -/
  slot : Nat := 0
  /-- The self-test golden signature was given. -/
  hasGolden : Bool := false
  /-- Part of a configuration image (R547). -/
  embedded : Bool := false
  /-- Header beats of the running segment's frames, the additional data of R542. -/
  segAad : List Byte := []
deriving DecidableEq, Repr

/-- What a pan holds beyond its registers. -/
structure Pan where
  /-- The close that drains. -/
  close : Option CloseJob := none
  /-- The pan holds an agent image (R249). -/
  agent : Bool := false
  signed : Bool := false
  /-- The golden self-test signature of the image (R252 TEST). -/
  golden : Option Dword := none
  /-- Configuration cells of the image (R252 CFG), lost at gating. -/
  cells : Bank Byte := []
  /-- The side and lane armed for one token (R246). -/
  armed : Option (Nat × Nat) := none
deriving DecidableEq, Repr

end Sys2Proof.Machine
end

