-- ==== Sys2Proof/Machine/Types08.lean ====
section
/-! DEFINITION. The plain data of the state: graphs, tokens and the scheduler engines. -/

namespace Sys2Proof.Machine

/-- A token (R280): TAG, PORT, FLAGS, LEN and the payload bytes. -/
structure Token where
  tag : Nat
  port : Nat := 0
  flags : Nat := 0
  len : Nat := 0
  payload : List Byte := []
deriving DecidableEq, Repr

/-- A token that waits in its producer's hold for a full queue port (R286), kept at the port in the order held. -/
structure HeldToken where
  graph : Nat
  node : Nat
  token : Token
  /-- The link that brought it (R304); 0 for an edge. -/
  via : Nat := 0
deriving DecidableEq, Repr

/-- An input port (R275, R282): its descriptor, the tokens it holds, the tokens held for it, its replacement counter. -/
structure InPort where
  latest : Bool := false
  consume : Bool := false
  tagOrder : Bool := false
  depth : Nat := 0
  need : Nat := 0
  tokens : List Token := []
  waits : List HeldToken := []
  repl : Nat := 0
  sat : Bool := false
deriving DecidableEq, Repr

/-- An output port (R275, R287): MAXOUT, the tokens kept for a drain, and those lost. -/
structure OutPort where
  maxOut : Nat := 0
  kept : List Token := []
  lost : Nat := 0
deriving DecidableEq, Repr

/-- What runs a dispatch (R269). -/
inductive Resource where
  | core (c : Nat)
  | pan (n : Nat)
  | rake (n g : Nat)
deriving DecidableEq, Repr

/-- Where a node stands between firings (R289); HELD, FAULTED and STOPPED follow from the other fields. -/
inductive Place where
  | idle | waiting | ready | reload | dispatched | preempted
deriving DecidableEq, Repr

/-- A node of a resident graph (R274). -/
structure Node where
  kinds : Nat := 0
  prio : Nat := 0
  preempt : Bool := false
  retry : Bool := false
  anyRule : Bool := false
  notice : Nat := 0
  kslot : Nat := 0
  cores : Nat := 0
  estCore : Nat := 0
  estFab : Nat := 0
  entry : Nat := 0
  arg : Nat := 0
  ins : List InPort := []
  outs : List OutPort := []
  place : Place := .idle
  faulted : Bool := false
  source : Nat := 0
  /-- The tag of a firing that NODE_FIRE started and that has not been dispatched (R281). -/
  fired : Option Nat := none
  last : Option Resource := none
deriving DecidableEq, Repr

/-- An edge of a graph (R276). -/
structure Edge where
  srcNode : Nat
  srcPort : Nat
  prio : Nat
  dstNode : Nat
  dstPort : Nat
deriving DecidableEq, Repr

/-- A resident graph (R273): its home half, whether it is started, its node identifiers ascending and its edges. -/
structure Graph where
  home : Nat := 0
  started : Bool := false
  ids : List Nat := []
  edges : List Edge := []
  storage : Nat := 0
deriving DecidableEq, Repr

/-- A link between graphs (R304, R305): its two ends and, across the halves, tokens in transit and in the hold. -/
structure Link where
  id : Nat
  srcGraph : Nat
  srcNode : Nat
  srcPort : Nat
  dstGraph : Nat
  dstNode : Nat
  dstPort : Nat
  prio : Nat
  transit : List Token := []
  hold : List Token := []
deriving DecidableEq, Repr

/-- A dispatch record (R288): the firing, its inputs, what runs it, the words of its packet not yet pushed, whether it
has been poisoned once (R298) or pre-empted (RESUME, R296), and the node a pending pre-emption reserves its core for. -/
structure Record where
  number : Nat
  /-- The count of the dispatch: unlike the number it does not wrap, and names the record. -/
  id : Nat := 0
  graph : Nat
  node : Nat
  tag : Nat
  inputs : List Token
  on : Option Resource := none
  unsent : List Dword := []
  cls : Bool := false
  /-- The queue block that takes its packet. -/
  dq : Nat := 0
  once : Bool := false
  resume : Bool := false
  preempting : Option (Nat × Nat) := none
  /-- Its place in the order of dispatch (R292). -/
  order : Nat := 0
deriving DecidableEq, Repr

/-- What a ready-list entry stands for (R290, R301). -/
inductive Work where
  | node (g n : Nat)
  | reload (g n pan : Nat)
  | slice (pan : Nat)
deriving DecidableEq, Repr

/-- A ready-list entry: its level and its work. -/
structure Entry where
  level : Nat
  work : Work
deriving DecidableEq, Repr

/-- A kernel directory entry (R271). -/
structure Kernel where
  addr : Nat := 0
  beats : Nat := 0
  tag : Nat := 0
  rake : Bool := false
  bad : Bool := false
  dq : Nat := 0
  cq : Nat := 0
  groups : Nat := 0
  masks : List Nat := []
deriving DecidableEq, Repr

/-- A scheduler disable that drains (R307): a graph (some g), the whole half (none), or cores by mask. -/
structure Stop where
  graph : Option Nat := none
  cores : Nat := 0
  items : Nat := 0
  drained : Nat := 0
  unload : Bool := false
deriving DecidableEq, Repr

/-- One scheduler engine. -/
structure Sched where
  /-- The ready lists, each level's entries in order (R290). -/
  ready : List Entry := []
  /-- What waits for an entry, in the order in which it came: nodes as they became fireable, and requested slices as (256, pan)
  (R290, R301); and how many nodes waited in this episode. -/
  waits : List (Nat × Nat) := []
  episode : Nat := 0
  records : List Record := []
  /-- Nodes counted in DISPATCH_WAITS and not placed since (R288). -/
  counted : List (Nat × Nat) := []
  /-- Firings given a DISPATCH number (its low 16 bits, R295), and dispatches made. -/
  next : Nat := 0
  made : Nat := 0
  directory : Bank (Option Kernel) := []
  /-- For each pan, 1 + the generation recorded when the scheduler's own load completed; 0 none (R270). -/
  gens : Bank Nat := []
  /-- Completion words popped so far from each completion queue, with their CUT marks (R297). -/
  popped : Bank (List (QWord × Bool)) := []
  /-- The last accepted token-rate figure of each pan, + 1; 0 before the first acceptance (R162). -/
  rates : Bank Nat := []
  /-- The reload placed and running: graph, node (0 once its graph has left), pan, directory slot (R302). -/
  reload : Option (Nat × Nat × Nat × Nat) := none
  /-- The node at which the breakpoint last halted the rounds, which STEP then places (R320). -/
  broke : Option (Nat × Nat) := none
  /-- The outcome of that reload's load, once it has ended: its cause of R261, 0 for completion. -/
  reloadEnd : Option (Nat × Nat) := none
  /-- Units that must end a cut dispatch packet: queue and class (R307 item 3). -/
  cutting : List (Nat × Bool) := []
  stops : List Stop := []
  /-- Cores reserved for the node that pre-empted them: core, graph, node (R292). -/
  reserved : List (Nat × Nat × Nat) := []
deriving DecidableEq, Repr

end Sys2Proof.Machine
end

