-- ==== Sys2Proof/Machine/Types09.lean ====
section
/-! DEFINITION. The plain data of the state: tender cores. -/

namespace Sys2Proof.Machine

/-- One coprocessor operation that has issued and not retired (R334 to R342): its RID, whether it is effecting, its destination, the
address of its instruction, OPC and operands of a request not yet pushed, and its outcome once one has arrived: a result, or a
fault's detail and kernel code. -/
structure CopOp where
  rid : Nat := 0
  effecting : Bool
  rd : Nat
  pc : Dword
  /-- The request waits to be pushed (R342): it has no RID. -/
  unsent : Bool := false
  opc : Nat := 0
  a : Dword := 0
  b : Dword := 0
  value : Option Dword := none
  fault : Option (Nat × Nat) := none
deriving DecidableEq, Repr

/-- A killed operation whose KILLED has not arrived (R342): its RID, and whether the kill is still to be pushed. -/
structure CopKill where
  rid : Nat
  held : Bool := false
deriving DecidableEq, Repr

/-- A tender core beyond its registers (R321 to R344). -/
structure Core where
  /-- Integer registers x1 to x31, floating-point registers, and CSRs, by number. -/
  x : Bank Dword := []
  f : Bank Dword := []
  csr : Bank Dword := []
  pc : Dword := 0
  /-- Privilege: 3 M, 1 S, 0 U. -/
  prv : Nat := 3
  /-- The reservation of LR (R323): 1 + the line reserved (address div 64); 0 none. -/
  resv : Nat := 0
  /-- Out of reset and executing (R327). -/
  live : Bool := false
  ops : List CopOp := []
  kills : List CopKill := []
  /-- Units of the port's packet that are still to be pushed (R338). -/
  sending : List QUnit := []
  nextRid : Nat := 0
  /-- An unbind drains (R344). -/
  draining : Bool := false
  /-- Operations of a drain: items and those that ended by a response (R344). -/
  items : Nat := 0
  /-- Lines held by the core's L2, by address div 64: 1 shared, 2 exclusive, 3 modified (R322, R323). -/
  lines : Bank Nat := []
  /-- Lines held by its L1 instruction and L1 data caches, all of which its L2 holds (R322). -/
  l1i : List Nat := []
  l1d : List Nat := []
  /-- Lines that its L2 has asked for and not been granted. -/
  fills : List Nat := []
  /-- PREEMPT is pending (R329). -/
  preempt : Bool := false
  /-- ABORT of the dispatch window is 1 and DONE has not been written since (R307, R329). -/
  abort : Bool := false
  /-- Wrong bits of cached lines: 4 × (address div 64) + cache (0 L1I, 1 L1D, 2 L2), to their number, + 8 where injected
  (R325, R360). -/
  flips : Bank Nat := []
  /-- An armed injection: its cache and DOUBLE (R360). -/
  inject : Option (Nat × Bool) := none
deriving DecidableEq, Repr

end Sys2Proof.Machine
end

