-- ==== Sys2Proof/Machine/Types10.lean ====
section
/-! DEFINITION. The plain data of the state: memory, scrubbers and partitions. -/

namespace Sys2Proof.Machine

/-- One patrol scrubber (R378 to R382): the line it visits next, its count and sum of indices for the pass, a walk upset
or skip waiting, and whether its control parity bit is wrong. -/
structure Scrubber where
  line : Nat := 0
  visited : Nat := 0
  sum : Nat := 0
  skip : Bool := false
  badPar : Bool := false
  /-- The walk fault or parity fault was injected (R390). -/
  injected : Bool := false
deriving DecidableEq, Repr

/-- An access to scratch that waits for a partition command (R367): its agent, device address, the bytes it writes, or none and how many it
reads, and whether the data it writes is poisoned. -/
structure HeldAccess where
  agent : Agent
  addr : Nat
  write : Option (List Byte)
  n : Nat := 0
  poison : Bool := false
deriving DecidableEq, Repr

/-- A lagoon partition command that drains (R367): the new sizes, the items fixed at its start and those drained, and the accesses to scratch
that wait for its end, in order. -/
structure PartJob where
  token : Nat
  dir : Nat
  cache : Nat
  scratch : Nat
  items : Nat
  drained : Nat
  held : List HeldAccess := []
deriving DecidableEq, Repr

end Sys2Proof.Machine
end

