-- ==== Sys2Proof/Machine/Types11.lean ====
section
/-! DEFINITION. The plain data of the state: host links. -/

namespace Sys2Proof.Machine

/-- A memory extent of a link (R403): DPA base, length, stack offset, half, and kind 0 HDM-H, 1 HDM-D, 2 HDM-DB. -/
structure Extent where
  dpa : Nat
  len : Nat
  off : Nat
  half : Nat
  kind : Nat
deriving DecidableEq, Repr

/-- Message fragments of one transfer being reassembled (R420): requester, XID, and the bytes by offset in arrival order. -/
structure Assembly where
  requester : Nat
  xid : Nat
  parts : List (Nat × List Byte) := []
deriving DecidableEq, Repr

/-- A General Media Event record of a link (R400): the DPA, and whether the error was uncorrectable. -/
structure MediaEvent where
  dpa : Nat
  ue : Bool
deriving DecidableEq, Repr

/-- Link power states (R397); L0s and L1.2 do not exist. -/
inductive LinkPower where
  | l0
  | l0p
  | l1
  | l11
deriving DecidableEq, Repr

/-- Power states of function 0 (R397). -/
inductive FunctionPower where
  | d0
  | d3hot
deriving DecidableEq, Repr

/-- What a link's own configuration space holds for its single function, function 0 (R391, R398): the power states, the width of the
tags that the host enables (R406), the completion timeout in microseconds (R409), the bases of the two BARs (R401) and the HDM
decoders, base and size (R401). Each starts at the standard's value (Assumption 59). -/
structure LinkConfig where
  power : LinkPower := .l0
  function : FunctionPower := .d0
  tagBits : Nat := 8
  timeoutUs : Nat := 50000
  bar0 : Nat := 0
  bar2 : Nat := 0
  decoders : List (Nat × Nat) := []
deriving DecidableEq, Repr

/-- A coherence message to the host that waits for a tag (R406): its code, the key of its line and role, and its data. -/
structure LinkMsg where
  msg : Nat
  key : Nat
  data : Option (BitVec 512)
deriving DecidableEq, Repr

/-- One host link beyond its registers (R391 to R425). -/
structure HostLink where
  extents : List Extent := []
  config : LinkConfig := {}
  /-- When REPLAY_NUM rolled over within the last second (R396), and when a CRC report was last raised, with the failures
  since (R395). -/
  rollovers : List Nat := []
  crcAt : Option Nat := none
  crcSince : Nat := 0
  /-- Flits that wait for their replay. -/
  replay : Nat := 0
  /-- IDE streams that hold keys and are Secure: bit 0 link IDE, 1 to 4 selective, 5 CXL (R410, R411). -/
  secure : Nat := 0
  /-- IDE streams that failed and refuse their traffic until the host sets them up again (R411). -/
  refusing : Nat := 0
  /-- The keys of the D2H CXL.cache requests that hold a CQID and of the back-invalidate snoops that hold a BITag, and the messages that
  wait for a tag, oldest first (R406). -/
  cqids : List Nat := []
  biTags : List Nat := []
  unsent : List LinkMsg := []
  /-- Viral is signalled when the link next trains (R423, R466). -/
  viral : Bool := false
  /-- Armed injections (R429). -/
  armFec : Bool := false
  armCrc : Bool := false
  armPoison : Bool := false
  assemblies : List Assembly := []
  /-- XIDs of outstanding message commands: requester, SEQ, XID (R420). -/
  xids : List (Nat × Nat × Nat) := []
  events : List MediaEvent := []
  /-- The CXL timestamp as set, with the NS count then (R400). -/
  timestamp : Option (Nat × Nat) := none
  /-- CXL.mem traffic is disabled (R403), and the items of a disable that drains (R422). -/
  memOff : Bool := false
  drain : Option Nat := none
deriving DecidableEq, Repr

end Sys2Proof.Machine
end

