-- ==== Sys2Proof/Machine/Types12.lean ====
section
/-! DEFINITION. The plain data of the state: the coherence engines. -/

namespace Sys2Proof.Machine

/-- An event at a coherence engine: role (0 home, 1 caching), event code, line, and who asked: 0 to 15 a core, 16 + link a
host, 32 the scheduler engine, 33 the management controller; and the data it brings. -/
structure CohReq where
  role : Nat
  ev : Nat
  line : Nat
  who : Nat
  data : Option (BitVec 512) := none
deriving DecidableEq, Repr

/-- One line in one role of an engine (R447, R454): its state, the core snoops and back-invalidate snoops outstanding, whether
the core snoops invalidate, the host holders and whether one holds it exclusively, the requester of the active transaction,
data that snoop responses brought, and the requests held with WAIT. -/
structure CohLine where
  st : Nat := 0
  snoops : Nat := 0
  snpInv : Bool := false
  bisnp : Nat := 0
  hosts : Nat := 0
  who : Option Nat := none
  /-- The event code of the active transaction. -/
  ev : Nat := 0
  data : Option (BitVec 512) := none
  held : List CohReq := []
deriving DecidableEq, Repr

/-- A device-cache line (R439). -/
structure DcLine where
  dirty : Bool
  data : BitVec 512
deriving DecidableEq, Repr

/-- A table load or restore that quiesces (R464): entries, TAG, and whether it is a laboratory table. -/
structure TableJob where
  entries : List Nat
  tag : Nat
  lab : Bool
deriving DecidableEq, Repr

/-- A flush of the half's host-memory lines (R441): the dirty lines at its start, and the route that then takes effect. -/
structure FlushJob where
  items : Nat
  en : Bool
  port : Nat
  link : Nat
deriving DecidableEq, Repr

/-- One coherence engine beyond its lines. -/
structure Coh where
  /-- Laboratory entries by index. -/
  table : Bank Nat := []
  load : Option TableJob := none
  /-- Requests held at the input while a load quiesces (R464). -/
  input : List CohReq := []
  flush : Option FlushJob := none
  /-- Lines in order of their last use, oldest first: core filter, tracking entries, device cache. -/
  filterOrder : List Nat := []
  dirOrder : List Nat := []
  cacheOrder : List Nat := []
deriving DecidableEq, Repr

end Sys2Proof.Machine
end

