-- ==== Sys2Proof/Machine/Types13.lean ====
section
/-! DEFINITION. The plain data of the state: the causeway. -/

namespace Sys2Proof.Machine

/-- A heartbeat word (R480). -/
structure Beat where
  policy : Bool
  bothOk : Bool
  thermal : Bool
  zeroize : Bool
deriving DecidableEq, Repr

/-- One link group as one half receives it (R472 to R475): when CRC failures fell within the last 1 ms and losses of lock
within the last 1 s, the far half's flits that wait for their replay, and an armed CRC injection. -/
structure CswGroup where
  crcAt : List Nat := []
  lossAt : List Nat := []
  replay : Nat := 0
  armCrc : Bool := false
deriving DecidableEq, Repr

/-- A packet of the REQ virtual channel that crosses to the other half (R373, R478): a coherence request, a memory access, or an access
to a queue window or a rake doorbell. -/
inductive CrossReq where
  | coh (q : CohReq)
  | mem (x : HeldAccess)
  | pop (d : Nat) (a : Agent) (off : Nat)
  | push (d : Nat) (a : Agent) (v : Dword)
  | lostClear (d : Nat) (a : Agent)
  | idleSet (d : Nat) (a : Agent) (v : Dword)
  | doorbell (r : Nat) (a : Agent) (write : Bool) (v : Dword)
deriving DecidableEq, Repr

/-- A snoop or a response to a core of the other half: the message, its line, what it carries, and the state it grants or the fault it
raises. -/
structure CoreMsg where
  core : Nat
  msg : Nat
  line : Nat
  arg : Nat
  data : Option (BitVec 512)
deriving DecidableEq, Repr

/-- The causeway state of one half: the heartbeat word it has sent and that has not arrived, the BOTH_OK it last sent, what it
last received, words an injection still drops (1 once all have been dropped and none has arrived since), a retirement that
drains (its group and its items), and the state that a causeway reset interrupts. -/
structure CswHalf where
  wire : Option Beat := none
  sentOk : Bool := false
  policy : Bool := false
  bothOk : Bool := false
  drop : Nat := 0
  retiring : Option (Nat × Nat) := none
  was : Nat := 0
  /-- Packets of this half on its REQ virtual channel that wait to cross, and the credits it holds for the far request landing buffer
  (R479). -/
  reqOut : List CrossReq := []
  reqCredit : Nat := 64
  /-- This half's request landing buffer, oldest first (R478). -/
  reqLand : List CrossReq := []
  /-- The same of the SNP virtual channel and the snoop landing buffer; responses to the far half's cores wait among them. -/
  snpOut : List CoreMsg := []
  snpCredit : Nat := 32
  snpLand : List CoreMsg := []
deriving DecidableEq, Repr

end Sys2Proof.Machine
end

