-- ==== Sys2Proof/Machine/Types14.lean ====
section
/-! DEFINITION. The plain data of the state: commands outstanding and what the part sends. -/

namespace Sys2Proof.Machine

/-- A part of a REG_WRITE that acts as a LONG command (R520): OLD, the bank key of its register, whether the write is a disable, and
what its other parts have drained and aborted. -/
structure Written where
  old : Nat
  key : Nat
  disable : Bool
  drained : Nat := 0
  aborted : Nat := 0
deriving DecidableEq, Repr

/-- A LONG command that has started (R510, R511): its opcode, transport, SEQ and executing half, the unit it acts on,
what it holds (TARGET codes), its progress (R515), and its own numbers. -/
structure Job where
  opcode : Nat
  via : Transport
  seq : Nat
  half : Nat
  unit : Nat := 0
  holds : List Nat := []
  done : Nat := 0
  total : Nat := 0
  aux : Nat := 0
  data : List Nat := []
  /-- For a REG_WRITE that acts as this command (R520). -/
  write : Option Written := none
  /-- The cause of R514 that ends it early, while it is being ended. -/
  cause : Option Nat := none
deriving DecidableEq, Repr

/-- A command outstanding and not started: it waits under ORDERED, for one of the eight LONG places, for the load before
it, or for a controller restart (R512, R247, R352). -/
structure Waiting where
  opcode : Nat
  packet : Packet
  half : Nat
deriving DecidableEq, Repr

/-- What the part sends out: a reply on a transport other than a mailbox, an MSI-X vector, an EVENT message of a link
(R418), a message of a port's protocol, or bytes on another interface. -/
inductive Sent where
  | reply (via : Transport) (bytes : List Byte)
  /-- One fragment of a REPLY message (R419, R420). -/
  | message (link requester xid offset : Nat) (first last : Bool) (bytes : List Byte)
  | msix (link vector : Nat)
  | event (link bits : Nat)
  | port (port : Nat) (kind : Nat) (data : List Nat)
  | agent (a : Agent) (kind : Nat) (data : List Nat)
  /-- The answer to an access that had to wait (R367). -/
  | served (a : Agent) (addr : Nat) (answer : Answer)
  | line (name : Nat) (data : List Nat)
deriving DecidableEq, Repr

end Sys2Proof.Machine
end

