-- ==== Sys2Proof/Machine/Types15.lean ====
section
/-! DEFINITION. The plain data of the state: the configuration image. -/

namespace Sys2Proof.Machine

/-- The configuration image in progress or in force (R538 to R543): what its DEVICE frame gave, and what has been taken. -/
structure ImageRun where
  tag : Nat := 0
  frames : Nat := 0
  signed : Bool := false
  encrypted : Bool := false
  keySel : Nat := 0
  pans : Nat := 0
  bytes : Nat := 0
  iv : List Byte := []
  digest : List Byte := []
  pubkey : List Byte := []
  signature : List Byte := []
  signedPart : List Byte := []
  /-- Frames taken, which is the image index of the next; and the image bytes accepted. -/
  index : Nat := 0
  taken : Nat := 0
  /-- Every byte of frames 1 to FRAMES − 2, for DIGEST, and of frames 0 to FRAMES − 2, for the CRC. -/
  digested : List Byte := []
  checked : List Byte := []
  /-- The running segment's ciphertext and additional data, its number and its frames. -/
  segment : List Byte := []
  segAad : List Byte := []
  segNo : Nat := 0
  segFrames : Nat := 0
  /-- A segment of fewer than 64 frames has been closed: it was the final one (R255, R542). -/
  lastSeg : Bool := false
  /-- The embedded pan image that runs, and those that have completed. -/
  current : Option Nat := none
  done : List Nat := []
  /-- GLOBAL records by ADDR (R541). -/
  globals : Bank (List Byte) := []
  /-- The outcome of the signature check, once known. -/
  sigOk : Option Bool := none
  /-- DEVICE_END has been taken. -/
  ended : Bool := false
  /-- Port 0 still has its load-time settings (R392). -/
  port0Due : Bool := false
deriving DecidableEq, Repr

end Sys2Proof.Machine
end

