-- ==== Sys2Proof/Machine/Types16.lean ====
section
/-! DEFINITION. The plain data of the state: the security module. -/

namespace Sys2Proof.Machine

/-- A debug challenge outstanding (R589): its nonce and scope. -/
structure Challenge where
  nonce : List Byte
  scope : Nat
deriving DecidableEq, Repr

/-- A fuse field being programmed (R571): the field, its value, the words to write, and the words done. -/
structure FuseJob where
  field : Nat
  value : Nat
  words : Nat
  done : Nat := 0
deriving DecidableEq, Repr

/-- The security module beyond its registers (R568). -/
structure Security where
  /-- Fuse words of K0, K1 and PKH as numbers; the control word stands in SEC_KEYS.CTRL. -/
  k0 : Nat := 0
  k1 : Nat := 0
  pkh : Nat := 0
  /-- The battery key KB. -/
  kb : Nat := 0
  /-- The PUBKEY kept under R544. -/
  pubkey : Option (List Byte) := none
  challenge : Option Challenge := none
  fuse : Option FuseJob := none
  /-- DRBG: how often it has been seeded, and requests since (R566). -/
  seeded : Nat := 0
  requests : Nat := 0
  /-- The key-wrap key that the two halves have agreed (R563); none after a zeroization, until they agree again. -/
  wrapKey : List Byte := []
  /-- The duration of the debug grant in force, in seconds (R590). -/
  grantFor : Nat := 0
  /-- A zeroization that runs (R582, R583): 1 + MODE. -/
  zeroizing : Nat := 0
  /-- Sources whose TAMPER report is owed at the next SECURE_BOOT, for a detection on VBAT alone (R579). -/
  owedTamper : List Nat := []
  /-- SPDM sessions open on each link (R574), and the key in force of each IDE stream, 8 × link + stream (R576). -/
  sessions : Bank Nat := []
  ideKeys : Bank (List Byte) := []
  /-- IDE keys that IDE_KEY_RETRIEVE has given: 8 × link + stream (R576). -/
  generated : Bank (List Byte) := []
  /-- The battery domain has lost its content: the canary does not hold (R580). -/
  canaryLost : Bool := false
deriving DecidableEq, Repr

end Sys2Proof.Machine
end

