-- ==== Sys2Proof/Machine/Types17.lean ====
section
/-! DEFINITION. The plain data of the state: the governor. -/

namespace Sys2Proof.Machine

/-- A regulator slot beyond its registers (R604, R607): the last READ_POUT in 0.1 W, consecutive transactions without an
acknowledgement, transactions queued, and the items of a disable that drains. -/
structure RegSlot where
  pout : Nat := 0
  naks : Nat := 0
  queued : Nat := 0
  drain : Option Nat := none
deriving DecidableEq, Repr

/-- A governor slice beyond its registers. Temperatures of the model stand in units of 2^-24 K (R610). -/
structure Gov where
  /-- The cold-plate node (Assumption 20). -/
  tc : Int := 503316480
  /-- The VFAB ceiling of R611 in mV, and whether the cap, and not the forecast, set it. -/
  ceiling : Nat := 950
  capped : Bool := false
  /-- The wish of BALANCED and QUIET in mV (R614). -/
  wish : Nat := 800
  /-- The voltage last commanded over AVSBus in mV (R605). -/
  rail : Nat := 800
  slots : Bank RegSlot := []
  /-- The token-rate monitors' last figures, by local pan (R599). -/
  monitors : Bank Nat := []
  /-- No exchange of demand and shares has come for 10 ms (R618). -/
  noExchange : Bool := false
  /-- Channels that stall now (R609). -/
  stalled : List Nat := []
  /-- QUIET: when its present second began, in ns, and the power then in 0.1 W (R614); when it last moved the duty (R608). -/
  quietAt : Nat := 0
  quietRef : Nat := 0
  dutyAt : Nat := 0
  /-- Standing parts of the stop condition (R622): temperature, and the VFAB window. -/
  hot : Bool := false
  windowBad : Bool := false
  /-- An episode of CAP_EXCEEDED is under way (R614). -/
  overCap : Bool := false
deriving DecidableEq, Repr

end Sys2Proof.Machine
end

