-- ==== Sys2Proof/Machine/Types18.lean ====
section
/-! DEFINITION. The plain data of the state: serial engines. -/

namespace Sys2Proof.Machine

/-- One serial engine (R653 to R655): DIV and MODE, its FIFOs, the entry whose byte is in progress, and its flags. A
transmit entry is SERDATA [10:0], a receive entry [8:0]. -/
structure Serial where
  div : Nat := 0
  mode : Nat := 0
  tx : List Nat := []
  rx : List Nat := []
  current : Option Nat := none
  txOvf : Bool := false
  rxOvf : Bool := false
  arbLost : Bool := false
deriving DecidableEq, Repr

end Sys2Proof.Machine
end

