-- ==== Sys2Proof/Machine/Types19.lean ====
section
/-! DEFINITION. The plain data of the state: reports, log and clock. -/

namespace Sys2Proof.Machine

/-- A report word and its context (R659), with the monotonic count when it was raised. -/
structure Report where
  word : Word := 0
  ctx : Word := 0
  ns : BitVec 64 := 0
deriving DecidableEq, Repr

/-- One log entry (R676); the default is the cleared slot of R678 (sequence number 0 is never written, R677). -/
structure LogEntry where
  seq : BitVec 48 := 0
  flags : Byte := 0
  ns : BitVec 64 := 0
  seconds : BitVec 40 := 0
  report : Word := 0
  ctx : Word := 0
deriving DecidableEq, Repr

/-- The report queues (R665) and the log (R675) of one half. -/
structure LogHalf where
  /-- REPQ A, class 1 segment: FATAL reports waiting, oldest first. -/
  fatals : List Report := []
  /-- REPQ A, class 0 segment: ERROR reports waiting. -/
  errors : List Report := []
  /-- REPQ B: NOTICE reports waiting. -/
  notices : List Report := []
  /-- Log slots: 4,096 × bank + slot. -/
  entries : Bank LogEntry := []
  /-- The slot the next entry takes. -/
  next : Nat := 0
  /-- The sequence number has just passed 2^48 - 1 (R677). -/
  wrapDue : Bool := false
  /-- Flipped bits that LOG_CE or LOG_UE waits to put into the next entry of bank 0 and of bank 1 (R692). -/
  inject0 : Nat := 0
  inject1 : Nat := 0
  /-- When each of the last errors was corrected in bank 0 and in bank 1 (R681: more than 16 within 1 s). -/
  corrected0 : List Nat := []
  corrected1 : List Nat := []
  /-- SUMMARY entries owed after a warm reset (R678): class and count, written first. -/
  owed : List (Nat × Nat) := []
deriving DecidableEq, Repr

/-- The real-time clock's state beyond its registers (R684, R688, R693). -/
structure Rtc where
  /-- The south half's copy of the seconds count (R688). -/
  southSeconds : Nat := 0
  /-- The south half's NS count when its copy last changed (R688). -/
  southNs : BitVec 64 := 0
  /-- RTC_TIME, SECONDS low and SECONDS high latched by a read of RTC_DATE and not yet read (R693). -/
  latchTime : Option Word := none
  latchLow : Option Word := none
  latchHigh : Option Word := none
  /-- Crystal edges are stopped (R687). -/
  stopped : Bool := false
deriving DecidableEq, Repr

end Sys2Proof.Machine
end

