-- ==== Sys2Proof/Machine/Types20.lean ====
section
/-! DEFINITION. The plain data of the state: self-test slices and sweeps. -/

namespace Sys2Proof.Machine

/-- A self-test slice of a pan (R696): 1 requested, 2 saving, 3 running patterns, 4 restoring. -/
structure Slice where
  phase : Nat := 1
  /-- Asked for by TEST_RUN on the pan alone. -/
  single : Bool := false
  /-- The save area's copy of the pan's channels, grain values and rakes. -/
  chans : Bank Chan := []
  held : Bank GrainHeld := []
  rakes : Bank Rake := []
deriving DecidableEq, Repr

/-- The sweep of one half (R701): 0 none, 1 periodic, 2 of TEST_RUN; the pans not yet requested, the pans it has
finished, whether a periodic sweep is due, and whether ANOTHER one waits for a sweep of TEST_RUN. -/
structure Sweep where
  kind : Nat := 0
  left : List Nat := []
  ended : Nat := 0
  due : Bool := false
deriving DecidableEq, Repr

end Sys2Proof.Machine
end

