-- ==== Sys2Proof/Machine/Types21.lean ====
section
/-! DEFINITION. The plain data of the state: start-up. -/

namespace Sys2Proof.Machine

/-- A warm reset under way (R717): the state it began in, WARM_KEEP, the halves it resets, and the halves whose log flush
and whose coherence flush have ended. -/
structure WarmRun where
  began : Nat
  keep : Bool
  halves : List Nat
  logDone : List Nat := []
  cohDone : List Nat := []
deriving DecidableEq, Repr

end Sys2Proof.Machine
end

