-- ==== Sys2Proof/Machine/Types22.lean ====
section
/-! DEFINITION. The plain data of the state: the debug port. -/

namespace Sys2Proof.Machine

/-- The debug module's view of one hart (R730, R731). -/
structure Hart where
  haltReq : Bool := false
  /-- dcsr.step, the cause and privilege of the last halt, and dpc. -/
  step : Bool := false
  /-- The one instruction of a single step has run, and the hart halts again once no effecting operation is outstanding. -/
  stepping : Bool := false
  cause : Nat := 0
  prv : Nat := 3
  dpc : Dword := 0
  /-- The count at its last halt, where dcsr.stopcount holds the counters. -/
  haltedAt : Nat := 0
  /-- dcsr's ebreak and stopcount bits, and dmstatus's resumeack and havereset of the hart. -/
  dcsr : Nat := 0
  resumeack : Bool := false
  havereset : Bool := false
  /-- Trigger registers: 2 × trigger + 0 tdata1, + 1 tdata2. -/
  triggers : Bank Nat := []
deriving DecidableEq, Repr

/-- The test access port, the command transport and the debug module beyond their registers (R723 to R742). -/
structure DebugPort where
  /-- The instruction register (R725), and the boundary cells preloaded, by pin. -/
  ir : Nat := 1
  boundary : Bank Bool := []
  /-- The inbound packet, and whether it has passed 4,096 bytes (R728). -/
  inbound : List Byte := []
  overlong : Bool := false
  busy : Bool := false
  /-- Replies that wait, oldest first. -/
  replies : List (List Byte) := []
  hartsel : Nat := 0
  cmderr : Nat := 0
  data : Bank Word := []
  progbuf : Bank Word := []
  sberror : Nat := 0
  sbaddr : Nat := 0
  sbaccess : Nat := 2
  sbdata : Nat := 0
  sbReadOnAddr : Bool := false
  sbReadOnData : Bool := false
  sbIncrement : Bool := false
  ndmreset : Bool := false
  dmactive : Bool := false
  /-- Trace records that wait (R740). -/
  trace : List (List Byte) := []
deriving DecidableEq, Repr

end Sys2Proof.Machine
end

