-- ==== Sys2Proof/Machine/State.lean ====
section
/-! DEFINITION. The state of the part: every register, memory, queue, counter, mode and pin the spec gives it, as plain
data, and the queue of the commands that wait. A default is the value after reset. -/

namespace Sys2Proof.Machine

/-- The state of the part. -/
structure State where
  /-- Register words that differ from their reset word, by control address (R7, R25). -/
  regs : Bank Word := []
  /-- Assumption 1: what the last access returned. -/
  answer : Answer := .none
  /-- R683: nanoseconds since the release of PORESETn. -/
  ns : BitVec 64 := 0
  /-- Assumption 3: how many free values have been used. -/
  fresh : Nat := 0
  /-- Every handshake channel that is not idle (R46); the numbering is chanOfGrain and chanOfPoint. -/
  chans : Bank Chan := []
  /-- Grain configurations, by device grain number: pan × 16,384 + address (R82); from 2^22 on the stages of global tracks
  (R64), 2^22 + pan × 16,384 + stage. -/
  grains : Bank GrainCfg := []
  /-- What FLOP, MUTEX and CARRY grains hold. -/
  held : Bank GrainHeld := []
  /-- Tap groups: pan × 64 + tap, to 1 + 2 × tree + falling; 0 unassigned (R108). -/
  taps : Bank Nat := []
  /-- Cluster taps watched: pan × 64 + tap, to 1 + channel; 0 unassigned (R72). -/
  clusterTaps : Bank Nat := []
  /-- The channels that drive the pairs of a port toward which the fabric sends, by the port's channel (R49); none where the
  tokens come with their rows. -/
  ports : Bank (List Nat) := []
  /-- Clock trees that are high (R106). -/
  treeHighs : Bank Bool := []
  /-- Pin channels by pin, 32 × bank + pin (R88). -/
  pinChans : Bank PinChan := []
  /-- Block memories by device number (R24). -/
  bmems : Bank Bmem := []
  /-- Wake requests waiting in each half, in order of arrival (R116). -/
  wakeQueue : Bank (List Nat) := []
  /-- Queue blocks by device number (R24). -/
  queues : Bank QBlock := []
  /-- Rakes by device number (R24). -/
  rakes : Bank Rake := []
  /-- Pans beyond their registers. -/
  pans : Bank Pan := []
  /-- The load in progress of each master of each half: 3 × half + master (0 management controller, 1 scheduler engine,
  2 agent pan), R247. -/
  loads : Bank (Option LoadJob) := []
  /-- The master the port of each half granted last (R248): 1 + master, 0 since a reset. -/
  lastGrant : Bank Nat := []
  /-- The RESULT tokens offered to each half's agent pan (R249): status, local index, frames. -/
  agentResults : Bank (List (Nat × Nat × Nat)) := []
  /-- Resident graphs (R273). -/
  graphs : Bank (Option Graph) := []
  /-- Nodes, by 65,536 × graph + NODE_ID. -/
  nodes : Bank (Option Node) := []
  /-- Links between graphs (R304). -/
  links : List Link := []
  /-- The scheduler engines. -/
  scheds : Bank Sched := []
  /-- Bytes of the dispatch windows (R295): 16,384 × core + offset. -/
  windows : Bank Byte := []
  /-- Tender cores. -/
  cores : Bank Core := []
  /-- Firmware patches in force: 2 × half, + 1 for one verified and not applied; 1 + VERSION, 0 none (R350, R573). -/
  patches : Bank Nat := []
  /-- The SHA-384 of each patch body in force or verified, numbered alike (R573, R575). -/
  patchHashes : Bank (List Byte) := []
  /-- Bytes of the lagoon, the stacks and host memory that are not zero, by address: a lagoon byte at its scratch region's
  base + lagoon offset, any other at its device address (R361, R364). -/
  mem : List Host.Cell := []
  /-- Poisoned 64-bit words, by address div 8 (R377). -/
  poison : Bank Bool := []
  /-- Wrong stored bits of 64-bit words, by address div 8: a 72-bit mask, + 2^72 where an injection made them (R376, R390). -/
  flips : Bank Nat := []
  /-- The patrol scrubbers: 2 × half, + 1 for the stack's (R378). -/
  scrubbers : Bank Scrubber := []
  /-- The partition command that drains in each half (R367). -/
  partJobs : Bank (Option PartJob) := []
  /-- Host links: 4 × port + link. -/
  hostLinks : Bank HostLink := []
  /-- Lines of the engines: (2 × half + role) × 2^58 + line. -/
  cohLines : Bank CohLine := []
  /-- Core filters: half × 2^58 + line, to the mask of cores (R437). -/
  coreFilter : Bank Nat := []
  /-- Device caches: half × 2^58 + line (R439). -/
  devCache : Bank (Option DcLine) := []
  /-- Pages in device bias: half × 2^23 + page (R443, R444). -/
  deviceBias : Bank Bool := []
  /-- Lines of a page whose RdOwnNoData is outstanding, as a mask (R443): half × 2^23 + page. -/
  biasPend : Bank Nat := []
  /-- The coherence engine of each half (R434). -/
  cohs : Bank Coh := []
  /-- Link groups as a half receives them: 4 × half + group. -/
  cswGroups : Bank CswGroup := []
  /-- The causeway as each half sees it: its split, its heartbeat and its armed injections (R477 to R495). -/
  cswHalves : Bank CswHalf := []
  /-- LONG commands in progress (R510). -/
  jobs : List Job := []
  /-- Outstanding commands not started, in arrival order (R512). -/
  waiting : List Waiting := []
  /-- Everything the part has sent out, newest first. -/
  sent : List Sent := []
  /-- Mailbox slot bytes: 4,096 × link + slot × 128 + byte (R413). -/
  slots : Bank Byte := []
  /-- A management controller of the half is restarting (R352). -/
  restarting : Bank Bool := []
  /-- Mailbox slots submitted by a core, whose addresses are device addresses: 32 × link + slot (R498). -/
  coreSlots : Bank Bool := []
  /-- Slot numbers that a REG_WRITE has written to a SUBMIT register, with their links, not yet submitted (R11, R433). -/
  submits : List (Nat × Nat) := []
  /-- The configuration image (R538); frames 0 while none has begun. -/
  image : ImageRun := {}
  /-- Replies that wait on the configuration slave port (R537). -/
  cfgReplies : List (List Byte) := []
  /-- CFG_ERRn is driven low (R532, R554). -/
  cfgErr : Bool := false
  /-- CFG_DONE is driven low by this device (R553). -/
  cfgDoneLow : Bool := true
  /-- The security module. -/
  sec : Security := {}
  /-- The agent frame offered to each half's reconfiguration port (R249); [] none. -/
  agentFrames : Bank (List Byte) := []
  /-- The governor slices. -/
  govs : Bank Gov := []
  /-- Synchronised levels at the pins, by device index (R641, R651). -/
  pads : Bank Bool := []
  /-- Banks whose VIO is below 1.0 V (R634). -/
  banksDown : Bank Bool := []
  /-- The PINS record in force at the last WAKE, which a warm reset returns the pins to (R636, R642); [] for none. -/
  pinWords : List Byte := []
  /-- Serial engines: 6 × half + engine (R653). -/
  serials : Bank Serial := []
  /-- The report queues and log of each half (R665, R675). -/
  logs : Bank LogHalf := []
  /-- The real-time clock (R684). -/
  rtc : Rtc := {}
  /-- Self-test slices, by pan (R696, R700). -/
  slices : Bank (Option Slice) := []
  /-- The sweep of each half. -/
  sweeps : Bank Sweep := []
  /-- Pans whose next slice compares against the inverted golden value (R706). -/
  inverted : Bank Bool := []
  /-- PORESETn is low, and the power-on detector finds a supply low (R713). -/
  poresetLow : Bool := false
  supplyLow : Bool := false
  /-- The warm reset under way, and the state that follows SECURE_BOOT (R718): 2 CONFIG_WAIT, 5 DONE_WAIT. -/
  warm : Option WarmRun := none
  afterBoot : Nat := 2
  /-- Why a cold reset is under way: a COLD_CAUSE code (R721). -/
  coldCause : Nat := 1
  /-- Memories filled since the cold reset (R372, R549): 2 × half, + 1 for the stack. -/
  filled : Bank Bool := []
  /-- The debug module's harts, by core. -/
  harts : Bank Hart := []
  /-- The debug port. -/
  dbg : DebugPort := {}
  /-- The commands that wait, first in, first out. -/
  pending : List Instr := []
deriving DecidableEq, Repr

/-- The ways a step stops. No command of this part ends in one: the spec gives every row an effect. -/
inductive Fault where
  /-- Raised by nothing: kept so that the type has a name for a stop. Safe. -/
  | none
deriving DecidableEq, Repr

/-- The ways a command is refused by the model. -/
inductive Refusal where
  /-- A command whose meaning is not written yet, by its mnemonic. Raised by exec's arms alone. Safe. -/
  | notModelled (mnemonic : String)
deriving DecidableEq, Repr

/-- The part right after reset: every field at its default. -/
def State.reset : State := {}

/-- What a command's meaning answers. -/
abbrev Out := Host.Outcome State Fault Refusal

end Sys2Proof.Machine
end

