-- ==== Sys2Proof/Machine/Access.lean ====
section
/-! DEFINITION. One reader, one writer and one modifier for every bank of the state. -/

namespace Sys2Proof.Machine

/-- What queues holds at number k. -/
def State.queue (s : State) (k : Nat) : QBlock := Bank.get (fun _ => {}) s.queues k
/-- s with v at number k of queues. -/
def State.setQueue (s : State) (k : Nat) (v : QBlock) : State := { s with queues := Bank.set (fun _ => {}) s.queues k v }
/-- s with number k of queues changed. -/
def State.modQueue (s : State) (k : Nat) (f : QBlock → QBlock) : State := s.setQueue k (f (s.queue k))

/-- What chans holds at number k. -/
def State.chan (s : State) (k : Nat) : Chan := Bank.get (fun _ => {}) s.chans k
/-- s with v at number k of chans. -/
def State.setChan (s : State) (k : Nat) (v : Chan) : State := { s with chans := Bank.set (fun _ => {}) s.chans k v }
/-- s with number k of chans changed. -/
def State.modChan (s : State) (k : Nat) (f : Chan → Chan) : State := s.setChan k (f (s.chan k))

/-- What grains holds at number k. -/
def State.grain (s : State) (k : Nat) : GrainCfg := Bank.get (fun _ => {}) s.grains k
/-- s with v at number k of grains. -/
def State.setGrain (s : State) (k : Nat) (v : GrainCfg) : State := { s with grains := Bank.set (fun _ => {}) s.grains k v }
/-- s with number k of grains changed. -/
def State.modGrain (s : State) (k : Nat) (f : GrainCfg → GrainCfg) : State := s.setGrain k (f (s.grain k))

/-- What held holds at number k. -/
def State.heldOf (s : State) (k : Nat) : GrainHeld := Bank.get (fun _ => {}) s.held k
/-- s with v at number k of held. -/
def State.setHeldOf (s : State) (k : Nat) (v : GrainHeld) : State := { s with held := Bank.set (fun _ => {}) s.held k v }
/-- s with number k of held changed. -/
def State.modHeldOf (s : State) (k : Nat) (f : GrainHeld → GrainHeld) : State := s.setHeldOf k (f (s.heldOf k))

/-- What taps holds at number k. -/
def State.tapSel (s : State) (k : Nat) : Nat := Bank.get (fun _ => 0) s.taps k
/-- s with v at number k of taps. -/
def State.setTapSel (s : State) (k : Nat) (v : Nat) : State := { s with taps := Bank.set (fun _ => 0) s.taps k v }
/-- s with number k of taps changed. -/
def State.modTapSel (s : State) (k : Nat) (f : Nat → Nat) : State := s.setTapSel k (f (s.tapSel k))

/-- What clusterTaps holds at number k. -/
def State.tapWatch (s : State) (k : Nat) : Nat := Bank.get (fun _ => 0) s.clusterTaps k
/-- s with v at number k of clusterTaps. -/
def State.setTapWatch (s : State) (k : Nat) (v : Nat) : State := { s with clusterTaps := Bank.set (fun _ => 0) s.clusterTaps k v }
/-- s with number k of clusterTaps changed. -/
def State.modTapWatch (s : State) (k : Nat) (f : Nat → Nat) : State := s.setTapWatch k (f (s.tapWatch k))

/-- What ports holds at number k. -/
def State.drivers (s : State) (k : Nat) : (List Nat) := Bank.get (fun _ => []) s.ports k
/-- s with v at number k of ports. -/
def State.setDrivers (s : State) (k : Nat) (v : (List Nat)) : State := { s with ports := Bank.set (fun _ => []) s.ports k v }
/-- s with number k of ports changed. -/
def State.modDrivers (s : State) (k : Nat) (f : (List Nat) → (List Nat)) : State := s.setDrivers k (f (s.drivers k))

/-- What treeHighs holds at number k. -/
def State.treeHigh (s : State) (k : Nat) : Bool := Bank.get (fun _ => false) s.treeHighs k
/-- s with v at number k of treeHighs. -/
def State.setTreeHigh (s : State) (k : Nat) (v : Bool) : State := { s with treeHighs := Bank.set (fun _ => false) s.treeHighs k v }
/-- s with number k of treeHighs changed. -/
def State.modTreeHigh (s : State) (k : Nat) (f : Bool → Bool) : State := s.setTreeHigh k (f (s.treeHigh k))

/-- What pinChans holds at number k. -/
def State.pinChan (s : State) (k : Nat) : PinChan := Bank.get (fun _ => {}) s.pinChans k
/-- s with v at number k of pinChans. -/
def State.setPinChan (s : State) (k : Nat) (v : PinChan) : State := { s with pinChans := Bank.set (fun _ => {}) s.pinChans k v }
/-- s with number k of pinChans changed. -/
def State.modPinChan (s : State) (k : Nat) (f : PinChan → PinChan) : State := s.setPinChan k (f (s.pinChan k))

/-- What bmems holds at number k. -/
def State.bmem (s : State) (k : Nat) : Bmem := Bank.get (fun _ => {}) s.bmems k
/-- s with v at number k of bmems. -/
def State.setBmem (s : State) (k : Nat) (v : Bmem) : State := { s with bmems := Bank.set (fun _ => {}) s.bmems k v }
/-- s with number k of bmems changed. -/
def State.modBmem (s : State) (k : Nat) (f : Bmem → Bmem) : State := s.setBmem k (f (s.bmem k))

/-- What wakeQueue holds at number k. -/
def State.wakes (s : State) (k : Nat) : (List Nat) := Bank.get (fun _ => []) s.wakeQueue k
/-- s with v at number k of wakeQueue. -/
def State.setWakes (s : State) (k : Nat) (v : (List Nat)) : State := { s with wakeQueue := Bank.set (fun _ => []) s.wakeQueue k v }
/-- s with number k of wakeQueue changed. -/
def State.modWakes (s : State) (k : Nat) (f : (List Nat) → (List Nat)) : State := s.setWakes k (f (s.wakes k))

/-- What pans holds at number k. -/
def State.pan (s : State) (k : Nat) : Pan := Bank.get (fun _ => {}) s.pans k
/-- s with v at number k of pans. -/
def State.setPan (s : State) (k : Nat) (v : Pan) : State := { s with pans := Bank.set (fun _ => {}) s.pans k v }
/-- s with number k of pans changed. -/
def State.modPan (s : State) (k : Nat) (f : Pan → Pan) : State := s.setPan k (f (s.pan k))

/-- What loads holds at number k. -/
def State.load (s : State) (k : Nat) : (Option LoadJob) := Bank.get (fun _ => none) s.loads k
/-- s with v at number k of loads. -/
def State.setLoad (s : State) (k : Nat) (v : (Option LoadJob)) : State := { s with loads := Bank.set (fun _ => none) s.loads k v }
/-- s with number k of loads changed. -/
def State.modLoad (s : State) (k : Nat) (f : (Option LoadJob) → (Option LoadJob)) : State := s.setLoad k (f (s.load k))

/-- What lastGrant holds at number k. -/
def State.granted (s : State) (k : Nat) : Nat := Bank.get (fun _ => 0) s.lastGrant k
/-- s with v at number k of lastGrant. -/
def State.setGranted (s : State) (k : Nat) (v : Nat) : State := { s with lastGrant := Bank.set (fun _ => 0) s.lastGrant k v }
/-- s with number k of lastGrant changed. -/
def State.modGranted (s : State) (k : Nat) (f : Nat → Nat) : State := s.setGranted k (f (s.granted k))

/-- What agentResults holds at number k. -/
def State.agentResult (s : State) (k : Nat) : (List (Nat × Nat × Nat)) := Bank.get (fun _ => []) s.agentResults k
/-- s with v at number k of agentResults. -/
def State.setAgentResult (s : State) (k : Nat) (v : (List (Nat × Nat × Nat))) : State := { s with agentResults := Bank.set (fun _ => []) s.agentResults k v }
/-- s with number k of agentResults changed. -/
def State.modAgentResult (s : State) (k : Nat) (f : (List (Nat × Nat × Nat)) → (List (Nat × Nat × Nat))) : State := s.setAgentResult k (f (s.agentResult k))

/-- What logs holds at number k. -/
def State.log (s : State) (k : Nat) : LogHalf := Bank.get (fun _ => {}) s.logs k
/-- s with v at number k of logs. -/
def State.setLog (s : State) (k : Nat) (v : LogHalf) : State := { s with logs := Bank.set (fun _ => {}) s.logs k v }
/-- s with number k of logs changed. -/
def State.modLog (s : State) (k : Nat) (f : LogHalf → LogHalf) : State := s.setLog k (f (s.log k))

/-- What poison holds at number k. -/
def State.poisoned (s : State) (k : Nat) : Bool := Bank.get (fun _ => false) s.poison k
/-- s with v at number k of poison. -/
def State.setPoisoned (s : State) (k : Nat) (v : Bool) : State := { s with poison := Bank.set (fun _ => false) s.poison k v }
/-- s with number k of poison changed. -/
def State.modPoisoned (s : State) (k : Nat) (f : Bool → Bool) : State := s.setPoisoned k (f (s.poisoned k))

/-- What flips holds at number k. -/
def State.flipMask (s : State) (k : Nat) : Nat := Bank.get (fun _ => 0) s.flips k
/-- s with v at number k of flips. -/
def State.setFlipMask (s : State) (k : Nat) (v : Nat) : State := { s with flips := Bank.set (fun _ => 0) s.flips k v }
/-- s with number k of flips changed. -/
def State.modFlipMask (s : State) (k : Nat) (f : Nat → Nat) : State := s.setFlipMask k (f (s.flipMask k))

/-- What scrubbers holds at number k. -/
def State.scrubber (s : State) (k : Nat) : Scrubber := Bank.get (fun _ => {}) s.scrubbers k
/-- s with v at number k of scrubbers. -/
def State.setScrubber (s : State) (k : Nat) (v : Scrubber) : State := { s with scrubbers := Bank.set (fun _ => {}) s.scrubbers k v }
/-- s with number k of scrubbers changed. -/
def State.modScrubber (s : State) (k : Nat) (f : Scrubber → Scrubber) : State := s.setScrubber k (f (s.scrubber k))

/-- What partJobs holds at number k. -/
def State.partJob (s : State) (k : Nat) : (Option PartJob) := Bank.get (fun _ => none) s.partJobs k
/-- s with v at number k of partJobs. -/
def State.setPartJob (s : State) (k : Nat) (v : (Option PartJob)) : State := { s with partJobs := Bank.set (fun _ => none) s.partJobs k v }
/-- s with number k of partJobs changed. -/
def State.modPartJob (s : State) (k : Nat) (f : (Option PartJob) → (Option PartJob)) : State := s.setPartJob k (f (s.partJob k))

/-- What slots holds at number k. -/
def State.slotByte (s : State) (k : Nat) : Byte := Bank.get (fun _ => 0) s.slots k
/-- s with v at number k of slots. -/
def State.setSlotByte (s : State) (k : Nat) (v : Byte) : State := { s with slots := Bank.set (fun _ => 0) s.slots k v }
/-- s with number k of slots changed. -/
def State.modSlotByte (s : State) (k : Nat) (f : Byte → Byte) : State := s.setSlotByte k (f (s.slotByte k))

/-- What restarting holds at number k. -/
def State.isRestarting (s : State) (k : Nat) : Bool := Bank.get (fun _ => false) s.restarting k
/-- s with v at number k of restarting. -/
def State.setIsRestarting (s : State) (k : Nat) (v : Bool) : State := { s with restarting := Bank.set (fun _ => false) s.restarting k v }
/-- s with number k of restarting changed. -/
def State.modIsRestarting (s : State) (k : Nat) (f : Bool → Bool) : State := s.setIsRestarting k (f (s.isRestarting k))

/-- What graphs holds at number k. -/
def State.graph (s : State) (k : Nat) : (Option Graph) := Bank.get (fun _ => none) s.graphs k
/-- s with v at number k of graphs. -/
def State.setGraph (s : State) (k : Nat) (v : (Option Graph)) : State := { s with graphs := Bank.set (fun _ => none) s.graphs k v }
/-- s with number k of graphs changed. -/
def State.modGraph (s : State) (k : Nat) (f : (Option Graph) → (Option Graph)) : State := s.setGraph k (f (s.graph k))

/-- What nodes holds at number k. -/
def State.nodeAt (s : State) (k : Nat) : (Option Node) := Bank.get (fun _ => none) s.nodes k
/-- s with v at number k of nodes. -/
def State.setNodeAt (s : State) (k : Nat) (v : (Option Node)) : State := { s with nodes := Bank.set (fun _ => none) s.nodes k v }
/-- s with number k of nodes changed. -/
def State.modNodeAt (s : State) (k : Nat) (f : (Option Node) → (Option Node)) : State := s.setNodeAt k (f (s.nodeAt k))

/-- What scheds holds at number k. -/
def State.sched (s : State) (k : Nat) : Sched := Bank.get (fun _ => {}) s.scheds k
/-- s with v at number k of scheds. -/
def State.setSched (s : State) (k : Nat) (v : Sched) : State := { s with scheds := Bank.set (fun _ => {}) s.scheds k v }
/-- s with number k of scheds changed. -/
def State.modSched (s : State) (k : Nat) (f : Sched → Sched) : State := s.setSched k (f (s.sched k))

/-- What windows holds at number k. -/
def State.windowByte (s : State) (k : Nat) : Byte := Bank.get (fun _ => 0) s.windows k
/-- s with v at number k of windows. -/
def State.setWindowByte (s : State) (k : Nat) (v : Byte) : State := { s with windows := Bank.set (fun _ => 0) s.windows k v }
/-- s with number k of windows changed. -/
def State.modWindowByte (s : State) (k : Nat) (f : Byte → Byte) : State := s.setWindowByte k (f (s.windowByte k))

/-- What coreSlots holds at number k. -/
def State.coreSlot (s : State) (k : Nat) : Bool := Bank.get (fun _ => false) s.coreSlots k
/-- s with v at number k of coreSlots. -/
def State.setCoreSlot (s : State) (k : Nat) (v : Bool) : State := { s with coreSlots := Bank.set (fun _ => false) s.coreSlots k v }
/-- s with number k of coreSlots changed. -/
def State.modCoreSlot (s : State) (k : Nat) (f : Bool → Bool) : State := s.setCoreSlot k (f (s.coreSlot k))

/-- What rakes holds at number k. -/
def State.rake (s : State) (k : Nat) : Rake := Bank.get (fun _ => {}) s.rakes k
/-- s with v at number k of rakes. -/
def State.setRake (s : State) (k : Nat) (v : Rake) : State := { s with rakes := Bank.set (fun _ => {}) s.rakes k v }
/-- s with number k of rakes changed. -/
def State.modRake (s : State) (k : Nat) (f : Rake → Rake) : State := s.setRake k (f (s.rake k))

/-- What cores holds at number k. -/
def State.core (s : State) (k : Nat) : Core := Bank.get (fun _ => {}) s.cores k
/-- s with v at number k of cores. -/
def State.setCore (s : State) (k : Nat) (v : Core) : State := { s with cores := Bank.set (fun _ => {}) s.cores k v }
/-- s with number k of cores changed. -/
def State.modCore (s : State) (k : Nat) (f : Core → Core) : State := s.setCore k (f (s.core k))

/-- What patches holds at number k. -/
def State.patch (s : State) (k : Nat) : Nat := Bank.get (fun _ => 0) s.patches k
/-- s with v at number k of patches. -/
def State.setPatch (s : State) (k : Nat) (v : Nat) : State := { s with patches := Bank.set (fun _ => 0) s.patches k v }
/-- s with number k of patches changed. -/
def State.modPatch (s : State) (k : Nat) (f : Nat → Nat) : State := s.setPatch k (f (s.patch k))

/-- What patchHashes holds at number k. -/
def State.patchHash (s : State) (k : Nat) : (List Byte) := Bank.get (fun _ => []) s.patchHashes k
/-- s with v at number k of patchHashes. -/
def State.setPatchHash (s : State) (k : Nat) (v : (List Byte)) : State := { s with patchHashes := Bank.set (fun _ => []) s.patchHashes k v }
/-- s with number k of patchHashes changed. -/
def State.modPatchHash (s : State) (k : Nat) (f : (List Byte) → (List Byte)) : State := s.setPatchHash k (f (s.patchHash k))

/-- What slices holds at number k. -/
def State.slice (s : State) (k : Nat) : (Option Slice) := Bank.get (fun _ => none) s.slices k
/-- s with v at number k of slices. -/
def State.setSlice (s : State) (k : Nat) (v : (Option Slice)) : State := { s with slices := Bank.set (fun _ => none) s.slices k v }
/-- s with number k of slices changed. -/
def State.modSlice (s : State) (k : Nat) (f : (Option Slice) → (Option Slice)) : State := s.setSlice k (f (s.slice k))

/-- What sweeps holds at number k. -/
def State.sweep (s : State) (k : Nat) : Sweep := Bank.get (fun _ => {}) s.sweeps k
/-- s with v at number k of sweeps. -/
def State.setSweep (s : State) (k : Nat) (v : Sweep) : State := { s with sweeps := Bank.set (fun _ => {}) s.sweeps k v }
/-- s with number k of sweeps changed. -/
def State.modSweep (s : State) (k : Nat) (f : Sweep → Sweep) : State := s.setSweep k (f (s.sweep k))

/-- What inverted holds at number k. -/
def State.invertedAt (s : State) (k : Nat) : Bool := Bank.get (fun _ => false) s.inverted k
/-- s with v at number k of inverted. -/
def State.setInvertedAt (s : State) (k : Nat) (v : Bool) : State := { s with inverted := Bank.set (fun _ => false) s.inverted k v }
/-- s with number k of inverted changed. -/
def State.modInvertedAt (s : State) (k : Nat) (f : Bool → Bool) : State := s.setInvertedAt k (f (s.invertedAt k))

/-- What agentFrames holds at number k. -/
def State.agentFrame (s : State) (k : Nat) : (List Byte) := Bank.get (fun _ => []) s.agentFrames k
/-- s with v at number k of agentFrames. -/
def State.setAgentFrame (s : State) (k : Nat) (v : (List Byte)) : State := { s with agentFrames := Bank.set (fun _ => []) s.agentFrames k v }
/-- s with number k of agentFrames changed. -/
def State.modAgentFrame (s : State) (k : Nat) (f : (List Byte) → (List Byte)) : State := s.setAgentFrame k (f (s.agentFrame k))

/-- What pads holds at number k. -/
def State.pad (s : State) (k : Nat) : Bool := Bank.get (fun _ => false) s.pads k
/-- s with v at number k of pads. -/
def State.setPad (s : State) (k : Nat) (v : Bool) : State := { s with pads := Bank.set (fun _ => false) s.pads k v }
/-- s with number k of pads changed. -/
def State.modPad (s : State) (k : Nat) (f : Bool → Bool) : State := s.setPad k (f (s.pad k))

/-- What banksDown holds at number k. -/
def State.bankDown (s : State) (k : Nat) : Bool := Bank.get (fun _ => false) s.banksDown k
/-- s with v at number k of banksDown. -/
def State.setBankDown (s : State) (k : Nat) (v : Bool) : State := { s with banksDown := Bank.set (fun _ => false) s.banksDown k v }
/-- s with number k of banksDown changed. -/
def State.modBankDown (s : State) (k : Nat) (f : Bool → Bool) : State := s.setBankDown k (f (s.bankDown k))

/-- What serials holds at number k. -/
def State.serial (s : State) (k : Nat) : Serial := Bank.get (fun _ => {}) s.serials k
/-- s with v at number k of serials. -/
def State.setSerial (s : State) (k : Nat) (v : Serial) : State := { s with serials := Bank.set (fun _ => {}) s.serials k v }
/-- s with number k of serials changed. -/
def State.modSerial (s : State) (k : Nat) (f : Serial → Serial) : State := s.setSerial k (f (s.serial k))

/-- What hostLinks holds at number k. -/
def State.hostLink (s : State) (k : Nat) : HostLink := Bank.get (fun _ => {}) s.hostLinks k
/-- s with v at number k of hostLinks. -/
def State.setHostLink (s : State) (k : Nat) (v : HostLink) : State := { s with hostLinks := Bank.set (fun _ => {}) s.hostLinks k v }
/-- s with number k of hostLinks changed. -/
def State.modHostLink (s : State) (k : Nat) (f : HostLink → HostLink) : State := s.setHostLink k (f (s.hostLink k))

/-- What cohLines holds at number k. -/
def State.cohLine (s : State) (k : Nat) : CohLine := Bank.get (fun _ => {}) s.cohLines k
/-- s with v at number k of cohLines. -/
def State.setCohLine (s : State) (k : Nat) (v : CohLine) : State := { s with cohLines := Bank.set (fun _ => {}) s.cohLines k v }
/-- s with number k of cohLines changed. -/
def State.modCohLine (s : State) (k : Nat) (f : CohLine → CohLine) : State := s.setCohLine k (f (s.cohLine k))

/-- What coreFilter holds at number k. -/
def State.filterMask (s : State) (k : Nat) : Nat := Bank.get (fun _ => 0) s.coreFilter k
/-- s with v at number k of coreFilter. -/
def State.setFilterMask (s : State) (k : Nat) (v : Nat) : State := { s with coreFilter := Bank.set (fun _ => 0) s.coreFilter k v }
/-- s with number k of coreFilter changed. -/
def State.modFilterMask (s : State) (k : Nat) (f : Nat → Nat) : State := s.setFilterMask k (f (s.filterMask k))

/-- What devCache holds at number k. -/
def State.dcLine (s : State) (k : Nat) : (Option DcLine) := Bank.get (fun _ => none) s.devCache k
/-- s with v at number k of devCache. -/
def State.setDcLine (s : State) (k : Nat) (v : (Option DcLine)) : State := { s with devCache := Bank.set (fun _ => none) s.devCache k v }
/-- s with number k of devCache changed. -/
def State.modDcLine (s : State) (k : Nat) (f : (Option DcLine) → (Option DcLine)) : State := s.setDcLine k (f (s.dcLine k))

/-- What deviceBias holds at number k. -/
def State.inDeviceBias (s : State) (k : Nat) : Bool := Bank.get (fun _ => false) s.deviceBias k
/-- s with v at number k of deviceBias. -/
def State.setInDeviceBias (s : State) (k : Nat) (v : Bool) : State := { s with deviceBias := Bank.set (fun _ => false) s.deviceBias k v }
/-- s with number k of deviceBias changed. -/
def State.modInDeviceBias (s : State) (k : Nat) (f : Bool → Bool) : State := s.setInDeviceBias k (f (s.inDeviceBias k))

/-- What biasPend holds at number k. -/
def State.biasLeft (s : State) (k : Nat) : Nat := Bank.get (fun _ => 0) s.biasPend k
/-- s with v at number k of biasPend. -/
def State.setBiasLeft (s : State) (k : Nat) (v : Nat) : State := { s with biasPend := Bank.set (fun _ => 0) s.biasPend k v }
/-- s with number k of biasPend changed. -/
def State.modBiasLeft (s : State) (k : Nat) (f : Nat → Nat) : State := s.setBiasLeft k (f (s.biasLeft k))

/-- What cohs holds at number k. -/
def State.coh (s : State) (k : Nat) : Coh := Bank.get (fun _ => {}) s.cohs k
/-- s with v at number k of cohs. -/
def State.setCoh (s : State) (k : Nat) (v : Coh) : State := { s with cohs := Bank.set (fun _ => {}) s.cohs k v }
/-- s with number k of cohs changed. -/
def State.modCoh (s : State) (k : Nat) (f : Coh → Coh) : State := s.setCoh k (f (s.coh k))

/-- What cswGroups holds at number k. -/
def State.cswGroup (s : State) (k : Nat) : CswGroup := Bank.get (fun _ => {}) s.cswGroups k
/-- s with v at number k of cswGroups. -/
def State.setCswGroup (s : State) (k : Nat) (v : CswGroup) : State := { s with cswGroups := Bank.set (fun _ => {}) s.cswGroups k v }
/-- s with number k of cswGroups changed. -/
def State.modCswGroup (s : State) (k : Nat) (f : CswGroup → CswGroup) : State := s.setCswGroup k (f (s.cswGroup k))

/-- What cswHalves holds at number k. -/
def State.cswHalf (s : State) (k : Nat) : CswHalf := Bank.get (fun _ => {}) s.cswHalves k
/-- s with v at number k of cswHalves. -/
def State.setCswHalf (s : State) (k : Nat) (v : CswHalf) : State := { s with cswHalves := Bank.set (fun _ => {}) s.cswHalves k v }
/-- s with number k of cswHalves changed. -/
def State.modCswHalf (s : State) (k : Nat) (f : CswHalf → CswHalf) : State := s.setCswHalf k (f (s.cswHalf k))

/-- What govs holds at number k. -/
def State.gov (s : State) (k : Nat) : Gov := Bank.get (fun _ => {}) s.govs k
/-- s with v at number k of govs. -/
def State.setGov (s : State) (k : Nat) (v : Gov) : State := { s with govs := Bank.set (fun _ => {}) s.govs k v }
/-- s with number k of govs changed. -/
def State.modGov (s : State) (k : Nat) (f : Gov → Gov) : State := s.setGov k (f (s.gov k))

/-- What filled holds at number k. -/
def State.fillDone (s : State) (k : Nat) : Bool := Bank.get (fun _ => false) s.filled k
/-- s with v at number k of filled. -/
def State.setFillDone (s : State) (k : Nat) (v : Bool) : State := { s with filled := Bank.set (fun _ => false) s.filled k v }
/-- s with number k of filled changed. -/
def State.modFillDone (s : State) (k : Nat) (f : Bool → Bool) : State := s.setFillDone k (f (s.fillDone k))

/-- What harts holds at number k. -/
def State.hart (s : State) (k : Nat) : Hart := Bank.get (fun _ => {}) s.harts k
/-- s with v at number k of harts. -/
def State.setHart (s : State) (k : Nat) (v : Hart) : State := { s with harts := Bank.set (fun _ => {}) s.harts k v }
/-- s with number k of harts changed. -/
def State.modHart (s : State) (k : Nat) (f : Hart → Hart) : State := s.setHart k (f (s.hart k))

end Sys2Proof.Machine
end

