-- ==== Sys2Proof/Machine/Bits.lean ====
section
/-! DEFINITION. Bit fields of words and byte order (R5: little-endian), written over natural numbers. -/

namespace Sys2Proof.Machine

/-- Bits [hi:lo] of the number n. -/
def bitsOf (n hi lo : Nat) : Nat := n / 2 ^ lo % 2 ^ (hi + 1 - lo)

/-- Bit i of the number n. -/
def bitOf (n i : Nat) : Bool := n / 2 ^ i % 2 == 1

/-- n with bits [hi:lo] replaced by the low bits of v. -/
def putBits (n hi lo v : Nat) : Nat :=
  n % 2 ^ lo + v % 2 ^ (hi + 1 - lo) * 2 ^ lo + n / 2 ^ (hi + 1) * 2 ^ (hi + 1)

/-- 1 for true. -/
def bnat (b : Bool) : Nat := if b then 1 else 0

/-- The number a little-endian list of bytes spells (R5). -/
def leNat : List Byte → Nat
  | [] => 0
  | b :: r => b.toNat + 256 * leNat r

/-- The k low bytes of n, least significant first (R5). -/
def leBytes : Nat → Nat → List Byte
  | 0, _ => []
  | k + 1, n => BitVec.ofNat 8 n :: leBytes k (n / 256)

/-- The k low 32-bit words of n, least significant first. -/
def leWords : Nat → Nat → List Word
  | 0, _ => []
  | k + 1, n => BitVec.ofNat 32 n :: leWords k (n / 2 ^ 32)

/-- n read as a two's-complement number of w bits. -/
def sgn (w n : Nat) : Int := if n % 2 ^ w < 2 ^ (w - 1) then n % 2 ^ w else (n % 2 ^ w : Int) - 2 ^ w

/-- The w-bit two's-complement pattern of an integer. -/
def uns (w : Nat) (i : Int) : Nat := (i % (2 ^ w : Int)).toNat

/-- A saturating count: one more, or the maximum (R760). -/
def satInc (max n : Nat) : Nat := if n < max then n + 1 else max

/-- The number of one bits among the low w bits. -/
def popcount : Nat → Nat → Nat
  | 0, _ => 0
  | w + 1, n => n % 2 + popcount w (n / 2)

/-- Even parity over the low w bits: true when their number is odd. -/
def parityOf (w n : Nat) : Bool := popcount w n % 2 == 1

/-- x where l lists an element equal to it by the test, or nothing. -/
def firstIdx {α : Type} (p : α → Bool) : List α → Nat → Option Nat
  | [], _ => none
  | x :: r, i => if p x then some i else firstIdx p r (i + 1)

end Sys2Proof.Machine
end

