-- ==== Sys2Proof/Machine/Regs.lean ====
section
/-! DEFINITION. The registers of the part: each one's address (R7, R25), its fields, their access types (R11) and
reset domains (R15), written out from the register tables of the spec. -/

namespace Sys2Proof.Machine

/-- A field of one register: its register's control address and its bits. -/
structure Fld where
  addr : Nat
  hi : Nat
  lo : Nat
deriving DecidableEq, Repr

/-- The access types of R11 that the register tables use. -/
inductive Acc where
  | rw | ro | w1c | w1s | wo
deriving DecidableEq, Repr

/-- The reset domains of R15 and R16; image is a value that only a pan image sets, fixed a constant. -/
inductive Dom where
  | cold | warm | pan | image | kept | fixed
deriving DecidableEq, Repr

/-- One field of a register table: bits, access, domain, whether its reset value is the loaded image's, and the value. -/
structure RegField where
  hi : Nat
  lo : Nat
  acc : Acc
  dom : Dom
  img : Bool
  rst : Nat
deriving DecidableEq, Repr

/-- One register kind: its first address, the stride and count of each instance number, and its fields. -/
structure RegDef where
  name : String
  base : Nat
  dims : List (Nat × Nat)
  fields : List RegField
deriving DecidableEq, Repr

/-- PAN_STALL_CFG, R77 of spec/02_handshake_fabric.md. -/
abbrev R.PAN_STALL_CFG (n : Nat) : Nat := 0x01000040 + n * 0x10000
/-- PAN_STALL_STATUS, R80 of spec/02_handshake_fabric.md. -/
abbrev R.PAN_STALL_STATUS (n : Nat) : Nat := 0x01000044 + n * 0x10000
/-- CLK_FTREE_CFG, R104 of spec/03_pan_resources.md. -/
abbrev R.CLK_FTREE_CFG (n : Nat) : Nat := 0x00100200 + n * 0x4
/-- PAN_BMEM_POLICY, R122 of spec/03_pan_resources.md. -/
abbrev R.PAN_BMEM_POLICY (n : Nat) : Nat := 0x01000024 + n * 0x10000
/-- PAN_BMEM_ECC_STATUS, R123 of spec/03_pan_resources.md. -/
abbrev R.PAN_BMEM_ECC_STATUS (n : Nat) : Nat := 0x01000028 + n * 0x10000
/-- PAN_BMEM_INJECT, R125 of spec/03_pan_resources.md. -/
abbrev R.PAN_BMEM_INJECT (n : Nat) : Nat := 0x0100002C + n * 0x10000
/-- PAN_ISLAND_STATUS, R127 of spec/03_pan_resources.md. -/
abbrev R.PAN_ISLAND_STATUS (n : Nat) : Nat := 0x01000030 + n * 0x10000
/-- PAN_PWR_CTL, R128 of spec/03_pan_resources.md. -/
abbrev R.PAN_PWR_CTL (n : Nat) : Nat := 0x01000034 + n * 0x10000
/-- PAN_PWR_STATUS, R130 of spec/03_pan_resources.md. -/
abbrev R.PAN_PWR_STATUS (n : Nat) : Nat := 0x01000038 + n * 0x10000
/-- PAN_IMAGE_ID, R131 of spec/03_pan_resources.md. -/
abbrev R.PAN_IMAGE_ID (n : Nat) : Nat := 0x0100003C + n * 0x10000
/-- PAN_QB_CTL, R154 of spec/04_queues_and_crossings.md. -/
abbrev R.PAN_QB_CTL (n : Nat) : Nat := 0x01000010 + n * 0x10000
/-- PAN_QB_STATUS, R156 of spec/04_queues_and_crossings.md. -/
abbrev R.PAN_QB_STATUS (n : Nat) : Nat := 0x01000014 + n * 0x10000
/-- PAN_QB_WINDOW, R157 of spec/04_queues_and_crossings.md. -/
abbrev R.PAN_QB_WINDOW (n : Nat) : Nat := 0x01000018 + n * 0x10000
/-- PAN_RAKE_CTL, R231 of spec/06_rake_sequencer.md. -/
abbrev R.PAN_RAKE_CTL (n : Nat) : Nat := 0x0100001C + n * 0x10000
/-- PAN_RAKE_STATUS, R233 of spec/06_rake_sequencer.md. -/
abbrev R.PAN_RAKE_STATUS (n : Nat) : Nat := 0x01000020 + n * 0x10000
/-- PAN_SLUICE_CTL, R265 of spec/07_sluices_and_reconfiguration.md. -/
abbrev R.PAN_SLUICE_CTL (n : Nat) : Nat := 0x01000000 + n * 0x10000
/-- PAN_SLUICE_STATUS, R266 of spec/07_sluices_and_reconfiguration.md. -/
abbrev R.PAN_SLUICE_STATUS (n : Nat) : Nat := 0x01000004 + n * 0x10000
/-- PAN_SLUICE_DRAIN, R267 of spec/07_sluices_and_reconfiguration.md. -/
abbrev R.PAN_SLUICE_DRAIN (n : Nat) : Nat := 0x01000008 + n * 0x10000
/-- PAN_SLUICE_DISCARD, R268 of spec/07_sluices_and_reconfiguration.md. -/
abbrev R.PAN_SLUICE_DISCARD (n : Nat) : Nat := 0x0100000C + n * 0x10000
/-- SCHED_CTL, R310 of spec/08_dataflow_scheduler.md. -/
abbrev R.SCHED_CTL (h : Nat) : Nat := 0x00800000 + h * 0x80000
/-- SCHED_STATUS, R311 of spec/08_dataflow_scheduler.md. -/
abbrev R.SCHED_STATUS (h : Nat) : Nat := 0x00800004 + h * 0x80000
/-- SCHED_USE, R312 of spec/08_dataflow_scheduler.md. -/
abbrev R.SCHED_USE (h : Nat) : Nat := 0x00800008 + h * 0x80000
/-- SCHED_DRAIN, R313 of spec/08_dataflow_scheduler.md. -/
abbrev R.SCHED_DRAIN (h : Nat) : Nat := 0x0080000C + h * 0x80000
/-- SCHED_CORES, R314 of spec/08_dataflow_scheduler.md. -/
abbrev R.SCHED_CORES (h : Nat) : Nat := 0x00800010 + h * 0x80000
/-- SCHED_PANS, R315 of spec/08_dataflow_scheduler.md. -/
abbrev R.SCHED_PANS (h k : Nat) : Nat := 0x00800020 + h * 0x80000 + k * 0x4
/-- SCHED_COST, R316 of spec/08_dataflow_scheduler.md. -/
abbrev R.SCHED_COST (h : Nat) : Nat := 0x00800030 + h * 0x80000
/-- SCHED_PREEMPT, R317 of spec/08_dataflow_scheduler.md. -/
abbrev R.SCHED_PREEMPT (h : Nat) : Nat := 0x00800034 + h * 0x80000
/-- SCHED_COUNTS, R318 of spec/08_dataflow_scheduler.md. -/
abbrev R.SCHED_COUNTS (h : Nat) : Nat := 0x00800038 + h * 0x80000
/-- SCHED_INJECT, R319 of spec/08_dataflow_scheduler.md. -/
abbrev R.SCHED_INJECT (h : Nat) : Nat := 0x0080003C + h * 0x80000
/-- SCHED_BRK, R320 of spec/08_dataflow_scheduler.md. -/
abbrev R.SCHED_BRK (h : Nat) : Nat := 0x00800040 + h * 0x80000
/-- TCORE_CTL, R354 of spec/09_tender_cores.md. -/
abbrev R.TCORE_CTL (n : Nat) : Nat := 0x00C00000 + n * 0x100
/-- TCORE_RESET_VEC, R353 of spec/09_tender_cores.md. -/
abbrev R.TCORE_RESET_VEC (n k : Nat) : Nat := 0x00C00004 + n * 0x100 + k * 0x4
/-- TCORE_STATUS, R355 of spec/09_tender_cores.md. -/
abbrev R.TCORE_STATUS (n : Nat) : Nat := 0x00C0000C + n * 0x100
/-- TCORE_IRQ, R356 of spec/09_tender_cores.md. -/
abbrev R.TCORE_IRQ (n : Nat) : Nat := 0x00C00010 + n * 0x100
/-- TCORE_MSIP, R356 of spec/09_tender_cores.md. -/
abbrev R.TCORE_MSIP (n : Nat) : Nat := 0x00C00014 + n * 0x100
/-- TCORE_MTIMECMP, R353 of spec/09_tender_cores.md. -/
abbrev R.TCORE_MTIMECMP (n k : Nat) : Nat := 0x00C00018 + n * 0x100 + k * 0x4
/-- TCORE_COP_BIND, R357 of spec/09_tender_cores.md. -/
abbrev R.TCORE_COP_BIND (n : Nat) : Nat := 0x00C00020 + n * 0x100
/-- TCORE_COP_CFG, R358 of spec/09_tender_cores.md. -/
abbrev R.TCORE_COP_CFG (n : Nat) : Nat := 0x00C00024 + n * 0x100
/-- TCORE_COP_DRAIN, R358 of spec/09_tender_cores.md. -/
abbrev R.TCORE_COP_DRAIN (n : Nat) : Nat := 0x00C00028 + n * 0x100
/-- TCORE_COP_STATUS, R359 of spec/09_tender_cores.md. -/
abbrev R.TCORE_COP_STATUS (n : Nat) : Nat := 0x00C0002C + n * 0x100
/-- TCORE_INJECT, R360 of spec/09_tender_cores.md. -/
abbrev R.TCORE_INJECT (n : Nat) : Nat := 0x00C00030 + n * 0x100
/-- MEM_LAG_PART, R384 of spec/10_lagoon_and_hbm.md. -/
abbrev R.MEM_LAG_PART (h : Nat) : Nat := 0x00B00000 + h * 0x10000
/-- MEM_HBM_STATUS, R385 of spec/10_lagoon_and_hbm.md. -/
abbrev R.MEM_HBM_STATUS (h : Nat) : Nat := 0x00B00004 + h * 0x10000
/-- MEM_DRAIN, R384 of spec/10_lagoon_and_hbm.md. -/
abbrev R.MEM_DRAIN (h : Nat) : Nat := 0x00B00008 + h * 0x10000
/-- MEM_ECC_STATUS, R386 of spec/10_lagoon_and_hbm.md. -/
abbrev R.MEM_ECC_STATUS (h : Nat) : Nat := 0x00B0000C + h * 0x10000
/-- MEM_ECC_ADDR, R386 of spec/10_lagoon_and_hbm.md. -/
abbrev R.MEM_ECC_ADDR (h : Nat) : Nat := 0x00B00010 + h * 0x10000
/-- MEM_SCRUB_LAG, R387 of spec/10_lagoon_and_hbm.md. -/
abbrev R.MEM_SCRUB_LAG (h : Nat) : Nat := 0x00B00014 + h * 0x10000
/-- MEM_SCRUB_HBM, R387 of spec/10_lagoon_and_hbm.md. -/
abbrev R.MEM_SCRUB_HBM (h : Nat) : Nat := 0x00B00018 + h * 0x10000
/-- MEM_SCRUB_STATUS, R388 of spec/10_lagoon_and_hbm.md. -/
abbrev R.MEM_SCRUB_STATUS (h : Nat) : Nat := 0x00B0001C + h * 0x10000
/-- MEM_INJECT, R389 of spec/10_lagoon_and_hbm.md. -/
abbrev R.MEM_INJECT (h : Nat) : Nat := 0x00B00020 + h * 0x10000
/-- MEM_INJ_ADDR, R389 of spec/10_lagoon_and_hbm.md. -/
abbrev R.MEM_INJ_ADDR (h : Nat) : Nat := 0x00B00024 + h * 0x10000
/-- PORT_CTL, R427 of spec/11_coherent_ports.md. -/
abbrev R.PORT_CTL (n : Nat) : Nat := 0x00900000 + n * 0x40000
/-- PORT_DRAIN, R428 of spec/11_coherent_ports.md. -/
abbrev R.PORT_DRAIN (n : Nat) : Nat := 0x00900004 + n * 0x40000
/-- PORT_INJECT, R429 of spec/11_coherent_ports.md. -/
abbrev R.PORT_INJECT (n : Nat) : Nat := 0x00900008 + n * 0x40000
/-- LINK_STATUS, R430 of spec/11_coherent_ports.md. -/
abbrev R.LINK_STATUS (n k : Nat) : Nat := 0x00900010 + n * 0x40000 + k * 0x4
/-- LINK_ERRCNT, R431 of spec/11_coherent_ports.md. -/
abbrev R.LINK_ERRCNT (n k : Nat) : Nat := 0x00900020 + n * 0x40000 + k * 0x4
/-- LINK_FEC, R431 of spec/11_coherent_ports.md. -/
abbrev R.LINK_FEC (n k : Nat) : Nat := 0x00900030 + n * 0x40000 + k * 0x4
/-- PORT_ROUTE, R432 of spec/11_coherent_ports.md. -/
abbrev R.PORT_ROUTE (h : Nat) : Nat := 0x00900100 + h * 0x80000
/-- MBX_SUBMIT, R433 of spec/11_coherent_ports.md. -/
abbrev R.MBX_SUBMIT (n k : Nat) : Nat := 0x00911000 + n * 0x40000 + k * 0x2000
/-- MBX_BUSY, R433 of spec/11_coherent_ports.md. -/
abbrev R.MBX_BUSY (n k : Nat) : Nat := 0x00911004 + n * 0x40000 + k * 0x2000
/-- MBX_DONE, R433 of spec/11_coherent_ports.md. -/
abbrev R.MBX_DONE (n k : Nat) : Nat := 0x00911008 + n * 0x40000 + k * 0x2000
/-- MBX_CTL, R434 of spec/11_coherent_ports.md. -/
abbrev R.MBX_CTL (n k : Nat) : Nat := 0x0091100C + n * 0x40000 + k * 0x2000
/-- MBX_EVENT, R434 of spec/11_coherent_ports.md. -/
abbrev R.MBX_EVENT (n k : Nat) : Nat := 0x00911010 + n * 0x40000 + k * 0x2000
/-- MBX_STATUS, R434 of spec/11_coherent_ports.md. -/
abbrev R.MBX_STATUS (n k : Nat) : Nat := 0x00911014 + n * 0x40000 + k * 0x2000
/-- COH_STATUS, R467 of spec/12_coherence_engine.md. -/
abbrev R.COH_STATUS (h : Nat) : Nat := 0x00A00000 + h * 0x80000
/-- COH_TABLE_TAG, R468 of spec/12_coherence_engine.md. -/
abbrev R.COH_TABLE_TAG (h : Nat) : Nat := 0x00A00004 + h * 0x80000
/-- COH_DIR, R469 of spec/12_coherence_engine.md. -/
abbrev R.COH_DIR (h : Nat) : Nat := 0x00A00008 + h * 0x80000
/-- COH_DRAIN, R469 of spec/12_coherence_engine.md. -/
abbrev R.COH_DRAIN (h : Nat) : Nat := 0x00A0000C + h * 0x80000
/-- COH_EVICTS, R470 of spec/12_coherence_engine.md. -/
abbrev R.COH_EVICTS (h : Nat) : Nat := 0x00A00010 + h * 0x80000
/-- COH_FLIPS, R470 of spec/12_coherence_engine.md. -/
abbrev R.COH_FLIPS (h : Nat) : Nat := 0x00A00014 + h * 0x80000
/-- COH_INJECT, R471 of spec/12_coherence_engine.md. -/
abbrev R.COH_INJECT (h : Nat) : Nat := 0x00A00018 + h * 0x80000
/-- COH_MISS, R468 of spec/12_coherence_engine.md. -/
abbrev R.COH_MISS (h : Nat) : Nat := 0x00A0001C + h * 0x80000
/-- CSW_CTL, R491 of spec/13_causeway_and_split.md. -/
abbrev R.CSW_CTL (h : Nat) : Nat := 0x00700000 + h * 0x100000000
/-- CSW_STATUS, R492 of spec/13_causeway_and_split.md. -/
abbrev R.CSW_STATUS (h : Nat) : Nat := 0x00700004 + h * 0x100000000
/-- CSW_GROUP_STATUS, R493 of spec/13_causeway_and_split.md. -/
abbrev R.CSW_GROUP_STATUS (h k : Nat) : Nat := 0x00700010 + h * 0x100000000 + k * 0x4
/-- CSW_LAND, R494 of spec/13_causeway_and_split.md. -/
abbrev R.CSW_LAND (h k : Nat) : Nat := 0x00700020 + h * 0x100000000 + k * 0x4
/-- CSW_DRAIN, R494 of spec/13_causeway_and_split.md. -/
abbrev R.CSW_DRAIN (h : Nat) : Nat := 0x00700028 + h * 0x100000000
/-- CSW_INJECT, R495 of spec/13_causeway_and_split.md. -/
abbrev R.CSW_INJECT (h : Nat) : Nat := 0x00700030 + h * 0x100000000
/-- CFG_STATUS, R558 of spec/15_configuration_loading.md. -/
abbrev R.CFG_STATUS : Nat := 0x00600000
/-- CFG_FAIL_FRAME, R559 of spec/15_configuration_loading.md. -/
abbrev R.CFG_FAIL_FRAME : Nat := 0x00600004
/-- CFG_FAIL_PAN, R559 of spec/15_configuration_loading.md. -/
abbrev R.CFG_FAIL_PAN : Nat := 0x00600008
/-- CFG_BYTES, R560 of spec/15_configuration_loading.md. -/
abbrev R.CFG_BYTES (h : Nat) : Nat := 0x0060000C + h * 0x4
/-- CFG_IMAGE_TAG, R560 of spec/15_configuration_loading.md. -/
abbrev R.CFG_IMAGE_TAG : Nat := 0x00600014
/-- SEC_STATUS, R595 of spec/16_security_module.md. -/
abbrev R.SEC_STATUS : Nat := 0x00500000
/-- SEC_KEYS, R596 of spec/16_security_module.md. -/
abbrev R.SEC_KEYS : Nat := 0x00500004
/-- SEC_TAMPER_CFG, R597 of spec/16_security_module.md. -/
abbrev R.SEC_TAMPER_CFG : Nat := 0x00500008
/-- SEC_TAMPER_LATCH, R597 of spec/16_security_module.md. -/
abbrev R.SEC_TAMPER_LATCH : Nat := 0x0050000C
/-- SEC_TAMPER_TIME, R598 of spec/16_security_module.md. -/
abbrev R.SEC_TAMPER_TIME (h : Nat) : Nat := 0x00500010 + h * 0x4
/-- SEC_COUNTS, R598 of spec/16_security_module.md. -/
abbrev R.SEC_COUNTS : Nat := 0x00500018
/-- GOV_CTL, R625 of spec/17_governor.md. -/
abbrev R.GOV_CTL (h : Nat) : Nat := 0x00200000 + h * 0x80000
/-- GOV_STATUS, R625 of spec/17_governor.md. -/
abbrev R.GOV_STATUS (h : Nat) : Nat := 0x00200004 + h * 0x80000
/-- GOV_CAP, R626 of spec/17_governor.md. -/
abbrev R.GOV_CAP (h : Nat) : Nat := 0x00200008 + h * 0x80000
/-- GOV_POWER, R626 of spec/17_governor.md. -/
abbrev R.GOV_POWER (h : Nat) : Nat := 0x0020000C + h * 0x80000
/-- GOV_FIXED, R627 of spec/17_governor.md. -/
abbrev R.GOV_FIXED (h : Nat) : Nat := 0x00200010 + h * 0x80000
/-- GOV_TARGET, R627 of spec/17_governor.md. -/
abbrev R.GOV_TARGET (h : Nat) : Nat := 0x00200014 + h * 0x80000
/-- GOV_LIMITS, R628 of spec/17_governor.md. -/
abbrev R.GOV_LIMITS (h : Nat) : Nat := 0x00200018 + h * 0x80000
/-- GOV_MODEL, R628 of spec/17_governor.md. -/
abbrev R.GOV_MODEL (h : Nat) : Nat := 0x0020001C + h * 0x80000
/-- GOV_COOL, R628 of spec/17_governor.md. -/
abbrev R.GOV_COOL (h : Nat) : Nat := 0x00200020 + h * 0x80000
/-- GOV_DRAIN, R627 of spec/17_governor.md. -/
abbrev R.GOV_DRAIN (h : Nat) : Nat := 0x00200024 + h * 0x80000
/-- GOV_INJECT, R633 of spec/17_governor.md. -/
abbrev R.GOV_INJECT (h : Nat) : Nat := 0x00200028 + h * 0x80000
/-- GOV_ADC, R629 of spec/17_governor.md. -/
abbrev R.GOV_ADC (h k : Nat) : Nat := 0x00200040 + h * 0x80000 + k * 0x4
/-- GOV_TSENSE, R629 of spec/17_governor.md. -/
abbrev R.GOV_TSENSE (h k : Nat) : Nat := 0x00200100 + h * 0x80000 + k * 0x4
/-- GOV_AIN_CAL, R630 of spec/17_governor.md. -/
abbrev R.GOV_AIN_CAL (h k : Nat) : Nat := 0x00200200 + h * 0x80000 + k * 0x4
/-- GOV_AIN_CFG, R630 of spec/17_governor.md. -/
abbrev R.GOV_AIN_CFG (h k : Nat) : Nat := 0x00200220 + h * 0x80000 + k * 0x4
/-- GOV_AIN_VAL, R630 of spec/17_governor.md. -/
abbrev R.GOV_AIN_VAL (h k : Nat) : Nat := 0x00200240 + h * 0x80000 + k * 0x4
/-- GOV_FAN, R631 of spec/17_governor.md. -/
abbrev R.GOV_FAN (h k : Nat) : Nat := 0x00200260 + h * 0x80000 + k * 0x4
/-- GOV_REG_CFG, R632 of spec/17_governor.md. -/
abbrev R.GOV_REG_CFG (h k : Nat) : Nat := 0x00200280 + h * 0x80000 + k * 0x4
/-- GOV_REG_STATUS, R632 of spec/17_governor.md. -/
abbrev R.GOV_REG_STATUS (h k : Nat) : Nat := 0x002002A0 + h * 0x80000 + k * 0x4
/-- GOV_RATE, R629 of spec/17_governor.md. -/
abbrev R.GOV_RATE (h k : Nat) : Nat := 0x00200400 + h * 0x80000 + k * 0x4
/-- PIN_CFG, R636 of spec/18_pins.md. -/
abbrev R.PIN_CFG (n : Nat) : Nat := 0x00300000 + n * 0x4
/-- PIN_BANK_SET, R656 of spec/18_pins.md. -/
abbrev R.PIN_BANK_SET (n : Nat) : Nat := 0x00300800 + n * 0x20
/-- PIN_BANK_CLR, R656 of spec/18_pins.md. -/
abbrev R.PIN_BANK_CLR (n : Nat) : Nat := 0x00300804 + n * 0x20
/-- PIN_BANK_TGL, R656 of spec/18_pins.md. -/
abbrev R.PIN_BANK_TGL (n : Nat) : Nat := 0x00300808 + n * 0x20
/-- PIN_BANK_LAT, R656 of spec/18_pins.md. -/
abbrev R.PIN_BANK_LAT (n : Nat) : Nat := 0x0030080C + n * 0x20
/-- PIN_BANK_IN, R656 of spec/18_pins.md. -/
abbrev R.PIN_BANK_IN (n : Nat) : Nat := 0x00300810 + n * 0x20
/-- PIN_BANK_CTL, R656 of spec/18_pins.md. -/
abbrev R.PIN_BANK_CTL (n : Nat) : Nat := 0x00300814 + n * 0x20
/-- PIN_IRQ_CFG, R657 of spec/18_pins.md. -/
abbrev R.PIN_IRQ_CFG (n : Nat) : Nat := 0x00300A00 + n * 0x4
/-- PIN_IRQ_STATUS, R657 of spec/18_pins.md. -/
abbrev R.PIN_IRQ_STATUS : Nat := 0x00300A80
/-- PIN_IRQ_ACTIVE, R657 of spec/18_pins.md. -/
abbrev R.PIN_IRQ_ACTIVE : Nat := 0x00300A84
/-- PIN_CONFLICT, R658 of spec/18_pins.md. -/
abbrev R.PIN_CONFLICT (h : Nat) : Nat := 0x00300A90 + h * 0x4
/-- PIN_INJECT, R658 of spec/18_pins.md. -/
abbrev R.PIN_INJECT : Nat := 0x00300AA0
/-- ERR_STATUS, R690 of spec/19_errors_log_time.md. -/
abbrev R.ERR_STATUS (h : Nat) : Nat := 0x00400000 + h * 0x10000
/-- ERR_EN, R691 of spec/19_errors_log_time.md. -/
abbrev R.ERR_EN (h : Nat) : Nat := 0x00400004 + h * 0x10000
/-- ERR_LOST, R691 of spec/19_errors_log_time.md. -/
abbrev R.ERR_LOST (h : Nat) : Nat := 0x00400008 + h * 0x10000
/-- ERR_LOG, R691 of spec/19_errors_log_time.md. -/
abbrev R.ERR_LOG (h : Nat) : Nat := 0x0040000C + h * 0x10000
/-- ERR_NEXT_SEQ, R691 of spec/19_errors_log_time.md. -/
abbrev R.ERR_NEXT_SEQ (h k : Nat) : Nat := 0x00400010 + h * 0x10000 + k * 0x4
/-- ERR_INJECT, R692 of spec/19_errors_log_time.md. -/
abbrev R.ERR_INJECT (h : Nat) : Nat := 0x00400018 + h * 0x10000
/-- ERR_INJ_WORD, R692 of spec/19_errors_log_time.md. -/
abbrev R.ERR_INJ_WORD (h : Nat) : Nat := 0x0040001C + h * 0x10000
/-- ERR_INJ_CTX, R692 of spec/19_errors_log_time.md. -/
abbrev R.ERR_INJ_CTX (h : Nat) : Nat := 0x00400020 + h * 0x10000
/-- ERR_LR, R689 of spec/19_errors_log_time.md. -/
abbrev R.ERR_LR (h k : Nat) : Nat := 0x00400100 + h * 0x10000 + k * 0x4
/-- RTC_STATUS, R693 of spec/19_errors_log_time.md. -/
abbrev R.RTC_STATUS : Nat := 0x00480000
/-- RTC_DATE, R693 of spec/19_errors_log_time.md. -/
abbrev R.RTC_DATE : Nat := 0x00480004
/-- RTC_TIME, R693 of spec/19_errors_log_time.md. -/
abbrev R.RTC_TIME : Nat := 0x00480008
/-- RTC_SECONDS, R693 of spec/19_errors_log_time.md. -/
abbrev R.RTC_SECONDS (h : Nat) : Nat := 0x0048000C + h * 0x4
/-- ST_CTL, R704 of spec/20_self_test.md. -/
abbrev R.ST_CTL (h : Nat) : Nat := 0x00D00000 + h * 0x10000
/-- ST_STATUS, R704 of spec/20_self_test.md. -/
abbrev R.ST_STATUS (h : Nat) : Nat := 0x00D00004 + h * 0x10000
/-- ST_COUNTS, R705 of spec/20_self_test.md. -/
abbrev R.ST_COUNTS (h : Nat) : Nat := 0x00D00008 + h * 0x10000
/-- ST_LAST, R705 of spec/20_self_test.md. -/
abbrev R.ST_LAST (h : Nat) : Nat := 0x00D0000C + h * 0x10000
/-- ST_INJECT, R706 of spec/20_self_test.md. -/
abbrev R.ST_INJECT (h : Nat) : Nat := 0x00D00010 + h * 0x10000
/-- RST_CTL, R721 of spec/21_clocks_reset_startup.md. -/
abbrev R.RST_CTL : Nat := 0x00100000
/-- RST_STATUS, R721 of spec/21_clocks_reset_startup.md. -/
abbrev R.RST_STATUS : Nat := 0x00100004
/-- CLK_STATUS, R722 of spec/21_clocks_reset_startup.md. -/
abbrev R.CLK_STATUS : Nat := 0x00100008
/-- DBG_STATUS, R741 of spec/22_debug_port.md. -/
abbrev R.DBG_STATUS : Nat := 0x00E01000
/-- DBG_TRACE_CTL, R741 of spec/22_debug_port.md. -/
abbrev R.DBG_TRACE_CTL : Nat := 0x00E01004
/-- DBG_RAKE_CTL, R742 of spec/22_debug_port.md. -/
abbrev R.DBG_RAKE_CTL : Nat := 0x00E01010
/-- DBG_RAKE_BP, R742 of spec/22_debug_port.md. -/
abbrev R.DBG_RAKE_BP : Nat := 0x00E01014
/-- DBG_RAKE_STATUS, R742 of spec/22_debug_port.md. -/
abbrev R.DBG_RAKE_STATUS : Nat := 0x00E01018

abbrev F.PAN_STALL_CFG_ESCALATE (n : Nat) : Fld := ⟨R.PAN_STALL_CFG n, 31, 31⟩
abbrev F.PAN_STALL_CFG_INJECT (n : Nat) : Fld := ⟨R.PAN_STALL_CFG n, 30, 30⟩
abbrev F.PAN_STALL_CFG_INJ_POINT (n : Nat) : Fld := ⟨R.PAN_STALL_CFG n, 29, 21⟩
abbrev F.PAN_STALL_CFG_THRESH_US (n : Nat) : Fld := ⟨R.PAN_STALL_CFG n, 19, 0⟩
abbrev F.PAN_STALL_STATUS_STALLED (n : Nat) : Fld := ⟨R.PAN_STALL_STATUS n, 31, 31⟩
abbrev F.PAN_STALL_STATUS_PHASE (n : Nat) : Fld := ⟨R.PAN_STALL_STATUS n, 30, 28⟩
abbrev F.PAN_STALL_STATUS_EPI_SAT (n : Nat) : Fld := ⟨R.PAN_STALL_STATUS n, 27, 27⟩
abbrev F.PAN_STALL_STATUS_FIRST_POINT (n : Nat) : Fld := ⟨R.PAN_STALL_STATUS n, 26, 18⟩
abbrev F.PAN_STALL_STATUS_INJ_REFUSED (n : Nat) : Fld := ⟨R.PAN_STALL_STATUS n, 17, 17⟩
abbrev F.PAN_STALL_STATUS_EPISODES (n : Nat) : Fld := ⟨R.PAN_STALL_STATUS n, 15, 0⟩
abbrev F.CLK_FTREE_CFG_EN (n : Nat) : Fld := ⟨R.CLK_FTREE_CFG n, 31, 31⟩
abbrev F.CLK_FTREE_CFG_SRC (n : Nat) : Fld := ⟨R.CLK_FTREE_CFG n, 30, 30⟩
abbrev F.CLK_FTREE_CFG_RUNNING (n : Nat) : Fld := ⟨R.CLK_FTREE_CFG n, 29, 29⟩
abbrev F.CLK_FTREE_CFG_SRC_BAD (n : Nat) : Fld := ⟨R.CLK_FTREE_CFG n, 28, 28⟩
abbrev F.CLK_FTREE_CFG_DIV (n : Nat) : Fld := ⟨R.CLK_FTREE_CFG n, 7, 0⟩
abbrev F.PAN_BMEM_POLICY_B_WINS (n : Nat) : Fld := ⟨R.PAN_BMEM_POLICY n, 31, 0⟩
abbrev F.PAN_BMEM_ECC_STATUS_UE (n : Nat) : Fld := ⟨R.PAN_BMEM_ECC_STATUS n, 31, 31⟩
abbrev F.PAN_BMEM_ECC_STATUS_CE (n : Nat) : Fld := ⟨R.PAN_BMEM_ECC_STATUS n, 30, 30⟩
abbrev F.PAN_BMEM_ECC_STATUS_SCRUB_FAULT (n : Nat) : Fld := ⟨R.PAN_BMEM_ECC_STATUS n, 29, 29⟩
abbrev F.PAN_BMEM_ECC_STATUS_MEM (n : Nat) : Fld := ⟨R.PAN_BMEM_ECC_STATUS n, 27, 23⟩
abbrev F.PAN_BMEM_ECC_STATUS_ADDR (n : Nat) : Fld := ⟨R.PAN_BMEM_ECC_STATUS n, 22, 10⟩
abbrev F.PAN_BMEM_ECC_STATUS_SRC (n : Nat) : Fld := ⟨R.PAN_BMEM_ECC_STATUS n, 9, 8⟩
abbrev F.PAN_BMEM_ECC_STATUS_CE_COUNT (n : Nat) : Fld := ⟨R.PAN_BMEM_ECC_STATUS n, 7, 0⟩
abbrev F.PAN_BMEM_INJECT_INJECT (n : Nat) : Fld := ⟨R.PAN_BMEM_INJECT n, 31, 31⟩
abbrev F.PAN_BMEM_INJECT_DOUBLE (n : Nat) : Fld := ⟨R.PAN_BMEM_INJECT n, 30, 30⟩
abbrev F.PAN_BMEM_INJECT_MEM (n : Nat) : Fld := ⟨R.PAN_BMEM_INJECT n, 29, 25⟩
abbrev F.PAN_BMEM_INJECT_INJ_REFUSED (n : Nat) : Fld := ⟨R.PAN_BMEM_INJECT n, 24, 24⟩
abbrev F.PAN_BMEM_INJECT_ADDR (n : Nat) : Fld := ⟨R.PAN_BMEM_INJECT n, 23, 11⟩
abbrev F.PAN_BMEM_INJECT_BIT (n : Nat) : Fld := ⟨R.PAN_BMEM_INJECT n, 6, 0⟩
abbrev F.PAN_ISLAND_STATUS_LATE (n : Nat) : Fld := ⟨R.PAN_ISLAND_STATUS n, 31, 31⟩
abbrev F.PAN_ISLAND_STATUS_LATE_SAT (n : Nat) : Fld := ⟨R.PAN_ISLAND_STATUS n, 30, 30⟩
abbrev F.PAN_ISLAND_STATUS_TREE (n : Nat) : Fld := ⟨R.PAN_ISLAND_STATUS n, 29, 26⟩
abbrev F.PAN_ISLAND_STATUS_TAP (n : Nat) : Fld := ⟨R.PAN_ISLAND_STATUS n, 25, 20⟩
abbrev F.PAN_ISLAND_STATUS_FLOOR (n : Nat) : Fld := ⟨R.PAN_ISLAND_STATUS n, 19, 12⟩
abbrev F.PAN_ISLAND_STATUS_LATE_COUNT (n : Nat) : Fld := ⟨R.PAN_ISLAND_STATUS n, 11, 0⟩
abbrev F.PAN_PWR_CTL_GATE (n : Nat) : Fld := ⟨R.PAN_PWR_CTL n, 31, 31⟩
abbrev F.PAN_PWR_CTL_UNGATE (n : Nat) : Fld := ⟨R.PAN_PWR_CTL n, 30, 30⟩
abbrev F.PAN_PWR_CTL_AUTO (n : Nat) : Fld := ⟨R.PAN_PWR_CTL n, 29, 29⟩
abbrev F.PAN_PWR_CTL_HOLD_US (n : Nat) : Fld := ⟨R.PAN_PWR_CTL n, 19, 0⟩
abbrev F.PAN_PWR_STATUS_STATE (n : Nat) : Fld := ⟨R.PAN_PWR_STATUS n, 31, 30⟩
abbrev F.PAN_PWR_STATUS_REFUSED (n : Nat) : Fld := ⟨R.PAN_PWR_STATUS n, 29, 29⟩
abbrev F.PAN_PWR_STATUS_CAUSE (n : Nat) : Fld := ⟨R.PAN_PWR_STATUS n, 28, 26⟩
abbrev F.PAN_PWR_STATUS_GATE_COUNT (n : Nat) : Fld := ⟨R.PAN_PWR_STATUS n, 15, 0⟩
abbrev F.PAN_IMAGE_ID_VALID (n : Nat) : Fld := ⟨R.PAN_IMAGE_ID n, 31, 31⟩
abbrev F.PAN_IMAGE_ID_FROM_DIR (n : Nat) : Fld := ⟨R.PAN_IMAGE_ID n, 30, 30⟩
abbrev F.PAN_IMAGE_ID_SLOT (n : Nat) : Fld := ⟨R.PAN_IMAGE_ID n, 25, 16⟩
abbrev F.PAN_IMAGE_ID_TAG (n : Nat) : Fld := ⟨R.PAN_IMAGE_ID n, 15, 0⟩
abbrev F.PAN_QB_CTL_FLUSH (n q : Nat) : Fld := ⟨R.PAN_QB_CTL n, 8 * q + 7, 8 * q + 7⟩
abbrev F.PAN_QB_CTL_FLUSH_HI (n q : Nat) : Fld := ⟨R.PAN_QB_CTL n, 8 * q + 6, 8 * q + 6⟩
abbrev F.PAN_QB_CTL_FLUSH_LO (n q : Nat) : Fld := ⟨R.PAN_QB_CTL n, 8 * q + 5, 8 * q + 5⟩
abbrev F.PAN_QB_CTL_GUARD (n q : Nat) : Fld := ⟨R.PAN_QB_CTL n, 8 * q + 4, 8 * q + 4⟩
abbrev F.PAN_QB_CTL_MODE (n q : Nat) : Fld := ⟨R.PAN_QB_CTL n, 8 * q + 3, 8 * q + 3⟩
abbrev F.PAN_QB_CTL_WIDTH (n q : Nat) : Fld := ⟨R.PAN_QB_CTL n, 8 * q + 2, 8 * q + 1⟩
abbrev F.PAN_QB_CTL_DIR (n q : Nat) : Fld := ⟨R.PAN_QB_CTL n, 8 * q + 0, 8 * q + 0⟩
abbrev F.PAN_QB_STATUS_EMPTY (n q : Nat) : Fld := ⟨R.PAN_QB_STATUS n, 8 * q + 7, 8 * q + 7⟩
abbrev F.PAN_QB_STATUS_FULL (n q : Nat) : Fld := ⟨R.PAN_QB_STATUS n, 8 * q + 6, 8 * q + 6⟩
abbrev F.PAN_QB_STATUS_UNDERRUN (n q : Nat) : Fld := ⟨R.PAN_QB_STATUS n, 8 * q + 5, 8 * q + 5⟩
abbrev F.PAN_QB_STATUS_OVERRUN (n q : Nat) : Fld := ⟨R.PAN_QB_STATUS n, 8 * q + 4, 8 * q + 4⟩
abbrev F.PAN_QB_STATUS_SAT (n q : Nat) : Fld := ⟨R.PAN_QB_STATUS n, 8 * q + 3, 8 * q + 3⟩
abbrev F.PAN_QB_STATUS_DISCARD (n q : Nat) : Fld := ⟨R.PAN_QB_STATUS n, 8 * q + 2, 8 * q + 2⟩
abbrev F.PAN_QB_STATUS_SYNC (n q : Nat) : Fld := ⟨R.PAN_QB_STATUS n, 8 * q + 1, 8 * q + 1⟩
abbrev F.PAN_QB_STATUS_SERVICE (n q : Nat) : Fld := ⟨R.PAN_QB_STATUS n, 8 * q + 0, 8 * q + 0⟩
abbrev F.PAN_QB_WINDOW_KIND (n q : Nat) : Fld := ⟨R.PAN_QB_WINDOW n, 8 * q + 7, 8 * q + 5⟩
abbrev F.PAN_QB_WINDOW_INDEX (n q : Nat) : Fld := ⟨R.PAN_QB_WINDOW n, 8 * q + 3, 8 * q + 0⟩
abbrev F.PAN_RAKE_CTL_RUN (n : Nat) : Fld := ⟨R.PAN_RAKE_CTL n, 31, 16⟩
abbrev F.PAN_RAKE_CTL_INJECT (n : Nat) : Fld := ⟨R.PAN_RAKE_CTL n, 15, 15⟩
abbrev F.PAN_RAKE_CTL_INJ_RAKE (n : Nat) : Fld := ⟨R.PAN_RAKE_CTL n, 14, 11⟩
abbrev F.PAN_RAKE_CTL_INJ_KIND (n : Nat) : Fld := ⟨R.PAN_RAKE_CTL n, 10, 8⟩
abbrev F.PAN_RAKE_CTL_INJ_REFUSED (n : Nat) : Fld := ⟨R.PAN_RAKE_CTL n, 7, 7⟩
abbrev F.PAN_RAKE_STATUS_EXC (n : Nat) : Fld := ⟨R.PAN_RAKE_STATUS n, 31, 16⟩
abbrev F.PAN_RAKE_STATUS_ACTIVE (n : Nat) : Fld := ⟨R.PAN_RAKE_STATUS n, 15, 0⟩
abbrev F.PAN_SLUICE_CTL_OPEN (n : Nat) : Fld := ⟨R.PAN_SLUICE_CTL n, 31, 31⟩
abbrev F.PAN_SLUICE_CTL_DISCARD (n : Nat) : Fld := ⟨R.PAN_SLUICE_CTL n, 30, 30⟩
abbrev F.PAN_SLUICE_CTL_DEBUG (n : Nat) : Fld := ⟨R.PAN_SLUICE_CTL n, 29, 29⟩
abbrev F.PAN_SLUICE_CTL_STEP (n : Nat) : Fld := ⟨R.PAN_SLUICE_CTL n, 28, 28⟩
abbrev F.PAN_SLUICE_CTL_STEP_SIDE (n : Nat) : Fld := ⟨R.PAN_SLUICE_CTL n, 27, 26⟩
abbrev F.PAN_SLUICE_CTL_STEP_LANE (n : Nat) : Fld := ⟨R.PAN_SLUICE_CTL n, 25, 20⟩
abbrev F.PAN_SLUICE_STATUS_STATE (n : Nat) : Fld := ⟨R.PAN_SLUICE_STATUS n, 31, 29⟩
abbrev F.PAN_SLUICE_STATUS_HOLD_DEBUG (n : Nat) : Fld := ⟨R.PAN_SLUICE_STATUS n, 28, 28⟩
abbrev F.PAN_SLUICE_STATUS_HOLD_TEST (n : Nat) : Fld := ⟨R.PAN_SLUICE_STATUS n, 27, 27⟩
abbrev F.PAN_SLUICE_STATUS_HOLD_THERMAL (n : Nat) : Fld := ⟨R.PAN_SLUICE_STATUS n, 26, 26⟩
abbrev F.PAN_SLUICE_STATUS_DISC_ON (n : Nat) : Fld := ⟨R.PAN_SLUICE_STATUS n, 25, 25⟩
abbrev F.PAN_SLUICE_STATUS_LOADER (n : Nat) : Fld := ⟨R.PAN_SLUICE_STATUS n, 24, 23⟩
abbrev F.PAN_SLUICE_STATUS_STEP_REFUSED (n : Nat) : Fld := ⟨R.PAN_SLUICE_STATUS n, 22, 22⟩
abbrev F.PAN_SLUICE_STATUS_LOAD_FAIL (n : Nat) : Fld := ⟨R.PAN_SLUICE_STATUS n, 21, 21⟩
abbrev F.PAN_SLUICE_STATUS_FAIL_CAUSE (n : Nat) : Fld := ⟨R.PAN_SLUICE_STATUS n, 20, 16⟩
abbrev F.PAN_SLUICE_STATUS_GEN (n : Nat) : Fld := ⟨R.PAN_SLUICE_STATUS n, 15, 0⟩
abbrev F.PAN_SLUICE_DRAIN_DRAIN_US (n : Nat) : Fld := ⟨R.PAN_SLUICE_DRAIN n, 19, 0⟩
abbrev F.PAN_SLUICE_DISCARD_SAT (n : Nat) : Fld := ⟨R.PAN_SLUICE_DISCARD n, 31, 31⟩
abbrev F.PAN_SLUICE_DISCARD_TOKENS (n : Nat) : Fld := ⟨R.PAN_SLUICE_DISCARD n, 23, 8⟩
abbrev F.PAN_SLUICE_DISCARD_REFUSED (n : Nat) : Fld := ⟨R.PAN_SLUICE_DISCARD n, 7, 0⟩
abbrev F.SCHED_CTL_EN (h : Nat) : Fld := ⟨R.SCHED_CTL h, 31, 31⟩
abbrev F.SCHED_CTL_HALT (h : Nat) : Fld := ⟨R.SCHED_CTL h, 30, 30⟩
abbrev F.SCHED_CTL_STEP (h : Nat) : Fld := ⟨R.SCHED_CTL h, 29, 29⟩
abbrev F.SCHED_CTL_TEST_PRIO (h : Nat) : Fld := ⟨R.SCHED_CTL h, 28, 26⟩
abbrev F.SCHED_STATUS_BRK_HIT (h : Nat) : Fld := ⟨R.SCHED_STATUS h, 31, 31⟩
abbrev F.SCHED_STATUS_FAULT (h : Nat) : Fld := ⟨R.SCHED_STATUS h, 30, 30⟩
abbrev F.SCHED_STATUS_STRAY (h : Nat) : Fld := ⟨R.SCHED_STATUS h, 29, 29⟩
abbrev F.SCHED_STATUS_EXCESS (h : Nat) : Fld := ⟨R.SCHED_STATUS h, 28, 28⟩
abbrev F.SCHED_STATUS_LOADING (h : Nat) : Fld := ⟨R.SCHED_STATUS h, 27, 27⟩
abbrev F.SCHED_STATUS_INFLIGHT (h : Nat) : Fld := ⟨R.SCHED_STATUS h, 8, 0⟩
abbrev F.SCHED_USE_NODES (h : Nat) : Fld := ⟨R.SCHED_USE h, 31, 16⟩
abbrev F.SCHED_USE_READY (h : Nat) : Fld := ⟨R.SCHED_USE h, 12, 0⟩
abbrev F.SCHED_DRAIN_DRAIN_US (h : Nat) : Fld := ⟨R.SCHED_DRAIN h, 19, 0⟩
abbrev F.SCHED_CORES_MANAGED (h : Nat) : Fld := ⟨R.SCHED_CORES h, 7, 0⟩
abbrev F.SCHED_PANS_MANAGED (h k : Nat) : Fld := ⟨R.SCHED_PANS h k, 31, 0⟩
abbrev F.SCHED_COST_EVICT_US (h : Nat) : Fld := ⟨R.SCHED_COST h, 15, 0⟩
abbrev F.SCHED_PREEMPT_LIMIT_US (h : Nat) : Fld := ⟨R.SCHED_PREEMPT h, 15, 0⟩
abbrev F.SCHED_COUNTS_CLR (h : Nat) : Fld := ⟨R.SCHED_COUNTS h, 31, 31⟩
abbrev F.SCHED_COUNTS_READY_WAITS (h : Nat) : Fld := ⟨R.SCHED_COUNTS h, 30, 19⟩
abbrev F.SCHED_COUNTS_DISPATCH_WAITS (h : Nat) : Fld := ⟨R.SCHED_COUNTS h, 18, 7⟩
abbrev F.SCHED_COUNTS_NOTES_DROPPED (h : Nat) : Fld := ⟨R.SCHED_COUNTS h, 6, 0⟩
abbrev F.SCHED_INJECT_INJECT (h : Nat) : Fld := ⟨R.SCHED_INJECT h, 31, 31⟩
abbrev F.SCHED_INJECT_INJ_KIND (h : Nat) : Fld := ⟨R.SCHED_INJECT h, 30, 28⟩
abbrev F.SCHED_INJECT_INJ_REFUSED (h : Nat) : Fld := ⟨R.SCHED_INJECT h, 27, 27⟩
abbrev F.SCHED_BRK_EN (h : Nat) : Fld := ⟨R.SCHED_BRK h, 31, 31⟩
abbrev F.SCHED_BRK_GRAPH (h : Nat) : Fld := ⟨R.SCHED_BRK h, 23, 16⟩
abbrev F.SCHED_BRK_NODE (h : Nat) : Fld := ⟨R.SCHED_BRK h, 15, 0⟩
abbrev F.TCORE_CTL_RUN (n : Nat) : Fld := ⟨R.TCORE_CTL n, 31, 31⟩
abbrev F.TCORE_CTL_WFI (n : Nat) : Fld := ⟨R.TCORE_CTL n, 30, 30⟩
abbrev F.TCORE_CTL_HALTED (n : Nat) : Fld := ⟨R.TCORE_CTL n, 29, 29⟩
abbrev F.TCORE_RESET_VEC_VEC (n k : Nat) : Fld := ⟨R.TCORE_RESET_VEC n k, 31, 0⟩
abbrev F.TCORE_STATUS_PIN_DENIED (n : Nat) : Fld := ⟨R.TCORE_STATUS n, 31, 31⟩
abbrev F.TCORE_STATUS_UE (n : Nat) : Fld := ⟨R.TCORE_STATUS n, 30, 30⟩
abbrev F.TCORE_STATUS_CE (n : Nat) : Fld := ⟨R.TCORE_STATUS n, 29, 29⟩
abbrev F.TCORE_STATUS_CE_COUNT (n : Nat) : Fld := ⟨R.TCORE_STATUS n, 7, 0⟩
abbrev F.TCORE_IRQ_LINES (n : Nat) : Fld := ⟨R.TCORE_IRQ n, 4, 0⟩
abbrev F.TCORE_MSIP_MSIP (n : Nat) : Fld := ⟨R.TCORE_MSIP n, 0, 0⟩
abbrev F.TCORE_MTIMECMP_CMP (n k : Nat) : Fld := ⟨R.TCORE_MTIMECMP n k, 31, 0⟩
abbrev F.TCORE_COP_BIND_EN (n : Nat) : Fld := ⟨R.TCORE_COP_BIND n, 31, 31⟩
abbrev F.TCORE_COP_BIND_REQ_Q (n : Nat) : Fld := ⟨R.TCORE_COP_BIND n, 27, 26⟩
abbrev F.TCORE_COP_BIND_RSP_Q (n : Nat) : Fld := ⟨R.TCORE_COP_BIND n, 25, 24⟩
abbrev F.TCORE_COP_BIND_PAN (n : Nat) : Fld := ⟨R.TCORE_COP_BIND n, 23, 16⟩
abbrev F.TCORE_COP_BIND_GEN (n : Nat) : Fld := ⟨R.TCORE_COP_BIND n, 15, 0⟩
abbrev F.TCORE_COP_CFG_TIMEOUT_US (n : Nat) : Fld := ⟨R.TCORE_COP_CFG n, 19, 0⟩
abbrev F.TCORE_COP_DRAIN_DRAIN_US (n : Nat) : Fld := ⟨R.TCORE_COP_DRAIN n, 19, 0⟩
abbrev F.TCORE_COP_STATUS_STATE (n : Nat) : Fld := ⟨R.TCORE_COP_STATUS n, 31, 29⟩
abbrev F.TCORE_COP_STATUS_EVENT (n : Nat) : Fld := ⟨R.TCORE_COP_STATUS n, 28, 28⟩
abbrev F.TCORE_COP_STATUS_STRAY (n : Nat) : Fld := ⟨R.TCORE_COP_STATUS n, 27, 27⟩
abbrev F.TCORE_COP_STATUS_OUTSTANDING (n : Nat) : Fld := ⟨R.TCORE_COP_STATUS n, 19, 16⟩
abbrev F.TCORE_COP_STATUS_STRAY_COUNT (n : Nat) : Fld := ⟨R.TCORE_COP_STATUS n, 15, 8⟩
abbrev F.TCORE_COP_STATUS_LAST_DETAIL (n : Nat) : Fld := ⟨R.TCORE_COP_STATUS n, 7, 0⟩
abbrev F.TCORE_INJECT_INJECT (n : Nat) : Fld := ⟨R.TCORE_INJECT n, 31, 31⟩
abbrev F.TCORE_INJECT_TARGET (n : Nat) : Fld := ⟨R.TCORE_INJECT n, 30, 29⟩
abbrev F.TCORE_INJECT_DOUBLE (n : Nat) : Fld := ⟨R.TCORE_INJECT n, 28, 28⟩
abbrev F.TCORE_INJECT_INJ_REFUSED (n : Nat) : Fld := ⟨R.TCORE_INJECT n, 27, 27⟩
abbrev F.MEM_LAG_PART_TOKEN (h : Nat) : Fld := ⟨R.MEM_LAG_PART h, 19, 15⟩
abbrev F.MEM_LAG_PART_DIR (h : Nat) : Fld := ⟨R.MEM_LAG_PART h, 14, 10⟩
abbrev F.MEM_LAG_PART_CACHE (h : Nat) : Fld := ⟨R.MEM_LAG_PART h, 9, 5⟩
abbrev F.MEM_LAG_PART_SCRATCH (h : Nat) : Fld := ⟨R.MEM_LAG_PART h, 4, 0⟩
abbrev F.MEM_HBM_STATUS_STATE (h : Nat) : Fld := ⟨R.MEM_HBM_STATUS h, 31, 30⟩
abbrev F.MEM_HBM_STATUS_ILV (h : Nat) : Fld := ⟨R.MEM_HBM_STATUS h, 29, 29⟩
abbrev F.MEM_HBM_STATUS_TEMP (h : Nat) : Fld := ⟨R.MEM_HBM_STATUS h, 7, 0⟩
abbrev F.MEM_DRAIN_DRAIN_US (h : Nat) : Fld := ⟨R.MEM_DRAIN h, 19, 0⟩
abbrev F.MEM_ECC_STATUS_UE (h : Nat) : Fld := ⟨R.MEM_ECC_STATUS h, 31, 31⟩
abbrev F.MEM_ECC_STATUS_CE (h : Nat) : Fld := ⟨R.MEM_ECC_STATUS h, 30, 30⟩
abbrev F.MEM_ECC_STATUS_MEM_SEL (h : Nat) : Fld := ⟨R.MEM_ECC_STATUS h, 29, 29⟩
abbrev F.MEM_ECC_STATUS_SRC (h : Nat) : Fld := ⟨R.MEM_ECC_STATUS h, 28, 28⟩
abbrev F.MEM_ECC_STATUS_CE_COUNT (h : Nat) : Fld := ⟨R.MEM_ECC_STATUS h, 15, 0⟩
abbrev F.MEM_ECC_ADDR_WORD (h : Nat) : Fld := ⟨R.MEM_ECC_ADDR h, 31, 0⟩
abbrev F.MEM_SCRUB_LAG_PAR (h : Nat) : Fld := ⟨R.MEM_SCRUB_LAG h, 31, 31⟩
abbrev F.MEM_SCRUB_LAG_EN (h : Nat) : Fld := ⟨R.MEM_SCRUB_LAG h, 30, 30⟩
abbrev F.MEM_SCRUB_LAG_RESTART (h : Nat) : Fld := ⟨R.MEM_SCRUB_LAG h, 29, 29⟩
abbrev F.MEM_SCRUB_LAG_INTERVAL (h : Nat) : Fld := ⟨R.MEM_SCRUB_LAG h, 15, 0⟩
abbrev F.MEM_SCRUB_HBM_PAR (h : Nat) : Fld := ⟨R.MEM_SCRUB_HBM h, 31, 31⟩
abbrev F.MEM_SCRUB_HBM_EN (h : Nat) : Fld := ⟨R.MEM_SCRUB_HBM h, 30, 30⟩
abbrev F.MEM_SCRUB_HBM_RESTART (h : Nat) : Fld := ⟨R.MEM_SCRUB_HBM h, 29, 29⟩
abbrev F.MEM_SCRUB_HBM_INTERVAL (h : Nat) : Fld := ⟨R.MEM_SCRUB_HBM h, 15, 0⟩
abbrev F.MEM_SCRUB_STATUS_L_HALT (h : Nat) : Fld := ⟨R.MEM_SCRUB_STATUS h, 31, 31⟩
abbrev F.MEM_SCRUB_STATUS_L_CAUSE (h : Nat) : Fld := ⟨R.MEM_SCRUB_STATUS h, 30, 29⟩
abbrev F.MEM_SCRUB_STATUS_H_HALT (h : Nat) : Fld := ⟨R.MEM_SCRUB_STATUS h, 28, 28⟩
abbrev F.MEM_SCRUB_STATUS_H_CAUSE (h : Nat) : Fld := ⟨R.MEM_SCRUB_STATUS h, 27, 26⟩
abbrev F.MEM_SCRUB_STATUS_L_PASSES (h : Nat) : Fld := ⟨R.MEM_SCRUB_STATUS h, 15, 8⟩
abbrev F.MEM_SCRUB_STATUS_H_PASSES (h : Nat) : Fld := ⟨R.MEM_SCRUB_STATUS h, 7, 0⟩
abbrev F.MEM_INJECT_INJECT (h : Nat) : Fld := ⟨R.MEM_INJECT h, 31, 31⟩
abbrev F.MEM_INJECT_INJ_KIND (h : Nat) : Fld := ⟨R.MEM_INJECT h, 30, 29⟩
abbrev F.MEM_INJECT_TARGET (h : Nat) : Fld := ⟨R.MEM_INJECT h, 28, 28⟩
abbrev F.MEM_INJECT_INJ_REFUSED (h : Nat) : Fld := ⟨R.MEM_INJECT h, 27, 27⟩
abbrev F.MEM_INJECT_BIT (h : Nat) : Fld := ⟨R.MEM_INJECT h, 6, 0⟩
abbrev F.MEM_INJ_ADDR_WORD (h : Nat) : Fld := ⟨R.MEM_INJ_ADDR h, 31, 0⟩
abbrev F.PORT_CTL_EN (n : Nat) : Fld := ⟨R.PORT_CTL n, 31, 31⟩
abbrev F.PORT_CTL_PERS (n : Nat) : Fld := ⟨R.PORT_CTL n, 30, 29⟩
abbrev F.PORT_CTL_BIFUR (n : Nat) : Fld := ⟨R.PORT_CTL n, 28, 27⟩
abbrev F.PORT_CTL_MAXRATE (n : Nat) : Fld := ⟨R.PORT_CTL n, 26, 24⟩
abbrev F.PORT_DRAIN_DRAIN_US (n : Nat) : Fld := ⟨R.PORT_DRAIN n, 19, 0⟩
abbrev F.PORT_INJECT_INJECT (n : Nat) : Fld := ⟨R.PORT_INJECT n, 31, 31⟩
abbrev F.PORT_INJECT_INJ_KIND (n : Nat) : Fld := ⟨R.PORT_INJECT n, 30, 28⟩
abbrev F.PORT_INJECT_INJ_LINK (n : Nat) : Fld := ⟨R.PORT_INJECT n, 27, 26⟩
abbrev F.PORT_INJECT_INJ_REFUSED (n : Nat) : Fld := ⟨R.PORT_INJECT n, 25, 25⟩
abbrev F.LINK_STATUS_STATE (n k : Nat) : Fld := ⟨R.LINK_STATUS n k, 31, 29⟩
abbrev F.LINK_STATUS_RATE (n k : Nat) : Fld := ⟨R.LINK_STATUS n k, 28, 26⟩
abbrev F.LINK_STATUS_WIDTH (n k : Nat) : Fld := ⟨R.LINK_STATUS n k, 25, 21⟩
abbrev F.LINK_STATUS_FRAMING (n k : Nat) : Fld := ⟨R.LINK_STATUS n k, 20, 19⟩
abbrev F.LINK_STATUS_CXL (n k : Nat) : Fld := ⟨R.LINK_STATUS n k, 18, 18⟩
abbrev F.LINK_STATUS_DEGRADED (n k : Nat) : Fld := ⟨R.LINK_STATUS n k, 17, 17⟩
abbrev F.LINK_STATUS_FENCED (n k : Nat) : Fld := ⟨R.LINK_STATUS n k, 16, 16⟩
abbrev F.LINK_STATUS_IDE_SECURE (n k : Nat) : Fld := ⟨R.LINK_STATUS n k, 15, 15⟩
abbrev F.LINK_ERRCNT_CLR (n k : Nat) : Fld := ⟨R.LINK_ERRCNT n k, 31, 31⟩
abbrev F.LINK_ERRCNT_RETRAIN (n k : Nat) : Fld := ⟨R.LINK_ERRCNT n k, 23, 16⟩
abbrev F.LINK_ERRCNT_CRC (n k : Nat) : Fld := ⟨R.LINK_ERRCNT n k, 15, 0⟩
abbrev F.LINK_FEC_COUNT (n k : Nat) : Fld := ⟨R.LINK_FEC n k, 31, 0⟩
abbrev F.PORT_ROUTE_EN (h : Nat) : Fld := ⟨R.PORT_ROUTE h, 31, 31⟩
abbrev F.PORT_ROUTE_PORT (h : Nat) : Fld := ⟨R.PORT_ROUTE h, 3, 2⟩
abbrev F.PORT_ROUTE_LINK (h : Nat) : Fld := ⟨R.PORT_ROUTE h, 1, 0⟩
abbrev F.MBX_SUBMIT_SLOT (n k : Nat) : Fld := ⟨R.MBX_SUBMIT n k, 5, 0⟩
abbrev F.MBX_BUSY_BUSY (n k : Nat) : Fld := ⟨R.MBX_BUSY n k, 31, 0⟩
abbrev F.MBX_DONE_DONE (n k : Nat) : Fld := ⟨R.MBX_DONE n k, 31, 0⟩
abbrev F.MBX_CTL_IRQ_EN (n k : Nat) : Fld := ⟨R.MBX_CTL n k, 31, 31⟩
abbrev F.MBX_CTL_EVT_VDM (n k : Nat) : Fld := ⟨R.MBX_CTL n k, 30, 30⟩
abbrev F.MBX_CTL_EVT_VEC (n k : Nat) : Fld := ⟨R.MBX_CTL n k, 11, 6⟩
abbrev F.MBX_CTL_DONE_VEC (n k : Nat) : Fld := ⟨R.MBX_CTL n k, 5, 0⟩
abbrev F.MBX_EVENT_FENCE (n k : Nat) : Fld := ⟨R.MBX_EVENT n k, 5, 5⟩
abbrev F.MBX_EVENT_SPLIT (n k : Nat) : Fld := ⟨R.MBX_EVENT n k, 4, 4⟩
abbrev F.MBX_EVENT_MGMT_RESTART (n k : Nat) : Fld := ⟨R.MBX_EVENT n k, 3, 3⟩
abbrev F.MBX_EVENT_FATAL (n k : Nat) : Fld := ⟨R.MBX_EVENT n k, 2, 2⟩
abbrev F.MBX_EVENT_LOG (n k : Nat) : Fld := ⟨R.MBX_EVENT n k, 1, 1⟩
abbrev F.MBX_EVENT_THERMAL (n k : Nat) : Fld := ⟨R.MBX_EVENT n k, 0, 0⟩
abbrev F.MBX_STATUS_SUBMIT_REFUSED (n k : Nat) : Fld := ⟨R.MBX_STATUS n k, 31, 31⟩
abbrev F.MBX_STATUS_WRITE_REFUSED (n k : Nat) : Fld := ⟨R.MBX_STATUS n k, 30, 30⟩
abbrev F.MBX_STATUS_INFLIGHT (n k : Nat) : Fld := ⟨R.MBX_STATUS n k, 5, 0⟩
abbrev F.COH_STATUS_LAB (h : Nat) : Fld := ⟨R.COH_STATUS h, 31, 31⟩
abbrev F.COH_STATUS_LOADING (h : Nat) : Fld := ⟨R.COH_STATUS h, 30, 30⟩
abbrev F.COH_STATUS_RULE_MISS (h : Nat) : Fld := ⟨R.COH_STATUS h, 29, 29⟩
abbrev F.COH_STATUS_FLUSH_LOSS (h : Nat) : Fld := ⟨R.COH_STATUS h, 28, 28⟩
abbrev F.COH_STATUS_LOADS (h : Nat) : Fld := ⟨R.COH_STATUS h, 15, 0⟩
abbrev F.COH_TABLE_TAG_TAG (h : Nat) : Fld := ⟨R.COH_TABLE_TAG h, 31, 0⟩
abbrev F.COH_DIR_BIAS (h : Nat) : Fld := ⟨R.COH_DIR h, 31, 31⟩
abbrev F.COH_DIR_USED (h : Nat) : Fld := ⟨R.COH_DIR h, 20, 0⟩
abbrev F.COH_DRAIN_DRAIN_US (h : Nat) : Fld := ⟨R.COH_DRAIN h, 19, 0⟩
abbrev F.COH_EVICTS_CLR (h : Nat) : Fld := ⟨R.COH_EVICTS h, 31, 31⟩
abbrev F.COH_EVICTS_DIR_EVICT (h : Nat) : Fld := ⟨R.COH_EVICTS h, 30, 16⟩
abbrev F.COH_EVICTS_FILTER_EVICT (h : Nat) : Fld := ⟨R.COH_EVICTS h, 14, 0⟩
abbrev F.COH_FLIPS_CLR (h : Nat) : Fld := ⟨R.COH_FLIPS h, 31, 31⟩
abbrev F.COH_FLIPS_FLIPS (h : Nat) : Fld := ⟨R.COH_FLIPS h, 15, 0⟩
abbrev F.COH_INJECT_INJECT (h : Nat) : Fld := ⟨R.COH_INJECT h, 31, 31⟩
abbrev F.COH_INJECT_INJ_KIND (h : Nat) : Fld := ⟨R.COH_INJECT h, 30, 29⟩
abbrev F.COH_INJECT_INJ_REFUSED (h : Nat) : Fld := ⟨R.COH_INJECT h, 28, 28⟩
abbrev F.COH_MISS_INDEX (h : Nat) : Fld := ⟨R.COH_MISS h, 31, 22⟩
abbrev F.CSW_CTL_POLICY (h : Nat) : Fld := ⟨R.CSW_CTL h, 31, 31⟩
abbrev F.CSW_CTL_AUTO_REJOIN (h : Nat) : Fld := ⟨R.CSW_CTL h, 30, 30⟩
abbrev F.CSW_CTL_XHOME_BLOCK (h : Nat) : Fld := ⟨R.CSW_CTL h, 29, 29⟩
abbrev F.CSW_CTL_REJOIN (h : Nat) : Fld := ⟨R.CSW_CTL h, 28, 28⟩
abbrev F.CSW_CTL_RETIRE (h : Nat) : Fld := ⟨R.CSW_CTL h, 27, 27⟩
abbrev F.CSW_CTL_RESTORE (h : Nat) : Fld := ⟨R.CSW_CTL h, 26, 26⟩
abbrev F.CSW_CTL_RET_GROUP (h : Nat) : Fld := ⟨R.CSW_CTL h, 25, 24⟩
abbrev F.CSW_STATUS_STATE (h : Nat) : Fld := ⟨R.CSW_STATUS h, 31, 29⟩
abbrev F.CSW_STATUS_REJOIN_READY (h : Nat) : Fld := ⟨R.CSW_STATUS h, 28, 28⟩
abbrev F.CSW_STATUS_HB_OK (h : Nat) : Fld := ⟨R.CSW_STATUS h, 27, 27⟩
abbrev F.CSW_STATUS_BOTH_OK (h : Nat) : Fld := ⟨R.CSW_STATUS h, 26, 26⟩
abbrev F.CSW_STATUS_XDEP (h : Nat) : Fld := ⟨R.CSW_STATUS h, 25, 21⟩
abbrev F.CSW_STATUS_UP (h : Nat) : Fld := ⟨R.CSW_STATUS h, 19, 16⟩
abbrev F.CSW_STATUS_CUTS (h : Nat) : Fld := ⟨R.CSW_STATUS h, 15, 0⟩
abbrev F.CSW_GROUP_STATUS_STATE (h k : Nat) : Fld := ⟨R.CSW_GROUP_STATUS h k, 31, 30⟩
abbrev F.CSW_GROUP_STATUS_CAUSE (h k : Nat) : Fld := ⟨R.CSW_GROUP_STATUS h k, 29, 28⟩
abbrev F.CSW_GROUP_STATUS_RETRAIN (h k : Nat) : Fld := ⟨R.CSW_GROUP_STATUS h k, 27, 16⟩
abbrev F.CSW_GROUP_STATUS_CRC (h k : Nat) : Fld := ⟨R.CSW_GROUP_STATUS h k, 15, 0⟩
abbrev F.CSW_LAND_CLR (h k : Nat) : Fld := ⟨R.CSW_LAND h k, 31, 31⟩
abbrev F.CSW_LAND_HIGH (h k : Nat) : Fld := ⟨R.CSW_LAND h k, 13, 7⟩
abbrev F.CSW_LAND_USED (h k : Nat) : Fld := ⟨R.CSW_LAND h k, 6, 0⟩
abbrev F.CSW_DRAIN_DRAIN_US (h : Nat) : Fld := ⟨R.CSW_DRAIN h, 19, 0⟩
abbrev F.CSW_INJECT_INJECT (h : Nat) : Fld := ⟨R.CSW_INJECT h, 31, 31⟩
abbrev F.CSW_INJECT_INJ_KIND (h : Nat) : Fld := ⟨R.CSW_INJECT h, 30, 29⟩
abbrev F.CSW_INJECT_INJ_GROUP (h : Nat) : Fld := ⟨R.CSW_INJECT h, 28, 27⟩
abbrev F.CSW_INJECT_INJ_REFUSED (h : Nat) : Fld := ⟨R.CSW_INJECT h, 26, 26⟩
abbrev F.CFG_STATUS_STATE : Fld := ⟨R.CFG_STATUS, 31, 28⟩
abbrev F.CFG_STATUS_CAUSE : Fld := ⟨R.CFG_STATUS, 27, 22⟩
abbrev F.CFG_STATUS_MODE : Fld := ⟨R.CFG_STATUS, 21, 19⟩
abbrev F.CFG_STATUS_ENCRYPTED : Fld := ⟨R.CFG_STATUS, 18, 18⟩
abbrev F.CFG_STATUS_SIGNED : Fld := ⟨R.CFG_STATUS, 17, 17⟩
abbrev F.CFG_STATUS_DONE_IN : Fld := ⟨R.CFG_STATUS, 16, 16⟩
abbrev F.CFG_STATUS_PANS : Fld := ⟨R.CFG_STATUS, 8, 0⟩
abbrev F.CFG_FAIL_FRAME_INDEX : Fld := ⟨R.CFG_FAIL_FRAME, 31, 0⟩
abbrev F.CFG_FAIL_PAN_VALID : Fld := ⟨R.CFG_FAIL_PAN, 31, 31⟩
abbrev F.CFG_FAIL_PAN_PAN : Fld := ⟨R.CFG_FAIL_PAN, 12, 5⟩
abbrev F.CFG_FAIL_PAN_PAN_CAUSE : Fld := ⟨R.CFG_FAIL_PAN, 4, 0⟩
abbrev F.CFG_BYTES_COUNT (h : Nat) : Fld := ⟨R.CFG_BYTES h, 31, 0⟩
abbrev F.CFG_IMAGE_TAG_TAG : Fld := ⟨R.CFG_IMAGE_TAG, 31, 0⟩
abbrev F.SEC_STATUS_STATE : Fld := ⟨R.SEC_STATUS, 31, 30⟩
abbrev F.SEC_STATUS_APPROVED : Fld := ⟨R.SEC_STATUS, 29, 29⟩
abbrev F.SEC_STATUS_LEAVE_PENDING : Fld := ⟨R.SEC_STATUS, 28, 28⟩
abbrev F.SEC_STATUS_FORCED : Fld := ⟨R.SEC_STATUS, 27, 27⟩
abbrev F.SEC_STATUS_DBG_GRANTED : Fld := ⟨R.SEC_STATUS, 26, 26⟩
abbrev F.SEC_STATUS_DBG_SCOPE : Fld := ⟨R.SEC_STATUS, 25, 23⟩
abbrev F.SEC_STATUS_LATCHED : Fld := ⟨R.SEC_STATUS, 22, 22⟩
abbrev F.SEC_STATUS_ERR_CAUSE : Fld := ⟨R.SEC_STATUS, 21, 18⟩
abbrev F.SEC_STATUS_UNSIGNED_PANS : Fld := ⟨R.SEC_STATUS, 17, 9⟩
abbrev F.SEC_STATUS_SESSIONS : Fld := ⟨R.SEC_STATUS, 8, 4⟩
abbrev F.SEC_KEYS_BBRAM_HOLDS : Fld := ⟨R.SEC_KEYS, 15, 15⟩
abbrev F.SEC_KEYS_CTRL : Fld := ⟨R.SEC_KEYS, 9, 0⟩
abbrev F.SEC_TAMPER_CFG_FILTER : Fld := ⟨R.SEC_TAMPER_CFG, 13, 12⟩
abbrev F.SEC_TAMPER_CFG_POL : Fld := ⟨R.SEC_TAMPER_CFG, 11, 8⟩
abbrev F.SEC_TAMPER_CFG_EN : Fld := ⟨R.SEC_TAMPER_CFG, 6, 0⟩
abbrev F.SEC_TAMPER_LATCH_COUNT : Fld := ⟨R.SEC_TAMPER_LATCH, 23, 16⟩
abbrev F.SEC_TAMPER_LATCH_LATCH : Fld := ⟨R.SEC_TAMPER_LATCH, 7, 0⟩
abbrev F.SEC_TAMPER_TIME_SECONDS (h : Nat) : Fld := ⟨R.SEC_TAMPER_TIME h, 31, 0⟩
abbrev F.SEC_COUNTS_ZCOUNT : Fld := ⟨R.SEC_COUNTS, 31, 16⟩
abbrev F.SEC_COUNTS_DBG_FAILS : Fld := ⟨R.SEC_COUNTS, 3, 0⟩
abbrev F.GOV_CTL_PROFILE (h : Nat) : Fld := ⟨R.GOV_CTL h, 31, 29⟩
abbrev F.GOV_CTL_AUTO_CLEAR (h : Nat) : Fld := ⟨R.GOV_CTL h, 28, 28⟩
abbrev F.GOV_STATUS_VFAB_MV (h : Nat) : Fld := ⟨R.GOV_STATUS h, 31, 22⟩
abbrev F.GOV_STATUS_STOP (h : Nat) : Fld := ⟨R.GOV_STATUS h, 21, 21⟩
abbrev F.GOV_STATUS_AT_CAP (h : Nat) : Fld := ⟨R.GOV_STATUS h, 20, 20⟩
abbrev F.GOV_STATUS_PUMP_LOSS (h : Nat) : Fld := ⟨R.GOV_STATUS h, 19, 19⟩
abbrev F.GOV_STATUS_STOP_CAUSE (h : Nat) : Fld := ⟨R.GOV_STATUS h, 18, 16⟩
abbrev F.GOV_STATUS_SLICES (h : Nat) : Fld := ⟨R.GOV_STATUS h, 15, 13⟩
abbrev F.GOV_STATUS_LIMITER (h : Nat) : Fld := ⟨R.GOV_STATUS h, 12, 10⟩
abbrev F.GOV_STATUS_FLOOR_MV (h : Nat) : Fld := ⟨R.GOV_STATUS h, 9, 0⟩
abbrev F.GOV_CAP_CAP_W (h : Nat) : Fld := ⟨R.GOV_CAP h, 31, 23⟩
abbrev F.GOV_CAP_SHARE_W (h : Nat) : Fld := ⟨R.GOV_CAP h, 22, 14⟩
abbrev F.GOV_CAP_SLICE_W (h : Nat) : Fld := ⟨R.GOV_CAP h, 13, 8⟩
abbrev F.GOV_CAP_OTHER_W (h : Nat) : Fld := ⟨R.GOV_CAP h, 7, 0⟩
abbrev F.GOV_POWER_POWER_DW (h : Nat) : Fld := ⟨R.GOV_POWER h, 31, 16⟩
abbrev F.GOV_POWER_TJ (h : Nat) : Fld := ⟨R.GOV_POWER h, 15, 0⟩
abbrev F.GOV_FIXED_VFAB_MV (h : Nat) : Fld := ⟨R.GOV_FIXED h, 31, 22⟩
abbrev F.GOV_FIXED_DUTY (h : Nat) : Fld := ⟨R.GOV_FIXED h, 21, 15⟩
abbrev F.GOV_TARGET_RATE (h : Nat) : Fld := ⟨R.GOV_TARGET h, 11, 0⟩
abbrev F.GOV_LIMITS_TJ_LIMIT (h : Nat) : Fld := ⟨R.GOV_LIMITS h, 31, 24⟩
abbrev F.GOV_LIMITS_TSTOP (h : Nat) : Fld := ⟨R.GOV_LIMITS h, 23, 16⟩
abbrev F.GOV_LIMITS_EFF_WARM (h : Nat) : Fld := ⟨R.GOV_LIMITS h, 15, 8⟩
abbrev F.GOV_LIMITS_HORIZON (h : Nat) : Fld := ⟨R.GOV_LIMITS h, 7, 0⟩
abbrev F.GOV_MODEL_CD (h : Nat) : Fld := ⟨R.GOV_MODEL h, 31, 24⟩
abbrev F.GOV_MODEL_THDC (h : Nat) : Fld := ⟨R.GOV_MODEL h, 23, 16⟩
abbrev F.GOV_MODEL_CC (h : Nat) : Fld := ⟨R.GOV_MODEL h, 15, 8⟩
abbrev F.GOV_MODEL_THCA (h : Nat) : Fld := ⟨R.GOV_MODEL h, 7, 0⟩
abbrev F.GOV_COOL_TCP_SET (h : Nat) : Fld := ⟨R.GOV_COOL h, 31, 24⟩
abbrev F.GOV_COOL_DUTY_MIN (h : Nat) : Fld := ⟨R.GOV_COOL h, 23, 16⟩
abbrev F.GOV_COOL_QUIET_DUTY (h : Nat) : Fld := ⟨R.GOV_COOL h, 15, 8⟩
abbrev F.GOV_COOL_TIN_DEF (h : Nat) : Fld := ⟨R.GOV_COOL h, 7, 0⟩
abbrev F.GOV_DRAIN_DRAIN_US (h : Nat) : Fld := ⟨R.GOV_DRAIN h, 19, 0⟩
abbrev F.GOV_INJECT_INJECT (h : Nat) : Fld := ⟨R.GOV_INJECT h, 31, 31⟩
abbrev F.GOV_INJECT_INJ_KIND (h : Nat) : Fld := ⟨R.GOV_INJECT h, 30, 28⟩
abbrev F.GOV_INJECT_INJ_UNIT (h : Nat) : Fld := ⟨R.GOV_INJECT h, 27, 22⟩
abbrev F.GOV_INJECT_INJ_REFUSED (h : Nat) : Fld := ⟨R.GOV_INJECT h, 21, 21⟩
abbrev F.GOV_ADC_CODE (h k : Nat) : Fld := ⟨R.GOV_ADC h k, 11, 0⟩
abbrev F.GOV_TSENSE_FAILED (h k : Nat) : Fld := ⟨R.GOV_TSENSE h k, 31, 31⟩
abbrev F.GOV_TSENSE_TEMP (h k : Nat) : Fld := ⟨R.GOV_TSENSE h k, 15, 0⟩
abbrev F.GOV_AIN_CAL_GAIN (h k : Nat) : Fld := ⟨R.GOV_AIN_CAL h k, 31, 16⟩
abbrev F.GOV_AIN_CAL_OFFSET (h k : Nat) : Fld := ⟨R.GOV_AIN_CAL h k, 15, 0⟩
abbrev F.GOV_AIN_CFG_ROLE (h k : Nat) : Fld := ⟨R.GOV_AIN_CFG h k, 31, 29⟩
abbrev F.GOV_AIN_CFG_LOW_CODE (h k : Nat) : Fld := ⟨R.GOV_AIN_CFG h k, 11, 0⟩
abbrev F.GOV_AIN_VAL_VALUE (h k : Nat) : Fld := ⟨R.GOV_AIN_VAL h k, 31, 16⟩
abbrev F.GOV_AIN_VAL_CODE (h k : Nat) : Fld := ⟨R.GOV_AIN_VAL h k, 11, 0⟩
abbrev F.GOV_FAN_ROLE (h k : Nat) : Fld := ⟨R.GOV_FAN h k, 31, 30⟩
abbrev F.GOV_FAN_PPR (h k : Nat) : Fld := ⟨R.GOV_FAN h k, 29, 27⟩
abbrev F.GOV_FAN_STALL (h k : Nat) : Fld := ⟨R.GOV_FAN h k, 26, 26⟩
abbrev F.GOV_FAN_DUTY (h k : Nat) : Fld := ⟨R.GOV_FAN h k, 25, 19⟩
abbrev F.GOV_FAN_RPM (h k : Nat) : Fld := ⟨R.GOV_FAN h k, 15, 0⟩
abbrev F.GOV_REG_CFG_EN (h k : Nat) : Fld := ⟨R.GOV_REG_CFG h k, 31, 31⟩
abbrev F.GOV_REG_CFG_RAIL (h k : Nat) : Fld := ⟨R.GOV_REG_CFG h k, 30, 28⟩
abbrev F.GOV_REG_CFG_AVS (h k : Nat) : Fld := ⟨R.GOV_REG_CFG h k, 27, 27⟩
abbrev F.GOV_REG_CFG_AVS_BUS (h k : Nat) : Fld := ⟨R.GOV_REG_CFG h k, 26, 26⟩
abbrev F.GOV_REG_CFG_AVS_RAIL (h k : Nat) : Fld := ⟨R.GOV_REG_CFG h k, 25, 22⟩
abbrev F.GOV_REG_CFG_PMB_ADDR (h k : Nat) : Fld := ⟨R.GOV_REG_CFG h k, 21, 15⟩
abbrev F.GOV_REG_STATUS_STATE (h k : Nat) : Fld := ⟨R.GOV_REG_STATUS h k, 31, 30⟩
abbrev F.GOV_REG_STATUS_IOUT (h k : Nat) : Fld := ⟨R.GOV_REG_STATUS h k, 29, 18⟩
abbrev F.GOV_REG_STATUS_STATUS_WORD (h k : Nat) : Fld := ⟨R.GOV_REG_STATUS h k, 15, 0⟩
abbrev F.GOV_RATE_RATE (h k : Nat) : Fld := ⟨R.GOV_RATE h k, 11, 0⟩
abbrev F.PIN_CFG_OWNER (n : Nat) : Fld := ⟨R.PIN_CFG n, 31, 30⟩
abbrev F.PIN_CFG_TRIG (n : Nat) : Fld := ⟨R.PIN_CFG n, 23, 21⟩
abbrev F.PIN_CFG_SIG (n : Nat) : Fld := ⟨R.PIN_CFG n, 20, 16⟩
abbrev F.PIN_CFG_INIT (n : Nat) : Fld := ⟨R.PIN_CFG n, 12, 12⟩
abbrev F.PIN_CFG_OD (n : Nat) : Fld := ⟨R.PIN_CFG n, 11, 11⟩
abbrev F.PIN_CFG_OE (n : Nat) : Fld := ⟨R.PIN_CFG n, 10, 10⟩
abbrev F.PIN_CFG_SLOW (n : Nat) : Fld := ⟨R.PIN_CFG n, 9, 9⟩
abbrev F.PIN_CFG_HYST (n : Nat) : Fld := ⟨R.PIN_CFG n, 8, 8⟩
abbrev F.PIN_CFG_THRESH (n : Nat) : Fld := ⟨R.PIN_CFG n, 7, 6⟩
abbrev F.PIN_CFG_PULL (n : Nat) : Fld := ⟨R.PIN_CFG n, 5, 4⟩
abbrev F.PIN_CFG_FUNC (n : Nat) : Fld := ⟨R.PIN_CFG n, 3, 0⟩
abbrev F.PIN_BANK_SET_MASK (n : Nat) : Fld := ⟨R.PIN_BANK_SET n, 31, 0⟩
abbrev F.PIN_BANK_CLR_MASK (n : Nat) : Fld := ⟨R.PIN_BANK_CLR n, 31, 0⟩
abbrev F.PIN_BANK_TGL_MASK (n : Nat) : Fld := ⟨R.PIN_BANK_TGL n, 31, 0⟩
abbrev F.PIN_BANK_LAT_LATCH (n : Nat) : Fld := ⟨R.PIN_BANK_LAT n, 31, 0⟩
abbrev F.PIN_BANK_IN_LEVEL (n : Nat) : Fld := ⟨R.PIN_BANK_IN n, 31, 0⟩
abbrev F.PIN_BANK_CTL_HOST_EN (n : Nat) : Fld := ⟨R.PIN_BANK_CTL n, 31, 31⟩
abbrev F.PIN_BANK_CTL_DENIED (n : Nat) : Fld := ⟨R.PIN_BANK_CTL n, 30, 30⟩
abbrev F.PIN_IRQ_CFG_BANK (n : Nat) : Fld := ⟨R.PIN_IRQ_CFG n, 11, 8⟩
abbrev F.PIN_IRQ_CFG_DEST (n : Nat) : Fld := ⟨R.PIN_IRQ_CFG n, 7, 0⟩
abbrev F.PIN_IRQ_STATUS_PEND : Fld := ⟨R.PIN_IRQ_STATUS, 31, 0⟩
abbrev F.PIN_IRQ_ACTIVE_ACTIVE : Fld := ⟨R.PIN_IRQ_ACTIVE, 31, 0⟩
abbrev F.PIN_CONFLICT_CONFLICT (h : Nat) : Fld := ⟨R.PIN_CONFLICT h, 31, 31⟩
abbrev F.PIN_CONFLICT_FUNC (h : Nat) : Fld := ⟨R.PIN_CONFLICT h, 30, 27⟩
abbrev F.PIN_CONFLICT_SIG (h : Nat) : Fld := ⟨R.PIN_CONFLICT h, 26, 22⟩
abbrev F.PIN_CONFLICT_PIN_A (h : Nat) : Fld := ⟨R.PIN_CONFLICT h, 21, 13⟩
abbrev F.PIN_CONFLICT_PIN_B (h : Nat) : Fld := ⟨R.PIN_CONFLICT h, 12, 4⟩
abbrev F.PIN_INJECT_INJECT : Fld := ⟨R.PIN_INJECT, 31, 31⟩
abbrev F.PIN_INJECT_INJ_KIND : Fld := ⟨R.PIN_INJECT, 30, 29⟩
abbrev F.PIN_INJECT_INJ_REFUSED : Fld := ⟨R.PIN_INJECT, 28, 28⟩
abbrev F.ERR_STATUS_ERR_LATCH (h : Nat) : Fld := ⟨R.ERR_STATUS h, 31, 31⟩
abbrev F.ERR_STATUS_FATAL_LATCH (h : Nat) : Fld := ⟨R.ERR_STATUS h, 30, 30⟩
abbrev F.ERR_STATUS_FATAL_LOST (h : Nat) : Fld := ⟨R.ERR_STATUS h, 29, 29⟩
abbrev F.ERR_STATUS_LR_CLR (h : Nat) : Fld := ⟨R.ERR_STATUS h, 28, 28⟩
abbrev F.ERR_STATUS_STANDING (h : Nat) : Fld := ⟨R.ERR_STATUS h, 27, 24⟩
abbrev F.ERR_STATUS_LR_DROP (h : Nat) : Fld := ⟨R.ERR_STATUS h, 23, 16⟩
abbrev F.ERR_STATUS_LR_COUNT (h : Nat) : Fld := ⟨R.ERR_STATUS h, 4, 0⟩
abbrev F.ERR_EN_SRC (h : Nat) : Fld := ⟨R.ERR_EN h, 18, 0⟩
abbrev F.ERR_LOST_ERROR (h : Nat) : Fld := ⟨R.ERR_LOST h, 31, 16⟩
abbrev F.ERR_LOST_NOTICE (h : Nat) : Fld := ⟨R.ERR_LOST h, 15, 0⟩
abbrev F.ERR_LOG_FATAL (h : Nat) : Fld := ⟨R.ERR_LOG h, 31, 16⟩
abbrev F.ERR_LOG_BANK0 (h : Nat) : Fld := ⟨R.ERR_LOG h, 15, 14⟩
abbrev F.ERR_LOG_BANK1 (h : Nat) : Fld := ⟨R.ERR_LOG h, 13, 12⟩
abbrev F.ERR_LOG_SAT (h : Nat) : Fld := ⟨R.ERR_LOG h, 11, 9⟩
abbrev F.ERR_NEXT_SEQ_SEQ (h k : Nat) : Fld := ⟨R.ERR_NEXT_SEQ h k, 31, 0⟩
abbrev F.ERR_INJECT_INJECT (h : Nat) : Fld := ⟨R.ERR_INJECT h, 31, 31⟩
abbrev F.ERR_INJECT_INJ_KIND (h : Nat) : Fld := ⟨R.ERR_INJECT h, 30, 28⟩
abbrev F.ERR_INJECT_INJ_REFUSED (h : Nat) : Fld := ⟨R.ERR_INJECT h, 27, 27⟩
abbrev F.ERR_INJECT_BANK (h : Nat) : Fld := ⟨R.ERR_INJECT h, 26, 26⟩
abbrev F.ERR_INJECT_COUNT (h : Nat) : Fld := ⟨R.ERR_INJECT h, 25, 16⟩
abbrev F.ERR_INJ_WORD_WORD (h : Nat) : Fld := ⟨R.ERR_INJ_WORD h, 31, 0⟩
abbrev F.ERR_INJ_CTX_CTX (h : Nat) : Fld := ⟨R.ERR_INJ_CTX h, 31, 0⟩
abbrev F.ERR_LR_WORD (h k : Nat) : Fld := ⟨R.ERR_LR h k, 31, 0⟩
abbrev F.RTC_STATUS_NOT_SET : Fld := ⟨R.RTC_STATUS, 31, 31⟩
abbrev F.RTC_STATUS_EXHAUSTED : Fld := ⟨R.RTC_STATUS, 30, 30⟩
abbrev F.RTC_STATUS_STOPPED : Fld := ⟨R.RTC_STATUS, 29, 29⟩
abbrev F.RTC_STATUS_SUBSEC : Fld := ⟨R.RTC_STATUS, 14, 0⟩
abbrev F.RTC_DATE_YEAR : Fld := ⟨R.RTC_DATE, 31, 16⟩
abbrev F.RTC_DATE_MONTH : Fld := ⟨R.RTC_DATE, 15, 8⟩
abbrev F.RTC_DATE_DAY : Fld := ⟨R.RTC_DATE, 7, 0⟩
abbrev F.RTC_TIME_HOUR : Fld := ⟨R.RTC_TIME, 23, 16⟩
abbrev F.RTC_TIME_MINUTE : Fld := ⟨R.RTC_TIME, 15, 8⟩
abbrev F.RTC_TIME_SECOND : Fld := ⟨R.RTC_TIME, 7, 0⟩
abbrev F.RTC_SECONDS_SECONDS (h : Nat) : Fld := ⟨R.RTC_SECONDS h, 31, 0⟩
abbrev F.ST_CTL_EN (h : Nat) : Fld := ⟨R.ST_CTL h, 31, 31⟩
abbrev F.ST_CTL_PERIOD_S (h : Nat) : Fld := ⟨R.ST_CTL h, 11, 0⟩
abbrev F.ST_STATUS_SWEEPING (h : Nat) : Fld := ⟨R.ST_STATUS h, 31, 31⟩
abbrev F.ST_STATUS_OVERRUN (h : Nat) : Fld := ⟨R.ST_STATUS h, 30, 30⟩
abbrev F.ST_STATUS_FAIL (h : Nat) : Fld := ⟨R.ST_STATUS h, 29, 29⟩
abbrev F.ST_STATUS_INFLIGHT (h : Nat) : Fld := ⟨R.ST_STATUS h, 28, 26⟩
abbrev F.ST_STATUS_SWEEPS (h : Nat) : Fld := ⟨R.ST_STATUS h, 15, 0⟩
abbrev F.ST_COUNTS_CLR (h : Nat) : Fld := ⟨R.ST_COUNTS h, 31, 31⟩
abbrev F.ST_COUNTS_PASSED (h : Nat) : Fld := ⟨R.ST_COUNTS h, 30, 16⟩
abbrev F.ST_COUNTS_FAILED (h : Nat) : Fld := ⟨R.ST_COUNTS h, 15, 8⟩
abbrev F.ST_COUNTS_ABANDONED (h : Nat) : Fld := ⟨R.ST_COUNTS h, 7, 0⟩
abbrev F.ST_LAST_CAUSE (h : Nat) : Fld := ⟨R.ST_LAST h, 11, 8⟩
abbrev F.ST_LAST_PAN (h : Nat) : Fld := ⟨R.ST_LAST h, 7, 0⟩
abbrev F.ST_INJECT_INJECT (h : Nat) : Fld := ⟨R.ST_INJECT h, 31, 31⟩
abbrev F.ST_INJECT_INJ_KIND (h : Nat) : Fld := ⟨R.ST_INJECT h, 30, 29⟩
abbrev F.ST_INJECT_INJ_REFUSED (h : Nat) : Fld := ⟨R.ST_INJECT h, 28, 28⟩
abbrev F.ST_INJECT_INJ_PAN (h : Nat) : Fld := ⟨R.ST_INJECT h, 7, 0⟩
abbrev F.RST_CTL_WARM_KEEP : Fld := ⟨R.RST_CTL, 31, 31⟩
abbrev F.RST_STATUS_STATE : Fld := ⟨R.RST_STATUS, 31, 28⟩
abbrev F.RST_STATUS_COLD_CAUSE : Fld := ⟨R.RST_STATUS, 27, 25⟩
abbrev F.RST_STATUS_WARM_COUNT : Fld := ⟨R.RST_STATUS, 15, 0⟩
abbrev F.CLK_STATUS_ROOT_LOCK : Fld := ⟨R.CLK_STATUS, 31, 31⟩
abbrev F.CLK_STATUS_HBM_LOCK : Fld := ⟨R.CLK_STATUS, 30, 29⟩
abbrev F.CLK_STATUS_SERDES_LOCK : Fld := ⟨R.CLK_STATUS, 28, 25⟩
abbrev F.CLK_STATUS_SLIP : Fld := ⟨R.CLK_STATUS, 17, 11⟩
abbrev F.DBG_STATUS_SCOPE : Fld := ⟨R.DBG_STATUS, 31, 29⟩
abbrev F.DBG_STATUS_INSTR_REFUSED : Fld := ⟨R.DBG_STATUS, 28, 28⟩
abbrev F.DBG_STATUS_REFUSED : Fld := ⟨R.DBG_STATUS, 27, 27⟩
abbrev F.DBG_STATUS_REPLIES : Fld := ⟨R.DBG_STATUS, 5, 0⟩
abbrev F.DBG_TRACE_CTL_EN : Fld := ⟨R.DBG_TRACE_CTL, 31, 31⟩
abbrev F.DBG_TRACE_CTL_SRC : Fld := ⟨R.DBG_TRACE_CTL, 30, 27⟩
abbrev F.DBG_TRACE_CTL_DROPS : Fld := ⟨R.DBG_TRACE_CTL, 15, 0⟩
abbrev F.DBG_RAKE_CTL_HALTREQ : Fld := ⟨R.DBG_RAKE_CTL, 31, 31⟩
abbrev F.DBG_RAKE_CTL_RESUMEREQ : Fld := ⟨R.DBG_RAKE_CTL, 30, 30⟩
abbrev F.DBG_RAKE_CTL_STEP : Fld := ⟨R.DBG_RAKE_CTL, 29, 29⟩
abbrev F.DBG_RAKE_CTL_ALL : Fld := ⟨R.DBG_RAKE_CTL, 28, 28⟩
abbrev F.DBG_RAKE_CTL_PAN : Fld := ⟨R.DBG_RAKE_CTL, 11, 4⟩
abbrev F.DBG_RAKE_CTL_RAKE : Fld := ⟨R.DBG_RAKE_CTL, 3, 0⟩
abbrev F.DBG_RAKE_BP_EN1 : Fld := ⟨R.DBG_RAKE_BP, 31, 31⟩
abbrev F.DBG_RAKE_BP_EN0 : Fld := ⟨R.DBG_RAKE_BP, 30, 30⟩
abbrev F.DBG_RAKE_BP_ADDR1 : Fld := ⟨R.DBG_RAKE_BP, 15, 8⟩
abbrev F.DBG_RAKE_BP_ADDR0 : Fld := ⟨R.DBG_RAKE_BP, 7, 0⟩
abbrev F.DBG_RAKE_STATUS_HALTED : Fld := ⟨R.DBG_RAKE_STATUS, 31, 31⟩
abbrev F.DBG_RAKE_STATUS_CAUSE : Fld := ⟨R.DBG_RAKE_STATUS, 30, 29⟩
abbrev F.DBG_RAKE_STATUS_PC : Fld := ⟨R.DBG_RAKE_STATUS, 7, 0⟩

/-- Register table, part 1. -/
def regTable1 : List RegDef := [
  ⟨"PAN_STALL_CFG", 0x1000040, [(0x10000, 256)], [⟨31, 31, .rw, .pan, false, 0⟩, ⟨30, 30, .w1s, .pan, false, 0⟩, ⟨29, 21, .rw, .pan, false, 0⟩, ⟨19, 0, .rw, .pan, false, 1000⟩]⟩,
  ⟨"PAN_STALL_STATUS", 0x1000044, [(0x10000, 256)], [⟨31, 31, .w1c, .pan, false, 0⟩, ⟨30, 28, .ro, .pan, false, 0⟩, ⟨27, 27, .w1c, .pan, false, 0⟩, ⟨26, 18, .ro, .pan, false, 0⟩, ⟨17, 17, .w1c, .pan, false, 0⟩, ⟨15, 0, .ro, .pan, false, 0⟩]⟩,
  ⟨"CLK_FTREE_CFG", 0x100200, [(0x4, 32)], [⟨31, 31, .rw, .warm, false, 0⟩, ⟨30, 30, .rw, .warm, false, 0⟩, ⟨29, 29, .ro, .warm, false, 0⟩, ⟨28, 28, .ro, .warm, false, 0⟩, ⟨7, 0, .rw, .warm, false, 0⟩]⟩,
  ⟨"PAN_BMEM_POLICY", 0x1000024, [(0x10000, 256)], [⟨31, 0, .rw, .image, true, 0⟩]⟩,
  ⟨"PAN_BMEM_ECC_STATUS", 0x1000028, [(0x10000, 256)], [⟨31, 31, .w1c, .pan, false, 0⟩, ⟨30, 30, .w1c, .pan, false, 0⟩, ⟨29, 29, .w1c, .pan, false, 0⟩, ⟨27, 23, .ro, .pan, false, 0⟩, ⟨22, 10, .ro, .pan, false, 0⟩, ⟨9, 8, .ro, .pan, false, 0⟩, ⟨7, 0, .ro, .pan, false, 0⟩]⟩,
  ⟨"PAN_BMEM_INJECT", 0x100002C, [(0x10000, 256)], [⟨31, 31, .w1s, .pan, false, 0⟩, ⟨30, 30, .rw, .pan, false, 0⟩, ⟨29, 25, .rw, .pan, false, 0⟩, ⟨24, 24, .w1c, .pan, false, 0⟩, ⟨23, 11, .rw, .pan, false, 0⟩, ⟨6, 0, .rw, .pan, false, 0⟩]⟩,
  ⟨"PAN_ISLAND_STATUS", 0x1000030, [(0x10000, 256)], [⟨31, 31, .w1c, .pan, false, 0⟩, ⟨30, 30, .w1c, .pan, false, 0⟩, ⟨29, 26, .ro, .pan, false, 0⟩, ⟨25, 20, .ro, .pan, false, 0⟩, ⟨19, 12, .ro, .image, true, 0⟩, ⟨11, 0, .ro, .pan, false, 0⟩]⟩,
  ⟨"PAN_PWR_CTL", 0x1000034, [(0x10000, 256)], [⟨31, 31, .w1s, .cold, false, 0⟩, ⟨30, 30, .w1s, .cold, false, 0⟩, ⟨29, 29, .rw, .cold, false, 0⟩, ⟨19, 0, .rw, .cold, false, 1000⟩]⟩,
  ⟨"PAN_PWR_STATUS", 0x1000038, [(0x10000, 256)], [⟨31, 30, .ro, .cold, false, 0⟩, ⟨29, 29, .w1c, .cold, false, 0⟩, ⟨28, 26, .ro, .cold, false, 0⟩, ⟨15, 0, .ro, .cold, false, 0⟩]⟩,
  ⟨"PAN_IMAGE_ID", 0x100003C, [(0x10000, 256)], [⟨31, 31, .ro, .cold, false, 0⟩, ⟨30, 30, .ro, .cold, false, 0⟩, ⟨25, 16, .ro, .cold, false, 0⟩, ⟨15, 0, .ro, .cold, false, 0⟩]⟩,
  ⟨"PAN_QB_CTL", 0x1000010, [(0x10000, 256)], [⟨7, 7, .w1s, .pan, false, 0⟩, ⟨15, 15, .w1s, .pan, false, 0⟩, ⟨23, 23, .w1s, .pan, false, 0⟩, ⟨31, 31, .w1s, .pan, false, 0⟩, ⟨6, 6, .w1s, .pan, false, 0⟩, ⟨14, 14, .w1s, .pan, false, 0⟩, ⟨22, 22, .w1s, .pan, false, 0⟩, ⟨30, 30, .w1s, .pan, false, 0⟩, ⟨5, 5, .w1s, .pan, false, 0⟩, ⟨13, 13, .w1s, .pan, false, 0⟩, ⟨21, 21, .w1s, .pan, false, 0⟩, ⟨29, 29, .w1s, .pan, false, 0⟩, ⟨4, 4, .rw, .pan, false, 0⟩, ⟨12, 12, .rw, .pan, false, 0⟩, ⟨20, 20, .rw, .pan, false, 0⟩, ⟨28, 28, .rw, .pan, false, 0⟩, ⟨3, 3, .rw, .image, true, 0⟩, ⟨11, 11, .rw, .image, true, 0⟩, ⟨19, 19, .rw, .image, true, 0⟩, ⟨27, 27, .rw, .image, true, 0⟩, ⟨2, 1, .rw, .image, true, 0⟩, ⟨10, 9, .rw, .image, true, 0⟩, ⟨18, 17, .rw, .image, true, 0⟩, ⟨26, 25, .rw, .image, true, 0⟩, ⟨0, 0, .ro, .image, true, 0⟩, ⟨8, 8, .ro, .image, true, 0⟩, ⟨16, 16, .ro, .image, true, 0⟩, ⟨24, 24, .ro, .image, true, 0⟩]⟩,
  ⟨"PAN_QB_STATUS", 0x1000014, [(0x10000, 256)], [⟨7, 7, .ro, .pan, false, 1⟩, ⟨15, 15, .ro, .pan, false, 1⟩, ⟨23, 23, .ro, .pan, false, 1⟩, ⟨31, 31, .ro, .pan, false, 1⟩, ⟨6, 6, .ro, .pan, false, 0⟩, ⟨14, 14, .ro, .pan, false, 0⟩, ⟨22, 22, .ro, .pan, false, 0⟩, ⟨30, 30, .ro, .pan, false, 0⟩, ⟨5, 5, .w1c, .pan, false, 0⟩, ⟨13, 13, .w1c, .pan, false, 0⟩, ⟨21, 21, .w1c, .pan, false, 0⟩, ⟨29, 29, .w1c, .pan, false, 0⟩, ⟨4, 4, .w1c, .pan, false, 0⟩, ⟨12, 12, .w1c, .pan, false, 0⟩, ⟨20, 20, .w1c, .pan, false, 0⟩, ⟨28, 28, .w1c, .pan, false, 0⟩, ⟨3, 3, .w1c, .pan, false, 0⟩, ⟨11, 11, .w1c, .pan, false, 0⟩, ⟨19, 19, .w1c, .pan, false, 0⟩, ⟨27, 27, .w1c, .pan, false, 0⟩, ⟨2, 2, .w1c, .pan, false, 0⟩, ⟨10, 10, .w1c, .pan, false, 0⟩, ⟨18, 18, .w1c, .pan, false, 0⟩, ⟨26, 26, .w1c, .pan, false, 0⟩, ⟨1, 1, .ro, .pan, false, 0⟩, ⟨9, 9, .ro, .pan, false, 0⟩, ⟨17, 17, .ro, .pan, false, 0⟩, ⟨25, 25, .ro, .pan, false, 0⟩, ⟨0, 0, .ro, .pan, false, 0⟩, ⟨8, 8, .ro, .pan, false, 0⟩, ⟨16, 16, .ro, .pan, false, 0⟩, ⟨24, 24, .ro, .pan, false, 0⟩]⟩,
  ⟨"PAN_QB_WINDOW", 0x1000018, [(0x10000, 256)], [⟨7, 5, .rw, .image, true, 0⟩, ⟨15, 13, .rw, .image, true, 0⟩, ⟨23, 21, .rw, .image, true, 0⟩, ⟨31, 29, .rw, .image, true, 0⟩, ⟨3, 0, .rw, .image, true, 0⟩, ⟨11, 8, .rw, .image, true, 0⟩, ⟨19, 16, .rw, .image, true, 0⟩, ⟨27, 24, .rw, .image, true, 0⟩]⟩,
  ⟨"PAN_RAKE_CTL", 0x100001C, [(0x10000, 256)], [⟨31, 16, .rw, .image, true, 0⟩, ⟨15, 15, .w1s, .pan, false, 0⟩, ⟨14, 11, .rw, .pan, false, 0⟩, ⟨10, 8, .rw, .pan, false, 0⟩, ⟨7, 7, .w1c, .pan, false, 0⟩]⟩,
  ⟨"PAN_RAKE_STATUS", 0x1000020, [(0x10000, 256)], [⟨31, 16, .w1c, .pan, false, 0⟩, ⟨15, 0, .ro, .pan, false, 0⟩]⟩,
  ⟨"PAN_SLUICE_CTL", 0x1000000, [(0x10000, 256)], [⟨31, 31, .rw, .pan, false, 0⟩, ⟨30, 30, .rw, .pan, false, 0⟩, ⟨29, 29, .rw, .pan, false, 0⟩, ⟨28, 28, .w1s, .pan, false, 0⟩, ⟨27, 26, .rw, .pan, false, 0⟩, ⟨25, 20, .rw, .pan, false, 0⟩]⟩,
  ⟨"PAN_SLUICE_STATUS", 0x1000004, [(0x10000, 256)], [⟨31, 29, .ro, .cold, false, 5⟩, ⟨28, 28, .ro, .pan, false, 0⟩, ⟨27, 27, .ro, .warm, false, 0⟩, ⟨26, 26, .ro, .warm, false, 0⟩, ⟨25, 25, .ro, .pan, false, 0⟩, ⟨24, 23, .ro, .cold, false, 0⟩, ⟨22, 22, .w1c, .pan, false, 0⟩, ⟨21, 21, .w1c, .cold, false, 0⟩, ⟨20, 16, .ro, .cold, false, 0⟩, ⟨15, 0, .ro, .cold, false, 0⟩]⟩,
  ⟨"PAN_SLUICE_DRAIN", 0x1000008, [(0x10000, 256)], [⟨19, 0, .rw, .cold, false, 100⟩]⟩,
  ⟨"PAN_SLUICE_DISCARD", 0x100000C, [(0x10000, 256)], [⟨31, 31, .w1c, .pan, false, 0⟩, ⟨23, 8, .ro, .pan, false, 0⟩, ⟨7, 0, .ro, .pan, false, 0⟩]⟩,
  ⟨"SCHED_CTL", 0x800000, [(0x80000, 2)], [⟨31, 31, .rw, .warm, false, 0⟩, ⟨30, 30, .rw, .warm, false, 0⟩, ⟨29, 29, .w1s, .warm, false, 0⟩, ⟨28, 26, .rw, .warm, false, 2⟩]⟩]

/-- Register table, part 2. -/
def regTable2 : List RegDef := [
  ⟨"SCHED_STATUS", 0x800004, [(0x80000, 2)], [⟨31, 31, .w1c, .warm, false, 0⟩, ⟨30, 30, .w1c, .warm, false, 0⟩, ⟨29, 29, .w1c, .warm, false, 0⟩, ⟨28, 28, .w1c, .warm, false, 0⟩, ⟨27, 27, .ro, .warm, false, 0⟩, ⟨8, 0, .ro, .warm, false, 0⟩]⟩,
  ⟨"SCHED_USE", 0x800008, [(0x80000, 2)], [⟨31, 16, .ro, .warm, false, 0⟩, ⟨12, 0, .ro, .warm, false, 0⟩]⟩,
  ⟨"SCHED_DRAIN", 0x80000C, [(0x80000, 2)], [⟨19, 0, .rw, .cold, false, 100⟩]⟩,
  ⟨"SCHED_CORES", 0x800010, [(0x80000, 2)], [⟨7, 0, .rw, .warm, false, 0⟩]⟩,
  ⟨"SCHED_PANS", 0x800020, [(0x80000, 2), (0x4, 4)], [⟨31, 0, .rw, .warm, false, 0⟩]⟩,
  ⟨"SCHED_COST", 0x800030, [(0x80000, 2)], [⟨15, 0, .rw, .warm, false, 10⟩]⟩,
  ⟨"SCHED_PREEMPT", 0x800034, [(0x80000, 2)], [⟨15, 0, .rw, .warm, false, 50⟩]⟩,
  ⟨"SCHED_COUNTS", 0x800038, [(0x80000, 2)], [⟨31, 31, .wo, .fixed, false, 0⟩, ⟨30, 19, .ro, .warm, false, 0⟩, ⟨18, 7, .ro, .warm, false, 0⟩, ⟨6, 0, .ro, .warm, false, 0⟩]⟩,
  ⟨"SCHED_INJECT", 0x80003C, [(0x80000, 2)], [⟨31, 31, .w1s, .warm, false, 0⟩, ⟨30, 28, .rw, .warm, false, 0⟩, ⟨27, 27, .w1c, .warm, false, 0⟩]⟩,
  ⟨"SCHED_BRK", 0x800040, [(0x80000, 2)], [⟨31, 31, .rw, .warm, false, 0⟩, ⟨23, 16, .rw, .warm, false, 0⟩, ⟨15, 0, .rw, .warm, false, 0⟩]⟩,
  ⟨"TCORE_CTL", 0xC00000, [(0x100, 16)], [⟨31, 31, .rw, .warm, false, 0⟩, ⟨30, 30, .ro, .warm, false, 0⟩, ⟨29, 29, .ro, .warm, false, 0⟩]⟩,
  ⟨"TCORE_RESET_VEC", 0xC00004, [(0x100, 16), (0x4, 2)], [⟨31, 0, .rw, .warm, false, 0⟩]⟩,
  ⟨"TCORE_STATUS", 0xC0000C, [(0x100, 16)], [⟨31, 31, .w1c, .warm, false, 0⟩, ⟨30, 30, .w1c, .warm, false, 0⟩, ⟨29, 29, .w1c, .warm, false, 0⟩, ⟨7, 0, .ro, .warm, false, 0⟩]⟩,
  ⟨"TCORE_IRQ", 0xC00010, [(0x100, 16)], [⟨4, 0, .ro, .warm, false, 0⟩]⟩,
  ⟨"TCORE_MSIP", 0xC00014, [(0x100, 16)], [⟨0, 0, .rw, .warm, false, 0⟩]⟩,
  ⟨"TCORE_MTIMECMP", 0xC00018, [(0x100, 16), (0x4, 2)], [⟨31, 0, .rw, .warm, false, 4294967295⟩]⟩,
  ⟨"TCORE_COP_BIND", 0xC00020, [(0x100, 16)], [⟨31, 31, .ro, .warm, false, 0⟩, ⟨27, 26, .ro, .warm, false, 0⟩, ⟨25, 24, .ro, .warm, false, 0⟩, ⟨23, 16, .ro, .warm, false, 0⟩, ⟨15, 0, .ro, .warm, false, 0⟩]⟩,
  ⟨"TCORE_COP_CFG", 0xC00024, [(0x100, 16)], [⟨19, 0, .rw, .warm, false, 1000⟩]⟩,
  ⟨"TCORE_COP_DRAIN", 0xC00028, [(0x100, 16)], [⟨19, 0, .rw, .cold, false, 100⟩]⟩,
  ⟨"TCORE_COP_STATUS", 0xC0002C, [(0x100, 16)], [⟨31, 29, .ro, .warm, false, 0⟩, ⟨28, 28, .w1c, .warm, false, 0⟩, ⟨27, 27, .w1c, .warm, false, 0⟩, ⟨19, 16, .ro, .warm, false, 0⟩, ⟨15, 8, .ro, .warm, false, 0⟩, ⟨7, 0, .ro, .warm, false, 0⟩]⟩]

/-- Register table, part 3. -/
def regTable3 : List RegDef := [
  ⟨"TCORE_INJECT", 0xC00030, [(0x100, 16)], [⟨31, 31, .w1s, .warm, false, 0⟩, ⟨30, 29, .rw, .warm, false, 0⟩, ⟨28, 28, .rw, .warm, false, 0⟩, ⟨27, 27, .w1c, .warm, false, 0⟩]⟩,
  ⟨"MEM_LAG_PART", 0xB00000, [(0x10000, 2)], [⟨19, 15, .ro, .cold, true, 0⟩, ⟨14, 10, .ro, .cold, true, 0⟩, ⟨9, 5, .ro, .cold, true, 0⟩, ⟨4, 0, .ro, .cold, true, 0⟩]⟩,
  ⟨"MEM_HBM_STATUS", 0xB00004, [(0x10000, 2)], [⟨31, 30, .ro, .cold, false, 0⟩, ⟨29, 29, .ro, .cold, true, 0⟩, ⟨7, 0, .ro, .cold, false, 0⟩]⟩,
  ⟨"MEM_DRAIN", 0xB00008, [(0x10000, 2)], [⟨19, 0, .rw, .cold, false, 100⟩]⟩,
  ⟨"MEM_ECC_STATUS", 0xB0000C, [(0x10000, 2)], [⟨31, 31, .w1c, .warm, false, 0⟩, ⟨30, 30, .w1c, .warm, false, 0⟩, ⟨29, 29, .ro, .warm, false, 0⟩, ⟨28, 28, .ro, .warm, false, 0⟩, ⟨15, 0, .ro, .warm, false, 0⟩]⟩,
  ⟨"MEM_ECC_ADDR", 0xB00010, [(0x10000, 2)], [⟨31, 0, .ro, .warm, false, 0⟩]⟩,
  ⟨"MEM_SCRUB_LAG", 0xB00014, [(0x10000, 2)], [⟨31, 31, .ro, .cold, false, 0⟩, ⟨30, 30, .rw, .cold, false, 1⟩, ⟨29, 29, .w1s, .cold, false, 0⟩, ⟨15, 0, .rw, .cold, false, 10⟩]⟩,
  ⟨"MEM_SCRUB_HBM", 0xB00018, [(0x10000, 2)], [⟨31, 31, .ro, .cold, false, 0⟩, ⟨30, 30, .rw, .cold, false, 1⟩, ⟨29, 29, .w1s, .cold, false, 0⟩, ⟨15, 0, .rw, .cold, false, 2000⟩]⟩,
  ⟨"MEM_SCRUB_STATUS", 0xB0001C, [(0x10000, 2)], [⟨31, 31, .ro, .cold, false, 0⟩, ⟨30, 29, .ro, .cold, false, 0⟩, ⟨28, 28, .ro, .cold, false, 0⟩, ⟨27, 26, .ro, .cold, false, 0⟩, ⟨15, 8, .ro, .cold, false, 0⟩, ⟨7, 0, .ro, .cold, false, 0⟩]⟩,
  ⟨"MEM_INJECT", 0xB00020, [(0x10000, 2)], [⟨31, 31, .w1s, .warm, false, 0⟩, ⟨30, 29, .rw, .warm, false, 0⟩, ⟨28, 28, .rw, .warm, false, 0⟩, ⟨27, 27, .w1c, .warm, false, 0⟩, ⟨6, 0, .rw, .warm, false, 0⟩]⟩,
  ⟨"MEM_INJ_ADDR", 0xB00024, [(0x10000, 2)], [⟨31, 0, .rw, .warm, false, 0⟩]⟩,
  ⟨"PORT_CTL", 0x900000, [(0x40000, 4)], [⟨31, 31, .rw, .warm, true, 0⟩, ⟨30, 29, .ro, .warm, true, 0⟩, ⟨28, 27, .ro, .warm, true, 0⟩, ⟨26, 24, .rw, .warm, false, 4⟩]⟩,
  ⟨"PORT_DRAIN", 0x900004, [(0x40000, 4)], [⟨19, 0, .rw, .cold, false, 100⟩]⟩,
  ⟨"PORT_INJECT", 0x900008, [(0x40000, 4)], [⟨31, 31, .w1s, .warm, false, 0⟩, ⟨30, 28, .rw, .warm, false, 0⟩, ⟨27, 26, .rw, .warm, false, 0⟩, ⟨25, 25, .w1c, .warm, false, 0⟩]⟩,
  ⟨"LINK_STATUS", 0x900010, [(0x40000, 4), (0x4, 4)], [⟨31, 29, .ro, .warm, false, 0⟩, ⟨28, 26, .ro, .warm, false, 0⟩, ⟨25, 21, .ro, .warm, false, 0⟩, ⟨20, 19, .ro, .warm, false, 0⟩, ⟨18, 18, .ro, .warm, false, 0⟩, ⟨17, 17, .ro, .warm, false, 0⟩, ⟨16, 16, .ro, .warm, false, 0⟩, ⟨15, 15, .ro, .warm, false, 0⟩]⟩,
  ⟨"LINK_ERRCNT", 0x900020, [(0x40000, 4), (0x4, 4)], [⟨31, 31, .wo, .fixed, false, 0⟩, ⟨23, 16, .ro, .warm, false, 0⟩, ⟨15, 0, .ro, .warm, false, 0⟩]⟩,
  ⟨"LINK_FEC", 0x900030, [(0x40000, 4), (0x4, 4)], [⟨31, 0, .ro, .warm, false, 0⟩]⟩,
  ⟨"PORT_ROUTE", 0x900100, [(0x80000, 2)], [⟨31, 31, .rw, .warm, true, 0⟩, ⟨3, 2, .rw, .warm, true, 0⟩, ⟨1, 0, .rw, .warm, true, 0⟩]⟩,
  ⟨"MBX_SUBMIT", 0x911000, [(0x40000, 4), (0x2000, 4)], [⟨5, 0, .wo, .fixed, false, 0⟩]⟩,
  ⟨"MBX_BUSY", 0x911004, [(0x40000, 4), (0x2000, 4)], [⟨31, 0, .ro, .warm, false, 0⟩]⟩]

/-- Register table, part 4. -/
def regTable4 : List RegDef := [
  ⟨"MBX_DONE", 0x911008, [(0x40000, 4), (0x2000, 4)], [⟨31, 0, .w1c, .warm, false, 0⟩]⟩,
  ⟨"MBX_CTL", 0x91100C, [(0x40000, 4), (0x2000, 4)], [⟨31, 31, .rw, .warm, false, 0⟩, ⟨30, 30, .rw, .warm, false, 0⟩, ⟨11, 6, .rw, .warm, false, 0⟩, ⟨5, 0, .rw, .warm, false, 0⟩]⟩,
  ⟨"MBX_EVENT", 0x911010, [(0x40000, 4), (0x2000, 4)], [⟨5, 5, .w1c, .warm, false, 0⟩, ⟨4, 4, .w1c, .warm, false, 0⟩, ⟨3, 3, .w1c, .warm, false, 0⟩, ⟨2, 2, .w1c, .warm, false, 0⟩, ⟨1, 1, .w1c, .warm, false, 0⟩, ⟨0, 0, .w1c, .warm, false, 0⟩]⟩,
  ⟨"MBX_STATUS", 0x911014, [(0x40000, 4), (0x2000, 4)], [⟨31, 31, .w1c, .warm, false, 0⟩, ⟨30, 30, .w1c, .warm, false, 0⟩, ⟨5, 0, .ro, .warm, false, 0⟩]⟩,
  ⟨"COH_STATUS", 0xA00000, [(0x80000, 2)], [⟨31, 31, .ro, .warm, false, 0⟩, ⟨30, 30, .ro, .warm, false, 0⟩, ⟨29, 29, .w1c, .warm, false, 0⟩, ⟨28, 28, .w1c, .cold, false, 0⟩, ⟨15, 0, .ro, .cold, false, 0⟩]⟩,
  ⟨"COH_TABLE_TAG", 0xA00004, [(0x80000, 2)], [⟨31, 0, .ro, .warm, false, 65536⟩]⟩,
  ⟨"COH_DIR", 0xA00008, [(0x80000, 2)], [⟨31, 31, .ro, .warm, false, 0⟩, ⟨20, 0, .ro, .warm, false, 0⟩]⟩,
  ⟨"COH_DRAIN", 0xA0000C, [(0x80000, 2)], [⟨19, 0, .rw, .cold, false, 100⟩]⟩,
  ⟨"COH_EVICTS", 0xA00010, [(0x80000, 2)], [⟨31, 31, .wo, .fixed, false, 0⟩, ⟨30, 16, .ro, .warm, false, 0⟩, ⟨14, 0, .ro, .warm, false, 0⟩]⟩,
  ⟨"COH_FLIPS", 0xA00014, [(0x80000, 2)], [⟨31, 31, .wo, .fixed, false, 0⟩, ⟨15, 0, .ro, .warm, false, 0⟩]⟩,
  ⟨"COH_INJECT", 0xA00018, [(0x80000, 2)], [⟨31, 31, .w1s, .warm, false, 0⟩, ⟨30, 29, .rw, .warm, false, 0⟩, ⟨28, 28, .w1c, .warm, false, 0⟩]⟩,
  ⟨"COH_MISS", 0xA0001C, [(0x80000, 2)], [⟨31, 22, .ro, .warm, false, 0⟩]⟩,
  ⟨"CSW_CTL", 0x700000, [(0x100000000, 2)], [⟨31, 31, .rw, .cold, false, 0⟩, ⟨30, 30, .rw, .cold, false, 0⟩, ⟨29, 29, .rw, .cold, false, 0⟩, ⟨28, 28, .w1s, .warm, false, 0⟩, ⟨27, 27, .w1s, .warm, false, 0⟩, ⟨26, 26, .w1s, .warm, false, 0⟩, ⟨25, 24, .rw, .warm, false, 0⟩]⟩,
  ⟨"CSW_STATUS", 0x700004, [(0x100000000, 2)], [⟨31, 29, .ro, .cold, false, 0⟩, ⟨28, 28, .ro, .cold, false, 0⟩, ⟨27, 27, .ro, .cold, false, 0⟩, ⟨26, 26, .ro, .cold, false, 0⟩, ⟨25, 21, .ro, .cold, false, 16⟩, ⟨19, 16, .ro, .cold, false, 0⟩, ⟨15, 0, .ro, .cold, false, 0⟩]⟩,
  ⟨"CSW_GROUP_STATUS", 0x700010, [(0x100000000, 2), (0x4, 4)], [⟨31, 30, .ro, .cold, false, 1⟩, ⟨29, 28, .ro, .cold, false, 0⟩, ⟨27, 16, .ro, .cold, false, 0⟩, ⟨15, 0, .ro, .cold, false, 0⟩]⟩,
  ⟨"CSW_LAND", 0x700020, [(0x100000000, 2), (0x4, 2)], [⟨31, 31, .wo, .fixed, false, 0⟩, ⟨13, 7, .ro, .warm, false, 0⟩, ⟨6, 0, .ro, .warm, false, 0⟩]⟩,
  ⟨"CSW_DRAIN", 0x700028, [(0x100000000, 2)], [⟨19, 0, .rw, .cold, false, 100⟩]⟩,
  ⟨"CSW_INJECT", 0x700030, [(0x100000000, 2)], [⟨31, 31, .w1s, .warm, false, 0⟩, ⟨30, 29, .rw, .warm, false, 0⟩, ⟨28, 27, .rw, .warm, false, 0⟩, ⟨26, 26, .w1c, .warm, false, 0⟩]⟩,
  ⟨"CFG_STATUS", 0x600000, [], [⟨31, 28, .ro, .warm, false, 2⟩, ⟨27, 22, .ro, .warm, false, 0⟩, ⟨21, 19, .ro, .cold, false, 0⟩, ⟨18, 18, .ro, .warm, false, 0⟩, ⟨17, 17, .ro, .warm, false, 0⟩, ⟨16, 16, .ro, .cold, false, 0⟩, ⟨8, 0, .ro, .warm, false, 0⟩]⟩,
  ⟨"CFG_FAIL_FRAME", 0x600004, [], [⟨31, 0, .ro, .warm, false, 0⟩]⟩]

/-- Register table, part 5. -/
def regTable5 : List RegDef := [
  ⟨"CFG_FAIL_PAN", 0x600008, [], [⟨31, 31, .ro, .warm, false, 0⟩, ⟨12, 5, .ro, .warm, false, 0⟩, ⟨4, 0, .ro, .warm, false, 0⟩]⟩,
  ⟨"CFG_BYTES", 0x60000C, [(0x4, 2)], [⟨31, 0, .ro, .warm, false, 0⟩]⟩,
  ⟨"CFG_IMAGE_TAG", 0x600014, [], [⟨31, 0, .ro, .warm, false, 0⟩]⟩,
  ⟨"SEC_STATUS", 0x500000, [], [⟨31, 30, .ro, .warm, false, 0⟩, ⟨29, 29, .ro, .cold, false, 0⟩, ⟨28, 28, .ro, .cold, false, 0⟩, ⟨27, 27, .ro, .cold, false, 0⟩, ⟨26, 26, .ro, .warm, false, 0⟩, ⟨25, 23, .ro, .warm, false, 0⟩, ⟨22, 22, .ro, .kept, false, 0⟩, ⟨21, 18, .ro, .warm, false, 0⟩, ⟨17, 9, .ro, .warm, false, 0⟩, ⟨8, 4, .ro, .warm, false, 0⟩]⟩,
  ⟨"SEC_KEYS", 0x500004, [], [⟨15, 15, .ro, .kept, false, 0⟩, ⟨9, 0, .ro, .cold, false, 0⟩]⟩,
  ⟨"SEC_TAMPER_CFG", 0x500008, [], [⟨13, 12, .ro, .kept, false, 1⟩, ⟨11, 8, .ro, .kept, false, 0⟩, ⟨6, 0, .ro, .kept, false, 112⟩]⟩,
  ⟨"SEC_TAMPER_LATCH", 0x50000C, [], [⟨23, 16, .ro, .kept, false, 0⟩, ⟨7, 0, .ro, .kept, false, 0⟩]⟩,
  ⟨"SEC_TAMPER_TIME", 0x500010, [(0x4, 2)], [⟨31, 0, .ro, .kept, false, 0⟩]⟩,
  ⟨"SEC_COUNTS", 0x500018, [], [⟨31, 16, .ro, .cold, false, 0⟩, ⟨3, 0, .ro, .cold, false, 0⟩]⟩,
  ⟨"GOV_CTL", 0x200000, [(0x80000, 2)], [⟨31, 29, .rw, .cold, false, 1⟩, ⟨28, 28, .rw, .cold, false, 0⟩]⟩,
  ⟨"GOV_STATUS", 0x200004, [(0x80000, 2)], [⟨31, 22, .ro, .cold, false, 800⟩, ⟨21, 21, .ro, .cold, false, 0⟩, ⟨20, 20, .ro, .cold, false, 0⟩, ⟨19, 19, .ro, .cold, false, 0⟩, ⟨18, 16, .ro, .cold, false, 0⟩, ⟨15, 13, .ro, .cold, false, 0⟩, ⟨12, 10, .ro, .cold, false, 0⟩, ⟨9, 0, .ro, .cold, false, 0⟩]⟩,
  ⟨"GOV_CAP", 0x200008, [(0x80000, 2)], [⟨31, 23, .rw, .cold, false, 350⟩, ⟨22, 14, .ro, .cold, false, 175⟩, ⟨13, 8, .rw, .cold, false, 4⟩, ⟨7, 0, .rw, .cold, false, 0⟩]⟩,
  ⟨"GOV_POWER", 0x20000C, [(0x80000, 2)], [⟨31, 16, .ro, .cold, false, 0⟩, ⟨15, 0, .ro, .cold, false, 0⟩]⟩,
  ⟨"GOV_FIXED", 0x200010, [(0x80000, 2)], [⟨31, 22, .rw, .cold, false, 800⟩, ⟨21, 15, .rw, .cold, false, 60⟩]⟩,
  ⟨"GOV_TARGET", 0x200014, [(0x80000, 2)], [⟨11, 0, .rw, .cold, false, 1850⟩]⟩,
  ⟨"GOV_LIMITS", 0x200018, [(0x80000, 2)], [⟨31, 24, .rw, .cold, false, Config.gradeMaxTj - 5⟩, ⟨23, 16, .rw, .cold, false, Config.gradeMaxTj⟩, ⟨15, 8, .rw, .cold, false, 15⟩, ⟨7, 0, .rw, .cold, false, 20⟩]⟩,
  ⟨"GOV_MODEL", 0x20001C, [(0x80000, 2)], [⟨31, 24, .rw, .cold, false, 24⟩, ⟨23, 16, .rw, .cold, false, 110⟩, ⟨15, 8, .rw, .cold, false, 40⟩, ⟨7, 0, .rw, .cold, false, 60⟩]⟩,
  ⟨"GOV_COOL", 0x200020, [(0x80000, 2)], [⟨31, 24, .rw, .cold, false, 45⟩, ⟨23, 16, .rw, .cold, false, 20⟩, ⟨15, 8, .rw, .cold, false, 60⟩, ⟨7, 0, .rw, .cold, false, 30⟩]⟩,
  ⟨"GOV_DRAIN", 0x200024, [(0x80000, 2)], [⟨19, 0, .rw, .cold, false, 100⟩]⟩,
  ⟨"GOV_INJECT", 0x200028, [(0x80000, 2)], [⟨31, 31, .w1s, .warm, false, 0⟩, ⟨30, 28, .rw, .warm, false, 0⟩, ⟨27, 22, .rw, .warm, false, 0⟩, ⟨21, 21, .w1c, .warm, false, 0⟩]⟩]

/-- Register table, part 6. -/
def regTable6 : List RegDef := [
  ⟨"GOV_ADC", 0x200040, [(0x80000, 2), (0x4, 24)], [⟨11, 0, .ro, .cold, false, 0⟩]⟩,
  ⟨"GOV_TSENSE", 0x200100, [(0x80000, 2), (0x4, 64)], [⟨31, 31, .ro, .warm, false, 0⟩, ⟨15, 0, .ro, .cold, false, 0⟩]⟩,
  ⟨"GOV_AIN_CAL", 0x200200, [(0x80000, 2), (0x4, 8)], [⟨31, 16, .rw, .cold, false, 0⟩, ⟨15, 0, .rw, .cold, false, 0⟩]⟩,
  ⟨"GOV_AIN_CFG", 0x200220, [(0x80000, 2), (0x4, 8)], [⟨31, 29, .rw, .cold, false, 0⟩, ⟨11, 0, .rw, .cold, false, 0⟩]⟩,
  ⟨"GOV_AIN_VAL", 0x200240, [(0x80000, 2), (0x4, 8)], [⟨31, 16, .ro, .cold, false, 0⟩, ⟨11, 0, .ro, .cold, false, 0⟩]⟩,
  ⟨"GOV_FAN", 0x200260, [(0x80000, 2)], [⟨31, 30, .rw, .cold, false, 2⟩, ⟨29, 27, .rw, .cold, false, 2⟩, ⟨26, 26, .w1c, .cold, false, 0⟩, ⟨25, 19, .ro, .cold, false, 100⟩, ⟨15, 0, .ro, .cold, false, 0⟩]⟩,
  ⟨"GOV_FAN", 0x200264, [(0x80000, 2)], [⟨31, 30, .rw, .cold, false, 1⟩, ⟨29, 27, .rw, .cold, false, 2⟩, ⟨26, 26, .w1c, .cold, false, 0⟩, ⟨25, 19, .ro, .cold, false, 100⟩, ⟨15, 0, .ro, .cold, false, 0⟩]⟩,
  ⟨"GOV_FAN", 0x200268, [(0x80000, 2)], [⟨31, 30, .rw, .cold, false, 1⟩, ⟨29, 27, .rw, .cold, false, 2⟩, ⟨26, 26, .w1c, .cold, false, 0⟩, ⟨25, 19, .ro, .cold, false, 100⟩, ⟨15, 0, .ro, .cold, false, 0⟩]⟩,
  ⟨"GOV_FAN", 0x20026C, [(0x80000, 2)], [⟨31, 30, .rw, .cold, false, 1⟩, ⟨29, 27, .rw, .cold, false, 2⟩, ⟨26, 26, .w1c, .cold, false, 0⟩, ⟨25, 19, .ro, .cold, false, 100⟩, ⟨15, 0, .ro, .cold, false, 0⟩]⟩,
  ⟨"GOV_REG_CFG", 0x200280, [(0x80000, 2)], [⟨31, 31, .rw, .cold, false, 1⟩, ⟨30, 28, .rw, .cold, false, 0⟩, ⟨27, 27, .rw, .cold, false, 1⟩, ⟨26, 26, .rw, .cold, false, 0⟩, ⟨25, 22, .rw, .cold, false, 0⟩, ⟨21, 15, .rw, .cold, false, 64⟩]⟩,
  ⟨"GOV_REG_CFG", 0x200284, [(0x80000, 2)], [⟨31, 31, .rw, .cold, false, 0⟩, ⟨30, 28, .rw, .cold, false, 0⟩, ⟨27, 27, .rw, .cold, false, 0⟩, ⟨26, 26, .rw, .cold, false, 0⟩, ⟨25, 22, .rw, .cold, false, 0⟩, ⟨21, 15, .rw, .cold, false, 0⟩]⟩,
  ⟨"GOV_REG_CFG", 0x200288, [(0x80000, 2)], [⟨31, 31, .rw, .cold, false, 0⟩, ⟨30, 28, .rw, .cold, false, 0⟩, ⟨27, 27, .rw, .cold, false, 0⟩, ⟨26, 26, .rw, .cold, false, 0⟩, ⟨25, 22, .rw, .cold, false, 0⟩, ⟨21, 15, .rw, .cold, false, 0⟩]⟩,
  ⟨"GOV_REG_CFG", 0x20028C, [(0x80000, 2)], [⟨31, 31, .rw, .cold, false, 0⟩, ⟨30, 28, .rw, .cold, false, 0⟩, ⟨27, 27, .rw, .cold, false, 0⟩, ⟨26, 26, .rw, .cold, false, 0⟩, ⟨25, 22, .rw, .cold, false, 0⟩, ⟨21, 15, .rw, .cold, false, 0⟩]⟩,
  ⟨"GOV_REG_CFG", 0x200290, [(0x80000, 2)], [⟨31, 31, .rw, .cold, false, 0⟩, ⟨30, 28, .rw, .cold, false, 0⟩, ⟨27, 27, .rw, .cold, false, 0⟩, ⟨26, 26, .rw, .cold, false, 0⟩, ⟨25, 22, .rw, .cold, false, 0⟩, ⟨21, 15, .rw, .cold, false, 0⟩]⟩,
  ⟨"GOV_REG_CFG", 0x200294, [(0x80000, 2)], [⟨31, 31, .rw, .cold, false, 0⟩, ⟨30, 28, .rw, .cold, false, 0⟩, ⟨27, 27, .rw, .cold, false, 0⟩, ⟨26, 26, .rw, .cold, false, 0⟩, ⟨25, 22, .rw, .cold, false, 0⟩, ⟨21, 15, .rw, .cold, false, 0⟩]⟩,
  ⟨"GOV_REG_CFG", 0x200298, [(0x80000, 2)], [⟨31, 31, .rw, .cold, false, 0⟩, ⟨30, 28, .rw, .cold, false, 0⟩, ⟨27, 27, .rw, .cold, false, 0⟩, ⟨26, 26, .rw, .cold, false, 0⟩, ⟨25, 22, .rw, .cold, false, 0⟩, ⟨21, 15, .rw, .cold, false, 0⟩]⟩,
  ⟨"GOV_REG_CFG", 0x20029C, [(0x80000, 2)], [⟨31, 31, .rw, .cold, false, 0⟩, ⟨30, 28, .rw, .cold, false, 0⟩, ⟨27, 27, .rw, .cold, false, 0⟩, ⟨26, 26, .rw, .cold, false, 0⟩, ⟨25, 22, .rw, .cold, false, 0⟩, ⟨21, 15, .rw, .cold, false, 0⟩]⟩,
  ⟨"GOV_REG_STATUS", 0x2002A0, [(0x80000, 2), (0x4, 8)], [⟨31, 30, .ro, .cold, false, 0⟩, ⟨29, 18, .ro, .cold, false, 0⟩, ⟨15, 0, .ro, .cold, false, 0⟩]⟩,
  ⟨"GOV_RATE", 0x200400, [(0x80000, 2), (0x4, 128)], [⟨11, 0, .ro, .cold, false, 0⟩]⟩,
  ⟨"PIN_CFG", 0x3002C0, [(0x300, 2)], [⟨31, 30, .rw, .warm, true, 0⟩, ⟨23, 21, .rw, .warm, true, 0⟩, ⟨20, 16, .rw, .warm, true, 0⟩, ⟨12, 12, .rw, .warm, true, 0⟩, ⟨11, 11, .rw, .warm, true, 0⟩, ⟨10, 10, .rw, .warm, true, 0⟩, ⟨9, 9, .rw, .warm, true, 0⟩, ⟨8, 8, .rw, .warm, true, 0⟩, ⟨7, 6, .rw, .warm, true, 0⟩, ⟨5, 4, .rw, .warm, true, 0⟩, ⟨3, 0, .rw, .warm, true, 7⟩]⟩]

/-- Register table, part 7. -/
def regTable7 : List RegDef := [
  ⟨"PIN_CFG", 0x3002C4, [(0x300, 2)], [⟨31, 30, .rw, .warm, true, 0⟩, ⟨23, 21, .rw, .warm, true, 0⟩, ⟨20, 16, .rw, .warm, true, 1⟩, ⟨12, 12, .rw, .warm, true, 0⟩, ⟨11, 11, .rw, .warm, true, 0⟩, ⟨10, 10, .rw, .warm, true, 0⟩, ⟨9, 9, .rw, .warm, true, 0⟩, ⟨8, 8, .rw, .warm, true, 0⟩, ⟨7, 6, .rw, .warm, true, 0⟩, ⟨5, 4, .rw, .warm, true, 0⟩, ⟨3, 0, .rw, .warm, true, 7⟩]⟩,
  ⟨"PIN_CFG", 0x3002C8, [(0x300, 2)], [⟨31, 30, .rw, .warm, true, 0⟩, ⟨23, 21, .rw, .warm, true, 0⟩, ⟨20, 16, .rw, .warm, true, 2⟩, ⟨12, 12, .rw, .warm, true, 0⟩, ⟨11, 11, .rw, .warm, true, 0⟩, ⟨10, 10, .rw, .warm, true, 0⟩, ⟨9, 9, .rw, .warm, true, 0⟩, ⟨8, 8, .rw, .warm, true, 0⟩, ⟨7, 6, .rw, .warm, true, 0⟩, ⟨5, 4, .rw, .warm, true, 0⟩, ⟨3, 0, .rw, .warm, true, 7⟩]⟩,
  ⟨"PIN_CFG", 0x3002CC, [(0x300, 2)], [⟨31, 30, .rw, .warm, true, 0⟩, ⟨23, 21, .rw, .warm, true, 0⟩, ⟨20, 16, .rw, .warm, true, 3⟩, ⟨12, 12, .rw, .warm, true, 0⟩, ⟨11, 11, .rw, .warm, true, 0⟩, ⟨10, 10, .rw, .warm, true, 0⟩, ⟨9, 9, .rw, .warm, true, 0⟩, ⟨8, 8, .rw, .warm, true, 0⟩, ⟨7, 6, .rw, .warm, true, 0⟩, ⟨5, 4, .rw, .warm, true, 0⟩, ⟨3, 0, .rw, .warm, true, 7⟩]⟩,
  ⟨"PIN_CFG", 0x3002D0, [(0x300, 2)], [⟨31, 30, .rw, .warm, true, 0⟩, ⟨23, 21, .rw, .warm, true, 0⟩, ⟨20, 16, .rw, .warm, true, 4⟩, ⟨12, 12, .rw, .warm, true, 0⟩, ⟨11, 11, .rw, .warm, true, 0⟩, ⟨10, 10, .rw, .warm, true, 0⟩, ⟨9, 9, .rw, .warm, true, 0⟩, ⟨8, 8, .rw, .warm, true, 0⟩, ⟨7, 6, .rw, .warm, true, 0⟩, ⟨5, 4, .rw, .warm, true, 0⟩, ⟨3, 0, .rw, .warm, true, 7⟩]⟩,
  ⟨"PIN_CFG", 0x3002D4, [(0x300, 2)], [⟨31, 30, .rw, .warm, true, 0⟩, ⟨23, 21, .rw, .warm, true, 0⟩, ⟨20, 16, .rw, .warm, true, 5⟩, ⟨12, 12, .rw, .warm, true, 0⟩, ⟨11, 11, .rw, .warm, true, 0⟩, ⟨10, 10, .rw, .warm, true, 0⟩, ⟨9, 9, .rw, .warm, true, 0⟩, ⟨8, 8, .rw, .warm, true, 0⟩, ⟨7, 6, .rw, .warm, true, 0⟩, ⟨5, 4, .rw, .warm, true, 0⟩, ⟨3, 0, .rw, .warm, true, 7⟩]⟩,
  ⟨"PIN_CFG", 0x3002D8, [(0x300, 2)], [⟨31, 30, .rw, .warm, true, 0⟩, ⟨23, 21, .rw, .warm, true, 0⟩, ⟨20, 16, .rw, .warm, true, 6⟩, ⟨12, 12, .rw, .warm, true, 0⟩, ⟨11, 11, .rw, .warm, true, 0⟩, ⟨10, 10, .rw, .warm, true, 0⟩, ⟨9, 9, .rw, .warm, true, 0⟩, ⟨8, 8, .rw, .warm, true, 0⟩, ⟨7, 6, .rw, .warm, true, 0⟩, ⟨5, 4, .rw, .warm, true, 0⟩, ⟨3, 0, .rw, .warm, true, 7⟩]⟩,
  ⟨"PIN_CFG", 0x3002DC, [(0x300, 2)], [⟨31, 30, .rw, .warm, true, 0⟩, ⟨23, 21, .rw, .warm, true, 0⟩, ⟨20, 16, .rw, .warm, true, 7⟩, ⟨12, 12, .rw, .warm, true, 0⟩, ⟨11, 11, .rw, .warm, true, 0⟩, ⟨10, 10, .rw, .warm, true, 0⟩, ⟨9, 9, .rw, .warm, true, 0⟩, ⟨8, 8, .rw, .warm, true, 0⟩, ⟨7, 6, .rw, .warm, true, 0⟩, ⟨5, 4, .rw, .warm, true, 0⟩, ⟨3, 0, .rw, .warm, true, 7⟩]⟩,
  ⟨"PIN_CFG", 0x3002E0, [(0x300, 2)], [⟨31, 30, .rw, .warm, true, 0⟩, ⟨23, 21, .rw, .warm, true, 0⟩, ⟨20, 16, .rw, .warm, true, 0⟩, ⟨12, 12, .rw, .warm, true, 0⟩, ⟨11, 11, .rw, .warm, true, 0⟩, ⟨10, 10, .rw, .warm, true, 0⟩, ⟨9, 9, .rw, .warm, true, 0⟩, ⟨8, 8, .rw, .warm, true, 0⟩, ⟨7, 6, .rw, .warm, true, 0⟩, ⟨5, 4, .rw, .warm, true, 0⟩, ⟨3, 0, .rw, .warm, true, 5⟩]⟩,
  ⟨"PIN_CFG", 0x3002E4, [(0x300, 2)], [⟨31, 30, .rw, .warm, true, 0⟩, ⟨23, 21, .rw, .warm, true, 0⟩, ⟨20, 16, .rw, .warm, true, 1⟩, ⟨12, 12, .rw, .warm, true, 0⟩, ⟨11, 11, .rw, .warm, true, 0⟩, ⟨10, 10, .rw, .warm, true, 0⟩, ⟨9, 9, .rw, .warm, true, 0⟩, ⟨8, 8, .rw, .warm, true, 0⟩, ⟨7, 6, .rw, .warm, true, 0⟩, ⟨5, 4, .rw, .warm, true, 0⟩, ⟨3, 0, .rw, .warm, true, 5⟩]⟩,
  ⟨"PIN_CFG", 0x3002E8, [(0x300, 2)], [⟨31, 30, .rw, .warm, true, 0⟩, ⟨23, 21, .rw, .warm, true, 0⟩, ⟨20, 16, .rw, .warm, true, 2⟩, ⟨12, 12, .rw, .warm, true, 0⟩, ⟨11, 11, .rw, .warm, true, 0⟩, ⟨10, 10, .rw, .warm, true, 0⟩, ⟨9, 9, .rw, .warm, true, 0⟩, ⟨8, 8, .rw, .warm, true, 0⟩, ⟨7, 6, .rw, .warm, true, 0⟩, ⟨5, 4, .rw, .warm, true, 0⟩, ⟨3, 0, .rw, .warm, true, 5⟩]⟩,
  ⟨"PIN_CFG", 0x3002EC, [(0x300, 2)], [⟨31, 30, .rw, .warm, true, 0⟩, ⟨23, 21, .rw, .warm, true, 0⟩, ⟨20, 16, .rw, .warm, true, 3⟩, ⟨12, 12, .rw, .warm, true, 0⟩, ⟨11, 11, .rw, .warm, true, 0⟩, ⟨10, 10, .rw, .warm, true, 0⟩, ⟨9, 9, .rw, .warm, true, 0⟩, ⟨8, 8, .rw, .warm, true, 0⟩, ⟨7, 6, .rw, .warm, true, 0⟩, ⟨5, 4, .rw, .warm, true, 0⟩, ⟨3, 0, .rw, .warm, true, 5⟩]⟩,
  ⟨"PIN_CFG", 0x3002F0, [(0x300, 2)], [⟨31, 30, .rw, .warm, true, 0⟩, ⟨23, 21, .rw, .warm, true, 0⟩, ⟨20, 16, .rw, .warm, true, 0⟩, ⟨12, 12, .rw, .warm, true, 0⟩, ⟨11, 11, .rw, .warm, true, 0⟩, ⟨10, 10, .rw, .warm, true, 0⟩, ⟨9, 9, .rw, .warm, true, 0⟩, ⟨8, 8, .rw, .warm, true, 0⟩, ⟨7, 6, .rw, .warm, true, 0⟩, ⟨5, 4, .rw, .warm, true, 0⟩, ⟨3, 0, .rw, .warm, true, 6⟩]⟩,
  ⟨"PIN_CFG", 0x3002F4, [(0x300, 2)], [⟨31, 30, .rw, .warm, true, 0⟩, ⟨23, 21, .rw, .warm, true, 0⟩, ⟨20, 16, .rw, .warm, true, 1⟩, ⟨12, 12, .rw, .warm, true, 0⟩, ⟨11, 11, .rw, .warm, true, 0⟩, ⟨10, 10, .rw, .warm, true, 0⟩, ⟨9, 9, .rw, .warm, true, 0⟩, ⟨8, 8, .rw, .warm, true, 0⟩, ⟨7, 6, .rw, .warm, true, 0⟩, ⟨5, 4, .rw, .warm, true, 0⟩, ⟨3, 0, .rw, .warm, true, 6⟩]⟩,
  ⟨"PIN_CFG", 0x3002F8, [(0x300, 2)], [⟨31, 30, .rw, .warm, true, 0⟩, ⟨23, 21, .rw, .warm, true, 0⟩, ⟨20, 16, .rw, .warm, true, 2⟩, ⟨12, 12, .rw, .warm, true, 0⟩, ⟨11, 11, .rw, .warm, true, 0⟩, ⟨10, 10, .rw, .warm, true, 0⟩, ⟨9, 9, .rw, .warm, true, 0⟩, ⟨8, 8, .rw, .warm, true, 0⟩, ⟨7, 6, .rw, .warm, true, 0⟩, ⟨5, 4, .rw, .warm, true, 0⟩, ⟨3, 0, .rw, .warm, true, 6⟩]⟩,
  ⟨"PIN_CFG", 0x3002FC, [(0x300, 2)], [⟨31, 30, .rw, .warm, true, 0⟩, ⟨23, 21, .rw, .warm, true, 0⟩, ⟨20, 16, .rw, .warm, true, 3⟩, ⟨12, 12, .rw, .warm, true, 0⟩, ⟨11, 11, .rw, .warm, true, 0⟩, ⟨10, 10, .rw, .warm, true, 0⟩, ⟨9, 9, .rw, .warm, true, 0⟩, ⟨8, 8, .rw, .warm, true, 0⟩, ⟨7, 6, .rw, .warm, true, 0⟩, ⟨5, 4, .rw, .warm, true, 0⟩, ⟨3, 0, .rw, .warm, true, 6⟩]⟩,
  ⟨"PIN_CFG", 0x300260, [(0x300, 2)], [⟨31, 30, .rw, .warm, true, 0⟩, ⟨23, 21, .rw, .warm, true, 0⟩, ⟨20, 16, .rw, .warm, true, 0⟩, ⟨12, 12, .rw, .warm, true, 0⟩, ⟨11, 11, .rw, .warm, true, 0⟩, ⟨10, 10, .rw, .warm, true, 0⟩, ⟨9, 9, .rw, .warm, true, 0⟩, ⟨8, 8, .rw, .warm, true, 0⟩, ⟨7, 6, .rw, .warm, true, 0⟩, ⟨5, 4, .rw, .warm, true, 0⟩, ⟨3, 0, .rw, .warm, true, 8⟩]⟩,
  ⟨"PIN_CFG", 0x300264, [(0x300, 2)], [⟨31, 30, .rw, .warm, true, 0⟩, ⟨23, 21, .rw, .warm, true, 0⟩, ⟨20, 16, .rw, .warm, true, 1⟩, ⟨12, 12, .rw, .warm, true, 0⟩, ⟨11, 11, .rw, .warm, true, 0⟩, ⟨10, 10, .rw, .warm, true, 0⟩, ⟨9, 9, .rw, .warm, true, 0⟩, ⟨8, 8, .rw, .warm, true, 0⟩, ⟨7, 6, .rw, .warm, true, 0⟩, ⟨5, 4, .rw, .warm, true, 0⟩, ⟨3, 0, .rw, .warm, true, 8⟩]⟩,
  ⟨"PIN_CFG", 0x300268, [(0x300, 2)], [⟨31, 30, .rw, .warm, true, 0⟩, ⟨23, 21, .rw, .warm, true, 0⟩, ⟨20, 16, .rw, .warm, true, 2⟩, ⟨12, 12, .rw, .warm, true, 0⟩, ⟨11, 11, .rw, .warm, true, 0⟩, ⟨10, 10, .rw, .warm, true, 0⟩, ⟨9, 9, .rw, .warm, true, 0⟩, ⟨8, 8, .rw, .warm, true, 0⟩, ⟨7, 6, .rw, .warm, true, 0⟩, ⟨5, 4, .rw, .warm, true, 0⟩, ⟨3, 0, .rw, .warm, true, 8⟩]⟩,
  ⟨"PIN_CFG", 0x30026C, [(0x300, 2)], [⟨31, 30, .rw, .warm, true, 0⟩, ⟨23, 21, .rw, .warm, true, 0⟩, ⟨20, 16, .rw, .warm, true, 3⟩, ⟨12, 12, .rw, .warm, true, 0⟩, ⟨11, 11, .rw, .warm, true, 0⟩, ⟨10, 10, .rw, .warm, true, 0⟩, ⟨9, 9, .rw, .warm, true, 0⟩, ⟨8, 8, .rw, .warm, true, 0⟩, ⟨7, 6, .rw, .warm, true, 0⟩, ⟨5, 4, .rw, .warm, true, 0⟩, ⟨3, 0, .rw, .warm, true, 8⟩]⟩,
  ⟨"PIN_CFG", 0x300270, [(0x300, 2)], [⟨31, 30, .rw, .warm, true, 0⟩, ⟨23, 21, .rw, .warm, true, 0⟩, ⟨20, 16, .rw, .warm, true, 4⟩, ⟨12, 12, .rw, .warm, true, 0⟩, ⟨11, 11, .rw, .warm, true, 0⟩, ⟨10, 10, .rw, .warm, true, 0⟩, ⟨9, 9, .rw, .warm, true, 0⟩, ⟨8, 8, .rw, .warm, true, 0⟩, ⟨7, 6, .rw, .warm, true, 0⟩, ⟨5, 4, .rw, .warm, true, 0⟩, ⟨3, 0, .rw, .warm, true, 8⟩]⟩]

/-- Register table, part 8. -/
def regTable8 : List RegDef := [
  ⟨"PIN_CFG", 0x300274, [(0x300, 2)], [⟨31, 30, .rw, .warm, true, 0⟩, ⟨23, 21, .rw, .warm, true, 0⟩, ⟨20, 16, .rw, .warm, true, 5⟩, ⟨12, 12, .rw, .warm, true, 0⟩, ⟨11, 11, .rw, .warm, true, 0⟩, ⟨10, 10, .rw, .warm, true, 0⟩, ⟨9, 9, .rw, .warm, true, 0⟩, ⟨8, 8, .rw, .warm, true, 0⟩, ⟨7, 6, .rw, .warm, true, 0⟩, ⟨5, 4, .rw, .warm, true, 0⟩, ⟨3, 0, .rw, .warm, true, 8⟩]⟩,
  ⟨"PIN_CFG", 0x300278, [(0x300, 2)], [⟨31, 30, .rw, .warm, true, 0⟩, ⟨23, 21, .rw, .warm, true, 0⟩, ⟨20, 16, .rw, .warm, true, 6⟩, ⟨12, 12, .rw, .warm, true, 0⟩, ⟨11, 11, .rw, .warm, true, 0⟩, ⟨10, 10, .rw, .warm, true, 0⟩, ⟨9, 9, .rw, .warm, true, 0⟩, ⟨8, 8, .rw, .warm, true, 0⟩, ⟨7, 6, .rw, .warm, true, 0⟩, ⟨5, 4, .rw, .warm, true, 0⟩, ⟨3, 0, .rw, .warm, true, 8⟩]⟩,
  ⟨"PIN_CFG", 0x30027C, [(0x300, 2)], [⟨31, 30, .rw, .warm, true, 0⟩, ⟨23, 21, .rw, .warm, true, 0⟩, ⟨20, 16, .rw, .warm, true, 7⟩, ⟨12, 12, .rw, .warm, true, 0⟩, ⟨11, 11, .rw, .warm, true, 0⟩, ⟨10, 10, .rw, .warm, true, 0⟩, ⟨9, 9, .rw, .warm, true, 0⟩, ⟨8, 8, .rw, .warm, true, 0⟩, ⟨7, 6, .rw, .warm, true, 0⟩, ⟨5, 4, .rw, .warm, true, 0⟩, ⟨3, 0, .rw, .warm, true, 8⟩]⟩,
  ⟨"PIN_CFG", 0x300000, [(0x4, 384)], [⟨31, 30, .rw, .warm, true, 0⟩, ⟨23, 21, .rw, .warm, true, 0⟩, ⟨20, 16, .rw, .warm, true, 0⟩, ⟨12, 12, .rw, .warm, true, 0⟩, ⟨11, 11, .rw, .warm, true, 0⟩, ⟨10, 10, .rw, .warm, true, 0⟩, ⟨9, 9, .rw, .warm, true, 0⟩, ⟨8, 8, .rw, .warm, true, 0⟩, ⟨7, 6, .rw, .warm, true, 0⟩, ⟨5, 4, .rw, .warm, true, 0⟩, ⟨3, 0, .rw, .warm, true, 0⟩]⟩,
  ⟨"PIN_BANK_SET", 0x300800, [(0x20, 12)], [⟨31, 0, .wo, .fixed, false, 0⟩]⟩,
  ⟨"PIN_BANK_CLR", 0x300804, [(0x20, 12)], [⟨31, 0, .wo, .fixed, false, 0⟩]⟩,
  ⟨"PIN_BANK_TGL", 0x300808, [(0x20, 12)], [⟨31, 0, .wo, .fixed, false, 0⟩]⟩,
  ⟨"PIN_BANK_LAT", 0x30080C, [(0x20, 12)], [⟨31, 0, .ro, .cold, false, 0⟩]⟩,
  ⟨"PIN_BANK_IN", 0x300810, [(0x20, 12)], [⟨31, 0, .ro, .cold, false, 0⟩]⟩,
  ⟨"PIN_BANK_CTL", 0x300814, [(0x20, 12)], [⟨31, 31, .rw, .warm, false, 0⟩, ⟨30, 30, .w1c, .warm, false, 0⟩]⟩,
  ⟨"PIN_IRQ_CFG", 0x300A00, [(0x4, 32)], [⟨11, 8, .rw, .warm, false, 0⟩, ⟨7, 0, .rw, .warm, false, 255⟩]⟩,
  ⟨"PIN_IRQ_STATUS", 0x300A80, [], [⟨31, 0, .w1c, .warm, false, 0⟩]⟩,
  ⟨"PIN_IRQ_ACTIVE", 0x300A84, [], [⟨31, 0, .ro, .warm, false, 0⟩]⟩,
  ⟨"PIN_CONFLICT", 0x300A90, [(0x4, 2)], [⟨31, 31, .w1c, .warm, false, 0⟩, ⟨30, 27, .ro, .warm, false, 0⟩, ⟨26, 22, .ro, .warm, false, 0⟩, ⟨21, 13, .ro, .warm, false, 0⟩, ⟨12, 4, .ro, .warm, false, 0⟩]⟩,
  ⟨"PIN_INJECT", 0x300AA0, [], [⟨31, 31, .w1s, .warm, false, 0⟩, ⟨30, 29, .rw, .warm, false, 0⟩, ⟨28, 28, .w1c, .warm, false, 0⟩]⟩,
  ⟨"ERR_STATUS", 0x400000, [(0x10000, 2)], [⟨31, 31, .ro, .cold, false, 0⟩, ⟨30, 30, .ro, .cold, false, 0⟩, ⟨29, 29, .w1c, .cold, false, 0⟩, ⟨28, 28, .wo, .fixed, false, 0⟩, ⟨27, 24, .ro, .cold, false, 0⟩, ⟨23, 16, .ro, .cold, false, 0⟩, ⟨4, 0, .ro, .cold, false, 0⟩]⟩,
  ⟨"ERR_EN", 0x400004, [(0x10000, 2)], [⟨18, 0, .rw, .cold, false, 524287⟩]⟩,
  ⟨"ERR_LOST", 0x400008, [(0x10000, 2)], [⟨31, 16, .ro, .warm, false, 0⟩, ⟨15, 0, .ro, .warm, false, 0⟩]⟩,
  ⟨"ERR_LOG", 0x40000C, [(0x10000, 2)], [⟨31, 16, .ro, .warm, false, 0⟩, ⟨15, 14, .ro, .cold, false, 0⟩, ⟨13, 12, .ro, .cold, false, 0⟩, ⟨11, 9, .ro, .warm, false, 0⟩]⟩,
  ⟨"ERR_NEXT_SEQ", 0x400010, [(0x10000, 2)], [⟨31, 0, .ro, .cold, false, 1⟩]⟩]

/-- Register table, part 9. -/
def regTable9 : List RegDef := [
  ⟨"ERR_NEXT_SEQ", 0x400014, [(0x10000, 2)], [⟨31, 0, .ro, .cold, false, 0⟩]⟩,
  ⟨"ERR_INJECT", 0x400018, [(0x10000, 2)], [⟨31, 31, .w1s, .warm, false, 0⟩, ⟨30, 28, .rw, .warm, false, 0⟩, ⟨27, 27, .w1c, .warm, false, 0⟩, ⟨26, 26, .rw, .warm, false, 0⟩, ⟨25, 16, .rw, .warm, false, 0⟩]⟩,
  ⟨"ERR_INJ_WORD", 0x40001C, [(0x10000, 2)], [⟨31, 0, .rw, .warm, false, 0⟩]⟩,
  ⟨"ERR_INJ_CTX", 0x400020, [(0x10000, 2)], [⟨31, 0, .rw, .warm, false, 0⟩]⟩,
  ⟨"ERR_LR", 0x400100, [(0x10000, 2), (0x4, 64)], [⟨31, 0, .ro, .cold, false, 0⟩]⟩,
  ⟨"RTC_STATUS", 0x480000, [], [⟨31, 31, .ro, .kept, false, 1⟩, ⟨30, 30, .ro, .kept, false, 0⟩, ⟨29, 29, .ro, .kept, false, 0⟩, ⟨14, 0, .ro, .kept, false, 0⟩]⟩,
  ⟨"RTC_DATE", 0x480004, [], [⟨31, 16, .ro, .kept, false, 2000⟩, ⟨15, 8, .ro, .kept, false, 1⟩, ⟨7, 0, .ro, .kept, false, 1⟩]⟩,
  ⟨"RTC_TIME", 0x480008, [], [⟨23, 16, .ro, .kept, false, 0⟩, ⟨15, 8, .ro, .kept, false, 0⟩, ⟨7, 0, .ro, .kept, false, 0⟩]⟩,
  ⟨"RTC_SECONDS", 0x48000C, [(0x4, 2)], [⟨31, 0, .ro, .kept, false, 0⟩]⟩,
  ⟨"ST_CTL", 0xD00000, [(0x10000, 2)], [⟨31, 31, .rw, .cold, false, 0⟩, ⟨11, 0, .rw, .cold, false, 60⟩]⟩,
  ⟨"ST_STATUS", 0xD00004, [(0x10000, 2)], [⟨31, 31, .ro, .warm, false, 0⟩, ⟨30, 30, .w1c, .warm, false, 0⟩, ⟨29, 29, .w1c, .warm, false, 0⟩, ⟨28, 26, .ro, .warm, false, 0⟩, ⟨15, 0, .ro, .cold, false, 0⟩]⟩,
  ⟨"ST_COUNTS", 0xD00008, [(0x10000, 2)], [⟨31, 31, .wo, .fixed, false, 0⟩, ⟨30, 16, .ro, .cold, false, 0⟩, ⟨15, 8, .ro, .cold, false, 0⟩, ⟨7, 0, .ro, .cold, false, 0⟩]⟩,
  ⟨"ST_LAST", 0xD0000C, [(0x10000, 2)], [⟨11, 8, .ro, .cold, false, 0⟩, ⟨7, 0, .ro, .cold, false, 0⟩]⟩,
  ⟨"ST_INJECT", 0xD00010, [(0x10000, 2)], [⟨31, 31, .w1s, .warm, false, 0⟩, ⟨30, 29, .rw, .warm, false, 0⟩, ⟨28, 28, .w1c, .warm, false, 0⟩, ⟨7, 0, .rw, .warm, false, 0⟩]⟩,
  ⟨"RST_CTL", 0x100000, [], [⟨31, 31, .rw, .cold, false, 1⟩]⟩,
  ⟨"RST_STATUS", 0x100004, [], [⟨31, 28, .ro, .cold, false, 0⟩, ⟨27, 25, .ro, .kept, false, 0⟩, ⟨15, 0, .ro, .cold, false, 0⟩]⟩,
  ⟨"CLK_STATUS", 0x100008, [], [⟨31, 31, .ro, .cold, false, 0⟩, ⟨30, 29, .ro, .cold, false, 0⟩, ⟨28, 25, .ro, .warm, false, 0⟩, ⟨17, 11, .w1c, .cold, false, 0⟩]⟩,
  ⟨"DBG_STATUS", 0xE01000, [], [⟨31, 29, .ro, .warm, false, 0⟩, ⟨28, 28, .w1c, .warm, false, 0⟩, ⟨27, 27, .w1c, .warm, false, 0⟩, ⟨5, 0, .ro, .warm, false, 0⟩]⟩,
  ⟨"DBG_TRACE_CTL", 0xE01004, [], [⟨31, 31, .rw, .warm, false, 0⟩, ⟨30, 27, .rw, .warm, false, 0⟩, ⟨15, 0, .w1c, .warm, false, 0⟩]⟩,
  ⟨"DBG_RAKE_CTL", 0xE01010, [], [⟨31, 31, .w1s, .warm, false, 0⟩, ⟨30, 30, .w1s, .warm, false, 0⟩, ⟨29, 29, .w1s, .warm, false, 0⟩, ⟨28, 28, .rw, .warm, false, 0⟩, ⟨11, 4, .rw, .warm, false, 0⟩, ⟨3, 0, .rw, .warm, false, 0⟩]⟩]

/-- Register table, part 10. -/
def regTable10 : List RegDef := [
  ⟨"DBG_RAKE_BP", 0xE01014, [], [⟨31, 31, .rw, .warm, false, 0⟩, ⟨30, 30, .rw, .warm, false, 0⟩, ⟨15, 8, .rw, .warm, false, 0⟩, ⟨7, 0, .rw, .warm, false, 0⟩]⟩,
  ⟨"DBG_RAKE_STATUS", 0xE01018, [], [⟨31, 31, .ro, .warm, false, 0⟩, ⟨30, 29, .ro, .warm, false, 0⟩, ⟨7, 0, .ro, .warm, false, 0⟩]⟩]

/-- Every documented register of the part. -/
def regTable : List RegDef :=
  regTable1 ++ regTable2 ++ regTable3 ++ regTable4 ++ regTable5 ++ regTable6 ++ regTable7 ++ regTable8 ++ regTable9 ++ regTable10

end Sys2Proof.Machine
end

