-- ==== Sys2Proof/Machine/Ops.lean ====
section
/-! DEFINITION. The operations every family shares: register words and fields, free values, units and halves, raising
reports. -/

namespace Sys2Proof.Machine

/-! ## Registers -/

/-- Address a is an instance of a register kind with these strides and counts, from base on. -/
def RegDef.hits : Nat → List (Nat × Nat) → Nat → Bool
  | base, [], a => base == a
  | base, (st, n) :: r, a =>
    if a < base then false
    else if (a - base) / st < n then RegDef.hits base r (a - (a - base) / st * st)
    else RegDef.hits base r (a - (n - 1) * st)

/-- The register documented at address a (R9: none where there is none). -/
def findReg (a : Nat) : Option RegDef := regTable.find? fun d => RegDef.hits d.base d.dims a

/-- The word these fields give. -/
def fieldsWord : List RegField → Nat
  | [] => 0
  | f :: r => putBits (fieldsWord r) f.hi f.lo f.rst

/-- The word of the register at address a after a reset (the Reset column); 0 where there is none (R9). -/
def resetWord (a : Nat) : Word :=
  match findReg a with
  | some d => BitVec.ofNat 32 (fieldsWord d.fields)
  | none => 0

/-- The stored word of the register at address a. -/
def State.reg (s : State) (a : Nat) : Word := Bank.get resetWord s.regs a

/-- s with the word w stored in the register at address a. -/
def State.setReg (s : State) (a : Nat) (w : Word) : State := { s with regs := Bank.set resetWord s.regs a w }

/-- The value of a register field. -/
def State.fld (s : State) (f : Fld) : Nat := bitsOf (s.reg f.addr).toNat f.hi f.lo

/-- s with a register field at value v (its low bits). -/
def State.setFld (s : State) (f : Fld) (v : Nat) : State :=
  s.setReg f.addr (BitVec.ofNat 32 (putBits (s.reg f.addr).toNat f.hi f.lo v))

/-- A one-bit field is 1. -/
def State.on (s : State) (f : Fld) : Bool := s.fld f == 1

/-- Set a one-bit field to 1 or to 0. -/
def State.put (s : State) (f : Fld) (b : Bool) : State := s.setFld f (bnat b)

/-- Set several fields, in order. -/
def State.setFlds (s : State) : List (Fld × Nat) → State
  | [] => s
  | (f, v) :: r => (s.setFld f v).setFlds r

/-- The largest value of a field. -/
def Fld.max (f : Fld) : Nat := 2 ^ (f.hi + 1 - f.lo) - 1

/-- Add 1 to a saturating counter field (R760), setting its saturation flag where an event cannot be counted. -/
def State.count (s : State) (f : Fld) (sat : Option Fld) : State :=
  if s.fld f < f.max then s.setFld f (s.fld f + 1)
  else match sat with
    | some g => s.setFld g 1
    | none => s

/-- Add n to a saturating counter field with no flag. -/
def State.countN (s : State) (f : Fld) (n : Nat) : State := s.setFld f (min f.max (s.fld f + n))

/-- Do a unit's operation only where it is present. -/
def State.when (s : State) (b : Bool) (f : State → State) : State := if b then f s else s

/-- Fold an operation over a list of numbers. -/
def State.each (s : State) (l : List Nat) (f : Nat → State → State) : State := l.foldl (fun t n => f n t) s

/-! ## Free values (Assumption 3) -/

/-- The next free value. -/
def State.freeVal (s : State) : Nat := Config.free s.fresh

/-- s with one free value used. -/
def State.useFree (s : State) : State := { s with fresh := s.fresh + 1 }

/-- Record what an access returned (Assumption 1). -/
def State.reply (s : State) (a : Answer) : State := { s with answer := a }

/-- A host whose link is in D3hot: the link accepts configuration requests and PME messages alone (R397). -/
def State.asleep (s : State) (a : Agent) : Bool :=
  match a with
  | .link l => decide ((s.hostLink l).config.function = .d3hot)
  | _ => false

/-- A request of agent a has effect t, unless its link is in D3hot (R397). -/
def State.fromAgent (s : State) (a : Agent) (t : State) : State := if s.asleep a then s.reply .abort else t

/-! ## Units and halves (R23, R24) -/

/-- The half of pan n. -/
def halfOfPan (n : Nat) : Nat := n / 128
/-- The half of rake r (device number). -/
def halfOfRake (r : Nat) : Nat := r / 2048
/-- The half of queue block q (device number). -/
def halfOfQueue (q : Nat) : Nat := q / 512
/-- The half of core c. -/
def halfOfCore (c : Nat) : Nat := c / 8
/-- The half of coherent port p. -/
def halfOfPort (p : Nat) : Nat := p / 2

/-! ## Reports (R659 to R671) -/

/-- CLASS values of R659. -/
def NOTICE : Nat := 0
def ERROR : Nat := 1
def FATAL : Nat := 2

/-- A report to raise: its half, class, source, code, unit, context and injected mark. -/
structure Raise where
  half : Nat
  cls : Nat
  src : Nat
  code : Nat
  unit : Nat
  ctx : Nat := 0
  inj : Bool := false
deriving DecidableEq, Repr

/-- The report word of R659. -/
def Raise.word (r : Raise) : Word :=
  BitVec.ofNat 32 (r.cls * 2 ^ 30 + bnat r.inj * 2 ^ 29 + r.src % 32 * 2 ^ 24 + r.code % 256 * 2 ^ 16 + r.unit % 2 ^ 16)




/-- No log bank of half h is in service (R681). -/
def State.noLogBank (s : State) (h : Nat) : Bool := s.fld (F.ERR_LOG_BANK0 h) == 1 && s.fld (F.ERR_LOG_BANK1 h) == 1

/-- Some causeway link group of half h is UP (R671, R492). -/
def State.causewayUp (s : State) (h : Nat) : Bool := s.fld (F.CSW_STATUS_UP h) != 0

/-- R682: while a half has no bank in service its last-resort file takes FATAL and ERROR reports. -/
def State.lrRecord (s : State) (h : Nat) (r : Report) : State :=
  let c := s.fld (F.ERR_STATUS_LR_COUNT h)
  if c < 16 then
    ((((s.setReg (R.ERR_LR h (4 * c)) (BitVec.ofNat 32 r.ns.toNat)).setReg (R.ERR_LR h (4 * c + 1))
      (BitVec.ofNat 32 (r.ns.toNat / 2 ^ 32))).setReg (R.ERR_LR h (4 * c + 2)) r.word).setReg
      (R.ERR_LR h (4 * c + 3)) r.ctx).setFld (F.ERR_STATUS_LR_COUNT h) (c + 1)
  else s.count (F.ERR_STATUS_LR_DROP h) none

/-- R668: add 1 to the lost counter of a class in half h, with its saturation flag; a lost FATAL sets FATAL_LOST. -/
def State.countLost (s : State) (h cls : Nat) : State :=
  if cls = 2 then (s.count (F.ERR_LOG_FATAL h) (some ⟨R.ERR_LOG h, 11, 11⟩)).setFld (F.ERR_STATUS_FATAL_LOST h) 1
  else if cls = 1 then s.count (F.ERR_LOST_ERROR h) (some ⟨R.ERR_LOG h, 10, 10⟩)
  else s.count (F.ERR_LOST_NOTICE h) (some ⟨R.ERR_LOG h, 9, 9⟩)

/-- R665, R668: put a report into its segment, discarding the oldest of a full one. -/
def State.enqueueReport (s : State) (h cls : Nat) (r : Report) : State :=
  let l := s.log h
  let full := if cls = 2 then l.fatals.length ≥ 64 else if cls = 1 then l.errors.length ≥ 448 else l.notices.length ≥ 512
  let room (q : List Report) := if full then q.drop 1 else q
  let l' := if cls = 2 then { l with fatals := room l.fatals ++ [r] }
    else if cls = 1 then { l with errors := room l.errors ++ [r] }
    else { l with notices := room l.notices ++ [r] }
  (s.setLog h l').when full (·.countLost h cls)

/-- Record something the part sends. -/
def State.send (s : State) (x : Sent) : State := { s with sent := x :: s.sent }

/-- Set an event bit of a link's mailbox (R418): when it newly sets, MSI-X and EVENT messages follow its enables. -/
def State.mbxEvent (s : State) (l bit : Nat) : State :=
  let f : Fld := ⟨R.MBX_EVENT (l / 4) (l % 4), bit, bit⟩
  if s.on f then s
  else
    let t := s.setFld f 1
    let t := if t.on (F.MBX_CTL_IRQ_EN (l / 4) (l % 4)) then t.send (.msix l (t.fld (F.MBX_CTL_EVT_VEC (l / 4) (l % 4)))) else t
    if t.on (F.MBX_CTL_EVT_VDM (l / 4) (l % 4)) then t.send (.event l (2 ^ bit)) else t

/-- R671, R434: the mailbox event LOG or FATAL of every link of half h's ports, and of the other half's while a causeway
group is UP. -/
def State.mbxEvents (s : State) (h : Nat) (fatal : Bool) : State :=
  s.each (List.range 16) fun l t => if l / 8 = h || s.causewayUp h then t.mbxEvent l (if fatal then 2 else 1) else t

/-- What raising a report does beside queueing it: the latches behind ERRn (R672) and ERR_FATALn (R670, R673) and the
mailbox events (R671). -/
def State.reportLines (s : State) (r : Raise) : State :=
  if r.cls = 2 then (s.setFld (F.ERR_STATUS_FATAL_LATCH r.half) 1).mbxEvents r.half true
  else if r.cls = 1 then
    (if bitOf (s.fld (F.ERR_EN_SRC r.half)) r.src then s.setFld (F.ERR_STATUS_ERR_LATCH r.half) 1 else s).mbxEvents r.half false
  else s

/-- The effective scope of the debug port (R736): bit 0 COMMANDS, 1 MEMORY, 2 HALT. -/
def State.dbgScope (s : State) : Nat :=
  if bitOf (s.fld F.SEC_KEYS_CTRL) 8 then 0
  else if s.on F.SEC_STATUS_APPROVED then (if s.on F.SEC_STATUS_DBG_GRANTED then s.fld F.SEC_STATUS_DBG_SCOPE else 0)
  else 7

/-- A trace record of kind k (1 report, 2 dispatch, 3 completion, 4 reload) with its content waits to be sent, or finds the
buffer of 64 full and is dropped (R740). -/
def State.trace (s : State) (k h w : Nat) : State :=
  if !s.on F.DBG_TRACE_CTL_EN || !bitOf (s.fld F.DBG_TRACE_CTL_SRC) (k - 1) || !bitOf s.dbgScope 0 then s
  else if s.dbg.trace.length < 64 then
    { s with dbg := { s.dbg with trace := s.dbg.trace ++ [leBytes 1 k ++ leBytes 1 h ++ leBytes 2 s.ns.toNat ++ leBytes 4 w] } }
  else s.count F.DBG_TRACE_CTL_DROPS none

/-- Raise one report in the half of its unit (R665). -/
def State.raise (s : State) (r : Raise) : State :=
  ((s.reportLines r).enqueueReport r.half r.cls { word := r.word, ctx := BitVec.ofNat 32 r.ctx, ns := s.ns }).trace 1 r.half r.word.toNat

/-- The order of reports raised together (R666): class, then SOURCE, then UNIT. -/
def Raise.before (a b : Raise) : Bool :=
  if a.cls ≠ b.cls then decide (b.cls < a.cls)
  else if a.src ≠ b.src then decide (a.src < b.src)
  else decide (a.unit ≤ b.unit)

/-- Put one report into a list kept in the order of R666. -/
def Raise.insertInto (r : Raise) : List Raise → List Raise
  | [] => [r]
  | x :: l => if x.before r then x :: r.insertInto l else r :: x :: l

/-- Raise several reports detected together, in the order of R666. -/
def State.raiseAll (s : State) (l : List Raise) : State :=
  (l.foldl (fun acc r => r.insertInto acc) []).foldl (fun t r => t.raise r) s

/-- R672: assert ERRn of half h whatever ERR_EN holds. -/
def State.assertErr (s : State) (h : Nat) : State := s.setFld (F.ERR_STATUS_ERR_LATCH h) 1

/-- The standing causes of ERRn in half h (R672). -/
def State.standingErr (s : State) (h : Nat) : Bool := bitsOf (s.fld (F.ERR_STATUS_STANDING h)) 2 0 != 0

/-- ERRn is low (R672): a latch of either half, or a standing cause. -/
def State.errLow (s : State) : Bool :=
  s.on (F.ERR_STATUS_ERR_LATCH 0) || s.on (F.ERR_STATUS_ERR_LATCH 1) || s.standingErr 0 || s.standingErr 1

/-- ERR_FATALn is low (R673): a latch of either half, or a standing fatal cause. -/
def State.errFatalLow (s : State) : Bool :=
  s.on (F.ERR_STATUS_FATAL_LATCH 0) || s.on (F.ERR_STATUS_FATAL_LATCH 1) ||
    bitOf (s.fld (F.ERR_STATUS_STANDING 0)) 3 || bitOf (s.fld (F.ERR_STATUS_STANDING 1)) 3

/-- Set or clear one standing cause of half h: bit 0 thermal stop, 1 split or HALF_LOST, 2 no log bank, 3 fatal (R690). -/
def State.setStanding (s : State) (h i : Nat) (b : Bool) : State :=
  s.setFld (F.ERR_STATUS_STANDING h) (putBits (s.fld (F.ERR_STATUS_STANDING h)) i i (bnat b))

/-- The UNIT of an ADDRESS report (R661). -/
def agentUnit : Agent → Nat
  | .core c => c.val
  | .mgmt h => 0x100 + h.val
  | .sched h => 0x200 + h.val
  | .coh h => 0x300 + h.val
  | .link l => 0x400 + l.val
  | .debug => 0x500

/-- The half an agent belongs to. -/
def agentHalf : Agent → Nat
  | .core c => c.val / 8
  | .mgmt h => h.val
  | .sched h => h.val
  | .coh h => h.val
  | .link l => l.val / 8
  | .debug => 0

/-- A NOTICE of class address misuse (SOURCE ADDRESS, R660). -/
def State.misuse (s : State) (a : Agent) (code addr : Nat) : State :=
  s.raise { half := agentHalf a, cls := 0, src := 1, code := code, unit := agentUnit a, ctx := addr }

end Sys2Proof.Machine
end

