-- ==== Sys2Proof/Machine/Memory.lean ====
section
/-! DEFINITION. The device address space (R361, R362), the bytes of the lagoon, the stacks and host memory, and their ECC
(R376, R377). -/

namespace Sys2Proof.Machine

/-! ## The map -/

/-- Base addresses of R361. -/
def QUEUE_WINDOWS : Nat := 0x04000000
def RAKE_DOORBELLS : Nat := 0x04010000
def SCHED_WINDOWS : Nat := 0x04020000
def SCRATCH_BASE (h : Nat) : Nat := if h = 0 then 0x08000000 else 0x09000000
def HBM_BASE (h : Nat) : Nat := if h = 0 then 0x001000000000 else 0x001800000000
def HBM_BYTES : Nat := 0x000600000000
def HOST_BASE : Nat := 0x010000000000
def HOST_END : Nat := 0x100000000000000

/-- The regions of R361, with the unit or offset the address names. -/
inductive Region where
  | control (a : Nat)
  | queueWindow (d off : Nat)
  | doorbell (r off : Nat)
  | schedWindow (c off : Nat)
  | scratch (h off : Nat)
  | hbm (h off : Nat)
  | host (phys : Nat)
  | unmapped
deriving DecidableEq, Repr

/-- SCRATCH of half h in bytes (R364, R384). -/
def State.scratchBytes (s : State) (h : Nat) : Nat := s.fld (F.MEM_LAG_PART_SCRATCH h) * 0x100000

/-- The stack of half h is not FAILED (R371). -/
def State.stackMapped (s : State) (h : Nat) : Bool := s.fld (F.MEM_HBM_STATUS_STATE h) != 2

/-- The region of a device address (R361, R362). -/
def State.region (s : State) (a : Nat) : Region :=
  if a < 0x02000000 then .control a
  else if QUEUE_WINDOWS ≤ a && a < QUEUE_WINDOWS + 0x10000 then .queueWindow ((a - QUEUE_WINDOWS) / 64) ((a - QUEUE_WINDOWS) % 64)
  else if RAKE_DOORBELLS ≤ a && a < RAKE_DOORBELLS + 0x8000 then .doorbell ((a - RAKE_DOORBELLS) / 8) ((a - RAKE_DOORBELLS) % 8)
  else if SCHED_WINDOWS ≤ a && a < SCHED_WINDOWS + 0x40000 then .schedWindow ((a - SCHED_WINDOWS) / 0x4000) ((a - SCHED_WINDOWS) % 0x4000)
  else if SCRATCH_BASE 0 ≤ a && a < SCRATCH_BASE 0 + s.scratchBytes 0 then .scratch 0 (a - SCRATCH_BASE 0)
  else if SCRATCH_BASE 1 ≤ a && a < SCRATCH_BASE 1 + s.scratchBytes 1 then .scratch 1 (a - SCRATCH_BASE 1)
  else if HBM_BASE 0 ≤ a && a < HBM_BASE 0 + HBM_BYTES && s.stackMapped 0 then .hbm 0 (a - HBM_BASE 0)
  else if HBM_BASE 1 ≤ a && a < HBM_BASE 1 + HBM_BYTES && s.stackMapped 1 then .hbm 1 (a - HBM_BASE 1)
  else if HOST_BASE ≤ a && a < HOST_END then .host (a - HOST_BASE)
  else .unmapped

/-- The address lies in the stack of a half that is FAILED (R371). -/
def State.stackGone (s : State) (a : Nat) : Bool :=
  [0, 1].any fun h => decide (HBM_BASE h ≤ a) && decide (a < HBM_BASE h + HBM_BYTES) && !s.stackMapped h

/-- The half whose scratch region an address lies in, whatever the region's size (R361). -/
def scratchHalf (a : Nat) : Option Nat :=
  if SCRATCH_BASE 0 ≤ a && a < SCRATCH_BASE 1 then some 0 else if SCRATCH_BASE 1 ≤ a && a < SCRATCH_BASE 1 + 0x01000000 then some 1 else none

/-- An access to the address waits for a partition command that changes the scratch of its half (R367). -/
def State.scratchHeld (s : State) (a : Nat) : Bool :=
  match scratchHalf a with
  | none => false
  | some h => match s.partJob h with
    | some p => p.scratch != s.fld (F.MEM_LAG_PART_SCRATCH h)
    | none => false

/-- The pseudo-channel, 0 to 31, and the byte address within it of offset x of a stack, by MEM_HBM_STATUS.ILV (R370). -/
def hbmPlace (ilv x : Nat) : Nat × Nat :=
  if ilv = 0 then (bitsOf x 12 8 ^^^ bitsOf x 17 13, x / 8192 * 256 + x % 256) else (x / 0x30000000, x % 0x30000000)

/-- The channel of a stack and the pseudo-channel of the channel that pseudo-channel k is (R369). -/
def hbmChannel (k : Nat) : Nat × Nat := (k / 2, k % 2)

/-- The key of the byte behind a device address: a scratch byte's lagoon offset is 16 MB − SCRATCH + x (R364). -/
def State.memKey (s : State) (a : Nat) : Option Nat :=
  match s.region a with
  | .scratch h x => some (SCRATCH_BASE h + (0x01000000 - s.scratchBytes h) + x)
  | .hbm _ _ => some a
  | .host _ => some a
  | _ => none

/-- Every byte of [a, a + n) is memory. -/
def State.mapped (s : State) (a n : Nat) : Bool :=
  n == 0 || ((s.memKey a).isSome && (s.memKey (a + n - 1)).isSome && decide (s.memKey (a + n - 1) = (s.memKey a).map (· + (n - 1))))

/-! ## Bytes and words -/

/-- The byte at a key; unlisted bytes are zero (R372: Assumption 4). -/
def State.byteAt (s : State) (k : Nat) : Byte := Bank.get (fun _ => (0 : Byte)) s.mem k

/-- s with one byte stored. -/
def State.setByte (s : State) (k : Nat) (b : Byte) : State := { s with mem := Bank.set (fun _ => (0 : Byte)) s.mem k b }

/-- n bytes from key k on. -/
def State.bytesAt (s : State) (k : Nat) : Nat → List Byte
  | 0 => []
  | n + 1 => s.byteAt k :: s.bytesAt (k + 1) n

/-- s with bytes stored from key k on. -/
def State.setBytes (s : State) (k : Nat) : List Byte → State
  | [] => s
  | b :: r => (s.setByte k b).setBytes (k + 1) r

/-- The half, memory (0 lagoon, 1 stack) and 64-bit word index of a key (R386); none for host memory. -/
def eccPlace (k : Nat) : Option (Nat × Nat × Nat) :=
  if k < HBM_BASE 0 then some ((k - SCRATCH_BASE 0) / 0x01000000, 0, (k - SCRATCH_BASE 0) % 0x01000000 / 8)
  else if k < HBM_BASE 1 then some (0, 1, (k - HBM_BASE 0) / 8)
  else if k < HOST_BASE then some (1, 1, (k - HBM_BASE 1) / 8)
  else none

/-- A General Media Event record for each link that exposes the word of half h's stack (R400). -/
def State.mediaEvents (s : State) (h word : Nat) (ue : Bool) : State :=
  s.each (List.range 16) fun l t =>
    match (t.hostLink l).extents.find? fun e => e.half == h && decide (e.off ≤ word * 8) && decide (word * 8 < e.off + e.len) with
    | some e => t.modHostLink l fun k => { k with events := k.events ++ [⟨e.dpa + (word * 8 - e.off), ue⟩] }
    | none => t

/-- Record an ECC event and raise its report (R376, R386): ue for uncorrectable, scrub for the scrubber. -/
def State.eccEvent (s : State) (h sel word : Nat) (ue scrub inj : Bool) (code cls : Nat) : State :=
  let load := if ue then !s.on (F.MEM_ECC_STATUS_UE h) else !s.on (F.MEM_ECC_STATUS_UE h) && !s.on (F.MEM_ECC_STATUS_CE h)
  let s1 := if load then s.setFlds [(F.MEM_ECC_STATUS_MEM_SEL h, sel), (F.MEM_ECC_STATUS_SRC h, bnat scrub), (F.MEM_ECC_ADDR_WORD h, word)] else s
  let s2 := if ue then s1.setFld (F.MEM_ECC_STATUS_UE h) 1
    else (s1.setFld (F.MEM_ECC_STATUS_CE h) 1).count (F.MEM_ECC_STATUS_CE_COUNT h) none
  let s2 := if sel = 1 then s2.mediaEvents h word ue else s2
  s2.raise { half := h, cls := cls, src := 9, code := code, unit := sel * 2 + h, ctx := word, inj := inj }

/-- What a check of the word at index w (key div 8) finds. -/
inductive Check where
  | ok | corrected | failed | poisoned
deriving DecidableEq, Repr

/-- The finding of R376 for one stored word; a mask of two or more wrong bits is uncorrectable (Assumption 5). -/
def State.checkWord (s : State) (w : Nat) : Check :=
  if s.poisoned w then .poisoned
  else if popcount 72 (s.flipMask w) = 0 then .ok
  else if popcount 72 (s.flipMask w) = 1 then .corrected
  else .failed

/-- The injected mark of a word's wrong bits (R390). -/
def State.flipInjected (s : State) (w : Nat) : Bool := decide (2 ^ 72 ≤ s.flipMask w)

/-- A read checks one word (R376): a single error is corrected and written back, an uncorrectable one reported. -/
def State.readCheck (s : State) (w : Nat) (scrub : Bool) : State :=
  match eccPlace (w * 8), s.checkWord w with
  | some (h, sel, i), .corrected => (s.setFlipMask w 0).eccEvent h sel i false scrub (s.flipInjected w) 1 NOTICE
  | some (h, sel, i), .failed => s.eccEvent h sel i true scrub (s.flipInjected w) 2 ERROR
  | _, _ => s

/-- The 64-bit word indexes that n bytes from key k touch. -/
def wordsOf (k n : Nat) : List Nat := if n = 0 then [] else (List.range ((k + n - 1) / 8 - k / 8 + 1)).map (· + k / 8)

/-- Read n bytes from key k: the state after the checks, the bytes, and whether any word is poisoned or uncorrectable. -/
def State.readMem (s : State) (k n : Nat) : State × List Byte × Bool :=
  let ws := wordsOf k n
  let bad := ws.any fun w => s.checkWord w == .poisoned || s.checkWord w == .failed
  (s.each ws fun w t => t.readCheck w false, s.bytesAt k n, bad)

/-- Store bytes within one word (R377): a whole word takes fresh check bits; fewer bytes merge into what a read finds. -/
def State.writeWord (s : State) (k : Nat) (l : List Byte) : State :=
  let w := k / 8
  if l.length = 8 then ((s.setBytes k l).setFlipMask w 0).setPoisoned w false
  else match eccPlace k, s.checkWord w with
    | some (h, sel, i), .failed =>
      (((s.setBytes k l).setFlipMask w 0).setPoisoned w true).eccEvent h sel i true false (s.flipInjected w) 3 ERROR
    | some _, .corrected => (s.readCheck w false).setBytes k l
    | _, _ => s.setBytes k l

/-- Store bytes from key k on, word by word; n bounds the words. -/
def State.writeMem (s : State) (k : Nat) (l : List Byte) : Nat → State
  | 0 => s
  | n + 1 =>
    if l.isEmpty then s
    else State.writeMem (s.writeWord k (l.take (8 - k % 8))) (k + (8 - k % 8)) (l.drop (8 - k % 8)) n

/-- Read n bytes at device address a: none where it is not memory (R362). -/
def State.loadBytes (s : State) (a n : Nat) : Option (State × List Byte × Bool) :=
  if s.mapped a n then some (s.readMem ((s.memKey a).getD 0) n) else none

/-- A write to n bytes at device address a ends the cores' reservations on its lines (R323). -/
def State.breakResv (s : State) (a n : Nat) : State :=
  s.each (List.range 16) fun c t =>
    if a / 64 < (t.core c).resv && (t.core c).resv ≤ (a + n - 1) / 64 + 1 then t.modCore c fun k => { k with resv := 0 } else t

/-- Store bytes at device address a; unmapped bytes have no effect (R362). -/
def State.storeBytes (s : State) (a : Nat) (l : List Byte) : State :=
  if s.mapped a l.length then (s.breakResv a l.length).writeMem ((s.memKey a).getD 0) l (l.length + 1) else s

/-- Store bytes poisoned: the words they touch are poisoned. -/
def State.poisonWords (s : State) (k n : Nat) : State := s.each (wordsOf k n) fun w t => t.setPoisoned w true

/-- Set the bytes of [k, k + n) to zero with valid check bits. -/
def State.clearMem (s : State) (k n : Nat) : State :=
  { s with mem := Bank.drop (fun i => k ≤ i && i < k + n) s.mem
           poison := Bank.drop (fun w => k ≤ w * 8 && w * 8 + 8 ≤ k + n) s.poison
           flips := Bank.drop (fun w => k ≤ w * 8 && w * 8 + 8 ≤ k + n) s.flips }

/-- The canonical form of memory: addresses strictly rising, no entry zero. -/
def Memory.wf (m : List Host.Cell) : Bool := Bank.wf (fun _ => (0 : Byte)) m

/-- A NOTICE for an access to an unmapped address (R362). -/
def State.unmappedNotice (s : State) (a : Agent) (addr : Nat) : State := s.misuse a 4 (addr % 2 ^ 32)

end Sys2Proof.Machine
end

