-- ==== Sys2Proof/Machine/SchedOps.lean ====
section
/-! DEFINITION. The dataflow scheduler's graphs, ports, ready lists and completions (08_dataflow_scheduler). -/

namespace Sys2Proof.Machine

/-! ## Graphs and nodes -/

/-- The key of a node. -/
def nodeKey (g n : Nat) : Nat := g * 65536 + n

def State.node (s : State) (g n : Nat) : Option Node := s.nodeAt (nodeKey g n)
def State.setNode (s : State) (g n : Nat) (x : Node) : State := s.setNodeAt (nodeKey g n) (some x)
def State.modNode (s : State) (g n : Nat) (f : Node → Node) : State :=
  match s.node g n with
  | some x => s.setNode g n (f x)
  | none => s

/-- The home half of a graph. -/
def State.home (s : State) (g : Nat) : Nat :=
  match s.graph g with
  | some x => x.home
  | none => 0

/-- The graph is started and its home half's scheduler is enabled (R284, R310). -/
def State.runs (s : State) (g : Nat) : Bool :=
  match s.graph g with
  | some x => x.started && s.on (F.SCHED_CTL_EN x.home)
  | none => false

/-- A link whose tokens wait in the hold of this producer. -/
def Link.holds (l : Link) (g n : Nat) : Bool := l.srcGraph == g && l.srcNode == n && !l.hold.isEmpty

/-- Some port of graph g holds a token of producer (pg, pn) waiting. -/
def State.waitsIn (s : State) (g pg pn : Nat) : Bool :=
  match s.graph g with
  | none => false
  | some x => x.ids.any fun i => match s.node g i with
    | none => false
    | some y => y.ins.any fun p => p.waits.any fun w => w.graph == pg && w.node == pn

/-- A token of the node waits in its hold (R286, R306). -/
def State.holding (s : State) (g n : Nat) : Bool :=
  s.waitsIn g g n || s.links.any (fun l => l.holds g n || (l.srcGraph == g && l.srcNode == n && s.waitsIn l.dstGraph g n))

/-- An input port is satisfied (R283). -/
def InPort.satisfied (p : InPort) : Bool := decide (1 ≤ p.need) && decide (p.need ≤ p.tokens.length)

/-- A port is consuming (R283). -/
def InPort.consuming (p : InPort) : Bool := !p.latest || p.consume

/-- The firing rule of R284 on the ports alone. -/
def Node.portsFire (x : Node) : Bool :=
  let needing := x.ins.filter fun p => decide (1 ≤ p.need)
  (if x.anyRule then needing.any (·.satisfied) else needing.all (·.satisfied)) &&
    x.ins.any fun p => p.satisfied && p.consuming

/-- A node is fireable (R284). -/
def State.fireable (s : State) (g n : Nat) : Bool :=
  match s.node g n with
  | none => false
  | some x => s.runs g && !(x.place == .dispatched || x.place == .preempted || x.place == .reload) && !x.faulted &&
      !s.holding g n && (x.portsFire || x.fired.isSome)

/-! ## Ready lists (R290) -/

/-- A node waits for an entry; the first to wait since an entry was free is reported. A yielded firing stays PREEMPTED. -/
def State.waitReady (s : State) (h g n : Nat) : State :=
  let c := s.sched h
  let t := (s.setSched h { c with waits := c.waits ++ [(g, n)], episode := c.episode + 1 }).modNode g n fun x =>
    { x with place := if x.place = .preempted then .preempted else .waiting }
  let t := t.count (F.SCHED_COUNTS_READY_WAITS h) none
  if c.episode = 0 then t.raise { half := h, cls := NOTICE, src := 6, code := 1, unit := h * 256 + g, ctx := n } else t

/-- Put a node's entry at the tail of its level, or into the waiting nodes when no entry is free. -/
def State.enterReady (s : State) (h g n prio : Nat) : State :=
  let c := s.sched h
  if c.ready.length < 4096 then
    (s.setSched h { c with ready := c.ready ++ [⟨prio, .node g n⟩] }).modNode g n fun x => { x with place := .ready }
  else s.waitReady h g n

/-- Put work at the head of a level (R289, R296, R298, R301). A reload takes the entry that its node leaves; a node waits
when no entry is free. -/
def State.enterHead (s : State) (h level : Nat) (w : Work) : State :=
  let put : State := s.modSched h fun c => { c with ready := ⟨level, w⟩ :: c.ready }
  match w with
  | .node g n => if (s.sched h).ready.length < 4096 then put else s.waitReady h g n
  | _ => put

/-- What waits for an entry: a node, or a slice as (256, pan). -/
def waitWork (w : Nat × Nat) : Work := if w.1 = 256 then .slice w.2 else .node w.1 w.2

/-- Remove the entries and waits that the test names, with the cores reserved for those nodes. -/
def State.leaveReady (s : State) (h : Nat) (p : Work → Bool) : State :=
  s.modSched h fun c => { c with ready := c.ready.filter fun e => !p e.work
                                 waits := c.waits.filter fun w => !p (waitWork w)
                                 reserved := c.reserved.filter fun r => !p (.node r.2.1 r.2.2) }

/-- The level at which a waiting node or slice of half h enters. -/
def State.waitLevel (s : State) (h : Nat) (w : Nat × Nat) : Nat :=
  if w.1 = 256 then s.fld (F.SCHED_CTL_TEST_PRIO h)
  else match s.node w.1 w.2 with
    | some x => x.prio
    | none => 0

/-- What enters next: the highest level, the earliest among equals. -/
def State.bestWait (s : State) (h : Nat) : List (Nat × Nat) → Option (Nat × Nat × Nat)
  | [] => none
  | (g, n) :: r =>
    let p := s.waitLevel h (g, n)
    match s.bestWait h r with
    | some (g', n', p') => if p < p' then some (g', n', p') else some (g, n, p)
    | none => some (g, n, p)

/-- The record of a node that waits to run again: yielded, or poisoned once. -/
def State.oldRecord (s : State) (h g n : Nat) : Option Record :=
  (s.sched h).records.find? fun r => r.graph == g && r.node == n && r.on.isNone

/-- A waiting node or slice takes an entry: at the tail of its level, or at the head with a firing to run again (R290, R296). -/
def State.takeEntry (s : State) (h g n p : Nat) : State :=
  let e : Entry := ⟨p, waitWork (g, n)⟩
  (s.modSched h fun c => { c with ready := if (s.oldRecord h g n).isSome then e :: c.ready else c.ready ++ [e]
                                  waits := c.waits.filter (· != (g, n)) }).modNode g n fun x =>
    { x with place := if x.place = .preempted then .preempted else .ready }

/-- An episode of waiting ends when an entry is free: one report carries its count (R290). -/
def State.endEpisode (s : State) (h : Nat) : State :=
  let c := s.sched h
  if c.episode = 0 || 4096 ≤ c.ready.length then s
  else
    let w := match s.bestWait h (c.waits.filter (·.1 < 256)) with
      | some (g, n, _) => (g, n)
      | none => (0, 0)
    (s.setSched h { c with episode := 0 }).raise { half := h, cls := NOTICE, src := 6, code := 1, unit := h * 256 + w.1, ctx := w.2 + min 65535 c.episode * 65536 }

/-- As entries free, what waits enters; the first entry freed reports the episode's count (R290). -/
def State.fillWaits (s : State) (h : Nat) : Nat → State
  | 0 => s
  | k + 1 =>
    let t := s.endEpisode h
    let c := t.sched h
    if c.ready.length < 4096 then
      match t.bestWait h c.waits with
      | none => t
      | some (g, n, p) => State.fillWaits (t.takeEntry h g n p) h k
    else t

/-- A node in a list or waiting that is no longer fireable leaves (R289); one with a firing to run again stays. -/
def State.unreadyNode (s : State) (g n : Nat) : State :=
  match s.node g n with
  | none => s
  | some x =>
    let h := s.home g
    if x.place == .ready || x.place == .waiting then
      (if s.fireable g n || (s.sched h).records.any (fun r => r.graph == g && r.node == n) then s
       else (s.leaveReady h (· == .node g n)).modNode g n fun x => { x with place := .idle })
    else s

/-- An idle node that is fireable enters a list, or waits (R284, R290). -/
def State.readyNode (s : State) (g n : Nat) : State :=
  match s.node g n with
  | none => s
  | some x => if x.place == .idle && s.fireable g n then s.enterReady (s.home g) g n x.prio else s

/-- Change every node of every graph of a half. -/
def State.eachNode (s : State) (h : Nat) (f : Nat → Nat → State → State) : State :=
  s.each (List.range 256) fun g t => match t.graph g with
    | some x => if x.home == h then t.each x.ids (f g) else t
    | none => t

/-- Bring every node of a half in line with R284: those no longer fireable leave, the waiting ones take the free entries,
and the nodes now fireable come after them. -/
def State.refreshHalf (s : State) (h : Nat) : State :=
  (((s.eachNode h fun g n t => t.unreadyNode g n).fillWaits h 4096).eachNode h fun g n t => t.readyNode g n)

/-! ## Arrivals (R282, R286, R305) -/

/-- Tag a is older than tag b (R281). -/
def tagOlder (a b : Nat) : Bool := decide (1 ≤ (b + 2 ^ 32 - a % 2 ^ 32) % 2 ^ 32) && decide ((b + 2 ^ 32 - a % 2 ^ 32) % 2 ^ 32 < 2 ^ 31)

/-- A replacement at a latest-value port is counted (R282). -/
def InPort.replaced (p : InPort) : InPort := if p.repl < 65535 then { p with repl := p.repl + 1 } else { p with sat := true }

/-- One token arrives at a port: a queue port takes it or it is held; a latest-value port keeps the newest (R282, R286). -/
def InPort.arrive (p : InPort) (w : HeldToken) : InPort :=
  if p.latest then
    match p.tokens with
    | [] => { p with tokens := [w.token] }
    | t :: _ =>
      if p.tagOrder && !tagOlder t.tag w.token.tag then p.replaced
      else { p.replaced with tokens := [w.token] }
  else if p.tokens.length < p.depth && p.waits.isEmpty then { p with tokens := p.tokens ++ [w.token] }
  else { p with waits := p.waits ++ [w] }

/-- Held tokens enter as places free, in the order held (R286). -/
def InPort.refill (p : InPort) : InPort :=
  if p.latest then p
  else { p with tokens := p.tokens ++ (p.waits.take (p.depth - p.tokens.length)).map (·.token), waits := p.waits.drop (p.depth - p.tokens.length) }

/-- Change input port k of a node. -/
def Node.modIn (x : Node) (k : Nat) (f : InPort → InPort) : Node := { x with ins := x.ins.modify k f }
/-- Change output port k of a node. -/
def Node.modOut (x : Node) (k : Nat) (f : OutPort → OutPort) : Node := { x with outs := x.outs.modify k f }

/-- Input port k of a node. -/
def State.inPort (s : State) (g n k : Nat) : InPort :=
  match s.node g n with
  | some x => x.ins.getD k {}
  | none => {}

/-- A token of producer (pg, pn) arrives at a port, by an edge or by link via. -/
def State.arrive (s : State) (g n k pg pn : Nat) (t : Token) (via : Nat := 0) : State :=
  s.modNode g n fun x => x.modIn k fun p => p.arrive ⟨pg, pn, { t with port := k }, via⟩

/-- The halves can exchange tokens (R306). -/
def State.tokensCross (s : State) : Bool := decide (s.fld (F.CSW_STATUS_STATE 0) ≤ 1) && s.causewayUp 0

/-- A cross-half link can send a token to its queue port: the credit of R305, which every link to the port shares, is positive. -/
def State.linkCredit (s : State) (l : Link) : Bool :=
  let p := s.inPort l.dstGraph l.dstNode l.dstPort
  let coming := ((s.links.filter fun k => k.dstGraph == l.dstGraph && k.dstNode == l.dstNode && k.dstPort == l.dstPort).map fun k => k.transit.length).foldl (· + ·) 0
  s.tokensCross && (p.latest || decide (p.tokens.length + p.waits.length + coming < p.depth))

/-- Change the link with identifier i. -/
def State.modLink (s : State) (i : Nat) (f : Link → Link) : State :=
  { s with links := s.links.map fun l => if l.id = i then f l else l }

/-- A token leaves on a link: within a half it arrives at once; across the halves it takes credit or waits (R305). -/
def State.sendLink (s : State) (l : Link) (t : Token) : State :=
  if s.home l.srcGraph = s.home l.dstGraph then s.arrive l.dstGraph l.dstNode l.dstPort l.srcGraph l.srcNode t l.id
  else if s.linkCredit l && l.hold.isEmpty then s.modLink l.id fun x => { x with transit := x.transit ++ [t] }
  else s.modLink l.id fun x => { x with hold := x.hold ++ [t] }

/-- Held tokens of cross-half links leave as credit returns; n bounds them. -/
def State.pumpLinks (s : State) : Nat → State
  | 0 => s
  | n + 1 =>
    match s.links.find? fun l => !l.hold.isEmpty && s.linkCredit l with
    | none => s
    | some l => State.pumpLinks (s.modLink l.id fun x => { x with transit := x.transit ++ x.hold.take 1, hold := x.hold.drop 1 }) n

/-- Keep a token for the drain command: at most 256, the oldest lost (R287). -/
def OutPort.keep (o : OutPort) (t : Token) : OutPort :=
  if o.kept.length < 256 then { o with kept := o.kept ++ [t] } else { o with kept := o.kept.drop 1 ++ [t], lost := o.lost + 1 }

/-- Where one output token can go: an edge of its graph or a link. -/
inductive Way where
  | edge (e : Edge)
  | link (l : Link)
deriving DecidableEq, Repr

/-- The edges and links that leave output port k of a node at one priority. -/
def State.ways (s : State) (g n k prio : Nat) : List Way :=
  (match s.graph g with
    | some x => (x.edges.filter fun e => e.srcNode == n && e.srcPort == k && e.prio == prio).map .edge
    | none => []) ++
  (s.links.filter fun l => l.srcGraph == g && l.srcNode == n && l.srcPort == k && l.prio == prio).map .link

/-- Output port k has an edge or a link. -/
def State.hasWay (s : State) (g n k : Nat) : Bool := (List.range 8).any fun p => !(s.ways g n k p).isEmpty

/-- Send one token along one way. -/
def State.sendWay (s : State) (g n : Nat) (t : Token) : Way → State
  | .edge e => s.arrive g e.dstNode e.dstPort g n t
  | .link l => match s.links.find? (·.id == l.id) with
    | some l' => s.sendLink l' t
    | none => s

/-- Route the tokens of a completion (R285, R286): by edge priority, highest first, each edge's tokens in their order. -/
def State.routeAt (s : State) (g n prio : Nat) (outs : List Token) : State :=
  (List.range 16).foldl (fun t k => (t.ways g n k prio).foldl (fun u w =>
    (outs.filter (·.port == k)).foldl (fun v tok => v.sendWay g n tok w) u) t) s

/-- The first m tokens of each port are kept; the rest are the excess of R285. -/
def trimOuts (x : Node) (outs : List Token) : List Token :=
  (List.range 16).flatMap fun k => (outs.filter (·.port == k)).take (x.outs.getD k {}).maxOut

/-- Route a firing's output tokens along every edge and link, and keep those of a port with none (R285, R287). -/
def State.routeOutputs (s : State) (g n : Nat) (outs : List Token) : State :=
  let t := (List.range 8).foldl (fun u i => u.routeAt g n (7 - i) outs) s
  outs.foldl (fun u tok => if u.hasWay g n tok.port then u else
    u.modNode g n fun x => x.modOut tok.port (·.keep tok)) t

/-! ## Records and completions (R288, R298) -/

/-- The identity of a dispatch in a queue's words, by half and record. -/
def dispKey (h id : Nat) : Nat := 1 + 2 * id + h

/-- Change a record. -/
def State.modRecord (s : State) (h id : Nat) (f : Record → Record) : State :=
  s.modSched h fun c => { c with records := c.records.map fun r => if r.id = id then f r else r }

def State.findRecord (s : State) (h : Nat) (p : Record → Bool) : Option Record := (s.sched h).records.find? p

/-- The stops that count a record (R307): its graph's, the half's, or its core's. -/
def Stop.covers (p : Stop) (r : Record) : Bool :=
  if p.cores = 0 then (p.graph == none || p.graph == some r.graph)
  else match r.on with
    | some (.core c) => bitOf p.cores (c % 8)
    | _ => false

/-- A completion accepted while a stop drains counts there. -/
def State.noteStops (s : State) (h : Nat) (r : Record) : State :=
  s.modSched h fun c => { c with stops := c.stops.map fun p => if p.covers r then { p with drained := p.drained + 1 } else p }

/-- A dispatch packet of which some words have been pushed and some have not must be cut (R307 item 3). -/
def Record.partly (r : Record) : Bool := !r.unsent.isEmpty && decide (r.unsent.length < 3 + 8 * r.inputs.length)

/-- A record that ends inside its packet leaves a packet to cut. -/
def State.cutRest (s : State) (h : Nat) (r : Record) : State :=
  if r.partly then s.modSched h fun c => { c with cutting := c.cutting ++ [(r.dq, r.cls)] } else s

/-- Free a record. -/
def State.freeRecord (s : State) (h : Nat) (r : Record) : State :=
  (s.cutRest h r).modSched h fun c => { c with records := c.records.filter fun x => x.id != r.id }

/-- The node of a freed record is idle again, with what ran it last. -/
def State.nodeIdle (s : State) (r : Record) : State :=
  s.modNode r.graph r.node fun x => { x with place := .idle, last := match r.on with | some o => some o | none => x.last }

/-- A report of the scheduler (R660): UNIT [8] half, [7:0] graph; context NODE_ID and a value. -/
def State.schedReport (s : State) (h cls code g n v : Nat) (inj : Bool := false) : State :=
  s.raise { half := h, cls := cls, src := 6, code := code, unit := h * 256 + g, ctx := n + v % 65536 * 65536, inj := inj }

/-- The node takes FAULTED with NODE_FAULT carrying a status (R298). -/
def State.nodeFault (s : State) (h : Nat) (r : Record) (status : Nat) : State :=
  ((((s.freeRecord h r).nodeIdle r).modNode r.graph r.node fun x => { x with faulted := true }).setFld
    (F.SCHED_STATUS_FAULT h) 1).schedReport h ERROR 2 r.graph r.node status

/-- A poisoned completion (R298, last row): once retried with RETRY, else freed with POISONED. -/
def State.poisonedEnd (s : State) (h : Nat) (r : Record) (retry : Bool) : State :=
  let again := retry && !r.once && (match s.node r.graph r.node with | some x => x.retry | none => false)
  if again then
    let p := match s.node r.graph r.node with | some x => x.prio | none => 0
    let t := ((s.cutRest h r).modRecord h r.id fun x => { x with once := true, on := none, unsent := [], preempting := none }).modNode r.graph r.node
      fun x => { x with place := if s.runs r.graph then .ready else .idle, last := match r.on with | some o => some o | none => x.last }
    if s.runs r.graph then t.enterHead h p (.node r.graph r.node) else t
  else ((s.freeRecord h r).nodeIdle r).schedReport h NOTICE 3 r.graph r.node 0xFFFF

/-- EXCESS of R285: the flag and the report. -/
def State.excess (s : State) (h : Nat) (r : Record) (status : Nat) : State :=
  (s.setFld (F.SCHED_STATUS_EXCESS h) 1).schedReport h ERROR 6 r.graph r.node status

/-- Some output token names a port that the node does not have (R285). -/
def State.malformed (s : State) (r : Record) (outs : List Token) : Bool :=
  match s.node r.graph r.node with
  | none => false
  | some x => outs.any fun o => decide (x.outs.length ≤ o.port)

/-- An accepted completion with its status and output tokens (R285, R298). -/
def State.acceptStatus (s : State) (h : Nat) (r : Record) (status : Nat) (outs : List Token) : State :=
  let t := (s.noteStops h r).trace 3 h (r.graph * 2 ^ 24 + r.node * 2 ^ 8 + r.number % 256)
  if s.malformed r outs then (t.setFld (F.SCHED_STATUS_EXCESS h) 1).nodeFault h r 1
  else if status = 0 then
    match s.node r.graph r.node with
    | none => t.freeRecord h r
    | some x =>
      let kept := trimOuts x outs
      let t := if kept.length < outs.length then t.excess h r status else t
      ((t.freeRecord h r).nodeIdle r).routeOutputs r.graph r.node kept
  else if status = 0xFFFF then t.poisonedEnd h r true
  else t.nodeFault h r status

/-- After anything that moves tokens or frees resources: links pump and every half's lists are brought in line. -/
def State.settle (s : State) : State := ((s.pumpLinks 4096).refreshHalf 0).refreshHalf 1

/-- A completion packet's words name the dispatch of a record: graph, NODE_ID, group and DISPATCH number (R297). -/
def Record.answers (r : Record) (w0 w1 : Nat) : Bool :=
  r.number == bitsOf w1 63 48 && r.graph == bitsOf w0 47 40 && r.node == bitsOf w0 63 48 &&
    (match r.on with
      | some (.pan _) => bitsOf w0 39 38 == 0
      | some (.rake _ g) => bitsOf w0 39 38 == g
      | _ => false)

/-- The packets of a list of words that have their END; `pre` holds the words of the first that were read before. -/
def endedPackets (pre : List QWord) : List QWord → List (List QWord)
  | [] => []
  | w :: r => if w.last then (pre ++ [w]) :: endedPackets [] r else endedPackets (pre ++ [w]) r

/-- Whole packets of completion queue d, the words popped so far before those of the class being read. -/
def State.storedPackets (s : State) (h d : Nat) : List (List QWord) :=
  let q := s.queue d
  let popped := (Bank.get (fun _ => []) (s.sched h).popped d).map (·.1)
  [false, true].flatMap fun c => endedPackets (if q.reading == some c then popped else []) (if c then q.seg1 else q.seg0).words

/-- A completion of the record stands whole in a queue of its pan: its END word was stored before the event (R763). -/
def State.answered (s : State) (h : Nat) (r : Record) : Bool :=
  let at_ (n : Nat) : Bool := (List.range 4).any fun i => (s.queue (n * 4 + i)).kind == 2 &&
    (s.storedPackets h (n * 4 + i)).any fun ws => decide (3 ≤ ws.length) && r.answers (ws.getD 0 {}).data.toNat (ws.getD 1 {}).data.toNat
  match r.on with
  | some (.pan n) => at_ n
  | some (.rake n _) => at_ n
  | _ => false

/-- R763: the dispatches with these identities, in flight and without a completion stored, end with a poisoned completion. -/
def State.poisonDispatches (s : State) : List Nat → State
  | [] => s
  | k :: r =>
    let h := (k - 1) % 2
    let t := match (if k = 0 then none else s.findRecord h fun x => x.id == (k - 1) / 2 && x.on.isSome && !s.answered h x) with
      | some x => s.poisonedEnd h x true
      | none => s
    t.poisonDispatches r

/-- Every dispatch in flight on pan n, or on one of its rake groups, ends poisoned (R763). -/
def State.poisonPan (s : State) (n : Nat) : State :=
  let h := halfOfPan n
  s.poisonDispatches (((s.sched h).records.filter fun r => match r.on with
    | some (.pan m) => m == n
    | some (.rake m _) => m == n
    | _ => false).map fun r => dispKey h r.id)

end Sys2Proof.Machine
end

