-- ==== Sys2Proof/Machine/Protocol.lean ====
section
/-! DEFINITION. The Cykai command protocol (14_command_protocol): replies, jobs, targets, checks in their order, classes,
holds, and the end of a LONG command. -/

namespace Sys2Proof.Machine

/-! ## Status and detail (R506, R507) -/

def OK : Nat := 0x0000
def S_VERSION : Nat := 0x0101
def S_OPCODE : Nat := 0x0102
def S_LENGTH : Nat := 0x0103
def S_TARGET : Nat := 0x0104
def S_FIELD : Nat := 0x0105
def S_ADDRESS : Nat := 0x0106
def S_INVALID_DATE : Nat := 0x0107
def S_DUPLICATE : Nat := 0x0108
def S_NOT_WRITABLE : Nat := 0x0109
def S_CONTENT : Nat := 0x010A
def S_STATE : Nat := 0x0201
def S_SPLIT : Nat := 0x0202
def S_NOT_USER : Nat := 0x0203
def S_IN_USE : Nat := 0x0204
def S_EXHAUSTED : Nat := 0x0301
def S_APPROVED : Nat := 0x0401
def S_SIGNATURE : Nat := 0x0402
def S_DECRYPT : Nat := 0x0403
def S_AUTHORITY : Nat := 0x0404
def S_HW_FAULT : Nat := 0x0501
def S_BUSY : Nat := 0x0601
def S_RETRY : Nat := 0x0602
def S_ABORTED : Nat := 0x0603

def NOTHING_DONE : Nat := 0x0001
def D_MGMT_RESTART : Nat := 0x0002
def D_OUTSTANDING : Nat := 0x0003
def D_HELD : Nat := 0x0004
def D_CAUSEWAY : Nat := 0x0005
def D_STACK_FAILED : Nat := 0x0006
def D_POISON : Nat := 0x0007
/-- Abort causes (R514). -/
def ABORT_ZEROIZE : Nat := 0x0010
def ABORT_THERMAL : Nat := 0x0011
def ABORT_COMMAND : Nat := 0x0012
def ABORT_RESET : Nat := 0x0013
def ABORT_CAUSEWAY : Nat := 0x0014
def ABORT_HOLD : Nat := 0x0015
def ABORT_PAN_RESET : Nat := 0x0016

/-- The classes of R510. -/
inductive Class where
  | urgent | read | short | long
deriving DecidableEq, Repr

/-! ## Mailbox slots -/

/-- The number a little-endian field of a mailbox slot holds. -/
def State.slotNum (s : State) (l sl off n : Nat) : Nat :=
  leNat ((List.range n).map fun i => s.slotByte (l * 4096 + sl * 128 + off + i))

/-- Write bytes of a mailbox slot. -/
def State.setSlot (s : State) (l sl off : Nat) : List Byte → State
  | [] => s
  | b :: r => (s.setSlotByte (l * 4096 + sl * 128 + off) b).setSlot l sl (off + 1) r

/-- R414 steps 5 and 6: BUSY clears, DONE sets, and the completion vector is sent. -/
def State.slotDone (s : State) (l sl : Nat) : State :=
  let p := l / 4
  let k := l % 4
  let t := (s.setFld ⟨R.MBX_BUSY p k, sl, sl⟩ 0).setFld ⟨R.MBX_DONE p k, sl, sl⟩ 1
  let t := t.setFld (F.MBX_STATUS_INFLIGHT p k) (popcount 32 (t.reg (R.MBX_BUSY p k)).toNat)
  if t.on (F.MBX_CTL_IRQ_EN p k) then t.send (.msix l (t.fld (F.MBX_CTL_DONE_VEC p k))) else t

/-- The reply of a slot, cut to REP_MAX, and to 96 bytes inline (R415). -/
def State.slotReply (s : State) (l sl : Nat) (bytes : List Byte) : State :=
  let maxLen := s.slotNum l sl 4 4
  let addr := s.slotNum l sl 16 8
  let n := min bytes.length (if addr = 0 then min maxLen 96 else maxLen)
  let dst := if s.coreSlot (l * 32 + sl) then addr else HOST_BASE + addr
  let lands := addr == 0 || s.mapped dst n
  let t := s.setSlot l sl 24 (leBytes 4 (if lands then n else 0) ++ [BitVec.ofNat 8 (bnat (decide (n < bytes.length)))])
  let t := if addr = 0 then t.setSlot l sl 32 (bytes.take n)
    else if lands then t.storeBytes dst (bytes.take n)
    else t.raise { half := l / 8, cls := NOTICE, src := 10, code := 7, unit := l, ctx := sl }
  t.slotDone l sl

/-- A reply packet (R502): its header, its results, and padding to a multiple of 8. -/
def replyBytes (status detail seq opcode : Nat) (result : List Byte) : List Byte :=
  leBytes 2 status ++ leBytes 2 detail ++ leBytes 2 seq ++ leBytes 2 opcode ++ leBytes 4 result.length ++ leBytes 4 0 ++
    result ++ List.replicate ((8 - result.length % 8) % 8) 0

/-- The link is up: UP, or up and DISABLED (R430). -/
def State.linkUp (s : State) (l : Nat) : Bool :=
  s.fld (F.LINK_STATUS_STATE (l / 4) (l % 4)) == 2 || s.fld (F.LINK_STATUS_STATE (l / 4) (l % 4)) == 3

/-- The link is up and its port is enabled (R422). -/
def State.linkServes (s : State) (l : Nat) : Bool := s.linkUp l && s.on (F.PORT_CTL_EN (l / 4))

/-- Bytes of a message's payload behind its header of 8, at the payload size of R398. -/
def FRAGMENT_BYTES : Nat := 504

/-- Fragment i of a REPLY of n fragments is sent (R420). -/
def State.sendFragment (s : State) (l rq x n : Nat) (bytes : List Byte) (i : Nat) : State :=
  s.send (.message l rq x (i * FRAGMENT_BYTES) (i == 0) (i + 1 == n) ((bytes.drop (i * FRAGMENT_BYTES)).take FRAGMENT_BYTES))

/-- A REPLY message returns to the requester in fragments, with the XID of its COMMAND (R420); the reply of a command taken before the
loss of its link is discarded (R423). -/
def State.messageReply (s : State) (l rq seq : Nat) (bytes : List Byte) : State :=
  match (s.hostLink l).xids.find? fun e => e.1 == rq && e.2.1 == seq with
  | none => s
  | some e =>
    let t := s.modHostLink l fun k => { k with xids := k.xids.erase e }
    let n := (bytes.length + FRAGMENT_BYTES - 1) / FRAGMENT_BYTES
    if s.linkUp l then (List.range n).foldl (fun u i => u.sendFragment l rq e.2.2 n bytes i) t else t

/-- Write a command's reply to its transport. -/
def State.sendReply (s : State) (via : Transport) (seq opcode status detail : Nat) (result : List Byte) : State :=
  let bytes := replyBytes status detail seq opcode result
  match via with
  | .mailbox l sl => s.slotReply l sl bytes
  | .message l rq => s.messageReply l rq.toNat seq bytes
  | .slave => { s with cfgReplies := s.cfgReplies ++ [bytes] }
  | .debug => if s.dbg.replies.length < 32 then { s with dbg := { s.dbg with replies := s.dbg.replies ++ [bytes] } } else s
  | .sideband => s.send (.reply via bytes)

/-! ## Outstanding commands (R497, R505, R514) -/

/-- Two codes of one transport: one mailbox, one link's messages, or the same port (R496). -/
def sameTransport : Transport → Transport → Bool
  | .mailbox a _, .mailbox b _ => a == b
  | .message a _, .message b _ => a == b
  | .slave, .slave => true
  | .sideband, .sideband => true
  | .debug, .debug => true
  | _, _ => false

/-- The commands outstanding on a transport. -/
def State.outstanding (s : State) (v : Transport) : Nat :=
  (s.jobs.filter fun j => sameTransport j.via v).length + (s.waiting.filter fun w => sameTransport w.packet.via v).length

/-- The SEQ is outstanding on the transport (R505). -/
def State.seqTaken (s : State) (v : Transport) (seq : Nat) : Bool :=
  s.jobs.any (fun j => sameTransport j.via v && j.seq == seq) ||
    s.waiting.any (fun w => sameTransport w.packet.via v && w.packet.seq.toNat == seq)

/-- A drain record (R517). -/
def drainRecord (drained aborted : Nat) : List Byte := leBytes 4 drained ++ leBytes 4 aborted

/-- The progress record of an ABORTED reply (R515). -/
def progressRecord (j : Job) : List Byte := leBytes 8 j.done ++ leBytes 8 j.total

/-- The LONG commands that are disables under R33, whose results begin with a drain record (R517). -/
def drains (opcode : Nat) : Bool :=
  [0x0004, 0x000A, 0x0102, 0x0106, 0x0107, 0x0204, 0x0205, 0x020D, 0x020E, 0x0300, 0x0400, 0x0401, 0x0402, 0x0B02].contains opcode

/-- Another part of the REG_WRITE that job j is a part of. -/
def Job.sibling (j k : Job) : Bool := k.write.isSome && decide (k.via = j.via) && k.seq == j.seq

/-- The first job that the test names is changed. -/
def changeFirst (p : Job → Bool) (f : Job → Job) : List Job → List Job
  | [] => []
  | j :: r => if p j then f j :: r else j :: changeFirst p f r

/-- The result bytes of a LONG command that ends with OK, or early with its progress record (R515, R516). -/
def Job.results (j : Job) (result : List Byte) : List Byte :=
  match j.cause with
  | some _ => progressRecord { j with done := if drains j.opcode then leNat (result.take 4) else j.done } ++ if drains j.opcode then result.take 8 else []
  | none => result

/-- The status and detail of a LONG command's reply: one that is being ended early answers ABORTED with its cause (R514). -/
def Job.outcome (j : Job) (status detail : Nat) : Nat × Nat :=
  match j.cause with
  | some c => (S_ABORTED, c)
  | none => (status, detail)

/-- Write a LONG command's reply. A part of a REG_WRITE hands its drain record to another part that goes on; the last one answers
with OLD and NEW first (R520). -/
def State.jobReply (s : State) (j : Job) (status detail : Nat) (result : List Byte) : State :=
  let o := j.outcome status detail
  match j.write with
  | none => s.sendReply j.via j.seq j.opcode o.1 o.2 (j.results result)
  | some w =>
    let record := if drains j.opcode && (status = OK || j.cause.isSome) then (leNat (result.take 4), leNat ((result.drop 4).take 4)) else (0, 0)
    let w := { w with drained := w.drained + record.1, aborted := w.aborted + record.2 }
    if s.jobs.any j.sibling then
      { s with jobs := changeFirst j.sibling (fun k => { k with write := k.write.map fun x =>
          { x with disable := x.disable || w.disable, drained := x.drained + w.drained, aborted := x.aborted + w.aborted } }) s.jobs }
    else
      let drain := if w.disable then drainRecord w.drained w.aborted else []
      s.sendReply j.via j.seq 0x0004 o.1 o.2
        (if o.1 = OK then leBytes 4 w.old ++ leBytes 4 (s.reg w.key).toNat ++ drain
         else if o.1 = S_ABORTED then progressRecord { j with done := if drains j.opcode then record.1 else j.done } ++ drain
         else result)

/-- End every LONG command the test names with a reply. -/
def State.endJobs (s : State) (p : Job → Bool) (status detail : Nat) (result : List Byte) : State :=
  (s.jobs.filter p).foldl (fun t j => t.jobReply j status detail result) { s with jobs := s.jobs.filter fun j => !p j }

/-- End every LONG command the test names with OK and a result of its own. -/
def State.endJobsBy (s : State) (p : Job → Bool) (result : Job → List Byte) : State :=
  (s.jobs.filter p).foldl (fun t j => t.jobReply j OK 0 (result j)) { s with jobs := s.jobs.filter fun j => !p j }

/-- End LONG commands with ABORTED, their progress records, and what each opcode adds (R514 to R516). -/
def State.abortJobs (s : State) (p : Job → Bool) (cause : Nat) (extra : Job → List Byte) : State :=
  (s.jobs.filter p).foldl (fun t j => t.jobReply j S_ABORTED cause (progressRecord j ++ extra j))
    { s with jobs := s.jobs.filter fun j => !p j }

/-- Change the LONG commands the test names. -/
def State.modJobs (s : State) (p : Job → Bool) (f : Job → Job) : State :=
  { s with jobs := s.jobs.map fun j => if p j then f j else j }

/-! ## Parameters (R503) -/

end Sys2Proof.Machine

namespace Sys2Proof

/-- A parameter field of n bytes at byte o. -/
def Packet.num (p : Packet) (o n : Nat) : Nat := Machine.leNat ((p.params.drop o).take n)
def Packet.u8 (p : Packet) (o : Nat) : Nat := p.num o 1
def Packet.u16 (p : Packet) (o : Nat) : Nat := p.num o 2
def Packet.u32 (p : Packet) (o : Nat) : Nat := p.num o 4
def Packet.u64 (p : Packet) (o : Nat) : Nat := p.num o 8

end Sys2Proof

namespace Sys2Proof.Machine

/-! ## Targets (R504) -/

/-- Links of a port by its BIFUR (R391). -/
def State.linkCount (s : State) (p : Nat) : Nat :=
  if s.fld (F.PORT_CTL_BIFUR p) = 0 then 1 else if s.fld (F.PORT_CTL_BIFUR p) = 1 then 2 else 4

/-- The scope and index of a TARGET. -/
def scopeOf (t : Nat) : Nat := t / 4096
def indexOf (t : Nat) : Nat := t % 4096

/-- The half that receives the commands of a transport (R498). -/
def receivingHalf : Transport → Nat
  | .mailbox l _ => l.val / 8
  | .message l _ => l.val / 8
  | _ => 0

/-- The halves are split, or the other half is lost (R492). -/
def State.isSplit (s : State) (h : Nat) : Bool :=
  let c := s.fld (F.CSW_STATUS_STATE h)
  let c := if c = 5 then (s.cswHalf h).was else c
  c == 2 || c == 3 || c == 4

/-- The south half acts as the one that holds: CUT_HOLD, or HALF_LOST of the north (R486, R487). -/
def State.southHolds (s : State) : Bool := s.isSplit 1 && s.fld (F.CSW_STATUS_STATE 1) != 3 && !(s.fld (F.CSW_STATUS_STATE 1) == 5 && (s.cswHalf 1).was == 3)

/-- The half that executes a command with this target, or none for a target refused (R504). -/
def State.execHalf (s : State) (recv t : Nat) : Option Nat :=
  let i := indexOf t
  match scopeOf t with
  | 0 => if i = 0 then some (if s.fld (F.CSW_STATUS_STATE recv) = 3 then recv else if s.isSplit recv then recv else 0) else none
  | 1 => if i < 2 then some i else none
  | 2 => if i < 256 then some (halfOfPan i) else none
  | 3 => if i < 1024 then some (halfOfQueue i) else none
  | 4 => if i < 16 then some (halfOfCore i) else none
  | 5 => if i < 16 && i % 4 < s.linkCount (i / 4) then some (i / 8) else none
  | 6 => if i < 256 && (s.graph i).isSome then some (s.home i) else none
  | 7 => if i < 4 then some 0 else none
  | 8 => if i < 384 then some (i / 192) else none
  | _ => none

/-! ## The checks of a command (R508) -/

/-- A command being started: its packet, the half that executes it, and its target's index. -/
structure Req where
  p : Packet
  half : Nat
  idx : Nat

/-- One parameter field's rule: its first byte, its size, whether it is an address that the command reads at (1) or places data at (2), the
status of a failure, and when it holds. -/
structure FieldRule where
  off : Nat
  len : Nat
  addr : Nat := 0
  status : Nat := S_FIELD
  ok : State → Req → Bool

/-- What starting a command leads to: a reply now, or a LONG command that goes on. -/
inductive Run where
  | done (s : State) (status detail : Nat) (result : List Byte)
  | job (s : State) (j : Job)
  | later (s : State)

/-- One row of the catalogue: its opcode, class and scopes, the PLEN its parameters give, its fields, its own checks (with
the outcome of a command that has nothing to do), the units it would change (R511), and its effect. -/
structure Cmd where
  opcode : Nat
  cls : Class
  scopes : List Nat
  size : Req → Nat
  fields : List FieldRule := []
  check : State → Req → Option (Nat × Nat × List Byte) := fun _ _ => none
  touches : State → Req → List Nat := fun _ r => [r.p.target.toNat]
  run : State → Req → Run

/-- The fields that must be zero (R503). -/
def zeroField (o n : Nat) : FieldRule := { off := o, len := n, ok := fun _ r => r.p.num o n == 0 }

/-- A field with its range. -/
def rangeField (o n lo hi : Nat) : FieldRule := { off := o, len := n, ok := fun _ r => decide (lo ≤ r.p.num o n) && decide (r.p.num o n ≤ hi) }

/-- The link that half h's route names. -/
def State.routeLink (s : State) (h : Nat) : Nat := s.fld (F.PORT_ROUTE_PORT h) * 4 + s.fld (F.PORT_ROUTE_LINK h)

/-- Host memory is routed for half h: PORT_ROUTE is enabled and its link is up and serves (R405, R422). -/
def State.hostRouted (s : State) (h : Nat) : Bool :=
  s.on (F.PORT_ROUTE_EN h) && s.linkServes (s.routeLink h) && !s.on (F.LINK_STATUS_FENCED (s.routeLink h / 4) (s.routeLink h % 4))

/-- XHOME_BLOCK keeps half h's cores from the address: the other half's scratch or stack (R484). -/
def State.xhomeBlocked (s : State) (h a : Nat) : Bool :=
  s.on (F.CSW_CTL_XHOME_BLOCK h) && match s.region a with
    | .scratch g _ => g != h
    | .hbm g _ => g != h
    | _ => false

/-- The n bytes at device address a are memory that half h's controller reaches (R362, R405, R485). -/
def State.reaches (s : State) (h a n : Nat) : Bool :=
  s.mapped a n && (n == 0 || match s.region a with
    | .host _ => s.hostRouted h
    | .scratch g _ => g == h || !s.isSplit h
    | .hbm g _ => g == h || !s.isSplit h
    | _ => false)

/-- An address parameter, mapped for n bytes (R503): read at (kind 1), or data placed at it (kind 2). -/
def addrField (o kind : Nat) (n : Req → Nat) : FieldRule :=
  { off := o, len := 8, addr := kind, status := S_ADDRESS, ok := fun s r => s.reaches r.half (r.p.u64 o) (n r) }

/-- An address parameter that may be 0 for none. -/
def addrOrNone (o kind : Nat) (n : Req → Nat) : FieldRule :=
  { addrField o kind n with ok := fun s r => r.p.u64 o == 0 || s.reaches r.half (r.p.u64 o) (n r) }

/-- The first field that fails (R508). -/
def badField (s : State) (r : Req) : List FieldRule → Option FieldRule
  | [] => none
  | f :: l => if f.ok s r then badField s r l else some f

/-- The refusal of a field: data for a FAILED stack ends with STACK_FAILED (R371); an unmapped address also raises a NOTICE (R362). -/
def State.fieldRefusal (s : State) (r : Req) (f : FieldRule) : State × Nat × Nat :=
  if f.addr = 2 && s.stackGone (r.p.u64 f.off) then (s, S_HW_FAULT, D_STACK_FAILED)
  else ((if f.addr = 0 then s else s.unmappedNotice (.mgmt (Fin.ofNat 2 r.half)) (r.p.u64 f.off)), f.status, 0x8000 + f.off)

/-- The header fields that must be zero: FLAGS [7:1] and bytes 12 to 31 (R500). -/
def badHeader (p : Packet) : Option (Nat × Nat) :=
  if p.flags.toNat ≥ 2 then some (S_FIELD, 0x4001)
  else if p.zeros ≠ 0 then some (S_FIELD, 0x400C)
  else none

/-- Packet length and VERSION (R501, R508 item 1). -/
def badLength (p : Packet) : Bool :=
  p.params.length != (p.plen.toNat + 7) / 8 * 8 || decide (4096 < 32 + p.params.length)

/-- The refusal of R513, if any: the start-up states, a split, and the approved mode. -/
def State.refused513 (s : State) (op : Nat) (cls : Class) (via : Transport) (recv half : Nat) : Option (Nat × Nat) :=
  let st := s.fld F.RST_STATUS_STATE
  let g := op / 256
  if st ≠ 7 && !(op ≤ 6 || op == 0x0108 || g == 7 || g == 9 || g == 10) then some (S_NOT_USER, 0)
  else if half ≠ recv && s.isSplit recv then some (S_HW_FAULT, D_CAUSEWAY)
  else if half = 1 && s.southHolds && !(g == 0 || g == 7 || g == 11) then some (S_SPLIT, 0)
  else if s.on F.SEC_STATUS_APPROVED && via == .debug && !bitOf (s.fld F.SEC_STATUS_DBG_SCOPE * bnat (s.on F.SEC_STATUS_DBG_GRANTED)) 0 &&
      !(cls == .read && g == 0) && g ≠ 10 then some (S_AUTHORITY, 0)
  else none

/-- A LONG command holds one of the units (R511). -/
def State.heldUnit (s : State) (units : List Nat) : Bool := s.jobs.any fun j => j.holds.any fun u => units.contains u

/-- Checks 4 to 9 of R508, then the command's effect and its reply. ZEROIZE meets no field check (R583). -/
def State.startCmd (s : State) (c : Cmd) (p : Packet) : State :=
  let seq := p.seq.toNat
  let recv := receivingHalf p.via
  let t := p.target.toNat
  let refuse (st d : Nat) (res : List Byte) := s.sendReply p.via seq c.opcode st d res
  match (if c.scopes.contains (scopeOf t) then s.execHalf recv t else none) with
  | none => refuse S_TARGET 0x4006 []
  | some half =>
    let r : Req := ⟨p, half, indexOf t⟩
    match s.refused513 c.opcode c.cls p.via recv half with
    | some (st, d) => refuse st d []
    | none =>
      if p.plen.toNat ≠ c.size r then refuse S_LENGTH 0 []
      else match (if c.opcode = 0x0905 then none else badHeader p), badField s r c.fields with
        | some (st, d), _ => refuse st d []
        | none, some f =>
          let x := s.fieldRefusal r f
          x.1.sendReply p.via seq c.opcode x.2.1 x.2.2 []
        | none, none => match c.check s r with
          | some (st, d, res) => refuse st d res
          | none =>
            if (c.cls == .short || c.cls == .long) && s.heldUnit (c.touches s r) then refuse S_BUSY D_HELD []
            else match c.run s r with
              | .done u st d res => u.sendReply p.via seq c.opcode st d res
              | .job u j => { u with jobs := u.jobs ++ [{ j with
                  opcode := if j.write.isSome then j.opcode else c.opcode, half := if j.write.isSome then j.half else half, via := p.via, seq := seq }] }
              | .later u => { u with waiting := u.waiting ++ [⟨c.opcode, p, half⟩] }

/-- Commands that need the security module, and wait while it zeroizes (R585). -/
def needsModule (opcode : Nat) : Bool := (opcode / 256 == 9 && opcode != 0x0900 && opcode != 0x0905) || opcode / 256 == 10

/-- The command accesses scratch whose size a partition command changes (R367). -/
def State.scratchWait (s : State) (c : Cmd) (p : Packet) : Bool :=
  (c.fields.any fun f => f.addr != 0 && s.scratchHeld (p.u64 f.off)) || (c.opcode == 0x0301 && s.scratchHeld (p.u64 0))

/-- The opcodes of class LONG (R519 to R530); a REG_WRITE that acts as one of them is not told apart here. -/
def longOpcodes : List Nat :=
  [0x000A, 0x0100, 0x0102, 0x0105, 0x0106, 0x0107, 0x0108, 0x0202, 0x0204, 0x0205, 0x020D, 0x020E, 0x0300, 0x0301, 0x0304, 0x0400, 0x0401, 0x0402,
   0x0403, 0x0405, 0x0406, 0x0801, 0x0904, 0x0906, 0x0B01, 0x0B02, 0x0B03, 0x0B04]

/-- A LONG command of half h waits for one of the eight places, ahead of a new one (R512). -/
def State.longWaits (s : State) (h : Nat) : Bool :=
  s.waiting.any fun w => w.half == h && longOpcodes.contains w.opcode && !w.packet.flags.getLsbD 0 && w.opcode != 0x0100

/-- Commands forwarded to half h that stand in its control landing buffer (R478): those that wait to start there. -/
def State.ctlLanded (s : State) (h : Nat) : Nat := (s.waiting.filter fun w => w.half == h && receivingHalf w.packet.via != h).length

/-- The credits that the other half holds for that buffer of 16 entries (R479). -/
def State.ctlCredit (s : State) (h : Nat) : Nat := 16 - s.ctlLanded h

/-- A command for half `half`, received by half `recv`, cannot cross yet (R477, R479): no group is UP, or no credit is left. -/
def State.ctlWaits (s : State) (urgent : Bool) (recv half : Nat) : Bool :=
  half != recv && !s.isSplit recv && (!s.causewayUp recv || (!urgent && s.ctlCredit half == 0))

/-- A delivered command must wait (R512, R352, R367, R477, R585): ORDERED behind an earlier command of its transport, a ninth LONG command of
its controller, or a controller that restarts. URGENT commands never wait but for the restart. -/
def State.mustWait (s : State) (c : Cmd) (p : Packet) : Bool :=
  let half := (s.execHalf (receivingHalf p.via) p.target.toNat).getD 0
  s.isRestarting half || s.isRestarting (receivingHalf p.via) ||
    (c.cls != .urgent && p.flags.getLsbD 0 && s.outstanding p.via != 0) ||
    (c.cls == .long && (decide (8 ≤ (s.jobs.filter fun j => j.half == half && j.opcode != 0x0905).length) || s.longWaits half)) ||
    (s.fld F.SEC_STATUS_STATE == 3 && needsModule c.opcode) || s.scratchWait c p ||
    s.ctlWaits (c.cls == .urgent) (receivingHalf p.via) half

/-- A transport accepts commands in the start-up state (R496). -/
def State.accepts (s : State) (v : Transport) : Bool :=
  let st := s.fld F.RST_STATUS_STATE
  match v with
  | .mailbox l sl =>
    if decide (6 ≤ st) && st != 8 then s.linkUp l || s.coreSlot (l.val * 32 + sl.val)
    else decide (1 ≤ st) && decide (l.val / 4 = 0) && s.fld F.CFG_STATUS_MODE == 2
  | .message l _ => decide (6 ≤ st) && st != 8 && s.linkUp l
  | .slave => decide (2 ≤ st)
  | .sideband => decide (1 ≤ st)
  | .debug => decide (1 ≤ st)

/-- The transport has no place for the command (R497): 32 outstanding, or 31 on the side-band bus and the debug port for a
command that is not URGENT. A mailbox's slots are its places. -/
def State.noPlace (s : State) (c : Class) (v : Transport) : Bool :=
  match v with
  | .mailbox _ _ => false
  | .sideband => decide ((if c == .urgent then 32 else 31) ≤ s.outstanding v)
  | .debug => decide ((if c == .urgent then 32 else 31) ≤ s.outstanding v)
  | _ => decide (32 ≤ s.outstanding v)

/-- A delivered command: checks 1 to 3 of R508, then its start, or its wait. -/
def State.deliver (s : State) (c : Cmd) (p : Packet) : State :=
  let refuse (st d : Nat) := s.sendReply p.via p.seq.toNat c.opcode st d []
  if !s.accepts p.via then s
  else if s.noPlace c.cls p.via then refuse S_BUSY D_OUTSTANDING
  else if badLength p then refuse S_LENGTH 0
  else if p.version ≠ 1 then refuse S_VERSION 0
  else if s.seqTaken p.via p.seq.toNat then refuse S_DUPLICATE 0
  else if s.mustWait c p then { s with waiting := s.waiting ++ [⟨c.opcode, p, (s.execHalf (receivingHalf p.via) p.target.toNat).getD 0⟩] }
  else s.startCmd c p

/-- Reply OK. -/
def ok (s : State) (res : List Byte := []) : Run := .done s OK 0 res
/-- Reply OK with NOTHING_DONE (R509). -/
def nothing (s : State) (res : List Byte := []) : Run := .done s OK NOTHING_DONE res
/-- A refusal of a check. -/
def refusal (st : Nat) (d : Nat := 0) : Option (Nat × Nat × List Byte) := some (st, d, [])
/-- Nothing to do: OK and NOTHING_DONE, from the checks. -/
def already (res : List Byte := []) : Option (Nat × Nat × List Byte) := some (OK, NOTHING_DONE, res)
/-- A LONG command that goes on: its progress total and what it holds. -/
def longJob (r : Req) (total : Nat) (holds : List Nat) (unit aux : Nat := 0) (data : List Nat := []) : Job :=
  { opcode := 0, via := r.p.via, seq := 0, half := r.half, unit := unit, holds := holds, total := total, aux := aux, data := data }

end Sys2Proof.Machine
end

