-- ==== Sys2Proof/Machine/QueueOps.lean ====
section
/-! DEFINITION. Queue blocks (04_queues_and_crossings): segments, packing, class order, discards, flushes, the pointer
exchange, and the settings a load gives. -/

namespace Sys2Proof.Machine

/-! ## Segments (R136, R137) -/

/-- The pan of queue block d and its number in the pan (R24). -/
def panOfQueue (d : Nat) : Nat := d / 4
def qOf (d : Nat) : Nat := d % 4

/-- The segment of a class. -/
def QBlock.seg (q : QBlock) (cls : Bool) : Segment := if cls then q.seg1 else q.seg0
def QBlock.setSeg (q : QBlock) (cls : Bool) (g : Segment) : QBlock := if cls then { q with seg1 := g } else { q with seg0 := g }

/-- The size of a segment (R136). -/
def QBlock.size (q : QBlock) (cls : Bool) : Nat := if cls then q.hiWords else 512 - q.hiWords

/-- A pointer moved on by n in a segment of S words (R137: it counts from 0 to 2 × S − 1). -/
def ptrAdd (S p n : Nat) : Nat := if S = 0 then 0 else (p + n) % (2 * S)

/-- A pointer moved back by n. -/
def ptrSub (S p n : Nat) : Nat := if S = 0 then 0 else (p + 2 * S - n % (2 * S)) % (2 * S)

/-- A segment of S words is full (R137). -/
def Segment.full (g : Segment) (S : Nat) : Bool := decide (S ≤ g.words.length)

/-- The packets whose END word is stored. -/
def Segment.ends (g : Segment) : Nat := (g.words.filter (·.last)).length

/-- The words from the head to the first END word, and the rest; none when no END word is stored. -/
def splitPacket : List QWord → Option (List QWord × List QWord)
  | [] => none
  | w :: r => if w.last then some ([w], r) else (splitPacket r).map fun p => (w :: p.1, p.2)

/-- The stored words of whole packets at the front: everything up to the last END word. -/
def wholePackets : List QWord → List QWord
  | [] => []
  | w :: r => if w.last || r.any (·.last) then w :: wholePackets r else []

/-- Store one word at the write pointer. -/
def Segment.push (g : Segment) (S : Nat) (w : QWord) : Segment :=
  { g with words := g.words ++ [w], wptr := ptrAdd S g.wptr 1 }

/-- Take one word from the read pointer. -/
def Segment.pop (g : Segment) (S : Nat) : Segment :=
  { g with words := g.words.drop 1, rptr := ptrAdd S g.rptr 1 }

/-- Empty a segment: the read pointer takes the value of the write pointer (R151). -/
def Segment.clear (g : Segment) : Segment := { g with words := [], rptr := g.wptr }

/-- Remove the words after the last END word: the write pointer returns to the end of the packet before (R145, R165). -/
def Segment.cutTail (g : Segment) (S : Nat) : Segment :=
  { g with words := wholePackets g.words, wptr := ptrSub S g.wptr (g.words.length - (wholePackets g.words).length) }

/-- The packets a queue holds of a class, wholly or partly: those with a stored END word, and the one being written. -/
def QBlock.packets (q : QBlock) (cls : Bool) : Nat := (q.seg cls).ends + bnat (q.writing == some cls)

/-- The packets a queue holds. -/
def QBlock.items (q : QBlock) : Nat := q.packets true + q.packets false

/-- The dispatches among stored words, each once, and the one being written. -/
def QBlock.dispatches (q : QBlock) : List Nat :=
  (((q.seg1.words ++ q.seg0.words).map (·.disp)) ++ [if q.writing.isSome then q.packDisp else 0]).filter (· != 0) |>.eraseDups

/-- The queue is empty for R152: no word, no packed unit, neither end inside a packet. -/
def QBlock.idleEmpty (q : QBlock) : Bool :=
  q.seg0.words.isEmpty && q.seg1.words.isEmpty && q.pack.isEmpty && q.writing.isNone && q.reading.isNone

/-- A segment is empty for R151: no word, and neither end inside a packet of its class. A write end that drops the rest of a packet
counts as outside one, here and for a segment flush (Assumption 57). -/
def QBlock.segEmpty (q : QBlock) (cls : Bool) : Bool :=
  (q.seg cls).words.isEmpty && q.writing != some cls && q.reading != some cls

/-! ## Packets that an operation has fixed (R33) -/

/-- Those of a class. -/
def Left.of (l : Left) (cls : Bool) : Nat := if cls then l.hi else l.lo
/-- All of them. -/
def Left.total (l : Left) : Nat := l.lo + l.hi
/-- One of a class less. -/
def Left.less (l : Left) (cls : Bool) : Left := if cls then { l with hi := l.hi - 1 } else { l with lo := l.lo - 1 }

/-- Every packet that the queue holds, as an operation fixes them. -/
def QBlock.fixed (q : QBlock) : Left := { lo := q.packets false, hi := q.packets true }

/-- What the queue no longer holds is no longer left: a discarded packet counts as aborted (R33). -/
def QBlock.clamp (q : QBlock) : QBlock :=
  let upTo (l : Left) : Left := { lo := min l.lo (q.packets false), hi := min l.hi (q.packets true) }
  { q with closing := upTo q.closing, closingWrite := q.closingWrite && q.writing.isSome
           rebind := q.rebind.map fun r => { r with left := upTo r.left } }

/-- The packet at the head of a class is discarded. -/
def QBlock.loseHead (q : QBlock) (cls : Bool) : QBlock :=
  { q with closing := q.closing.less cls, rebind := q.rebind.map fun r => { r with left := r.left.less cls } }

/-- A packet of the close of pan n is drained (R244). -/
def State.panDrained (s : State) (n : Nat) : State :=
  s.modPan n fun p => { p with close := p.close.map fun c => { c with drained := c.drained + 1 } }

/-- The fabric or an agent has taken a word of a class: with its END a packet that a close or a change of binding fixed is drained. -/
def State.noteDrained (s : State) (d : Nat) (fabric cls last : Bool) : State :=
  let q := s.queue d
  if !last then s
  else if fabric then
    (if q.closing.of cls = 0 then s else (s.setQueue d { q with closing := q.closing.less cls }).panDrained (panOfQueue d))
  else match q.rebind with
    | some r => if r.left.of cls = 0 then s else s.setQueue d { q with rebind := some { r with left := r.left.less cls, drained := r.drained + 1 } }
    | none => s

/-- The END unit of a packet is stored: an OUT packet of a close is drained (R244). -/
def State.noteStored (s : State) (d : Nat) : State :=
  if (s.queue d).closingWrite then (s.modQueue d fun q => { q with closingWrite := false }).panDrained (panOfQueue d) else s

/-! ## Counters (R146, R153) -/

/-- Set SAT of queue block d. -/
def State.qbSat (s : State) (d : Nat) : State := s.setFld (F.PAN_QB_STATUS_SAT (panOfQueue d) (qOf d)) 1

/-- Add n to DISCARDS, saturating with SAT (R153, R760). -/
def State.addDiscards (s : State) (d n : Nat) : State :=
  let q := s.queue d
  (s.setQueue d { q with discards := min 65535 (q.discards + n) }).when (decide (65535 < q.discards + n)) (·.qbSat d)

/-- Add 1 to a class's lost items, saturating with SAT (R146). -/
def State.addLost (s : State) (d : Nat) (cls : Bool) : State :=
  let q := s.queue d
  let n := if cls then q.lost1 else q.lost0
  if n < 65535 then s.setQueue d (if cls then { q with lost1 := n + 1 } else { q with lost0 := n + 1 }) else s.qbSat d

/-! ## Settings (R155) -/

/-- WIDTH and MODE as the register holds them; a queue bound to the scheduler runs in CREDIT (R146). -/
def State.applySettings (s : State) (d : Nat) : State :=
  let p := panOfQueue d
  s.modQueue d fun q =>
    { q with width := s.fld (F.PAN_QB_CTL_WIDTH p (qOf d))
             mode := if q.kind = 2 then 0 else s.fld (F.PAN_QB_CTL_MODE p (qOf d)) }

/-- A changed MODE or WIDTH takes effect when the write end is outside a packet (R155). -/
def State.settingsIfOutside (s : State) (d : Nat) : State :=
  if (s.queue d).writing.isNone && !(s.queue d).dropping then s.applySettings d else s

/-- The unit width in bytes (R154). -/
def QBlock.unitBytes (q : QBlock) : Nat := if q.width = 0 then 1 else if q.width = 1 then 2 else 4

/-! ## The write end (R139 to R147) -/

/-- R145 OVERWRITE: discard stored packets from the head until the segment has room, when the read end is not inside a
packet of that class; n bounds the packets. Answers the state and whether there is room. -/
def State.makeRoom (s : State) (d : Nat) (cls : Bool) : Nat → State × Bool
  | 0 => (s, !((s.queue d).seg cls).full ((s.queue d).size cls))
  | n + 1 =>
    let q := s.queue d
    let g := q.seg cls
    if !g.full (q.size cls) then (s, true)
    else if q.reading == some cls then (s, false)
    else match splitPacket g.words with
      | none => (s, false)
      | some (p, r) =>
        State.makeRoom (((s.setQueue d ((q.setSeg cls { g with words := r, rptr := ptrAdd (q.size cls) g.rptr p.length }).loseHead cls)).addLost d
          cls).poisonDispatches (p.map (·.disp))) d cls n

/-- R145: the packet being written is discarded: its stored words are removed, one lost item is counted, its remaining
units are dropped, and a read end already inside it carries CUT next. -/
def State.dropWritten (s : State) (d : Nat) (cls last : Bool) : State :=
  let q := s.queue d
  let inside := q.reading == some cls && (q.seg cls).ends == 0
  let q' := (q.setSeg cls ((q.seg cls).cutTail (q.size cls)))
  (s.setQueue d ({ q' with pack := [], packDisp := 0, writing := none, dropping := !last, cut := q.cut || inside,
                           reading := if inside then none else q.reading } : QBlock).clamp).addLost d cls

/-- Store the word in the packing register with VB and END, discarding in OVERWRITE mode (R139, R140, R145). -/
def State.storeWord (s : State) (d : Nat) (cls last : Bool) (vb : Nat) : State :=
  let (t, room) := s.makeRoom d cls 512
  let q := t.queue d
  if room then
    let w : QWord := { data := BitVec.ofNat 64 (leNat q.pack), vb := vb, last := last, disp := q.packDisp }
    let q' := q.setSeg cls ((q.seg cls).push (q.size cls) w)
    (t.setQueue d { q' with pack := [], writing := if last then none else some cls, packDisp := if last then 0 else q.packDisp }).when
      last (·.noteStored d)
  else t.dropWritten d cls last

/-- The unit needs a free word: it starts the word it belongs to, or it is in a word not yet stored. -/
def QBlock.blocked (q : QBlock) (cls : Bool) : Bool := q.mode == 0 && (q.seg cls).full (q.size cls)

/-- What a write end answers to one unit: taken, or held unacknowledged. -/
def State.writeUnit (s : State) (d : Nat) (u : QUnit) : State × Bool :=
  let q := s.queue d
  if q.sync.isSome then (s, false)
  else if q.dropping then
    ((s.setQueue d { q with dropping := !u.last }).settingsIfOutside d, true)
  else if u.null && !u.last then (s, true)
  else
    let cls := q.writing.getD u.cls
    let p := panOfQueue d
    let flushDue := q.writing.isNone &&
      s.on (if cls then F.PAN_QB_CTL_FLUSH_HI p (qOf d) else F.PAN_QB_CTL_FLUSH_LO p (qOf d))
    if flushDue || q.blocked cls then (s, false)
    else if q.size cls = 0 then
      ((s.setQueue d { q with dropping := !u.last }).addLost d cls, true)
    else
      let bytes := if u.null then [] else leBytes q.unitBytes u.data.toNat
      let q1 := { q with pack := q.pack ++ bytes, writing := some cls, packDisp := if q.writing.isNone then u.disp else q.packDisp }
      let t := s.setQueue d q1
      let t' := if u.last then t.storeWord d cls true q1.pack.length
        else if q1.pack.length = 8 then t.storeWord d cls false 8 else t
      ((if u.last then t'.settingsIfOutside d else t'), true)

/-! ## The read end (R143 to R150) -/

/-- The class the read end takes its next word from (R143). -/
def QBlock.nextClass (q : QBlock) : Bool := q.reading.getD (!q.seg1.words.isEmpty)

/-- Take the next word, when one is stored: its class, the word, and the queue after. -/
def QBlock.takeWord (q : QBlock) : Option (Bool × QWord × QBlock) :=
  let cls := q.nextClass
  match (q.seg cls).words with
  | [] => none
  | w :: _ =>
    let q' := q.setSeg cls ((q.seg cls).pop (q.size cls))
    some (cls, w, { q' with reading := if w.last then none else some cls, cut := false, lastWord := w.data })

/-- Normal service (R148): USER, the sluice open, no exchange, GUARD clear. -/
def State.qbService (s : State) (d : Nat) : Bool :=
  s.fld F.RST_STATUS_STATE == 7 && s.fld (F.PAN_SLUICE_STATUS_STATE (panOfQueue d)) == 0 &&
    (s.queue d).sync.isNone && !s.on (F.PAN_QB_CTL_GUARD (panOfQueue d) (qOf d))

/-- The TAG layout of R153. -/
def tagWord (cut idle empty under cls last : Bool) (vb : Nat) : Dword :=
  BitVec.ofNat 64 (bnat cut * 512 + bnat idle * 256 + bnat empty * 128 + bnat under * 64 + bnat cls * 32 + bnat last * 16 + vb % 16)

/-! ## Flushes (R151, R152) -/

/-- R152: a queue flush. -/
def State.flushQueue (s : State) (d : Nat) : State :=
  let q := s.queue d
  let p := panOfQueue d
  let n := q.items
  let partly := q.writing.isSome
  let t := s.setQueue d ({ q with seg0 := q.seg0.clear, seg1 := q.seg1.clear, pack := [], packDisp := 0, writing := none, dropping := q.dropping || partly, reading := none, cut := q.cut || q.reading.isSome, flushDue := false } : QBlock).clamp
  ((t.addDiscards d n).when partly (·.setFld (F.PAN_QB_STATUS_DISCARD p (qOf d)) 1) |>.poisonDispatches q.dispatches).setFlds
    [(F.PAN_QB_CTL_FLUSH p (qOf d), 0), (F.PAN_QB_CTL_FLUSH_HI p (qOf d), 0), (F.PAN_QB_CTL_FLUSH_LO p (qOf d), 0)]

/-- The field of a segment flush. -/
def segFlushFld (d : Nat) (cls : Bool) : Fld :=
  if cls then F.PAN_QB_CTL_FLUSH_HI (panOfQueue d) (qOf d) else F.PAN_QB_CTL_FLUSH_LO (panOfQueue d) (qOf d)

/-- R151 items 2 and 3: a segment flush takes effect. -/
def State.flushSegment (s : State) (d : Nat) (cls : Bool) : State :=
  let q := s.queue d
  let g := q.seg cls
  (((s.setQueue d (q.setSeg cls g.clear).clamp).addDiscards d g.ends).poisonDispatches (g.words.map (·.disp))).setFld (segFlushFld d cls) 0

/-- A pending segment flush can take effect: no exchange, neither end inside a packet of its class (R151, R167). -/
def State.segFlushReady (s : State) (d : Nat) (cls : Bool) : Bool :=
  let q := s.queue d
  s.on (segFlushFld d cls) && q.sync.isNone && q.writing != some cls && q.reading != some cls

/-- Let a pending segment flush take effect where it can. -/
def State.trySegFlush (s : State) (d : Nat) (cls : Bool) : State := if s.segFlushReady d cls then s.flushSegment d cls else s

/-- Ask for a queue flush: at once, or after the exchange that runs (R152, R167). -/
def State.requestFlush (s : State) (d : Nat) : State :=
  if (s.queue d).sync.isSome then (s.modQueue d fun q => { q with flushDue := true }).setFld (F.PAN_QB_CTL_FLUSH (panOfQueue d) (qOf d)) 1
  else s.flushQueue d

/-- Ask for a segment flush (R151). -/
def State.requestSegFlush (s : State) (d : Nat) (cls : Bool) : State := (s.setFld (segFlushFld d cls) 1).trySegFlush d cls

/-! ## The pointer exchange (R164 to R167) -/

/-- The end of a queue that faces the fabric, from DIR (R133). -/
def State.fabricEnd (s : State) (d : Nat) : QEnd :=
  if s.on (F.PAN_QB_CTL_DIR (panOfQueue d) (qOf d)) then .readEnd else .writeEnd

/-- The other end. -/
def QEnd.other : QEnd → QEnd
  | .readEnd => .writeEnd
  | .writeEnd => .readEnd

/-- The clocked pushes held at queue block d are refused (R158 item 3). -/
def State.refusePushes (s : State) (d : Nat) : State :=
  if (s.queue d).pushes.isEmpty then s else (s.modQueue d fun q => { q with pushes := [] }).reply .refused

/-- One end of a queue is reset and announces it (R164, R165); a second reset restarts the exchange as for the read
end (R166). -/
def State.resetEnd (s : State) (d : Nat) (e : QEnd) : State :=
  (s.modQueue d fun q => { q with sync := some (if q.sync.isSome then (if q.sync == some e then e else .readEnd) else e) }).setFld
    (F.PAN_QB_STATUS_SYNC (panOfQueue d) (qOf d)) 1

/-- The clocked ends of the queue blocks whose binding the test names reset with their agent, and its held pushes with it (R164): by
device number, KIND and INDEX. -/
def State.resetBound (s : State) (p : Nat → Nat → Nat → Bool) : State :=
  s.each (List.range 1024) fun d t =>
    if p d (t.queue d).kind (t.queue d).index then (t.refusePushes d).resetEnd d (t.fabricEnd d).other else t

/-- Both ends are reset together: the queue is set empty with all pointers at 0 (R166); the counters of LOST and TAG stay
(Assumption 57). -/
def State.resetBothEnds (s : State) (d : Nat) : State :=
  (s.modQueue d fun q => { q with seg0 := {}, seg1 := {}, pack := [], packDisp := 0, writing := none, dropping := false, reading := none, cut := false, waiting := none, pushes := [], sync := none, flushDue := false, lastWord := 0, rebind := none, closing := {}, closingWrite := false }).setFld
    (F.PAN_QB_STATUS_SYNC (panOfQueue d) (qOf d)) 0

/-- R165 item 3, the read end reset: every packet is discarded; a packet being written is dropped to its END. -/
def State.agreeRead (s : State) (d : Nat) : State :=
  let q := s.queue d
  ((s.setQueue d ({ q with seg0 := q.seg0.clear, seg1 := q.seg1.clear, pack := [], packDisp := 0, writing := none, dropping := q.dropping || q.writing.isSome, reading := none } : QBlock).clamp).addDiscards d
      q.items |>.poisonDispatches q.dispatches).when q.writing.isSome (·.setFld (F.PAN_QB_STATUS_DISCARD (panOfQueue d) (qOf d)) 1)

/-- R165 item 3, the write end reset: whole packets stay; the packet begun and not ended is removed, with CUT where the
read end had started it. -/
def State.agreeWrite (s : State) (d : Nat) : State :=
  let q := s.queue d
  match q.writing with
  | none => s.setQueue d { q with dropping := false, waiting := none }
  | some cls =>
    let inside := q.reading == some cls && (q.seg cls).ends == 0
    let q' := q.setSeg cls ((q.seg cls).cutTail (q.size cls))
    ((s.setQueue d ({ q' with pack := [], packDisp := 0, writing := none, dropping := false, waiting := none, cut := q.cut || inside, reading := if inside then none else q.reading } : QBlock).clamp).addDiscards d
      1).setFld (F.PAN_QB_STATUS_DISCARD (panOfQueue d) (qOf d)) 1

/-- The exchange completes: the pointers are agreed and traffic resumes. -/
def State.agreed (s : State) (d : Nat) (e : QEnd) : State :=
  let t := match e with
    | .readEnd => s.agreeRead d
    | .writeEnd => s.agreeWrite d
  ((t.modQueue d fun q => { q with sync := none }).setFld (F.PAN_QB_STATUS_SYNC (panOfQueue d) (qOf d)) 0).settingsIfOutside d

/-- Flushes asked for during an exchange act on what it left (R167). -/
def State.dueFlushes (s : State) (d : Nat) : State :=
  ((s.when (s.queue d).flushDue (·.flushQueue d)).trySegFlush d true).trySegFlush d false

/-! ## Access (R134) -/

/-- The agent is the one a binding names. -/
def boundTo (kind index : Nat) (half : Nat) : Agent → Bool
  | .core c => kind == 1 && index == c.val
  | .sched h => kind == 2 && h.val == half
  | .link l => kind == 3 && index == l.val / 4
  | .mgmt h => kind == 4 && h.val == half
  | _ => false

/-- The management controller of the pan's half. -/
def isMgmtOf (half : Nat) : Agent → Bool
  | .mgmt h => h.val == half
  | _ => false

/-- Queue block d serves the coprocessor binding of the core that asks, whose port alone uses it (R337). -/
def State.copUses (s : State) (d : Nat) : Agent → Bool
  | .core c => s.on (F.TCORE_COP_BIND_EN c) && d / 4 == s.fld (F.TCORE_COP_BIND_PAN c) &&
      (d % 4 == s.fld (F.TCORE_COP_BIND_REQ_Q c) || d % 4 == s.fld (F.TCORE_COP_BIND_RSP_Q c))
  | _ => false

/-- The agent may reach queue block d's window: the bound agent, or the half's management controller (R134); during a
change of binding, the old agent for pops alone (R158). -/
def State.mayAccess (s : State) (d : Nat) (a : Agent) (push : Bool) : Bool :=
  let q := s.queue d
  let h := halfOfQueue d
  !s.copUses d a && match q.rebind with
  | none => boundTo q.kind q.index h a || isMgmtOf h a
  | some r => (boundTo r.oldKind r.oldIndex h a && !push) || isMgmtOf h a

/-- The address of a queue window, offset o (R153, R361): filled in by the memory map. -/
def windowOffset (d o : Nat) : Nat := d * 64 + o

/-! ## Changes of binding (R158) -/

/-- KIND 0b101 to 0b111 and HOST above port 3 are bound as NONE (R157). -/
def boundKind (kind index : Nat) : Nat := if kind ≥ 5 || (kind == 3 && index > 3) then 0 else kind

/-- The new binding starts by a clocked-end reset (R158 item 5). -/
def State.startBinding (s : State) (d : Nat) : State :=
  let k := s.fld (F.PAN_QB_WINDOW_KIND (panOfQueue d) (qOf d))
  let i := s.fld (F.PAN_QB_WINDOW_INDEX (panOfQueue d) (qOf d))
  (((s.refusePushes d).modQueue d fun q => { q with kind := boundKind k i, index := i, rebind := none }).resetEnd d (s.fabricEnd d).other)

/-- Begin a change of binding to KIND k and INDEX i: the registers read the new binding, and the packets waiting at an OUT queue's
read end are the items (R158). -/
def State.beginRebind (s : State) (d k i save saveLen : Nat) (byCommand : Bool) : State :=
  let p := panOfQueue d
  let q := s.queue d
  let out := !s.on (F.PAN_QB_CTL_DIR p (qOf d))
  let t := s.setFlds [(F.PAN_QB_WINDOW_KIND p (qOf d), k), (F.PAN_QB_WINDOW_INDEX p (qOf d), i)]
  match q.rebind with
  | some _ => t
  | none => t.setQueue d { q with rebind := some { oldKind := q.kind, oldIndex := q.index, save := save, saveLen := saveLen, items := if out then q.items else 0, left := if out then q.fixed else {}, byCommand := byCommand } }

/-- One record of a save area (R158): DATA in bytes 0 to 7, the tags in bytes 8 to 15. -/
def saveRecord (w : QWord) (cls cut : Bool) : List Byte :=
  leBytes 8 w.data.toNat ++ leBytes 8 (tagWord cut false false false cls w.last w.vb).toNat

/-- R158 item 3: the management controller pops the words of an OUT queue into the save area while the next record fits
and a packet of the drain is left; n bounds the words. -/
def State.saveWords (s : State) (d : Nat) : Nat → State
  | 0 => s
  | n + 1 =>
    let q := s.queue d
    match q.rebind, q.takeWord with
    | some r, some (cls, w, q') =>
      if r.save = 0 || r.saveLen < r.saved + 16 || r.left.total = 0 || q.sync.isSome then s
      else
        State.saveWords (((s.setQueue d { q' with rebind := some { r with saved := r.saved + 16 } }).noteDrained d false cls w.last).storeBytes
          (r.save + r.saved) (saveRecord w cls q.cut)) d n
    | _, _ => s

/-- The end of a change of binding: its command, where one runs, replies with the drain record and the bytes saved, and
the new binding starts (R158 item 5). -/
def State.endRebind (s : State) (d : Nat) (r : Rebind) : State :=
  (s.endJobs (fun j => j.opcode == 0x0106 && j.unit == d && r.byCommand) 0 0
    (drainRecord r.drained (r.items - r.drained) ++ leBytes 8 r.saved)).startBinding d

/-- R158 item 4: what remains at an OUT queue's read end is discarded and counted. -/
def State.discardRest (s : State) (d : Nat) : State :=
  let q := s.queue d
  let n := q.seg0.ends + q.seg1.ends
  (s.setQueue d ({ q with seg0 := q.seg0.clear, seg1 := q.seg1.clear, reading := none } : QBlock).clamp).addDiscards d n

/-- The drain timeout of a change of binding passes: what remains is discarded as aborted, and the new binding starts (R158). -/
def State.timeoutRebind (s : State) (d : Nat) : State :=
  match (s.queue d).rebind with
  | none => s
  | some _ =>
    let t := s.saveWords d 1024
    match (t.queue d).rebind with
    | none => t
    | some r => (if s.fabricEnd d == .readEnd then t else t.discardRest d).endRebind d r

/-- A change of binding begins, and ends at once where nothing drains or DRAIN_US is 0 (R158, R34). -/
def State.changeBinding (s : State) (d k i save saveLen : Nat) (byCommand : Bool) : State :=
  let t := s.beginRebind d k i save saveLen byCommand
  match (t.queue d).rebind with
  | none => t
  | some r =>
    if r.items = 0 then t.endRebind d r
    else if t.fld (F.PAN_SLUICE_DRAIN_DRAIN_US (panOfQueue d)) = 0 then (t.discardRest d).endRebind d r
    else t

/-! ## Queue settings at a load (R762) -/

/-- R762: the values of an image's QUEUE record (or of R121) at the completion of a load. -/
def State.loadQueue (s : State) (d : Nat) (r : QueueRec) : State :=
  let p := panOfQueue d
  let q := s.queue d
  let dir := s.fld (F.PAN_QB_CTL_DIR p (qOf d))
  let holds := !(q.seg0.words.isEmpty && q.seg1.words.isEmpty)
  let t := if (r.hiWords ≠ q.hiWords || r.dir ≠ dir) && holds then
      (s.flushQueue d).when q.reading.isSome (·.setFld (F.PAN_QB_STATUS_DISCARD p (qOf d)) 1)
    else s
  let t := t.setFlds [(F.PAN_QB_CTL_DIR p (qOf d), r.dir), (F.PAN_QB_CTL_WIDTH p (qOf d), r.width), (F.PAN_QB_CTL_MODE p (qOf d), r.mode)]
  let t := (t.modQueue d fun x => { x with
    hiWords := r.hiWords, idle := r.idle, flushDue := q.flushDue
    seg0 := if r.hiWords ≠ q.hiWords then {} else x.seg0, seg1 := if r.hiWords ≠ q.hiWords then {} else x.seg1 }).applySettings d
  let same := t.fld (F.PAN_QB_WINDOW_KIND p (qOf d)) == r.kind && t.fld (F.PAN_QB_WINDOW_INDEX p (qOf d)) == r.index
  if same then t else t.changeBinding d r.kind r.index 0 0 false

end Sys2Proof.Machine
end

