-- ==== Sys2Proof/Machine/RakeOps.lean ====
section
/-! DEFINITION. The rake datapath and sequencer (05_rake_datapath, 06_rake_sequencer): instruction fields, addressing,
multipliers, the result path, segments, attention, the resume record, and what stops a rake. -/

namespace Sys2Proof.Machine

/-! ## Registers of the datapath -/

/-- Element i of a list, and the list with element i changed; out of range: the default, and no change. -/
def nth {α : Type} (l : List α) (i : Nat) (d : α) : α := l.getD i d

/-- The nearest value in [lo, hi]. -/
def clampInt (lo hi x : Int) : Int := if x < lo then lo else if hi < x then hi else x

/-- A length acts as at most 1,024 (R169). -/
def effLen (l : Nat) : Nat := min l 1024

/-- The least power of two that is not smaller than L (R178). -/
def regionSize (l : Nat) : Nat := (((List.range 11).map fun k => 2 ^ k).find? fun p => decide (l ≤ p)).getD 1024

/-- The base of the modulo region of address a (R178). -/
def regionBase (a l : Nat) : Nat := if effLen l = 0 then 0 else a - a % regionSize (effLen l)

/-- The address after a modifier (R178). -/
def nextAddr (a l : Nat) (o : Int) : Nat :=
  let n := effLen l
  if n = 0 then ((a + o) % 1024).toNat
  else regionBase a l + (((a - regionBase a l : Nat) + o) % (n : Int)).toNat

/-! ## Instruction fields (R198, R200) -/

/-- Bit 39 selects a STEP. -/
def isStep (i : Nat) : Bool := bitOf i 39
/-- The opcode of a control instruction. -/
def ctlOp (i : Nat) : Nat := bitsOf i 38 34
/-- The shift field: none selects SCL. -/
def stepShift (i : Nat) : Option Int := if bitsOf i 7 1 = 64 then none else some (sgn 7 (bitsOf i 7 1))
/-- The result format code. -/
def stepFmt (i : Nat) : Nat := bitsOf i 10 8
/-- The format goes to the result channel (R185). -/
def stepEmits (i : Nat) : Bool := decide (3 ≤ stepFmt i)
/-- The step takes an inbound token (R173). -/
def stepTakesIn (i : Nat) : Bool := bitOf i 36 || bitOf i 35

/-- The illegal encodings of a STEP (R199); ROUTE is not checked in S27 mode, which ignores it (R180). -/
def stepIllegal (i : Nat) : Bool :=
  (!bitOf i 37 && bitsOf i 33 32 == 3) || decide (5 ≤ bitsOf i 31 29) || bitsOf i 26 25 == 3 || bitsOf i 19 18 == 3 ||
    (decide (1 ≤ bitsOf i 22 20) && decide (bitsOf i 22 20 ≤ 3)) || (decide (1 ≤ bitsOf i 15 13) && decide (bitsOf i 15 13 ≤ 3)) ||
    decide (6 ≤ stepFmt i) ||
    (match stepShift i with
      | none => false
      | some v => decide (v < -55) || decide (55 < v))

/-- May stand in a delay slot or follow a REP (R205). -/
def repeatable (i : Nat) : Bool := isStep i || [0, 4, 5, 6, 13, 14].contains (ctlOp i)

/-- The instruction at an address. -/
def Rake.instrAt (k : Rake) (p : Nat) : Nat := Bank.get (fun _ => 0) k.prog (p % 256)
/-- The next instruction. -/
def Rake.next (k : Rake) : Nat := k.instrAt k.sq.pc

/-- Bit 31 of word 15: the save bank is valid (R220). -/
def Rake.valid (k : Rake) : Bool := bitOf (nth k.save 15 0) 31

/-- The instruction at PC is illegal (R199, R200, R202, R205, R206, R217, R218, R221), or an injection makes it so. -/
def Rake.illegal (k : Rake) : Bool :=
  let i := k.next
  k.armIll ||
  if isStep i then stepIllegal i
  else match ctlOp i with
    | 1 => !repeatable (k.instrAt (k.sq.pc + 1))
    | 2 => bitsOf i 33 30 == 14 || !repeatable (k.instrAt (k.sq.pc + 1)) || !repeatable (k.instrAt (k.sq.pc + 2))
    | 3 => !repeatable (k.instrAt (k.sq.pc + 1)) || !repeatable (k.instrAt (k.sq.pc + 2))
    | 4 => decide (20 < bitsOf i 33 28)
    | 9 => !k.sq.handler
    | 10 => !(k.sq.handler && k.valid)
    | 11 => k.sq.atomic
    | n => decide (14 < n)

/-! ## Operand memory (R174 to R177) -/

def Rake.word (k : Rake) (a : Nat) : Word := Bank.get (fun _ => (0 : Word)) k.opnd a
def Rake.setWord (k : Rake) (a : Nat) (w : Word) : Rake :=
  { k with opnd := Bank.set (fun _ => (0 : Word)) k.opnd a w, badPar := Bank.set (fun _ => false) k.badPar a false }

/-- What one step has found so far: the rake, a parity mismatch, and whether an armed injection made it. -/
structure StepRun where
  k : Rake
  par : Bool := false
  inj : Bool := false

/-- One slot's access and its modifier (R175 to R178): op 1 READ, 2 WRITE; the operand word. -/
def StepRun.slot (t : StepRun) (op an m : Nat) (res : Word) : StepRun × Word :=
  if op = 0 then (t, 0)
  else
    let a := nth t.k.dp.a an 0
    let read := op == 1
    let k1 := if read then t.k else t.k.setWord a res
    let bad := read && (t.k.armPar || Bank.get (fun _ => false) t.k.badPar a)
    let a' := if m < 4 then a else nextAddr a (nth t.k.dp.l an 0) (nth t.k.dp.o (m - 4) 0)
    ({ k := { k1 with dp := { k1.dp with a := k1.dp.a.set an a' }, armPar := k1.armPar && !read }
       par := t.par || bad, inj := t.inj || (read && t.k.armPar) },
     if read then t.k.word a else 0)

/-! ## Multipliers and accumulators (R179 to R182) -/

/-- The low and the high 18-bit operand of a source (R179): a token's 36 bits, or a word's halves. -/
def d18 (tok : Bool) (v : Nat) : Int × Int :=
  if tok then (sgn 18 (v % 2 ^ 18), sgn 18 (v / 2 ^ 18 % 2 ^ 18)) else (sgn 16 (v % 2 ^ 16), sgn 16 (v / 2 ^ 16 % 2 ^ 16))

/-- The values applied to ACC[T] and, for SPLIT, to ACC[T xor 1] (R181). -/
def products (i : Nat) (x y tok : Nat) : Int × Option Int :=
  let ma := bitOf i 36
  let mb := bitOf i 35
  let a := if ma then tok else x
  let b := if mb then tok else y
  if bitOf i 37 then (sgn 27 (a % 2 ^ 27) * sgn 27 (b % 2 ^ 27), none)
  else
    let (a0, a1) := d18 ma a
    let (b0, b1) := d18 mb b
    let (p0, p1) := if bitOf i 34 then (a0 * b1, a1 * b0) else (a0 * b0, a1 * b1)
    match bitsOf i 33 32 with
    | 0 => (p0 + p1, none)
    | 1 => (p0 - p1, none)
    | _ => (p0, some p1)

/-- The two's-complement value modulo 2^56 (R182). -/
def wrap56 (v : Int) : Int := sgn 56 (uns 56 v)

/-- One accumulator under ACCOP (R181, R182): its new value and whether it overflowed. -/
def accOp (op : Nat) (acc p : Int) : Int × Bool :=
  match op with
  | 0 => (acc, false)
  | 1 => (0, false)
  | 2 => (p, false)
  | 3 => (wrap56 (acc + p), wrap56 (acc + p) != acc + p)
  | _ => (wrap56 (acc - p), wrap56 (acc - p) != acc - p)

/-- Apply a value to accumulator n: the new datapath and whether its OVF flag is set by the step. -/
def Datapath.apply (d : Datapath) (op n : Nat) (p : Int) : Datapath × Bool :=
  let r := accOp op (nth d.acc n 0) p
  ({ d with acc := d.acc.set n r.1, ovf := if r.2 then d.ovf.set n true else d.ovf }, r.2)

/-! ## The result path (R183 to R186) and headroom (R190) -/

/-- The shifted value (R183). -/
def shifted (s v : Int) : Int := if 0 ≤ s then v / (2 : Int) ^ s.toNat else v * (2 : Int) ^ (-s).toNat

/-- u narrowed to W bits (R184). -/
def narrow (w : Nat) (u : Int) : Int := clampInt (-(2 : Int) ^ (w - 1)) ((2 : Int) ^ (w - 1) - 1) u

/-- The bit length of n, at most b. -/
def bitLen (b n : Nat) : Nat := (List.range b).foldl (fun acc k => if 2 ^ k ≤ n then k + 1 else acc) 0

/-- The headroom of u in a field of W bits (R190). -/
def headroom (w : Nat) (u : Int) : Int :=
  max (-64) ((w : Int) - 1 - bitLen 128 (if 0 ≤ u then u.toNat else (-u - 1).toNat))

/-- The shift of a step: SH, or SCL. -/
def Datapath.shiftOf (d : Datapath) (i : Nat) : Int := (stepShift i).getD d.scl

/-- The field of W bits that accumulator n gives (R184). -/
def Datapath.fieldOf (d : Datapath) (i n w : Nat) : Nat := uns w (narrow w (shifted (d.shiftOf i) (nth d.acc n 0)))

/-- Accumulator n saturates in a field of W bits. -/
def Datapath.clips (d : Datapath) (i n w : Nat) : Bool :=
  let u := shifted (d.shiftOf i) (nth d.acc n 0)
  narrow w u != u

/-- The fields a format produces: accumulator and width (R185). -/
def fmtFields (fmt rsrc : Nat) : List (Nat × Nat) :=
  match fmt with
  | 1 => [(rsrc, 32)]
  | 2 => [(rsrc, 16), (rsrc ^^^ 1, 16)]
  | 3 => [(rsrc, 36)]
  | 4 => [(rsrc, 18)]
  | 5 => [(rsrc, 18), (rsrc ^^^ 1, 18)]
  | _ => []

/-- The word that WRITE slots write (R185, R186). -/
def Datapath.slotWord (d : Datapath) (i : Nat) : Word :=
  let n := bitsOf i 12 11
  if stepFmt i = 2 then BitVec.ofNat 32 (d.fieldOf i n 16 * 2 ^ 16 + d.fieldOf i (n ^^^ 1) 16)
  else BitVec.ofNat 32 (d.fieldOf i n 32)

/-- The token that a channel format emits (R185). -/
def Datapath.token (d : Datapath) (i : Nat) : Nat :=
  let n := bitsOf i 12 11
  match stepFmt i with
  | 3 => d.fieldOf i n 36
  | 4 => uns 36 (sgn 18 (d.fieldOf i n 18))
  | _ => d.fieldOf i n 18 * 2 ^ 18 + d.fieldOf i (n ^^^ 1) 18

/-- A WRITE slot writes. -/
def stepWrites (i : Nat) : Bool := bitsOf i 26 25 == 2 || bitsOf i 19 18 == 2

/-- The step saturates (R184): a field of its format, or the F32 word its WRITE slots receive under R186. -/
def Datapath.stepSat (d : Datapath) (i : Nat) : Bool :=
  (fmtFields (stepFmt i) (bitsOf i 12 11)).any (fun f => d.clips i f.1 f.2) ||
    (stepWrites i && stepFmt i != 1 && stepFmt i != 2 && d.clips i (bitsOf i 12 11) 32)

/-- TRK after the step (R191). -/
def Datapath.trkAfter (d : Datapath) (i : Nat) : Int :=
  if bitOf i 0 then (fmtFields (stepFmt i) (bitsOf i 12 11)).foldl (fun t f => min t (headroom f.2 (shifted (d.shiftOf i) (nth d.acc f.1 0)))) d.trk
  else d.trk

/-! ## One step (R172) -/

/-- A step can start (R173). -/
def Rake.ready (k : Rake) (i : Nat) : Bool := (!stepTakesIn i || !k.inBuf.isEmpty) && (!stepEmits i || decide (k.resBuf.length < 2))

/-- What a step raised: parity (and whether injected), how many OVFk newly set, new saturation. -/
structure StepEnd where
  k : Rake
  par : Bool
  inj : Bool
  ovf : Nat
  sat : Bool

/-- The six items of R172, but for the advance of PC. -/
def Rake.doStep (k : Rake) (i : Nat) : StepEnd :=
  let d0 := k.dp
  let res := d0.slotWord i
  let t0 : StepRun := { k := k }
  let (t1, x) := t0.slot (bitsOf i 26 25) (bitsOf i 24 23) (bitsOf i 22 20) res
  let (t2, y) := t1.slot (bitsOf i 19 18) (bitsOf i 17 16) (bitsOf i 15 13) res
  let (p, p') := products i x.toNat y.toNat (nth k.inBuf 0 0)
  let op := bitsOf i 31 29
  let n := bitsOf i 28 27
  let (d1, v1) := t2.k.dp.apply op n p
  let (d2, v2) := match p' with
    | some q => d1.apply op (n ^^^ 1) q
    | none => (d1, false)
  let sat := d0.stepSat i
  { k := { t2.k with
            dp := { d2 with trk := d0.trkAfter i, sat := d2.sat || sat, par := d2.par || t2.par }
            inBuf := if stepTakesIn i then k.inBuf.drop 1 else k.inBuf
            resBuf := if stepEmits i then k.resBuf ++ [(d0.token i, false)] else k.resBuf }
    par := t2.par && !d0.par
    inj := t2.inj
    ovf := bnat (v1 && !nth d0.ovf n false) + bnat (v2 && !nth d0.ovf (n ^^^ 1) false)
    sat := sat && !d0.sat }

/-! ## Program flow (R201 to R204) -/

/-- PC, repeat and slot state after the instruction at PC, which does not change the flow. -/
def Sequencer.advance (q : Sequencer) : Sequencer :=
  if 1 < q.rep then { q with rep := q.rep - 1 }
  else if q.rep = 1 then { q with rep := 0, pc := (q.pc + 1) % 256 }
  else if q.slot = 1 then { q with slot := 2, pc := (q.pc + 1) % 256 }
  else if q.slot = 2 then { q with slot := 0, pc := q.target.getD ((q.pc + 1) % 256), target := none }
  else { q with pc := (q.pc + 1) % 256 }

/-- Advance past the instruction at PC; a boundary left behind passes its commit point (R219). -/
def Rake.advance (k : Rake) : Rake := { k with sq := k.sq.advance, passed := false }

/-- The enabled pending events in the order of R215: SEG, FABRIC, EXT, each with ASRC and its code. -/
def Rake.event (k : Rake) : Option (Nat × Nat) :=
  if bitOf k.sq.ie 2 && k.segPend then some (3, 0)
  else match (if bitOf k.sq.ie 0 then k.latch else none) with
    | some c => some (1, c)
    | none => match (if bitOf k.sq.ie 1 then k.extQ else []) with
      | c :: _ => some (2, c)
      | [] => none

/-- COND of R202. -/
def Rake.cond (k : Rake) (i : Nat) : Bool :=
  let acc := nth k.dp.acc (bitsOf i 29 28) 0
  match bitsOf i 33 30 with
  | 0 => true
  | 1 => nth k.sq.lc 0 0 == 0
  | 2 => nth k.sq.lc 0 0 != 0
  | 3 => nth k.sq.lc 1 0 == 0
  | 4 => nth k.sq.lc 1 0 != 0
  | 5 => decide (acc < 0)
  | 6 => acc == 0
  | 7 => decide (0 < acc)
  | 8 => !k.inBuf.isEmpty
  | 9 => decide (k.resBuf.length < 2)
  | 10 => k.dp.ovf.any id
  | 11 => k.dp.sat
  | 12 => k.event.isSome
  | 13 => k.sq.segCnt == 0
  | 15 => true
  | _ => false

/-- The target of a branch (R202). -/
def Rake.branchTo (k : Rake) (i : Nat) : Nat :=
  if bitsOf i 33 30 = 15 then (bitsOf i 7 0 + k.sq.acode % 16) % 256 else bitsOf i 7 0

/-- A branch issues: its two slots run next (R202). -/
def Sequencer.branch (q : Sequencer) (taken : Bool) (tgt : Nat) : Sequencer :=
  { q with pc := (q.pc + 1) % 256, slot := 1, target := if taken then some tgt else none }

/-- The register write of SETR (R206, R169). -/
def Rake.setr (k : Rake) (reg imm : Nat) : Rake :=
  if reg < 4 then { k with dp := { k.dp with a := k.dp.a.set reg (imm % 1024) } }
  else if reg < 8 then { k with dp := { k.dp with o := k.dp.o.set (reg - 4) (sgn 11 (imm % 2048)) } }
  else if reg < 12 then { k with dp := { k.dp with l := k.dp.l.set (reg - 8) (imm % 2048) } }
  else match reg with
    | 12 => { k with dp := { k.dp with scl := clampInt (-55) 55 (sgn 24 imm) } }
    | 13 => { k with dp := { k.dp with expt := sgn 16 (imm % 2 ^ 16) } }
    | 14 => { k with sq := { k.sq with lc := k.sq.lc.set 0 (imm % 2 ^ 16) } }
    | 15 => { k with sq := { k.sq with lc := k.sq.lc.set 1 (imm % 2 ^ 16) } }
    | 16 => { k with sq := { k.sq with segLen := imm } }
    | 17 => { k with sq := { k.sq with segCnt := imm } }
    | 18 => { k with sq := { k.sq with vec := imm % 256 } }
    | 19 => if k.sq.handler then { k with sq := { k.sq with ieSaved := imm % 8 } } else { k with sq := { k.sq with ie := imm % 8 } }
    | 20 => { k with sq := { k.sq with segCfg := imm % 2 ^ 13 } }
    | _ => k

/-- The flags CLRF clears (R200). -/
def Datapath.clrf (d : Datapath) (m : Nat) : Datapath :=
  { d with sat := d.sat && !bitOf m 0, par := d.par && !bitOf m 1, exptSat := d.exptSat && !bitOf m 2,
           ovf := (List.range 4).map fun k => nth d.ovf k false && !bitOf m (3 + k) }

/-- Rescaling with guard G (R193): the datapath after, and whether EXPT saturated. -/
def Datapath.rescale (d : Datapath) (g : Nat) : Datapath × Bool :=
  let delta : Int := if d.bexp = 63 then 0 else (min g 35 : Nat) - d.bexp
  let new := clampInt (-55) 55 (d.scl + delta)
  let e := d.expt + (new - d.scl)
  let c := clampInt (-32768) 32767 e
  ({ d with scl := new, expt := c, exptSat := d.exptSat || c != e }, c != e)

/-! ## Exceptions (R224, R226) -/

/-- The pan of rake r and its number in the pan. -/
def panOfRake (r : Nat) : Nat := r / 16
def rOf (r : Nat) : Nat := r % 16

/-- Raise exception `code` of rake r at address pc, and set its EXC bit. -/
def State.rakeExc (s : State) (r code pc : Nat) (inj : Bool := false) : State :=
  (s.raise { half := halfOfRake r, cls := if code = 1 || code = 5 then ERROR else NOTICE, src := 4, code := code, unit := r, ctx := pc, inj := inj }).setFld
    ⟨R.PAN_RAKE_STATUS (panOfRake r), 16 + rOf r, 16 + rOf r⟩ 1

/-- The RUN and the ACTIVE bit of rake r (R231, R233). -/
def runBit (r : Nat) : Fld := ⟨R.PAN_RAKE_CTL (panOfRake r), 16 + rOf r, 16 + rOf r⟩
def activeBit (r : Nat) : Fld := ⟨R.PAN_RAKE_STATUS (panOfRake r), rOf r, rOf r⟩

/-! ## Notices to the scheduler (R236, R299) -/

/-- The dispatch in flight on the rake group that holds rake r. -/
def State.rakeGroup (s : State) (r : Nat) : Option Record :=
  let h := halfOfRake r
  s.findRecord h fun x => match x.on, s.node x.graph x.node with
    | some (.rake p g), some n => p == panOfRake r && (match Bank.get (fun _ => none) (s.sched h).directory n.kslot with
        | some e => bitOf (nth e.masks g 0) (rOf r)
        | none => false)
    | _, _ => false

/-- That dispatch with the NOTICE port of its node, if it names one. -/
def State.rakeDispatch (s : State) (r : Nat) : Option (Record × Nat) :=
  match s.rakeGroup r with
  | none => none
  | some x => match s.node x.graph x.node with
    | some n => if n.notice = 0 then none else some (x, n.notice - 1)
    | none => none

/-- The scheduler receives a rake notice (R299): one output token, or a dropped note. -/
def State.schedNotice (s : State) (r kind code : Nat) : State :=
  match s.rakeDispatch r with
  | none => s.count (F.SCHED_COUNTS_NOTES_DROPPED (halfOfRake r)) none
  | some (x, port) =>
    (s.routeOutputs x.graph x.node [{ tag := x.tag, port := port, len := 4, payload := [BitVec.ofNat 8 kind] ++ leBytes 2 r ++ leBytes 1 code }]).settle

/-- Count a refusal or discard in PAN[n]_SLUICE_DISCARD.REFUSED (R268). -/
def State.countRefused (s : State) (n : Nat) : State := s.count (F.PAN_SLUICE_DISCARD_REFUSED n) (some (F.PAN_SLUICE_DISCARD_SAT n))

/-- The sluice's STATE code of pan n. -/
def State.sluice (s : State) (n : Nat) : Nat := s.fld (F.PAN_SLUICE_STATUS_STATE n)
def OPEN : Nat := 0
def CLOSING : Nat := 1
def SEALED : Nat := 2
def RELOADING : Nat := 4
def INVALID : Nat := 5
def QUARANTINED : Nat := 6

/-- R236: a refused push (0), doorbell post (1) or notice (2) of pan n. -/
def State.sluiceRefused (s : State) (n kind : Nat) : State :=
  (s.countRefused n).raise { half := halfOfPan n, cls := NOTICE, src := 5, code := 2, unit := n, ctx := kind }

/-- Post a notice of rake r: delivered, held in its slot, or none while the slot is full (R235, R236). -/
def State.postNotice (s : State) (r kind code : Nat) : Option State :=
  if s.sluice (panOfRake r) = OPEN || s.sluice (panOfRake r) = CLOSING then some (s.schedNotice r kind code)
  else if (s.rake r).notice.isNone then some (s.modRake r fun k => { k with notice := some (kind, code) })
  else none

/-! ## Segments (R207 to R209) -/

/-- The segment record of R189. -/
def Datapath.record (d : Datapath) : Nat := uns 7 d.scl * 2 ^ 23 + uns 16 d.expt * 2 ^ 7 + uns 7 d.bexp

/-- Items 1 and 2 of R208 for the instruction at pc: block-exponent capture and pointer wrap. -/
def Rake.capture (k : Rake) (pc : Nat) : Rake :=
  let d := k.dp
  { k with dp := { d with
      bexp := d.trk, trk := 63
      a := (List.range 4).map fun n => if bitOf k.sq.segCfg (9 + n) then regionBase (nth d.a n 0) (nth d.l n 0) else nth d.a n 0 }
           sq := { k.sq with segDue := 1, segPc := pc } }

/-- Item 3, CHANNEL: the record enters the result buffer, or waits for a place. -/
def Rake.putRecord (k : Rake) : Rake :=
  if k.sq.segDue ≠ 1 then k
  else if !bitOf k.sq.segCfg 0 then { k with sq := { k.sq with segDue := 2 } }
  else if k.resBuf.length < 2 then { k with resBuf := k.resBuf ++ [(k.dp.record, true)], sq := { k.sq with segDue := 2 } }
  else k

/-- Items 4 to 6 of R208. -/
def State.finishSegment (s : State) (r : Nat) : State :=
  let k := s.rake r
  let had := k.dp.exptSat
  let res := if bitOf k.sq.segCfg 2 then k.dp.rescale (bitsOf k.sq.segCfg 8 3) else (k.dp, false)
  let t := s.setRake r { k with
    dp := res.1, segPend := k.segPend || bitOf k.sq.ie 2
    sq := { k.sq with segDue := 0, segCnt := 0, commitDue := k.sq.commitDue || k.sq.atomic } }
  if res.2 && !had then t.rakeExc r 4 k.sq.segPc else t

/-- The end-of-segment actions go on as far as they can (R208). -/
def State.pumpSegment (s : State) (r : Nat) : State :=
  let t := s.modRake r (·.putRecord)
  if (t.rake r).sq.segDue ≠ 2 then t
  else if !bitOf (t.rake r).sq.segCfg 1 then t.finishSegment r
  else match t.postNotice r 1 (uns 8 (t.rake r).dp.bexp) with
    | some u => u.finishSegment r
    | none => t

/-- A segment ends (R207, R208). -/
def State.endSegment (s : State) (r pc : Nat) : State := (s.modRake r (·.capture pc)).pumpSegment r

/-- The sample count after a completed step (R207), and whether the step ends the segment: a count of 0xFF_FFFF and one more ends it,
whatever SEGLEN is (Assumption 57). -/
def Sequencer.sample (q : Sequencer) (i : Nat) : Sequencer × Bool :=
  if bitOf i 38 && q.segLen != 0 then ({ q with segCnt := q.segCnt + 1 }, decide (q.segLen ≤ q.segCnt + 1)) else (q, false)

/-! ## The inbound channel (R188, R210) -/

/-- The waiting inbound token is acknowledged where it can be. -/
def Rake.absorb (k : Rake) : Rake :=
  match k.inbound with
  | some (d, false) => if k.inBuf.length < 2 then { k with inBuf := k.inBuf ++ [d], inbound := none } else k
  | some (d, true) => if k.latch.isNone then { k with latch := some (d % 256), inbound := none } else k
  | none => k

/-! ## Attention (R213 to R219) -/

/-- Drop the latch or queue entry of an event taken (R216 item 3). -/
def Rake.freeEvent (k : Rake) (src : Nat) : Rake :=
  match src with
  | 1 => { k with latch := none }
  | 2 => { k with extQ := k.extQ.drop 1 }
  | _ => { k with segPend := false }

/-- The entry of R216. -/
def Rake.enter (k : Rake) (src code : Nat) : Rake :=
  let q := k.sq
  ({ k with passed := false, sq := { q with ra := q.pc, ieSaved := q.ie, atomicSaved := q.atomic, acode := code, asrc := src, handler := true, atomic := false, inWait := false, commitDue := false, pc := (q.vec + 4 * (src - 1)) % 256 } }.freeEvent src).absorb

/-- The words of R220 for a rake's live state, with word 15 given. -/
def Rake.words (k : Rake) (w15 : Nat) : List Nat :=
  let d := k.dp
  let q := k.sq
  ((List.range 4).flatMap fun n => [uns 32 (nth d.acc n 0), bnat (nth d.ovf n false) * 2 ^ 31 + uns 56 (nth d.acc n 0) / 2 ^ 32]) ++
  ((List.range 4).map fun n => nth d.l n 0 * 2 ^ 21 + uns 11 (nth d.o n 0) * 2 ^ 10 + nth d.a n 0) ++
  [uns 16 d.expt * 2 ^ 16 + uns 7 d.scl * 2 ^ 9 + uns 7 d.trk * 4 + bnat d.exptSat * 2 + bnat d.sat,
   bnat d.par * 2 ^ 31 + uns 7 d.bexp * 2 ^ 24 + q.segCnt, nth q.lc 1 0 * 2 ^ 16 + nth q.lc 0 0, w15,
   q.vec * 2 ^ 24 + q.segLen, q.segCfg]

/-- SAVES of the save bank. -/
def Rake.saves (k : Rake) : Nat := nth k.save 15 0 % 256

/-- Word 15 of R220 at a commit save. -/
def Rake.word15 (k : Rake) (src code : Nat) : Nat :=
  2 ^ 31 + k.sq.ie * 2 ^ 28 + src * 2 ^ 26 + k.sq.pc * 2 ^ 16 + code * 2 ^ 8 + (k.saves + 1) % 256

/-- The commit entry of R219. -/
def Rake.commit (k : Rake) (src code : Nat) : Rake := { k with save := k.words (k.word15 src code) }.enter src code

/-- RESUME restores what the record holds (R221). -/
def Rake.restore (k : Rake) : Rake :=
  let w (n : Nat) : Nat := nth k.save n 0
  { k with
    passed := false
    save := k.save.set 15 (w 15 % 2 ^ 31)
    dp := { acc := (List.range 4).map fun n => sgn 56 (w (2 * n) + bitsOf (w (2 * n + 1)) 23 0 * 2 ^ 32)
            a := (List.range 4).map fun n => bitsOf (w (8 + n)) 9 0
            o := (List.range 4).map fun n => sgn 11 (bitsOf (w (8 + n)) 20 10)
            l := (List.range 4).map fun n => bitsOf (w (8 + n)) 31 21
            scl := sgn 7 (bitsOf (w 12) 15 9), expt := sgn 16 (bitsOf (w 12) 31 16), trk := sgn 7 (bitsOf (w 12) 8 2)
            bexp := sgn 7 (bitsOf (w 13) 30 24), sat := bitOf (w 12) 0, par := bitOf (w 13) 31, exptSat := bitOf (w 12) 1
            ovf := (List.range 4).map fun n => bitOf (w (2 * n + 1)) 31 }
    sq := { k.sq with
            lc := [bitsOf (w 14) 15 0, bitsOf (w 14) 31 16], segLen := bitsOf (w 16) 23 0, segCnt := bitsOf (w 13) 23 0
            segCfg := bitsOf (w 17) 12 0, vec := bitsOf (w 16) 31 24, ie := bitsOf (w 15) 30 28, atomic := true
            handler := false, pc := bitsOf (w 15) 23 16, asrc := bitsOf (w 15) 27 26, acode := bitsOf (w 15) 15 8 } }

/-- RETA (R217). -/
def Sequencer.reta (q : Sequencer) : Sequencer := { q with pc := q.ra, ie := q.ieSaved, atomic := q.atomicSaved, handler := false }

/-- PC stands outside delay slots and repeats, and no action is due. -/
def Sequencer.atBoundary (q : Sequencer) : Bool := q.slot == 0 && q.rep == 0 && q.segDue == 0 && q.noteDue.isNone

/-- An event is taken here without a save: an attention point (R214). -/
def Rake.takes (k : Rake) : Bool := k.sq.atBoundary && !k.sq.handler && !k.sq.atomic && k.event.isSome
/-- An event is taken here with a save: a commit point (R219). -/
def Rake.commits (k : Rake) : Bool := k.sq.atBoundary && !k.sq.handler && k.sq.atomic && k.sq.commitDue && k.event.isSome

/-! ## Running and stopping (R227 to R229, R732 to R734) -/

/-- The pan's grains and rakes run: in every sluice state but RELOADING and INVALID, outside a slice (R235, R696). -/
def State.panRuns (s : State) (n : Nat) : Bool :=
  s.sluice n != RELOADING && s.sluice n != INVALID && !s.on (F.PAN_SLUICE_STATUS_HOLD_TEST n)

/-- Rake r executes: running, not stopping, not halted by the debugger. -/
def State.executes (s : State) (r : Nat) : Bool :=
  s.on (runBit r) && s.on (activeBit r) && s.panRuns (panOfRake r) && (s.rake r).stopping.isNone &&
    ((s.rake r).halt == 0 || (s.rake r).halt == 4)

/-- The breakpoint registers name PC of rake r, on a first iteration (R733). -/
def State.armedAt (s : State) (r : Nat) : Bool :=
  let k := s.rake r
  s.fld F.DBG_RAKE_CTL_PAN == panOfRake r && s.fld F.DBG_RAKE_CTL_RAKE == rOf r &&
    (k.sq.rep == 0 || bitsOf (k.instrAt (k.sq.pc + 255)) 9 0 == k.sq.rep) &&
    ((s.on F.DBG_RAKE_BP_EN0 && s.fld F.DBG_RAKE_BP_ADDR0 == k.sq.pc) || (s.on F.DBG_RAKE_BP_EN1 && s.fld F.DBG_RAKE_BP_ADDR1 == k.sq.pc))

/-- A breakpoint not yet passed stands before the instruction at PC of rake r (R733). -/
def State.breaks (s : State) (r : Nat) : Bool := s.armedAt r && !(s.rake r).passed && (s.rake r).halt == 0

/-- Rake r issues the instruction at PC now: nothing is due, no event is taken first, no breakpoint stands before it. -/
def State.issues (s : State) (r : Nat) : Bool :=
  let k := s.rake r
  s.executes r && !k.sq.inWait && k.sq.segDue == 0 && k.sq.noteDue.isNone && !k.takes && !k.commits && !s.breaks r

/-- The rake is halted by the debugger (R742). -/
def Rake.isHalted (k : Rake) : Bool := decide (1 ≤ k.halt) && decide (k.halt ≤ 3)

/-- The debugger halts rake r at the boundary where it stands (R732, R733): the entry of an event comes first; the cause of a halt
request is the breakpoint where that is armed at the entry address. -/
def State.debugStop (s : State) (r cause : Nat) : State :=
  let k := s.rake r
  match (if s.panRuns (panOfRake r) && (k.takes || k.commits) then k.event else none) with
  | some (src, code) =>
    let t := s.setRake r (if k.takes then k.enter src code else k.commit src code)
    let c := if cause = 1 && t.armedAt r then 2 else cause
    t.modRake r fun x => { x with halt := c, passed := c == 2 }
  | none => s.setRake r { k with halt := cause, passed := k.passed || cause == 2 }

/-- A single step, or a halt request that waits, ends when the actions due with its instruction are done (R732, R733). -/
def State.endStep (s : State) (r : Nat) : State :=
  let k := s.rake r
  if k.sq.segDue ≠ 0 || k.sq.noteDue.isSome then s
  else if k.halt = 4 then s.debugStop r 3
  else if k.halt = 5 then s.debugStop r 1
  else s

/-- An armed injection that has not been applied is dropped as refused (R232). -/
def State.dropArmed (s : State) (r : Nat) : State :=
  let k := s.rake r
  if k.armPar || k.armIll then (s.setRake r { k with armPar := false, armIll := false }).setFlds
    [(F.PAN_RAKE_CTL_INJ_REFUSED (panOfRake r), 1), (F.PAN_RAKE_CTL_INJECT (panOfRake r), 0)] else s

/-- VALID of the save bank clears. -/
def Rake.invalidate (k : Rake) : Rake := { k with save := k.save.set 15 (nth k.save 15 0 % 2 ^ 31) }

/-- Issue stops: repeat and delay-slot state is abandoned, and the resume record is no longer valid (R221, R227, R228). -/
def Rake.stopIssue (k : Rake) : Rake :=
  { k with halt := 0, sq := { k.sq with rep := 0, slot := 0, target := none, inWait := false } }.invalidate

/-- Issue stops; RUN and ACTIVE clear (R227). -/
def State.haltRake (s : State) (r : Nat) : State :=
  (((s.modRake r (·.stopIssue)).setFld
    (runBit r) 0).setFld (activeBit r) 0).dropArmed r

/-- An illegal instruction stops the rake at its PC with ILLEGAL (R224, R225). -/
def State.illegalStop (s : State) (r : Nat) : State :=
  let k := s.rake r
  (((s.setRake r { k with armIll := false }).when k.armIll (·.setFld (F.PAN_RAKE_CTL_INJECT (panOfRake r)) 0)).rakeExc r 5
    k.sq.pc k.armIll).haltRake r

/-! ## What each instruction does at PC -/

/-- STEP (R172, R207): the step, its exceptions, and the segment it ends. -/
def State.doStep (s : State) (r : Nat) : State :=
  let k := s.rake r
  let i := k.next
  if !k.ready i then s
  else
    let e := k.doStep i
    let (q, ends) := e.k.sq.sample i
    let t := s.setRake r ({ e.k with sq := q.advance, passed := false }.absorb)
    let t := if e.par || e.inj then t.rakeExc r 1 k.sq.pc e.inj else t
    let t := t.when e.inj (·.setFld (F.PAN_RAKE_CTL_INJECT (panOfRake r)) 0)
    let t := t.each (List.range e.ovf) fun _ u => u.rakeExc r 2 k.sq.pc
    let t := if e.sat then t.rakeExc r 3 k.sq.pc else t
    if ends then t.endSegment r k.sq.pc else t

/-- RESCALE (R193). -/
def State.doRescale (s : State) (r : Nat) : State :=
  let k := s.rake r
  let res := k.dp.rescale (bitsOf k.next 5 0)
  let t := s.setRake r ({ k with dp := res.1 }.advance)
  if res.2 && !k.dp.exptSat then t.rakeExc r 4 k.sq.pc else t

/-- REP (R204). -/
def Rake.doRep (k : Rake) : Rake :=
  let n := bitsOf k.next 9 0
  { k with passed := false, sq := { k.sq with pc := (k.sq.pc + (if n = 0 then 2 else 1)) % 256, rep := n } }

/-- BR (R202). -/
def Rake.doBr (k : Rake) : Rake := { k with passed := false, sq := k.sq.branch (k.cond k.next) (k.branchTo k.next) }

/-- DBNZ (R203). -/
def Rake.doDbnz (k : Rake) : Rake :=
  let i := k.next
  let n := bitsOf i 8 8
  let c := nth k.sq.lc n 0
  { k with passed := false, sq := { k.sq with lc := k.sq.lc.set n (c - 1) }.branch (decide (1 < c)) (bitsOf i 7 0) }

/-- NOTE (R200, R236): the notice is posted, or the rake waits at it. -/
def State.doNote (s : State) (r : Nat) : State :=
  let code := bitsOf (s.rake r).next 7 0
  let t := s.modRake r (·.advance)
  match t.postNotice r 0 code with
  | some u => u
  | none => t.modRake r fun k => { k with sq := { k.sq with noteDue := some code } }

/-- The boundary before an instruction that issues passes its commit point (R219). -/
def Rake.passBoundary (k : Rake) : Rake := if k.sq.atBoundary then { k with sq := { k.sq with commitDue := false } } else k

/-- What the control instruction at PC does, by its opcode (R200). -/
def State.doControl (s : State) (r op : Nat) : State :=
  let i := (s.rake r).next
  match op with
  | 0 => s.modRake r (·.advance)
  | 1 => s.modRake r (·.doRep)
  | 2 => s.modRake r (·.doBr)
  | 3 => s.modRake r (·.doDbnz)
  | 4 => s.modRake r fun k => (k.setr (bitsOf i 33 28) (bitsOf i 23 0)).advance
  | 5 => s.doRescale r
  | 6 => s.modRake r fun k => { k with dp := k.dp.clrf (bitsOf i 6 0) }.advance
  | 7 => s.modRake r fun k => { k with sq := { k.sq with atomic := true } }.advance
  | 8 => s.modRake r fun k => { k with sq := { k.sq with atomic := false } }.advance
  | 9 => s.modRake r fun k => { k with passed := false, sq := k.sq.reta }
  | 10 => s.modRake r (·.restore)
  | 11 => s.modRake r fun k => { k with sq := { k.sq with inWait := true } }.advance
  | 12 => s.haltRake r
  | 13 => (s.modRake r (·.advance)).endSegment r (s.rake r).sq.pc
  | _ => s.doNote r

/-- Rake r is about to issue a legal control instruction with this opcode. -/
def State.issuesOp (s : State) (r op : Nat) : Bool :=
  s.issues r && !(s.rake r).illegal && !isStep (s.rake r).next && ctlOp (s.rake r).next == op

/-- Issue a control instruction with this opcode, where it stands at PC and issues. -/
def State.runControl (s : State) (r op : Nat) : State :=
  if s.issuesOp r op then ((s.modRake r (·.passBoundary)).doControl r op).endStep r else s

/-- Rake r is about to start a legal STEP (R173). -/
def State.startsStep (s : State) (r : Nat) : Bool :=
  s.issues r && !(s.rake r).illegal && isStep (s.rake r).next && (s.rake r).ready (s.rake r).next

/-- Start the STEP at PC, where it can start. -/
def State.runStep (s : State) (r : Nat) : State :=
  if s.startsStep r then ((s.modRake r (·.passBoundary)).doStep r).endStep r else s

/-- Issue the instruction at PC, whatever it is (R733). -/
def State.issue (s : State) (r : Nat) : State :=
  if s.issues r && (s.rake r).illegal then s.illegalStop r
  else if isStep (s.rake r).next then s.runStep r
  else s.runControl r (ctlOp (s.rake r).next)

/-! ## Stops, restarts, loads and resets -/

/-- What a stop of rake r counts as items: result tokens, the segment record that waits for a place among them, and events (R228). -/
def Rake.stopItems (k : Rake) : Nat :=
  k.resBuf.length + bnat (k.sq.segDue == 1 && bitOf k.sq.segCfg 0) + bnat k.latch.isSome + k.extQ.length

/-- The dispatches in flight on a rake group with rake r end poisoned (R763). -/
def State.poisonRake (s : State) (r : Nat) : State :=
  match s.rakeGroup r with
  | some x => s.poisonDispatches [dispKey (halfOfRake r) x.id]
  | none => s

/-- A RUN bit is cleared: no further instruction starts and the result tokens drain (R228, R734). -/
def State.beginStop (s : State) (r : Nat) : State :=
  (((s.poisonRake r).modRake r fun k => { k with stopping := some 0 }.stopIssue).setFld (runBit r) 0).dropArmed r

/-- The sequencer state at load (R196), the save bank apart. -/
def Rake.reseat (k : Rake) : Rake :=
  { k with sq := {}, latch := none, extQ := [], segPend := false, armPar := false, armIll := false, stopping := none, halt := 0, passed := false }

/-- The datapath at load (R168), from the image's RSTATE. -/
def Rake.dpAtLoad (k : Rake) : Datapath :=
  let w (n : Nat) : Nat := nth k.image n 0
  { a := (List.range 4).map fun n => bitsOf (w n) 9 0
    o := (List.range 4).map fun n => sgn 11 (bitsOf (w n) 20 10)
    l := (List.range 4).map fun n => bitsOf (w n) 31 21
    expt := sgn 16 (bitsOf (w 4) 31 16), scl := clampInt (-55) 55 (sgn 7 (bitsOf (w 4) 15 9)) }

/-- Everything but memories and program at its value at load (R168, R170, R196). -/
def Rake.atLoad (k : Rake) : Rake := ({ k with dp := k.dpAtLoad, inBuf := [], inbound := none, resBuf := [] }.reseat).invalidate

/-- A RUN bit is set: a stopped rake restarts at address 0 (R229). -/
def State.restartRake (s : State) (r : Nat) : State :=
  if !s.on (F.PAN_IMAGE_ID_VALID (panOfRake r)) || s.on (activeBit r) then s
  else ((s.modRake r fun k => ({ k with dp := k.dp.clrf 127 }.reseat).invalidate.absorb).setFld (runBit r) 1).setFld (activeBit r) 1

/-- End-of-segment actions that a stop finds waiting complete (R208): the record is discarded with the result tokens, and a notice that
finds its slot full is discarded. -/
def State.completeSegment (s : State) (r : Nat) : State :=
  let q := (s.rake r).sq
  if q.segDue = 0 then s
  else if !bitOf q.segCfg 1 then s.finishSegment r
  else ((s.postNotice r 1 (uns 8 (s.rake r).dp.bexp)).getD (s.sluiceRefused (panOfRake r) 2)).finishSegment r

/-- The end of a stop: what is left is discarded; drained and aborted counts (R228 items 3 and 4);
a token that waited behind the latch enters it (R210). -/
def State.finishStop (s : State) (r : Nat) : State × Nat × Nat :=
  let k := s.rake r
  let t := s.completeSegment r
  ((t.modRake r fun x => { x with resBuf := [], latch := none, extQ := [], stopping := none, sq := { x.sq with noteDue := none } }.absorb).setFld
    (activeBit r) 0, k.stopping.getD 0, k.stopItems)

end Sys2Proof.Machine
end

