-- ==== Sys2Proof/Machine/CopOps.lean ====
section
/-! DEFINITION. A tender core's registers and traps, and its coprocessor port (09_tender_cores). -/

namespace Sys2Proof.Machine

/-! ## Registers of a core -/

/-- Cache t of a core (0 L1I, 1 L1D, 2 L2) holds a line (R322). -/
def Core.caches (k : Core) (t line : Nat) : Bool :=
  if t = 0 then k.l1i.contains line else if t = 1 then k.l1d.contains line else Bank.get (fun _ => 0) k.lines line != 0


/-- Integer register n; x0 reads zero. -/
def State.xreg (s : State) (c n : Nat) : Dword := if n = 0 then 0 else Bank.get (fun _ => (0 : Dword)) (s.core c).x n
/-- Write an integer register; x0 discards. -/
def State.setXreg (s : State) (c n : Nat) (v : Dword) : State :=
  if n = 0 then s else s.modCore c fun k => { k with x := Bank.set (fun _ => (0 : Dword)) k.x n v }
/-- A CSR of core c. -/
def State.csr (s : State) (c n : Nat) : Dword := Bank.get (fun _ => (0 : Dword)) (s.core c).csr n
def State.setCsr (s : State) (c n : Nat) (v : Dword) : State :=
  s.modCore c fun k => { k with csr := Bank.set (fun _ => (0 : Dword)) k.csr n v }

/-- The address a trap vector gives: its base, and under vectored mode the entry of an interrupt. -/
def trapBase (tvec cause : Nat) (irq : Bool) : Dword := BitVec.ofNat 64 (tvec / 4 * 4 + (if irq && tvec % 4 = 1 then 4 * cause else 0))

/-- A trap of core c at address pc, as the standard has it: to S mode where it is delegated from S or U mode, else to M mode (R321). -/
def State.takeTrap (s : State) (c cause tval : Nat) (pc : Dword) (irq : Bool) : State :=
  let k := s.core c
  let st := (s.csr c 0x300).toNat
  let num := BitVec.ofNat 64 (cause + bnat irq * 2 ^ 63)
  if k.prv ≠ 3 && bitOf (s.csr c (if irq then 0x303 else 0x302)).toNat cause then
    let st' := putBits (putBits (putBits st 5 5 (bitsOf st 1 1)) 1 1 0) 8 8 k.prv
    ((((s.setCsr c 0x141 pc).setCsr c 0x142 num).setCsr c 0x143 (BitVec.ofNat 64 tval)).setCsr c 0x300 (BitVec.ofNat 64 st')).modCore c
      fun k => { k with prv := 1, pc := trapBase (s.csr c 0x105).toNat cause irq }
  else
    let st' := putBits (putBits (putBits st 7 7 (bitsOf st 3 3)) 3 3 0) 12 11 k.prv
    ((((s.setCsr c 0x341 pc).setCsr c 0x342 num).setCsr c 0x343 (BitVec.ofNat 64 tval)).setCsr c 0x300 (BitVec.ofNat 64 st')).modCore c
      fun k => { k with prv := 3, pc := trapBase (s.csr c 0x305).toNat cause irq }

/-- An exception of core c at address pc (R321). -/
def State.coreTrap (s : State) (c cause tval : Nat) (pc : Dword) : State := s.takeTrap c cause tval pc false

/-- A report of a core about a line (R325, R660). -/
def State.coreReport (s : State) (c cls code line : Nat) (inj : Bool) : State :=
  s.raise { half := halfOfCore c, cls := cls, src := 7, code := code, unit := c, ctx := line, inj := inj }

/-- A load or fetch of core c consumes poisoned data at a physical address (R325). -/
def State.poisonTrap (s : State) (c addr : Nat) : State := (s.coreReport c ERROR 5 (addr / 64) false).coreTrap c 19 addr (s.core c).pc

/-! ## Bindings (R336, R359) -/

/-- COP_STATUS.STATE. -/
def State.copState (s : State) (c : Nat) : Nat := s.fld (F.TCORE_COP_STATUS_STATE c)
def UNBOUND : Nat := 0
def BOUND : Nat := 1
def STALE : Nat := 2
def FAULTED : Nat := 3
def DRAINING : Nat := 4

/-- STATE takes a value, EVENT setting for STALE, FAULTED and UNBOUND (R359). -/
def State.setCop (s : State) (c st : Nat) : State :=
  let t := s.setFld (F.TCORE_COP_STATUS_STATE c) st
  if st = STALE || st = FAULTED || st = UNBOUND then t.setFld (F.TCORE_COP_STATUS_EVENT c) 1 else t

/-- The operation has no outcome yet; its request has been pushed, in part at least (R338). -/
def CopOp.open' (o : CopOp) : Bool := o.value.isNone && o.fault.isNone
def CopOp.sent (o : CopOp) : Bool := o.open' && !o.unsent

/-- RIDs in use: operations pushed and without an outcome, and kills (R338). -/
def Core.inUse (k : Core) : Nat := (k.ops.filter CopOp.sent).length + k.kills.length

/-- Operations and kills outstanding: those whose request still waits count too (R334). -/
def Core.outstanding (k : Core) : Nat := (k.ops.filter CopOp.open').length + k.kills.length

/-- OUTSTANDING follows the RIDs in use. -/
def State.showCop (s : State) (c : Nat) : State := s.setFld (F.TCORE_COP_STATUS_OUTSTANDING c) (s.core c).inUse

/-- The bound pan and queues of core c, as device numbers. -/
def State.copPan (s : State) (c : Nat) : Nat := s.fld (F.TCORE_COP_BIND_PAN c)
def State.reqQ (s : State) (c : Nat) : Nat := s.copPan c * 4 + s.fld (F.TCORE_COP_BIND_REQ_Q c)
def State.rspQ (s : State) (c : Nat) : Nat := s.copPan c * 4 + s.fld (F.TCORE_COP_BIND_RSP_Q c)

/-- The units of a request (R338). -/
def requestUnits (opc rid : Nat) (effecting : Bool) (a b : Dword) : List QUnit :=
  [{ data := BitVec.ofNat 32 (opc * 2 ^ 22 + bnat effecting * 2 ^ 20 + rid), last := false, cls := false, null := false },
   { data := a.truncate 32, last := false, cls := false, null := false },
   { data := BitVec.ofNat 32 (a.toNat / 2 ^ 32), last := false, cls := false, null := false },
   { data := b.truncate 32, last := false, cls := false, null := false },
   { data := BitVec.ofNat 32 (b.toNat / 2 ^ 32), last := true, cls := false, null := false }]

/-- The unit of a kill. -/
def killUnit (rid : Nat) : QUnit := { data := BitVec.ofNat 32 (2 * 2 ^ 20 + rid), last := true, cls := true, null := false }

/-! ## Ends of operations (R339 to R342) -/

/-- The fault an operation takes when it issues (new), and when its request would be pushed (R339, R340): a drain takes none that is new
(R344). -/
def State.copRefusal (s : State) (c : Nat) (new : Bool) : Option Nat :=
  if !s.on (F.TCORE_COP_BIND_EN c) || (new && (s.core c).draining) then some 1
  else if s.copState c = FAULTED then some 7
  else if s.fld (F.TCORE_COP_BIND_GEN c) ≠ s.fld (F.PAN_SLUICE_STATUS_GEN (s.copPan c)) then some 3
  else if s.sluice (s.copPan c) ≠ OPEN then some 2
  else none

/-- The idempotent operations behind the first n are squashed and leave the list: one that is pushed and waits for its response leaves a
kill to be pushed, one not yet pushed is never sent (R342). -/
def State.squashFrom (s : State) (c n : Nat) : State :=
  s.modCore c fun k =>
    let gone := (k.ops.drop n).filter fun o => !o.effecting && o.sent
    { k with ops := k.ops.take n ++ (k.ops.drop n).filter (·.effecting), kills := k.kills ++ gone.map fun o => { rid := o.rid, held := true } }

/-! ## The port's pushes (R338, R342) -/

/-- The first operation whose request waits, changed by f. -/
def firstUnsent (f : CopOp → CopOp) : List CopOp → List CopOp
  | [] => []
  | o :: r => if o.open' && o.unsent then f o :: r else o :: firstUnsent f r

/-- The first kill that is to be pushed is pushed. -/
def firstHeld : List CopKill → List CopKill
  | [] => []
  | x :: r => if x.held then { x with held := false } :: r else x :: firstHeld r

/-- One push of the port: the rest of a packet begun, else a kill, else the request of the oldest operation that waits. Answers whether
something went. -/
def State.pumpOne (s : State) (c : Nat) : State × Bool :=
  let k := s.core c
  let passes := s.sluice (s.copPan c) == OPEN
  match k.sending with
  | u :: r =>
    let t := s.writeUnit (s.reqQ c) u
    if passes && t.2 then (t.1.modCore c fun x => { x with sending := r }, true) else (s, false)
  | [] => match k.kills.find? (·.held) with
    | some x =>
      let t := s.writeUnit (s.reqQ c) (killUnit x.rid)
      if passes && t.2 then (t.1.modCore c fun y => { y with kills := firstHeld y.kills }, true) else (s, false)
    | none => match k.ops.find? fun o => o.open' && o.unsent with
      | none => (s, false)
      | some o => match s.copRefusal c false, requestUnits o.opc k.nextRid o.effecting o.a o.b with
        | some d, _ => ((s.modCore c fun x => { x with ops := firstUnsent (fun y => { y with fault := some (d, 0), unsent := false }) x.ops }).setFld
            (F.TCORE_COP_STATUS_LAST_DETAIL c) d, true)
        | none, u :: r =>
          let t := s.writeUnit (s.reqQ c) u
          if t.2 then (t.1.modCore c fun x => { x with
            sending := r, nextRid := (x.nextRid + 1) % 65536, ops := firstUnsent (fun y => { y with rid := k.nextRid, unsent := false }) x.ops }, true)
          else (s, false)
        | none, [] => (s, false)

/-- The port pushes what its queue takes; n bounds the pushes. -/
def State.pumpPort (s : State) (c : Nat) : Nat → State
  | 0 => s
  | n + 1 =>
    let r := if s.on (F.TCORE_COP_BIND_EN c) && (s.queue (s.reqQ c)).pushes.isEmpty then s.pumpOne c else (s, false)
    if r.2 then State.pumpPort r.1 c n else r.1

/-- Pushes that bound one pump: 8 operations of 5 units, and their kills. -/
def PUMP : Nat := 64

/-- The debug module halts core c: cause of dcsr (R730, R731). -/
def State.enterDebug (s : State) (c cause : Nat) : State :=
  (s.modHart c fun h => { h with cause := cause, prv := (s.core c).prv, dpc := (s.core c).pc, stepping := false, haltedAt := s.ns.toNat }).setFld (F.TCORE_CTL_HALTED c) 1

/-- The debugger has halted core c. -/
def State.isHalted (s : State) (c : Nat) : Bool := s.on (F.TCORE_CTL_HALTED c)

/-- An effecting operation of core c is outstanding. -/
def Core.effects (k : Core) : Bool := k.ops.any fun o => o.effecting && o.open'

/-- A halt that is asked for, or that ends a single step, takes effect once no effecting operation is outstanding (R731). -/
def State.haltDue (s : State) (c : Nat) : State :=
  if ((s.hart c).haltReq || (s.hart c).stepping) && (s.core c).live && !s.isHalted c && !(s.core c).effects then
    s.enterDebug c (if (s.hart c).haltReq then 3 else 4)
  else s

/-- Operations retire in order: a result writes rd; a fault raises cause 24 and squashes what is younger; n bounds them. -/
def State.retireOps (s : State) (c : Nat) : Nat → State
  | 0 => s
  | n + 1 =>
    match (s.core c).ops with
    | [] => s
    | o :: rest =>
      match o.value, o.fault with
      | some v, _ => State.retireOps ((s.setXreg c o.rd v).modCore c fun k => { k with ops := rest }) c n
      | none, some (detail, code) =>
        ((s.modCore c fun k => { k with ops := rest }).squashFrom c 0).coreTrap c 24 (code * 2 ^ 32 + o.rid * 2 ^ 16 + detail) o.pc
      | none, none => s

/-- A drain with nothing outstanding ends: UNBOUND, and its command's counts (R344). -/
def State.copDrained (s : State) (c : Nat) : State :=
  if (s.core c).draining && (s.core c).outstanding = 0 then
    let n := (s.core c).items
    (((s.setFld (F.TCORE_COP_BIND_EN c) 0).setCop c UNBOUND).modCore c fun k => { k with items := 0, draining := false, sending := [] }).endJobsBy
      (fun j => j.opcode == 0x000A && j.unit == c) fun j => drainRecord (n - j.aux) j.aux
  else s

/-- What follows a change of the port's operations: requests go out, results retire, except while the core is halted (R731), and kills
go out. -/
def State.copSettle (s : State) (c : Nat) : State :=
  let t := s.pumpPort c PUMP
  ((((if t.isHalted c then t else t.retireOps c 16).pumpPort c PUMP).showCop c).copDrained c).haltDue c

/-- The request queue d of a binding may have room again. -/
def State.copRoom (s : State) (d : Nat) : State :=
  s.each (List.range 16) fun c t => if t.on (F.TCORE_COP_BIND_EN c) && t.reqQ c == d then t.copSettle c else t

/-- Every operation without an outcome faults, with one detail where its request was pushed and another where it waits, and LAST_DETAIL
holds that of the last (R339). -/
def State.faultOps (s : State) (c detail waiting : Nat) : State :=
  let k := s.core c
  match (k.ops.filter CopOp.open').getLast? with
  | some l => (s.setCore c { k with ops := k.ops.map fun o =>
      if o.open' then { o with fault := some (if o.unsent then waiting else detail, 0), unsent := false } else o }).setFld
      (F.TCORE_COP_STATUS_LAST_DETAIL c) (if l.unsent then waiting else detail)
  | none => s

/-- Every operation without an outcome faults with a detail (R339). -/
def State.faultAll (s : State) (c detail : Nat) : State := s.faultOps c detail detail

/-! ## Responses (R338, R343) -/

/-- Pop the units of one whole packet from the read end of queue d; n bounds the words. -/
def State.popPacket (s : State) (d : Nat) : Nat → State × List Byte
  | 0 => (s, [])
  | n + 1 =>
    match (s.queue d).takeWord with
    | none => (s, [])
    | some (_, w, q) =>
      let t := s.setQueue d q
      let bytes := leBytes w.vb w.data.toNat
      if w.last then (t, bytes)
      else
        let r := State.popPacket t d n
        (r.1, bytes ++ r.2)

/-- A whole packet stands at the read end. -/
def QBlock.hasPacket (q : QBlock) : Bool := q.sync.isNone && (splitPacket (q.seg q.nextClass).words).isSome

/-- A response whose RID is not in use is stray (R343). -/
def State.stray (s : State) (c : Nat) : State :=
  (s.setFld (F.TCORE_COP_STATUS_STRAY c) 1).count (F.TCORE_COP_STATUS_STRAY_COUNT c) none

/-- The response of KIND k (0 RESULT, 1 FAULT, 2 KILLED) for a RID, with its value. -/
def State.takeResponse (s : State) (c kind rid v : Nat) : State :=
  let k := s.core c
  if k.kills.any fun x => x.rid == rid then
    if kind = 2 then s.setCore c { k with kills := k.kills.filter fun x => x.rid != rid } else s
  else if kind ≤ 1 && k.ops.any fun o => o.rid == rid && o.sent then
    let t := s.setCore c { k with ops := k.ops.map fun o =>
      if o.rid == rid && o.sent then
        (if kind = 0 then { o with value := some (BitVec.ofNat 64 v) } else { o with fault := some (4, v % 2 ^ 32) })
      else o }
    if kind = 1 then t.setFld (F.TCORE_COP_STATUS_LAST_DETAIL c) 4 else t
  else s.stray c

/-- The port takes one stored response of core c (R339). -/
def State.popResponse (s : State) (c : Nat) : State :=
  let r := s.popPacket (s.rspQ c) 1024
  let w := leNat (r.2.take 4)
  r.1.takeResponse c (bitsOf w 21 20) (w % 2 ^ 16) (leNat ((r.2.drop 4).take 8))

/-- The port takes every stored response; n bounds them. -/
def State.popResponses (s : State) (c : Nat) : Nat → State
  | 0 => s
  | n + 1 => if (s.queue (s.rspQ c)).hasPacket then State.popResponses (s.popResponse c) c n else s

/-- R341: the sluice of pan n has taken a state that is neither OPEN nor CLOSING. -/
def State.copSealed (s : State) (n : Nat) : State :=
  s.each (List.range 16) fun c t =>
    if t.on (F.TCORE_COP_BIND_EN c) && t.copPan c == n then
      (((t.popResponses c 512).faultOps c 6 2).modCore c fun k => { k with kills := [] }).copSettle c
    else t

/-- R341: the generation counter of pan n has changed. -/
def State.copGen (s : State) (n : Nat) : State :=
  s.each (List.range 16) fun c t =>
    if t.on (F.TCORE_COP_BIND_EN c) && t.copPan c == n && t.copState c == BOUND &&
      t.fld (F.TCORE_COP_BIND_GEN c) != t.fld (F.PAN_SLUICE_STATUS_GEN n) then t.setCop c STALE else t

/-! ## Interrupt lines (R329) -/

/-- A queue block bound to core c, not used by its coprocessor binding, holds a packet not started at its read end. -/
def State.queueLine (s : State) (c : Nat) : Bool :=
  (List.range 1024).any fun d =>
    let q := s.queue d
    q.kind == 1 && q.index == c && s.fabricEnd d == .writeEnd && q.reading.isNone &&
      (!q.seg0.words.isEmpty || !q.seg1.words.isEmpty) && !(s.on (F.TCORE_COP_BIND_EN c) && (s.rspQ c == d || s.reqQ c == d))

/-- A dispatch of the scheduler is in flight on core c. -/
def State.coreRecord (s : State) (c : Nat) : Option Record := s.findRecord (c / 8) fun r => r.on == some (.core c)

end Sys2Proof.Machine
end

