-- ==== Sys2Proof/Machine/PinOps.lean ====
section
/-! DEFINITION. Pins: functions, owners, latches, levels, conflicts, interrupt lines and serial engines (18_pins). -/

namespace Sys2Proof.Machine

/-! ## Words and functions (R634 to R639) -/

/-- The bank of a pin, its number in the bank, and its half (R635). -/
def bankOf (i : Nat) : Nat := i / 32
def bitOfPin (i : Nat) : Nat := i % 32
def halfOfBank (b : Nat) : Nat := b / 6

/-- Owner codes of R636. -/
def OWN_MGMT : Nat := 0
def OWN_TENDER : Nat := 1
def OWN_FABRIC : Nat := 2
def OWN_SECURE : Nat := 3

/-- FUNC is offered at pin i (R637). -/
def funcOffered (i f : Nat) : Bool :=
  let b := bankOf i % 6
  match f with
  | 2 | 3 | 4 => b == 2 || b == 3
  | 5 | 6 => b == 4 || b == 5
  | 7 => b == 5
  | 8 => b == 4
  | 10 => b == 1 && decide (16 ≤ bitOfPin i)
  | 11 => b == 0
  | _ => decide (f ≤ 12)

/-- FUNC may stand with the owner (R637). -/
def funcOwner (f o : Nat) : Bool :=
  match f with
  | 0 => true
  | 1 => o != OWN_FABRIC
  | 2 | 3 | 4 => o == OWN_TENDER
  | 9 | 10 => o == OWN_FABRIC
  | _ => o == OWN_MGMT

/-- SIG is in range for FUNC (R638). -/
def sigOk (f sig : Nat) : Bool :=
  match f with
  | 2 | 7 | 8 => decide (sig ≤ 7)
  | 3 | 4 | 5 | 6 | 12 => decide (sig ≤ 3)
  | 11 => decide (sig ≤ 16)
  | _ => true

/-- The fields of a configuration word (R636). -/
def wordFunc (w : Nat) : Nat := bitsOf w 3 0
def wordSig (w : Nat) : Nat := bitsOf w 20 16
def wordTrig (w : Nat) : Nat := bitsOf w 23 21
def wordOwner (w : Nat) : Nat := bitsOf w 31 30

/-- The FIELD cases of R639 do not hold: FUNC offered, SIG in range, TRIG and reserved bits legal. -/
def wordFields (i w : Nat) : Bool :=
  funcOffered i (wordFunc w) && sigOk (wordFunc w) (wordSig w) && decide (wordTrig w ≤ 5) && bitsOf w 29 24 == 0 && bitsOf w 15 13 == 0

/-- The word of pin i after a cold reset (R647). -/
def resetPin (i : Nat) : Nat := (resetWord (R.PIN_CFG i)).toNat

/-- The word that acts at pin i: before WAKE and in CONFIG_FAIL every pin is disabled but the governor's (R551, R647). -/
def State.pinWord (s : State) (i : Nat) : Nat :=
  if s.fld F.RST_STATUS_STATE = 6 ∨ s.fld F.RST_STATUS_STATE = 7 then (s.reg (R.PIN_CFG i)).toNat else resetPin i

/-- The FUNC, the signal and the trigger that act at pin i, and the pin's owner. -/
def State.pinFunc (s : State) (i : Nat) : Nat := wordFunc (s.pinWord i)
def State.pinSig (s : State) (i : Nat) : Nat := wordSig (s.pinWord i)
def State.pinTrig (s : State) (i : Nat) : Nat := wordTrig (s.pinWord i)
def State.pinOwner (s : State) (i : Nat) : Nat := s.fld (F.PIN_CFG_OWNER i)

/-! ## Levels (R634, R641, R644) -/

/-- The digital receiver of pin i reads its level. -/
def State.pinReads (s : State) (i : Nat) : Bool := !(s.pinFunc i == 0 || s.pinFunc i == 8) && !s.bankDown (bankOf i)

/-- The synchronised level of pin i, as the input register shows it. -/
def State.pinLevel (s : State) (i : Nat) : Bool := s.pinReads i && s.pad i

/-- The input register of bank b. -/
def State.bankIn (s : State) (b : Nat) : Nat := (List.range 32).foldl (fun v k => v + bnat (s.pinLevel (32 * b + k)) * 2 ^ k) 0

/-- The latch bit of pin i. -/
def State.latch (s : State) (i : Nat) : Bool := bitOf (s.fld (F.PIN_BANK_LAT_LATCH (bankOf i))) (bitOfPin i)

/-- Set the latch bit of pin i. -/
def State.setLatch (s : State) (i : Nat) (b : Bool) : State :=
  s.setFld (F.PIN_BANK_LAT_LATCH (bankOf i)) (putBits (s.fld (F.PIN_BANK_LAT_LATCH (bankOf i))) (bitOfPin i) (bitOfPin i) (bnat b))

/-- What a STATUS pin shows (R638). -/
def State.statusSignal (s : State) (h sig : Nat) : Bool :=
  match sig with
  | 0 => s.errLow
  | 1 => s.errFatalLow
  | 2 => s.on (F.GOV_STATUS_STOP h)
  | _ => s.fld F.RST_STATUS_STATE == 7

/-- The level at pin i: what it drives itself, or what the board puts there (R644); under EXTEST and CLAMP the boundary cell, and
under HIGHZ the board (R725, R726). -/
def State.drivenLevel (s : State) (i : Nat) (ext : Bool) : Bool :=
  if s.bankDown (bankOf i) then ext
  else if s.dbg.ir = 3 || s.dbg.ir = 4 then Bank.get (fun _ => false) s.dbg.boundary i
  else if s.dbg.ir = 5 then ext
  else if s.pinFunc i = 1 && s.on (F.PIN_CFG_OE i) then (if s.on (F.PIN_CFG_OD i) then s.latch i && ext else s.latch i)
  else if s.pinFunc i = 9 && (s.pinChan i).kind == 3 then s.latch i
  else if s.pinFunc i = 12 then s.statusSignal (i / 192) (s.pinSig i)
  else ext

/-! ## Latch writes (R644 to R645) -/

/-- The pins of bank b that are GPIO and have the owner, as a mask. -/
def State.gpioMask (s : State) (b o : Nat) : Nat :=
  (List.range 32).foldl (fun v k => v + bnat (s.pinFunc (32 * b + k) == 1 && s.pinOwner (32 * b + k) == o) * 2 ^ k) 0

/-- The three latch operations: 0 set, 1 clear, 2 toggle. -/
def latchOp (kind latch mask : Nat) : Nat :=
  match kind with
  | 0 => latch ||| mask
  | 1 => latch &&& (mask ^^^ 0xFFFFFFFF)
  | _ => latch ^^^ mask

/-- Apply a latch operation to the pins of bank b that an owner's path may write. -/
def State.writeLatch (s : State) (b o kind mask : Nat) : State :=
  s.setFld (F.PIN_BANK_LAT_LATCH b) (latchOp kind (s.fld (F.PIN_BANK_LAT_LATCH b)) (mask &&& s.gpioMask b o))

/-- Masked pins that the owner's path may not write. -/
def State.deniedPins (s : State) (b o mask : Nat) : Nat := mask &&& (s.gpioMask b o ^^^ 0xFFFFFFFF)

/-- Set a DENIED bit; a report for one that changes from clear to set (R658). -/
def State.denyPin (s : State) (f : Fld) (half unit : Nat) : State :=
  if s.on f then s else (s.setFld f 1).raise { half := half, cls := NOTICE, src := 17, code := 2, unit := unit }

/-- A SET, CLR or TGL write to bank b: the TENDER GPIO pins follow, and a masked pin left unchanged sets DENIED (R656). -/
def State.bankWrite (s : State) (b kind mask : Nat) : State :=
  let t := s.writeLatch b OWN_TENDER kind mask
  if s.deniedPins b OWN_TENDER mask = 0 then t else t.denyPin (F.PIN_BANK_CTL_DENIED b) (halfOfBank b) b

/-! ## Conflicts (R648, R649) -/

/-- Input and bidirectional signals, as (FUNC, SIG) (R638). -/
def inputSignals : List (Nat × Nat) :=
  [(2, 2), (2, 6), (3, 0), (3, 1), (3, 2), (3, 3), (4, 1), (4, 3), (6, 0), (6, 1), (6, 2), (6, 3), (7, 2), (7, 5), (7, 6), (7, 7),
   (8, 0), (8, 1), (8, 2), (8, 3), (8, 4), (8, 5), (8, 6), (8, 7)]

/-- The pins of half h that carry a signal, ascending. -/
def State.signalPins (s : State) (h f sig : Nat) : List Nat :=
  ((List.range 192).map (h * 192 + ·)).filter fun i => s.pinFunc i == f && s.pinSig i == sig

/-- The one pin that carries an input signal; none for a signal of no pin or in conflict (R648, R649). -/
def State.signalPin (s : State) (h f sig : Nat) : Option Nat :=
  match s.signalPins h f sig with
  | [i] => some i
  | _ => none

/-- A conflict of a signal begins in half h (R648). -/
def State.conflictBegins (s : State) (h f sig a b : Nat) : State :=
  (if s.on (F.PIN_CONFLICT_CONFLICT h) then s else
    s.setFlds [(F.PIN_CONFLICT_CONFLICT h, 1), (F.PIN_CONFLICT_FUNC h, f), (F.PIN_CONFLICT_SIG h, sig), (F.PIN_CONFLICT_PIN_A h, a), (F.PIN_CONFLICT_PIN_B h, b)]).raise
    { half := h, cls := NOTICE, src := 17, code := 1, unit := h, ctx := f + sig * 16 + a * 512 + b * 2 ^ 18 }

/-- Conflicts that a change of configuration words from those of `old` begins. -/
def State.noteConflicts (s old : State) : State :=
  s.each [0, 1] fun h t => inputSignals.foldl (fun u x =>
    match old.signalPins h x.1 x.2, s.signalPins h x.1 x.2 with
    | _ :: _ :: _, _ => u
    | _, a :: b :: _ => u.conflictBegins h x.1 x.2 a b
    | _, _ => u) t

/-! ## Interrupt lines (R650 to R652) -/

/-- The pin that line k takes. -/
def State.linePin (s : State) (k : Nat) : Option Nat :=
  if s.fld (F.PIN_IRQ_CFG_BANK k) < 12 then some (32 * s.fld (F.PIN_IRQ_CFG_BANK k) + k) else none

/-- PEND of line k. -/
def State.linePend (s : State) (k : Nat) : Bool := bitOf (s.fld F.PIN_IRQ_STATUS_PEND) k
def State.setPend (s : State) (k : Nat) (b : Bool) : State :=
  s.setFld F.PIN_IRQ_STATUS_PEND (putBits (s.fld F.PIN_IRQ_STATUS_PEND) k k (bnat b))

/-- Line k is active (R650, R651). -/
def State.lineActive (s : State) (k : Nat) : Bool :=
  match s.linePin k with
  | none => false
  | some i =>
    let trig := s.pinTrig i
    trig != 0 && s.pinReads i && (s.linePend k || (trig == 4 && s.pinLevel i) || (trig == 5 && !s.pinLevel i))

/-- The ACTIVE word. -/
def State.activeLines (s : State) : Nat := (List.range 32).foldl (fun v k => v + bnat (s.lineActive k) * 2 ^ k) 0

/-- An active line is delivered to core c (R650, R651). -/
def State.pinLine (s : State) (c : Nat) : Bool :=
  (List.range 32).any fun k => s.lineActive k && s.fld (F.PIN_IRQ_CFG_DEST k) == c &&
    (halfOfBank (s.fld (F.PIN_IRQ_CFG_BANK k)) == halfOfCore c || s.causewayUp (halfOfCore c))

/-- The transition of TRIG is made. -/
def edgeTaken (trig : Nat) (old new : Bool) : Bool :=
  (!old && new && (trig == 1 || trig == 3)) || (old && !new && (trig == 2 || trig == 3))

/-- The line that selects pin i records the edge that a change from the state `old` makes in the pin's synchronised level (R651). -/
def State.noteEdge (s old : State) (i : Nat) : State :=
  if s.linePin (bitOfPin i) = some i && s.pinReads i && edgeTaken (s.pinTrig i) (old.pinLevel i) (s.pinLevel i) then s.setPend (bitOfPin i) true else s

/-- The synchronised level at pin i takes a value. -/
def State.pinEdge (s : State) (i : Nat) (level : Bool) : State := (s.setPad i level).noteEdge s i

/-- A pin's configuration word is replaced; a change of TRIG clears the PEND bit of its line (R652), and a receiver that a new FUNC
switches on moves the level that the line samples. -/
def State.placePinWord (s : State) (i w : Nat) : State :=
  let t := s.setReg (R.PIN_CFG i) (BitVec.ofNat 32 w)
  if wordTrig w = s.pinTrig i then t.noteEdge s i
  else if s.linePin (bitOfPin i) = some i then t.setPend (bitOfPin i) false
  else t

/-- A new word of pin i, with the conflicts that it begins. -/
def State.setPinWord (s : State) (i w : Nat) : State := (s.placePinWord i w).noteConflicts s

/-- The word that the last WAKE gave pin i (R636). -/
def State.imagePin (s : State) (i : Nat) : Nat := if s.pinWords.isEmpty then resetPin i else leNat ((s.pinWords.drop (4 * i)).take 4)

/-- Each latch of bank b takes INIT (R647). -/
def State.initLatches (s : State) (b : Nat) : State :=
  s.setFld (F.PIN_BANK_LAT_LATCH b) ((List.range 32).foldl (fun v k => v + bitsOf (s.imagePin (32 * b + k)) 12 12 * 2 ^ k) 0)

/-- The pins of bank b return to the words that the last WAKE gave them (R636, R642), and the latches to INIT. -/
def State.resetPins (s : State) (b : Nat) : State :=
  (s.each ((List.range 32).map (32 * b + ·)) fun i t => t.setReg (R.PIN_CFG i) (BitVec.ofNat 32 (t.imagePin i))).initLatches b

/-! ## The serial engines (R653 to R655) -/

/-- The engine SERSEL names for core c: 6 × half + engine; none at 6 or 7. -/
def State.serialOf (s : State) (c : Nat) : Option Nat :=
  let n := (s.csr c 0x7C7).toNat % 8
  if n < 6 then some (halfOfCore c * 6 + n) else none

/-- The kind of an engine: 0 SPI, 1 I2C/I3C, 2 UART. -/
def serialKind (e : Nat) : Nat := e % 6 / 2

/-- The FUNC and SIG of the signal an engine receives on: MISO, SDA or RX (R638). -/
def serialInput (e : Nat) : Nat × Nat :=
  let u := e % 2
  match serialKind e with
  | 0 => (2, 4 * u + 2)
  | 1 => (3, 2 * u + 1)
  | _ => (4, 2 * u + 1)

/-- The engine takes its next entry, unless it is stopped, busy, or an SPI or I2C engine with a full receive FIFO (R655). -/
def Serial.start (x : Serial) : Serial :=
  match x.current, x.tx with
  | none, w :: r => if x.div = 0 then x else { x with current := some w, tx := r }
  | _, _ => x

/-- SERDATA written (R655). -/
def Serial.push (x : Serial) (v : Nat) : Serial :=
  if x.tx.length < 16 then ({ x with tx := x.tx ++ [v % 2048] } : Serial).start else { x with txOvf := true }

/-- SERDATA read: the word and the engine after. -/
def Serial.pop (x : Serial) : Nat × Serial :=
  match x.rx with
  | [] => (2 ^ 31, x)
  | v :: r => (v, { x with rx := r })

/-- SERCFG written (R653, R655). -/
def Serial.config (x : Serial) (v : Nat) : Serial := ({ x with div := bitsOf v 31 12, mode := bitsOf v 1 0 } : Serial).start

/-- SERCFG read. -/
def Serial.cfgWord (x : Serial) : Nat := x.div * 4096 + x.mode

/-- SERSTAT read (R653). -/
def Serial.statWord (x : Serial) : Nat :=
  x.tx.length + x.rx.length * 256 + bnat x.current.isSome * 2 ^ 16 + bnat x.txOvf * 2 ^ 17 + bnat x.rxOvf * 2 ^ 18 + bnat x.arbLost * 2 ^ 19

/-- SERSTAT written: 1 clears (R653). -/
def Serial.clear (x : Serial) (v : Nat) : Serial :=
  { x with txOvf := x.txOvf && !bitOf v 17, rxOvf := x.rxOvf && !bitOf v 18, arbLost := x.arbLost && !bitOf v 19 }

/-- A byte ends on an SPI or I2C engine: the entry leaves, and the byte received is recorded (R654, R655). -/
def Serial.clocked (x : Serial) (v : Nat) (lost : Bool) : Serial :=
  match x.current with
  | none => x
  | some _ =>
    if lost then { x with arbLost := true, tx := [], current := none }
    else if x.rx.length < 16 then ({ x with current := none, rx := x.rx ++ [v] } : Serial).start
    else x

/-- A byte ends on a UART: one sent, or one received (R655). -/
def Serial.sent (x : Serial) : Serial := ({ x with current := none } : Serial).start
def Serial.received (x : Serial) (v : Nat) : Serial :=
  if x.rx.length < 16 then { x with rx := x.rx ++ [v] } else { x with rxOvf := true }

/-! ## CSR instructions of a core -/

/-- Core c executes an M-mode CSR instruction: in another mode it takes an illegal-instruction exception, whose trap value is
free; the pc moves on (R346, R653). -/
def State.mModeCsr (s : State) (c : Nat) (f : State → State) : State :=
  if !(s.core c).live || s.isHalted c then s
  else if (s.core c).prv = 3 then (f s).modCore c fun k => { k with pc := k.pc + 4 }
  else s.useFree.coreTrap c 2 s.freeVal (s.core c).pc

/-- A write of the private pin port (R346, R347). -/
def State.pinPort (s : State) (c kind v : Nat) : State :=
  let b := halfOfCore c * 6 + bitsOf v 34 32
  let deny (t : State) : State := t.denyPin (F.TCORE_STATUS_PIN_DENIED c) (halfOfCore c) (0x100 + c)
  if 6 ≤ bitsOf v 34 32 then deny s
  else
    let t := s.writeLatch b OWN_TENDER kind (bitsOf v 31 0)
    if s.deniedPins b OWN_TENDER (bitsOf v 31 0) = 0 then t else deny t

end Sys2Proof.Machine
end

