-- ==== Sys2Proof/Machine/FabricOps.lean ====
section
/-! DEFINITION. Handshake channels, grains and watch points (02_handshake_fabric). -/

namespace Sys2Proof.Machine

/-! ## Numbering -/

/-- The channel of output o of grain g (device grain number: pan × 16,384 + address, R82; track stages above, R64). -/
def chanOfGrain (g o : Nat) : Nat := g * 2 + o
/-- The channel of a watch point of a pan (R72). -/
def chanOfPoint (pan wp : Nat) : Nat := 2 ^ 24 + pan * 512 + wp
/-- The channel of an input or output pin channel, by pin. -/
def chanOfPin (pin : Nat) (out : Bool) : Nat := 2 ^ 25 + pin + bnat out * 512

/-- The pan of a grain, or of a stage of a global track (R64). -/
def panOfGrain (g : Nat) : Nat := g / 16384 % 256

/-- The pan that pin channel i attaches to (R88). -/
def panOfPin (i : Nat) : Nat :=
  let b := i / 32 % 6
  let k := i % 32
  i / 192 * 128 + (if b < 2 then k / 4 * 16 else if b < 4 then 7 * 16 + k / 2 else k / 4 * 16 + 15)

/-- A channel of a watch point or a pin that belongs to pan n: a port, an outbound lane as the pan drives it, a pin channel. -/
def portInPan (n k : Nat) : Bool :=
  (decide (2 ^ 24 ≤ k) && decide ((k - 2 ^ 24) / 512 = n)) ||
    (decide (2 ^ 25 ≤ k) && decide ((k - 2 ^ 25) % 512 < 384) && panOfPin ((k - 2 ^ 25) % 512) == n)

/-- A port of a hard block of pan n: its watch points from 256 on (R72). -/
def hardPort (n k : Nat) : Bool := decide (2 ^ 24 ≤ k) && decide ((k - 2 ^ 24) / 512 = n) && decide (256 ≤ (k - 2 ^ 24) % 512)

/-- A grain's channel inside pan n. -/
def chanInPan (n k : Nat) : Bool := decide (k < 2 ^ 24) && k / 32768 % 256 == n

/-- The lane at the far end of lane k of a side of pan n: its pan, side and lane (R85); none when unterminated (R86). -/
def farLane (n side k : Nat) : Option (Nat × Nat × Nat) :=
  let h := n / 128
  let r := n % 128 / 16
  let c := n % 16
  match side with
  | 0 => if r = 0 then none else some (n - 16, 2, k)
  | 1 => if c = 15 then none else some (n + 1, 3, k)
  | 2 => if r = 7 then none else some (n + 16, 0, k)
  | _ => if c = 0 then none else some (h * 128 + r * 16 + c - 1, 1, k)

/-- A lane is inbound (R84). -/
def laneInbound (side k : Nat) : Bool := if side = 0 || side = 3 then decide (k < 32) else decide (32 ≤ k)

/-- The one shared stage of a lane, kept at the receiving pan's watch point (R85, R238). -/
def laneStage (n side k : Nat) : Nat :=
  if laneInbound side k then chanOfPoint n (side * 64 + k)
  else match farLane n side k with
    | some (m, sd, j) => chanOfPoint m (sd * 64 + j)
    | none => chanOfPoint n (side * 64 + k)

/-! ## Channels (R46 to R48) -/

/-- Every pair holds exactly one high rail (R47). -/
def Chan.complete (c : Chan) : Bool := !c.word.isEmpty && c.word.all fun p => p == .zero || p == .one
/-- Every pair is empty. -/
def Chan.spacer (c : Chan) : Bool := c.word.all (· == .empty)
/-- Idle: an empty word and acknowledge low. -/
def Chan.idle (c : Chan) : Bool := c.spacer && !c.high

/-- The stall phase of a channel (R80): 0 idle, 1 INCOMPLETE, 2 ACK_RISE, 3 SPACER, 4 ACK_FALL, 5 ILLEGAL. -/
def Chan.phase (c : Chan) : Nat :=
  if c.word.any (· == .both) then 5
  else if c.spacer then (if c.high then 4 else 0)
  else if c.high then 3
  else if c.complete then 2
  else 1

/-- The channel changes from c to d: a phase transition ends the stall episode of every watch point (R73). -/
def Chan.turn (c d : Chan) : Chan := { d with told := if d.phase = c.phase then c.told else [] }

/-- The pair for a bit. -/
def railOf (b : Bool) : Rail := if b then .one else .zero

/-- The word of w pairs that holds v. -/
def railsOf (w v : Nat) : List Rail := (List.range w).map fun i => railOf (bitOf v i)

/-- The number a complete word holds. -/
def Chan.value (c : Chan) : Nat := c.word.foldr (fun p v => v * 2 + bnat (p == .one)) 0

/-- The sender drives a word, or returns it to the spacer; a token let in by a step is let in once (R246). -/
def Chan.offer (c : Chan) (w : List Rail) : Chan := c.turn { c with word := w, passed := false }

/-- Receiver x of the receivers rs raises its acknowledge: the channel's rises with the last of them (R48). -/
def Chan.ack (c : Chan) (rs : List Nat) (x : Nat) : Chan :=
  let a := if c.acks.contains x then c.acks else c.acks ++ [x]
  c.turn { c with acks := a, high := c.high || rs.all a.contains }

/-- Receiver x lowers its acknowledge: the channel's falls with the last of them (R48). -/
def Chan.release (c : Chan) (x : Nat) : Chan :=
  let a := c.acks.filter (· != x)
  c.turn { c with acks := a, high := c.high && !a.isEmpty }

/-- The receivers let go of a channel whose pan begins anew: no acknowledge stands. -/
def Chan.letGo (c : Chan) : Chan := { c with acks := [], high := false, told := [] }

/-! ## Grains (R42 to R45, R57) -/

/-- The part is in WAKE or USER: no token moves before WAKE (R53). -/
def State.awake (s : State) : Bool := s.fld F.RST_STATUS_STATE == 6 || s.fld F.RST_STATUS_STATE == 7

/-- Grain g as a receiver of the channels its inputs use; the port of channel k as a receiver of its drivers (R49). -/
def receiverOf (g : Nat) : Nat := g + 1
def portId (k : Nat) : Nat := 2 ^ 23 + 1 + k

/-- The input of a grain: channel and pair, as 128 × channel + pair. -/
def inputChan (i : Nat) : Nat := i / 128
def inputPair (i : Nat) : Nat := i % 128

/-- The pair an input sees. -/
def State.pairAt (s : State) (i : Nat) : Rail := nth' (s.chan (inputChan i)).word (inputPair i)
where nth' (l : List Rail) (k : Nat) : Rail := l.getD k .empty


/-- The pan whose sluice a channel enters through: a border lane's, or an input pin channel's; none for a channel inside a pan. -/
def gatedPan (k : Nat) : Option Nat :=
  if 2 ^ 24 ≤ k && k < 2 ^ 24 + 256 * 512 && (k - 2 ^ 24) % 512 < 256 then some ((k - 2 ^ 24) / 512)
  else if 2 ^ 25 ≤ k && k < 2 ^ 25 + 384 then some (panOfPin (k - 2 ^ 25))
  else none

/-- A channel is passed into its pan while the sluice is open (R235, R89), or for the token a step lets in (R246). -/
def State.lanePasses (s : State) (k : Nat) : Bool :=
  match gatedPan k with
  | some n => s.fld (F.PAN_SLUICE_STATUS_STATE n) == 0 || (s.chan k).passed
  | none => true

/-- Grain input i uses channel k. -/
def usesChan (k : Nat) (i : Option Nat) : Bool :=
  match i with
  | some x => inputChan x == k
  | none => false

/-- The receivers of channel k (R48): the grains that use it, and the ports that it drives. -/
def State.usersOf (s : State) (k : Nat) : List Nat :=
  ((s.grains.filter fun p => p.2.inputs.any (usesChan k)).map fun p => receiverOf p.1) ++
    (s.ports.filter fun p => p.2.contains k).map fun p => portId p.1

/-- Every receiver of the channel has acknowledged; nothing waits for an output that nothing receives (Assumption 57). -/
def State.acked (s : State) (k : Nat) : Bool := (s.chan k).high || (s.usersOf k).isEmpty

/-- An input holds a value not yet acknowledged by grain g. -/
def State.inputReady (s : State) (g i : Nat) : Bool :=
  s.lanePasses (inputChan i) && (s.pairAt i == .zero || s.pairAt i == .one) && (s.chan (inputChan i)).complete && !(s.chan (inputChan i)).acks.contains (receiverOf g)

/-- Every used input of the grain is complete (R43). -/
def State.inputsReady (s : State) (g : Nat) (c : GrainCfg) : Bool :=
  c.inputs.all fun i => match i with
    | some x => s.inputReady g x
    | none => true

/-- Every used input of the grain has returned to the spacer. -/
def State.inputsEmpty (s : State) (c : GrainCfg) : Bool :=
  c.inputs.all fun i => match i with
    | some x => (s.chan (inputChan x)).spacer
    | none => true

/-- The number the used inputs spell, I0 lowest; an unused input counts 0. -/
def State.inputsValue (s : State) (c : GrainCfg) : Nat :=
  c.inputs.foldr (fun i v => v * 2 + (match i with
    | some x => bnat (s.pairAt x == .one)
    | none => 0)) 0

/-- The outputs of a grain's mode that are used: 0, or 0 and 1. -/
def GrainCfg.outputs (c : GrainCfg) : List Nat := if c.mode == .lut5x2 || c.mode == .mutex then [0, 1] else [0]

/-- Every output buffer of the grain has returned to the spacer and been released (R45). -/
def State.outputsIdle (s : State) (g : Nat) (c : GrainCfg) : Bool := c.outputs.all fun o => (s.chan (chanOfGrain g o)).idle

/-- Drive output o of grain g to a bit. -/
def State.drive (s : State) (g o : Nat) (b : Bool) : State :=
  s.modChan (chanOfGrain g o) (·.offer [railOf b])

/-- Receiver x acknowledges channel k. -/
def State.ackChan (s : State) (k x : Nat) : State := s.modChan k fun c => c.ack (s.usersOf k) x

/-- Grain g acknowledges its used inputs. -/
def State.ackInputs (s : State) (g : Nat) (c : GrainCfg) : State :=
  c.inputs.foldl (fun t i => match i with
    | some x => t.ackChan (inputChan x) (receiverOf g)
    | none => t) s

/-- Grain g releases its used inputs. -/
def State.releaseInputs (s : State) (g : Nat) (c : GrainCfg) : State :=
  c.inputs.foldl (fun t i => match i with
    | some x => t.modChan (inputChan x) (·.release (receiverOf g))
    | none => t) s

/-- The grain is in CARRY mode and takes its carry from the grain below. -/
def State.chainedAt (s : State) (g : Nat) : Bool := (s.grain g).mode == .carry && (s.grain g).chained

/-- The first grain of the chain that holds grain g (R57: inside one cluster); n bounds the walk. -/
def State.chainStart (s : State) (g : Nat) : Nat → Nat
  | 0 => g
  | n + 1 => if s.chainedAt g && g % 1024 != 0 && (s.grain (g - 1)).mode == .carry then State.chainStart s (g - 1) n else g

/-- The grains of the chain from its first grain on. -/
def State.chainFrom (s : State) (g : Nat) : Nat → List Nat
  | 0 => []
  | n + 1 => g :: (if (g + 1) % 1024 != 0 && s.chainedAt (g + 1) then State.chainFrom s (g + 1) n else [])

/-- The chain of a CARRY grain. -/
def State.chainOf (s : State) (g : Nat) : List Nat := s.chainFrom (s.chainStart g 1024) 1024

/-- The grain's half-buffer takes part in a pipeline: its output stands between its inputs and its receivers. -/
def GrainMode.buffers (m : GrainMode) : Bool := m == .lut6 || m == .lut5x2 || m == .carry || m == .track

/-- No receiver of the grain's outputs still holds a token in its own buffer: tokens never stand in two adjacent half-buffers while
they move (R51, R55; Assumption 57). -/
def State.roomBeyond (s : State) (g : Nat) (c : GrainCfg) : Bool :=
  c.outputs.all fun o => s.grains.all fun p =>
    !(p.2.mode.buffers && p.2.inputs.any (usesChan (chanOfGrain g o))) || p.2.outputs.all fun q => (s.chan (chanOfGrain p.1 q)).spacer

/-- The grain may take its next input set (R43, R45). -/
def State.mayEvaluate (s : State) (g : Nat) (c : GrainCfg) : Bool := s.inputsReady g c && s.outputsIdle g c && s.roomBeyond g c

/-- The grain below hands its carry to grain g. -/
def State.linked (s : State) (g : Nat) : Bool := s.chainedAt g && g % 1024 != 0 && (s.grain (g - 1)).mode == .carry

/-- The carry into grain g: the link from the grain below, or 0 into the first grain of a chain (Assumption 57). -/
def State.carryIn (s : State) (g : Nat) : Option Bool := if s.linked g then (s.heldOf (g - 1)).link else some false

/-- What grain g's inputs decide of its carry out (R58): a generate or a kill at once, a propagate with the carry in. -/
def State.linkOut (s : State) (g : Nat) : Option Bool :=
  let c := s.grain g
  if !s.inputsReady g c || (s.heldOf g).fired then none
  else
    let v := s.inputsValue c % 32
    if bitOf c.tableB v == bitOf c.tableB (v + 32) then some (bitOf c.tableB v)
    else (s.carryIn g).map fun ci => bitOf c.tableB (v + 32 * bnat ci)

/-- One grain of a chain goes on as far as it can: its carry link, and O once the carry in is there (R58). -/
def State.carryStep (s : State) (g : Nat) : State :=
  let t := if (s.heldOf g).link.isNone then s.modHeldOf g fun h => { h with link := s.linkOut g } else s
  let c := t.grain g
  match t.carryIn g with
  | some ci =>
    if t.mayEvaluate g c && !(t.heldOf g).fired then
      (t.drive g 0 (bitOf c.table (t.inputsValue c % 32 + 32 * bnat ci))).modHeldOf g fun h => { h with fired := true }
    else t
  | none => t

/-- A chain goes on from its lowest grain up; its inputs are acknowledged once every grain of it has driven O, so that the whole
chain is one pipeline stage (R58). -/
def State.evalChain (s : State) (l : List Nat) : State :=
  let t := s.each l fun g u => u.carryStep g
  if l.all fun g => (t.heldOf g).fired then t.each l fun g u => u.ackInputs g (u.grain g) else t

/-- One grain, or the chain it belongs to, evaluates where R43 and R45 allow. -/
def State.evalGrain (s : State) (g : Nat) : State :=
  let c := s.grain g
  match c.mode with
  | .lut6 => if s.mayEvaluate g c then (s.drive g 0 (bitOf c.table (s.inputsValue c))).ackInputs g c else s
  | .track => if s.mayEvaluate g c then (s.drive g 0 (bitOf (s.inputsValue c) 0)).ackInputs g c else s
  | .lut5x2 =>
    if s.mayEvaluate g c then
      (((s.drive g 0 (bitOf c.table (s.inputsValue c % 32))).drive g 1 (bitOf c.tableB (s.inputsValue c % 32))).ackInputs g c)
    else s
  | .carry => s.evalChain (s.chainOf g)
  | _ => s

/-- Every output of the grain is acknowledged by all its receivers. -/
def State.outputsAcked (s : State) (g : Nat) (c : GrainCfg) : Bool :=
  c.outputs.all fun o => (s.chan (chanOfGrain g o)).complete && s.acked (chanOfGrain g o)

/-- The ports that output o drives release it with its return (R46). -/
def State.freePorts (s : State) (k : Nat) : State :=
  s.modChan k fun c => c.turn { c with acks := c.acks.filter (· ≤ 2 ^ 23), high := c.high && c.acks.any (· ≤ 2 ^ 23) }

/-- The grain's outputs return to the spacer, and it releases its inputs. -/
def State.clearGrain (s : State) (g : Nat) (c : GrainCfg) : State :=
  (c.outputs.foldl (fun t o => (t.modChan (chanOfGrain g o) (·.offer [])).freePorts (chanOfGrain g o)) s).releaseInputs g c

/-- The links of a chain clear where the grain's inputs have returned and the grain above has used its carry (R58). -/
def State.clearLinks (s : State) (l : List Nat) : State :=
  s.each l fun g t => if t.inputsEmpty (t.grain g) && (!l.contains (g + 1) || (t.heldOf (g + 1)).fired) then
    t.modHeldOf g fun h => { h with link := none } else t

/-- The grain returns its outputs to the spacer and releases its inputs (R43, R45); LUT5X2 returns OA and OB together
(Assumption 57). -/
def State.returnGrain (s : State) (g : Nat) : State :=
  let c := s.grain g
  if c.mode == .carry then
    let t := s.clearLinks (s.chainOf g)
    if t.outputsAcked g c && t.inputsEmpty c && (!t.linked g || (t.carryIn g).isNone) then
      (t.clearGrain g c).modHeldOf g fun h => { h with fired := false }
    else t
  else if c.mode.buffers && s.outputsAcked g c && s.inputsEmpty c then s.clearGrain g c
  else s

/-! ## Ports between the fabric and the hard blocks (R49) -/

/-- A channel that hard logic drives toward the fabric, a lane stage or a port, returns to the spacer once its receivers have
acknowledged the word. -/
def State.returnStage (s : State) (k : Nat) : State :=
  if 2 ^ 24 ≤ k && (s.chan k).complete && (s.chan k).high then s.modChan k (·.offer []) else s

/-- Every such channel among the inputs of a grain. -/
def State.returnStages (s : State) (g : Nat) : State :=
  (s.grain g).inputs.foldl (fun t i => match i with
    | some x => t.returnStage (inputChan x)
    | none => t) s

/-- The token that waits at port k: that of its drivers, once every pair is complete and not yet acknowledged, or v where the
image gives the port no drivers (Assumption 23). -/
def State.portToken (s : State) (k v : Nat) : Option Nat :=
  let l := s.drivers k
  if l.isEmpty then some v
  else if l.all (fun c => (s.chan c).complete && !(s.chan c).acks.contains (portId k)) then
    some (l.foldr (fun c x => x * 2 + (s.chan c).value) 0)
  else none

/-- The port takes the token of its drivers: it acknowledges them. -/
def State.takeToken (s : State) (k : Nat) : State := s.each (s.drivers k) fun c t => t.ackChan c (portId k)

/-- A port offers the fabric a token of w pairs: where grains use its channel it takes the channel once idle, else the fabric logic
beyond the image takes it at once (Assumption 23). -/
def State.portFree (s : State) (k : Nat) : Bool := (s.usersOf k).isEmpty || (s.chan k).idle
def State.giveToken (s : State) (k w v : Nat) : State :=
  if (s.usersOf k).isEmpty then s.modChan k (·.offer []) else s.modChan k (·.offer (railsOf w v))

/-! ## Initial tokens (R52 to R54) -/

/-- The channels that hard logic drives into the pans that the test names are idle: boundary stages, ports and pin channels. -/
def State.dropHardChans (s : State) (p : Nat → Bool) : State :=
  { s with chans := Bank.drop (fun k => decide (2 ^ 24 ≤ k) && p (if k < 2 ^ 25 then (k - 2 ^ 24) / 512 else panOfPin ((k - 2 ^ 25) % 512))) s.chans }

/-- What the grains of pan n hold is gone: their channels, and the acknowledges they raised on the channels that enter the pan; a
token in a boundary stage belongs to its lane and stays (R238). -/
def State.dropGrains (s : State) (n : Nat) : State :=
  { s with
    chans := Bank.map (fun _ => {}) (fun k c => if gatedPan k == some n then c.letGo else c)
      (Bank.drop (fun k => chanInPan n k || hardPort n k) s.chans)
    held := Bank.drop (fun g => panOfGrain g == n) s.held }

/-- Every grain buffer of pan n takes its initial state, and every other channel of the pan is idle. -/
def State.initGrains (s : State) (n : Nat) : State :=
  (s.grains.filter fun p => panOfGrain p.1 == n).foldl (fun u p =>
    let u1 := if p.2.init = 0 then u else u.drive p.1 0 (p.2.init == 2)
    if p.2.initB = 0 then u1 else u1.drive p.1 1 (p.2.initB == 2)) (s.dropGrains n)

/-! ## Watch points (R72 to R81) -/

/-- The channel a watch point watches: a cluster tap's is the image's choice (R72), and the clocked end of a queue block has none
(R135). -/
def State.watched (s : State) (n wp : Nat) : Option Nat :=
  if wp < 256 then some (laneStage n (wp / 64) (wp % 64))
  else if 320 ≤ wp && wp < 328 && s.on (F.PAN_QB_CTL_DIR n ((wp - 320) / 2)) != (wp % 2 == 1) then none
  else if wp < 360 then some (chanOfPoint n wp)
  else if wp < 424 then (if s.tapWatch (n * 64 + wp - 360) = 0 then none else some (s.tapWatch (n * 64 + wp - 360) - 1))
  else none

/-- A token of the hard block behind point wp of pan n waits to be taken: a response, a word, an operand or a result. -/
def State.portHolds (s : State) (n wp : Nat) : Bool :=
  if wp < 320 then
    let m := s.bmem (n * 32 + (wp - 256) / 2)
    !(if wp % 2 = 0 then m.rspA else m.rspB).isEmpty
  else if wp < 328 then
    let q := s.queue (n * 4 + (wp - 320) / 2)
    if wp % 2 = 0 then q.waiting.isSome
    else q.sync.isNone && s.fld (F.PAN_SLUICE_STATUS_STATE n) < 2 && !(q.seg0.words.isEmpty && q.seg1.words.isEmpty)
  else
    let k := s.rake (n * 16 + (wp - 328) / 2)
    if wp % 2 = 0 then k.inbound.isSome else !k.resBuf.isEmpty

/-- The phase of the channel that drivers of one pair each form (R47, R80). -/
def State.driversPhase (s : State) (l : List Nat) : Nat :=
  if l.any fun c => (s.chan c).phase == 5 then 5
  else if l.all fun c => (s.chan c).spacer then (if l.any fun c => (s.chan c).high then 4 else 0)
  else if !(l.all fun c => (s.chan c).complete) then 1
  else if l.all fun c => (s.chan c).high then 3
  else 2

/-- The phase that watch point wp sees on its channel k (R80): that of the word the port offers, else that of the drivers of the port,
else of a token that waits there to be accepted. -/
def State.pointPhase (s : State) (n wp k : Nat) : Nat :=
  if (s.chan k).phase ≠ 0 || wp < 256 || 360 ≤ wp then (s.chan k).phase
  else if s.driversPhase (s.drivers k) ≠ 0 then s.driversPhase (s.drivers k)
  else if s.portHolds n wp then 2
  else 0

/-- A token leaves or enters port wp of pan n: a transition, which ends its stall episode (R73). -/
def State.portMoved (s : State) (n wp : Nat) : State := s.modChan (chanOfPoint n wp) fun c => { c with told := [] }

/-- A watch point is suspended (R75): a border lane or a rake attention point while its pan's sluice, or a border lane's far
pan's sluice, is not open, and every point of a gated pan. -/
def State.suspended (s : State) (n wp : Nat) : Bool :=
  s.fld (F.PAN_PWR_STATUS_STATE n) == 2 ||
  ((wp < 256 || (328 ≤ wp && wp < 360 && wp % 2 == 0)) && s.fld (F.PAN_SLUICE_STATUS_STATE n) != 0) ||
  (wp < 256 && match farLane n (wp / 64) (wp % 64) with
    | some (m, _, _) => s.fld (F.PAN_SLUICE_STATUS_STATE m) != 0
    | none => false)

/-- Record one stall episode of a watch point (R80, R81) and raise its report (R74). -/
def State.stall (s : State) (n wp phase : Nat) (inj : Bool) : State :=
  let first := !s.on (F.PAN_STALL_STATUS_STALLED n)
  let t := if first then s.setFlds [(F.PAN_STALL_STATUS_STALLED n, 1), (F.PAN_STALL_STATUS_PHASE n, phase), (F.PAN_STALL_STATUS_FIRST_POINT n, wp)] else s
  (t.count (F.PAN_STALL_STATUS_EPISODES n) (some (F.PAN_STALL_STATUS_EPI_SAT n))).raise
    { half := halfOfPan n, cls := if s.on (F.PAN_STALL_CFG_ESCALATE n) then ERROR else NOTICE, src := 2, code := phase, unit := n, ctx := wp, inj := inj }

end Sys2Proof.Machine
end

