-- ==== Sys2Proof/Machine/Sluice.lean ====
section
/-! DEFINITION. The sluice state machine (07_sluices_and_reconfiguration): holds, closing, opening, discarding, and what a
self-test slice keeps aside (20_self_test). -/

namespace Sys2Proof.Machine

/-! ## Holds and discarding (R237, R239) -/

/-- Some hold is set on pan n. -/
def State.panHeld (s : State) (n : Nat) : Bool :=
  s.on (F.PAN_SLUICE_STATUS_HOLD_DEBUG n) || s.on (F.PAN_SLUICE_STATUS_HOLD_TEST n) || s.on (F.PAN_SLUICE_STATUS_HOLD_THERMAL n)

/-- The conditions of R237 hold: DISC_ON. -/
def State.discarding (s : State) (n : Nat) : Bool :=
  s.on (F.PAN_SLUICE_CTL_DISCARD n) && (s.sluice n == SEALED || decide (RELOADING ≤ s.sluice n)) && !s.panHeld n

/-- STATE as a read shows it: a sealed pan that discards reads DISCARD (R237). -/
def State.shownSluice (s : State) (n : Nat) : Nat := if s.sluice n = SEALED && s.discarding n then 3 else s.sluice n

/-- Count one dropped token (R268). -/
def State.countDrop (s : State) (n : Nat) : State := s.count (F.PAN_SLUICE_DISCARD_TOKENS n) (some (F.PAN_SLUICE_DISCARD_SAT n))

/-- The stage of an inbound lane drops its token while DISCARD is effective (R238); one that a step has passed is the pan's (R246). -/
def State.dropStage (s : State) (n side k : Nat) : State :=
  let c := s.chan (laneStage n side k)
  if laneInbound side k && c.complete && !c.passed then (s.setChan (laneStage n side k) {}).countDrop n else s

/-- An input pin channel of pan n drops its token in the same way (R89). -/
def State.dropPin (s : State) (n i : Nat) : State :=
  if panOfPin i = n && (s.chan (chanOfPin i false)).complete then (s.setChan (chanOfPin i false) {}).countDrop n else s

/-- While DISCARD is effective every inbound stage drops its token. -/
def State.dropStages (s : State) (n : Nat) : State :=
  if s.discarding n then
    (s.each (List.range 256) fun i t => t.dropStage n (i / 64) (i % 64)).each (List.range 384) fun i t => t.dropPin n i
  else s

/-! ## Self-test slices and sweeps (R694 to R701) -/

/-- The grain buffers and rakes of pan n, as the save area keeps them (R696 step 2). -/
def State.saveSlice (s : State) (n : Nat) (x : Slice) : Slice :=
  { x with chans := s.chans.filter fun p => chanInPan n p.1
           held := s.held.filter fun p => panOfGrain p.1 == n
           rakes := s.rakes.filter fun p => panOfRake p.1 == n }

/-- A rake's saved state returns; its memories stay as they are (R694, R696). -/
def Rake.fromSave (k old : Rake) : Rake := { old with opnd := k.opnd, badPar := k.badPar, prog := k.prog, image := k.image, notice := k.notice }

/-- The saved state is written back (R696 step 5): grain buffers and rake state. -/
def State.restoreSlice (s : State) (n : Nat) (x : Slice) : State :=
  let t := { s with chans := Bank.drop (chanInPan n) s.chans
                    held := Bank.drop (fun g => panOfGrain g == n) s.held }
  let t := x.chans.foldl (fun u p => u.setChan p.1 p.2) t
  let t := x.held.foldl (fun u p => u.setHeldOf p.1 p.2) t
  t.each ((List.range 16).map (n * 16 + ·)) fun r u => u.modRake r fun k => k.fromSave (Bank.get (fun _ => {}) x.rakes r)

/-- An image that holds FLOP grains is not testable (R695). -/
def State.hasFlop (s : State) (n : Nat) : Bool := s.grains.any fun p => panOfGrain p.1 == n && p.2.mode == .flop

/-- Pan n is testable (R695). -/
def State.testable (s : State) (n : Nat) : Bool :=
  s.on (F.PAN_IMAGE_ID_VALID n) && ((s.pan n).golden.getD 0 != 0) && s.fld (F.PAN_ISLAND_STATUS_FLOOR n) == 0xFF && !s.hasFlop n

/-- The controller may hold a request for pan n (R700). -/
def State.sliceable (s : State) (n : Nat) : Bool :=
  s.testable n && (s.sluice n == OPEN || s.sluice n == SEALED) && !s.on (F.PAN_SLUICE_STATUS_HOLD_DEBUG n)

/-- The pans of half h. -/
def pansOf (h : Nat) : List Nat := (List.range 128).map (h * 128 + ·)

/-- Slices of half h that the test picks. -/
def State.sliceCount (s : State) (h : Nat) (p : Slice → Bool) : Nat :=
  ((pansOf h).filter fun n => match s.slice n with
    | some x => p x
    | none => false).length

/-- The TEST_RUN of one pan, and the one of a half (R702). -/
def isPanTest (n : Nat) (j : Job) : Bool := j.opcode == 0x0801 && j.aux == 1 && j.unit == n
def isHalfTest (h : Nat) (j : Job) : Bool := j.opcode == 0x0801 && j.aux == 0 && j.half == h

/-- The result of a TEST_RUN: PASSED and FAILED. -/
def testResult (j : Job) : List Byte := leBytes 4 (j.data.getD 0 0) ++ leBytes 4 (j.data.getD 1 0)

/-- A TEST_RUN counts a slice that passed, failed, or did neither. -/
def Job.verdict (v : Option Bool) (j : Job) : Job :=
  { j with done := j.done + 1
           data := [j.data.getD 0 0 + bnat (v == some true), j.data.getD 1 0 + bnat (v == some false)] }

/-- Pan n's slice or request leaves: INFLIGHT counts those in progress (R704), and what asked for it hears its verdict. -/
def State.endSlice (s : State) (n : Nat) (x : Slice) (v : Option Bool) : State :=
  let h := halfOfPan n
  let t := (s.leaveReady h (· == .slice n)).setSlice n none
  let t := t.setFld (F.ST_STATUS_INFLIGHT h) (t.sliceCount h fun y => decide (2 ≤ y.phase))
  if x.single then (t.modJobs (isPanTest n) (Job.verdict v)).endJobsBy (isPanTest n) testResult
  else (t.modJobs (isHalfTest h) (Job.verdict v)).modSweep h fun w => { w with ended := w.ended + 1 }

/-- A request for a slice of pan n enters the list of SCHED_CTL.TEST_PRIO, or waits for an entry (R301, R290, R700). -/
def State.requestSlice (s : State) (n : Nat) (single : Bool) : State :=
  let h := halfOfPan n
  (s.setSlice n (some { single := single })).modSched h fun c =>
    if c.ready.length < 4096 then { c with ready := c.ready ++ [⟨s.fld (F.SCHED_CTL_TEST_PRIO h), .slice n⟩] }
    else { c with waits := c.waits ++ [(256, n)] }

/-- Requests whose pans have left the condition of R700 before placement are withdrawn. -/
def State.withdrawSlices (s : State) (h : Nat) : State :=
  s.each (pansOf h) fun n t => match t.slice n with
    | some x => if x.phase = 1 && !t.sliceable n then t.endSlice n x none else t
    | none => t

/-- Another request of half h has a place: fewer than four are outstanding (R700). -/
def State.mayRequest (s : State) (h : Nat) : Bool := decide (s.sliceCount h (fun _ => true) < 4)

/-- TEST_RUN commands on single pans ask for their slices (R702); one whose pan has left the condition ends with no verdict. -/
def State.askSingles (s : State) (h : Nat) : State :=
  (s.jobs.filter fun j => j.opcode == 0x0801 && j.aux == 1 && j.half == h).foldl (fun t j =>
    if (t.slice j.unit).isSome then t
    else if !t.sliceable j.unit then t.endJobsBy (isPanTest j.unit) testResult
    else if t.mayRequest h then t.requestSlice j.unit true else t) s

/-- The sweep asks for its next pans in ascending order; n bounds them (R700, R701). -/
def State.askSweep (s : State) (h : Nat) : Nat → State
  | 0 => s
  | k + 1 => match (s.sweep h).left with
    | [] => s
    | n :: r =>
      let t := s.modSweep h fun w => { w with left := r }
      if !s.sliceable n then State.askSweep ((t.modJobs (isHalfTest h) (Job.verdict none)).modSweep h fun w => { w with ended := w.ended + 1 }) h k
      else if (s.slice n).isSome || !s.mayRequest h then s
      else State.askSweep (t.requestSlice n false) h k

/-- A sweep of half h starts (R701): 1 periodic, 2 of TEST_RUN. -/
def State.startSweep (s : State) (h kind : Nat) : State :=
  (s.setSweep h { kind := kind, left := (pansOf h).filter s.testable }).setFld (F.ST_STATUS_SWEEPING h) 1

/-- The sweep of half h has ended: every pan has passed, failed, been abandoned or been withdrawn (R701). -/
def State.sweepOver (s : State) (h : Nat) : Bool :=
  let w := s.sweep h
  w.kind != 0 && w.left.isEmpty && s.sliceCount h (fun x => !x.single) == 0

/-- A sweep ends (R701). -/
def State.endSweep (s : State) (h : Nat) : State :=
  let w := s.sweep h
  let t := (s.setSweep h { due := w.due }).setFlds [(F.ST_STATUS_SWEEPING h, 0), (F.ST_STATUS_SWEEPS h, s.fld (F.ST_STATUS_SWEEPS h) + 1)]
  if w.kind = 2 then t.endJobsBy (isHalfTest h) testResult else t

/-- The self-test controller of half h withdraws, asks, and ends its sweep; a periodic sweep that is due follows. -/
def State.testPump (s : State) (h : Nat) : State :=
  let go (t : State) : State := ((t.withdrawSlices h).askSingles h).askSweep h 129
  let t := go s
  if t.sweepOver h then
    let t := t.endSweep h
    if (t.sweep h).due then
      let t := go (t.startSweep h 1)
      if t.sweepOver h then t.endSweep h else t
    else t
  else t

/-- A slice in progress is abandoned (R699): restored or not, counted, and the TEST hold released. -/
def State.abandonSlice (s : State) (n : Nat) (restore : Bool) : State :=
  match s.slice n with
  | some x =>
    if x.phase < 2 then s
    else
      let t := if restore && 3 ≤ x.phase then s.restoreSlice n x else s
      (((t.endSlice n x none).count (F.ST_COUNTS_ABANDONED (halfOfPan n)) none).setFld (F.PAN_SLUICE_STATUS_HOLD_TEST n) 0).testPump (halfOfPan n)
  | none => s

/-! ## Rake notices at a sluice that opens (R236) -/

/-- The notice held for rake r is delivered, and what waits for its slot goes on. -/
def State.releaseNotice (s : State) (r : Nat) : State :=
  match (s.rake r).notice with
  | none => s
  | some (kind, code) =>
    let t := (s.modRake r fun k => { k with notice := none }).schedNotice r kind code
    let q := (t.rake r).sq
    if q.segDue ≠ 0 then (t.pumpSegment r).endStep r
    else match q.noteDue with
      | some c => ((t.modRake r fun k => { k with sq := { k.sq with noteDue := none } }).schedNotice r 0 c).endStep r
      | none => t

/-- The notice held or waiting at rake r is discarded and counted, when a load begins (R236). -/
def State.discardNotice (s : State) (r : Nat) : State :=
  let k := s.rake r
  let n := panOfRake r
  let t := if k.notice.isSome then (s.setRake r { k with notice := none }).sluiceRefused n 2 else s
  if k.sq.segDue = 2 && bitOf k.sq.segCfg 1 && k.notice.isSome || k.sq.noteDue.isSome then
    (t.modRake r fun k => { k with sq := { k.sq with noteDue := none, segDue := 0 } }).sluiceRefused n 2
  else t

/-! ## Opening and sealing (R240) -/

/-- The sluice takes OPEN. -/
def State.openSluice (s : State) (n : Nat) : State :=
  (s.setFld (F.PAN_SLUICE_STATUS_STATE n) OPEN).each ((List.range 16).map (n * 16 + ·)) fun r t => t.releaseNotice r

/-- The row of R240 that opens: sealed, OPEN set, no hold, IMAGE_ID.VALID. -/
def State.tryOpen (s : State) (n : Nat) : State :=
  if s.sluice n = SEALED && s.on (F.PAN_SLUICE_CTL_OPEN n) && !s.panHeld n && s.on (F.PAN_IMAGE_ID_VALID n) then s.openSluice n else s

/-- The sluice takes a closed state: the coprocessor ports act (R341), and stages drop where DISCARD is effective. -/
def State.shutSluice (s : State) (n st : Nat) : State := ((s.setFld (F.PAN_SLUICE_STATUS_STATE n) st).copSealed n).dropStages n

/-! ## Closing (R243 to R245) -/

/-- The queue blocks of pan n. -/
def queuesOf (n : Nat) : List Nat := [n * 4, n * 4 + 1, n * 4 + 2, n * 4 + 3]

/-- The items of a close in queue d (R243). -/
def State.closeItems (s : State) (d : Nat) : Nat :=
  if s.fabricEnd d == .readEnd then (s.queue d).items else bnat (s.queue d).writing.isSome

/-- The items of a close of pan n. -/
def State.panItems (s : State) (n : Nat) : Nat := ((queuesOf n).map s.closeItems).foldl (· + ·) 0

/-- The items of a close are fixed in queue d (R243). -/
def State.fixClose (s : State) (d : Nat) : State :=
  if s.fabricEnd d == .readEnd then s.modQueue d fun q => { q with closing := q.fixed }
  else s.modQueue d fun q => { q with closingWrite := q.writing.isSome }

/-- Items of the close of pan n are left. -/
def State.itemsLeft (s : State) (n : Nat) : Bool :=
  (queuesOf n).any fun d => decide (0 < (s.queue d).closing.total) || (s.queue d).closingWrite

/-- The remaining items of queue d are aborted (R245). -/
def State.abortItems (s : State) (d : Nat) : State :=
  let q := s.queue d
  let p := panOfQueue d
  if s.fabricEnd d == .readEnd then
    ((s.setQueue d { q with seg0 := q.seg0.clear, seg1 := q.seg1.clear, pack := [], packDisp := 0, writing := none, dropping := q.dropping || q.writing.isSome, reading := none, cut := q.cut || q.reading.isSome }).addDiscards d
      q.items).poisonDispatches q.dispatches
  else match q.writing with
    | none => s
    | some cls =>
      let inside := q.reading == some cls && (q.seg cls).ends == 0
      let q' := q.setSeg cls ((q.seg cls).cutTail (q.size cls))
      ((s.setQueue d { q' with pack := [], packDisp := 0, writing := none, dropping := true, cut := q.cut || inside, reading := if inside then none else q.reading }).addDiscards d
        1).setFld (F.PAN_QB_STATUS_DISCARD p (qOf d)) 1

/-- The close command of pan n ends (R517, R245). -/
def State.closeReply (s : State) (n drained aborted : Nat) (hold : Bool) : State :=
  let mine (j : Job) : Bool := j.opcode == 0x0102 && j.unit == n
  if hold then (s.modJobs mine fun j => { j with done := drained, total := drained + aborted }).abortJobs mine ABORT_HOLD fun _ => drainRecord drained aborted
  else s.endJobs mine OK 0 (drainRecord drained aborted)

/-- A close ends: what is left is aborted, and the sluice seals. -/
def State.endClose (s : State) (n : Nat) (hold : Bool) : State :=
  match (s.pan n).close with
  | none => s
  | some c =>
    let t := s.modPan n fun p => { p with close := none }
    let t := if s.itemsLeft n then t.each (queuesOf n) fun d u => u.abortItems d else t
    let t := t.each (queuesOf n) fun d u => u.modQueue d fun q => { q with closing := {}, closingWrite := false }
    (((t.shutSluice n SEALED).closeReply n c.drained (c.items - c.drained) hold).tryOpen n).settle

/-- A close begins (R243): with nothing in flight it completes at once, and with DRAIN_US = 0 every item is aborted. -/
def State.beginClose (s : State) (n : Nat) : State :=
  let items := s.panItems n
  let t := s.each (queuesOf n) fun d u => u.fixClose d
  let t := (t.modPan n fun p => { p with close := some { items := items } }).setFld (F.PAN_SLUICE_STATUS_STATE n) CLOSING
  let t := t.testPump (halfOfPan n)
  if items = 0 || t.fld (F.PAN_SLUICE_DRAIN_DRAIN_US n) = 0 then t.endClose n false else t

/-- No item is left, and the sluice seals at once (R244). -/
def State.closeIfDrained (s : State) (n : Nat) : State :=
  if (s.pan n).close.isSome && !s.itemsLeft n then s.endClose n false else s

/-! ## Holds -/

/-- A hold has set: an open pan seals without a drain, a closing one aborts what is left (R240). -/
def State.holdSets (s : State) (n : Nat) : State :=
  if s.sluice n = OPEN then s.shutSluice n SEALED
  else if s.sluice n = CLOSING then s.endClose n true
  else s

/-- Set a hold of pan n. -/
def State.setHold (s : State) (n : Nat) (f : Fld) : State := (s.setFld f 1).holdSets n

/-- Release a hold of pan n. -/
def State.clearHold (s : State) (n : Nat) (f : Fld) : State := ((s.setFld f 0).dropStages n).tryOpen n

/-- A change of DEBUG in SLUICE_CTL; clearing it cancels an armed step (R239, R246). -/
def State.writeDebug (s : State) (n : Nat) (b : Bool) : State :=
  let t := s.put (F.PAN_SLUICE_CTL_DEBUG n) b
  if b then (t.setHold n (F.PAN_SLUICE_STATUS_HOLD_DEBUG n)).testPump (halfOfPan n)
  else ((t.modPan n fun p => { p with armed := none }).setFld (F.PAN_SLUICE_CTL_STEP n) 0).clearHold n (F.PAN_SLUICE_STATUS_HOLD_DEBUG n)

/-! ## Writes of OPEN (R241) -/

/-- What a write of OPEN does: refused by the state, nothing to do, done, or a close that has begun. -/
inductive OpenResult where
  | refused | nothing | done | closing
deriving DecidableEq, Repr

/-- OPEN written 1 (R240, R241). -/
def State.writeOpen (s : State) (n : Nat) : State × OpenResult :=
  if decide (RELOADING ≤ s.sluice n) then (s, .refused)
  else if s.sluice n = OPEN then (s, .nothing)
  else ((s.setFld (F.PAN_SLUICE_CTL_OPEN n) 1).tryOpen n, .done)

/-- OPEN written 0 (R240, R241, R243). -/
def State.writeShut (s : State) (n : Nat) : State × OpenResult :=
  let t := s.setFld (F.PAN_SLUICE_CTL_OPEN n) 0
  if s.sluice n = OPEN then (t.beginClose n, .closing)
  else if s.on (F.PAN_SLUICE_CTL_OPEN n) then (t, .done)
  else (t, .nothing)

end Sys2Proof.Machine
end

