-- ==== Sys2Proof/Machine/PowerOps.lean ====
section
/-! DEFINITION. Power gating of pans (R115 to R119, R128 to R130). -/

namespace Sys2Proof.Machine

/-- PWR_STATUS.STATE: 0 POWERED, 1 GATING, 2 GATED, 3 WAKING (R130). -/
def State.power (s : State) (n : Nat) : Nat := s.fld (F.PAN_PWR_STATUS_STATE n)

/-- Refusal causes of R130. -/
def NOT_SEALED : Nat := 1
def NOT_EMPTY : Nat := 2
def HELD : Nat := 3
def CAUSE_THERMAL : Nat := 4
def CONFLICT : Nat := 5

/-- Emergency thermal stop is in force in half h (R621). -/
def State.stopped (s : State) (h : Nat) : Bool := s.on (F.GOV_STATUS_STOP h)

/-- A maintenance operation holds pan n: a slice, or a reload entered or running (R29, R301). -/
def State.maintained (s : State) (n : Nat) : Bool :=
  let c := s.sched (halfOfPan n)
  (match s.slice n with
    | some x => decide (2 ≤ x.phase)
    | none => false) ||
  c.ready.any (fun e => match e.work with
    | .reload _ _ p => p == n
    | .slice p => p == n
    | .node _ _ => false) ||
  (match c.reload with
    | some (_, _, p, _) => p == n
    | none => false)

/-- Queue block d is empty at both ends (R115). -/
def State.queueIdle (s : State) (d : Nat) : Bool :=
  (s.queue d).idleEmpty && (s.queue d).pushes.isEmpty && (s.queue d).waiting.isNone

/-- A load in progress targets pan n. -/
def State.loadsPan (s : State) (n : Nat) : Bool :=
  (List.range 3).any fun m => match s.load (3 * halfOfPan n + m) with
    | some j => j.pan == n
    | none => false

/-- Why gating is refused now, if it is (R115); of several causes the first in this order is recorded (Assumption 57). -/
def State.gateRefusal (s : State) (n : Nat) : Option Nat :=
  if s.sluice n = OPEN || s.sluice n = CLOSING || s.sluice n = RELOADING then some NOT_SEALED
  else if !((queuesOf n).all s.queueIdle) || s.fld (F.PAN_RAKE_STATUS_ACTIVE n) ≠ 0 || s.loadsPan n then some NOT_EMPTY
  else if s.maintained n then some HELD
  else none

/-- Record a refusal (R130). -/
def State.refusePower (s : State) (n cause : Nat) : State :=
  s.setFlds [(F.PAN_PWR_STATUS_REFUSED n, 1), (F.PAN_PWR_STATUS_CAUSE n, cause)]

/-- Gating begins: a pan that is not quarantined takes INVALID, and IMAGE_ID.VALID clears (R132, R240). -/
def State.beginGating (s : State) (n : Nat) : State :=
  let t := (s.setFld (F.PAN_PWR_STATUS_STATE n) 1).setFld (F.PAN_IMAGE_ID_VALID n) 0
  if s.sluice n = QUARANTINED then t else t.shutSluice n INVALID

/-- A request to gate (R115, R129); with the bit kept while a transition runs. Answers the refusal, if any. -/
def State.requestGate (s : State) (n : Nat) : State × Option Nat :=
  if s.power n = 2 then (s.setFld (F.PAN_PWR_CTL_GATE n) 0, none)
  else if s.power n = 0 then
    match s.gateRefusal n with
    | some c => ((s.refusePower n c).setFld (F.PAN_PWR_CTL_GATE n) 0, some c)
    | none => ((s.beginGating n).setFld (F.PAN_PWR_CTL_GATE n) 1, none)
  else (s.setFld (F.PAN_PWR_CTL_GATE n) 1, none)

/-- Put pan n into its half's wake queue, once (R116). -/
def State.queueWake (s : State) (n : Nat) : State :=
  s.modWakes (halfOfPan n) fun l => if l.contains n then l else l ++ [n]

/-- A request to wake (R116, R129); the wake that a load starts by itself (R117) shows in UNGATE too (Assumption 57). -/
def State.requestWake (s : State) (n : Nat) : State :=
  if s.power n = 0 then s.setFld (F.PAN_PWR_CTL_UNGATE n) 0
  else if s.power n = 2 then (s.queueWake n).setFld (F.PAN_PWR_CTL_UNGATE n) 1
  else s.setFld (F.PAN_PWR_CTL_UNGATE n) 1

/-- What pan n holds in its VFAB domain is lost (the paragraph before R115): token state, configuration, block memories, and rake
programs, operand memories and save banks. -/
def State.losePan (s : State) (n : Nat) : State :=
  let t := s.dropGrains n
  let t := { t with
    chans := Bank.drop (fun k => decide (2 ^ 25 ≤ k) && portInPan n k) t.chans
    grains := Bank.drop (fun g => panOfGrain g == n) s.grains
    ports := Bank.drop (portInPan n) s.ports
    taps := Bank.drop (fun k => k / 64 == n) s.taps
    pinChans := Bank.drop (fun i => panOfPin i == n) s.pinChans
    clusterTaps := Bank.drop (fun k => k / 64 == n) s.clusterTaps
    bmems := Bank.drop (fun b => b / 32 == n) s.bmems
    rakes := Bank.drop (fun r => panOfRake r == n) s.rakes }
  t.modPan n fun p => { p with agent := false, signed := false, golden := none, cells := [] }

/-- SEC_STATUS.UNSIGNED_PANS: the pans that hold an unsigned valid image (R595). -/
def State.countUnsigned (s : State) : State :=
  s.setFld F.SEC_STATUS_UNSIGNED_PANS ((List.range 256).filter fun n => s.on (F.PAN_IMAGE_ID_VALID n) && !(s.pan n).signed).length

/-- Pan n holds no image: the fields and rake state that an image sets are 0, and its queue blocks take the values of an absent record (R121). -/
def State.noImage (s : State) (n : Nat) : State :=
  let t := { s with rakes := Bank.map (fun _ => {}) (fun r k => if panOfRake r = n then { k with image := [] } else k) s.rakes }
  (t.setFlds [(F.PAN_ISLAND_STATUS_FLOOR n, 0), (F.PAN_BMEM_POLICY_B_WINS n, 0), (F.PAN_RAKE_CTL_RUN n, 0)]).each [0, 1, 2, 3] fun q u =>
    u.loadQueue (n * 4 + q) {}

/-- Gating ends (R115). -/
def State.gated (s : State) (n : Nat) : State :=
  let t := ((((s.losePan n).noImage n).setFlds [(F.PAN_PWR_STATUS_STATE n, 2), (F.PAN_PWR_CTL_GATE n, 0),
    (F.PAN_PWR_STATUS_GATE_COUNT n, s.fld (F.PAN_PWR_STATUS_GATE_COUNT n) + 1)])).countUnsigned
  if t.on (F.PAN_PWR_CTL_UNGATE n) then t.queueWake n else t

/-- Pans of half h that wake now. -/
def State.waking (s : State) (h : Nat) : Nat := ((List.range 128).filter fun i => s.power (h * 128 + i) == 3).length

/-- The wake request whose turn comes (R116), or its refusal during emergency thermal stop (R118). -/
def State.startWake (s : State) (h : Nat) : State :=
  match s.wakes h with
  | [] => s
  | n :: r =>
    if 2 ≤ s.waking h then s
    else
      let t := s.setWakes h r
      if s.stopped h then (t.refusePower n CAUSE_THERMAL).setFld (F.PAN_PWR_CTL_UNGATE n) 0
      else t.setFld (F.PAN_PWR_STATUS_STATE n) 3

/-- A wake ends (R116): powered, and INVALID or QUARANTINED as it was. -/
def State.woken (s : State) (n : Nat) : State :=
  let t := s.setFlds [(F.PAN_PWR_STATUS_STATE n, 0), (F.PAN_PWR_CTL_UNGATE n, 0)]
  if t.on (F.PAN_PWR_CTL_GATE n) then (t.requestGate n).1 else t

end Sys2Proof.Machine
end

