-- ==== Sys2Proof/Machine/Fabric.lean ====
section
/-! DEFINITION. The handshake fabric (02_handshake_fabric), the pin channels and the synchronous islands of
03_pan_resources: grains, arbitration, stalls, upsets, clock trees and FLOP grains. -/

namespace Sys2Proof.Machine

/-! ## Grains (R43, R45, R46, R53) -/

/-- Tokens of pan n move. -/
def State.tokensMove (s : State) (n : Nat) : Bool := s.awake && s.panRuns n && s.power n == 0

/-- The grains that evaluate with grain g: its chain in CARRY mode, itself otherwise. -/
def State.evalGroup (s : State) (g : Nat) : List Nat := if (s.grain g).mode == .carry then s.chainOf g else [g]

/-- GRAIN_EVALUATE (R43), of a grain or of a stage of a global track (R64). -/
def execGrainEvaluate (g : Fin 8388608) (s : State) : Out :=
  .next (if s.tokensMove (panOfGrain g) then (s.evalGrain g).each (s.evalGroup g) fun i t => t.returnStages i else s)

/-- A FLOP grain's value that waits for Q is offered once Q is idle (R109). -/
def State.flopOffer (s : State) (g : Nat) : State :=
  match (s.heldOf g).waiting with
  | some v => if (s.chan (chanOfGrain g 0)).idle then (s.drive g 0 v).modHeldOf g fun h => { h with waiting := none } else s
  | none => s

/-- A FLOP grain completes the phases of Q and of D (R46, R109). -/
def State.returnFlop (s : State) (g : Nat) : State :=
  let c := s.grain g
  let q := s.chan (chanOfGrain g 0)
  let t := if q.complete && s.acked (chanOfGrain g 0) then (s.modChan (chanOfGrain g 0) (·.offer [])).freePorts (chanOfGrain g 0) else s
  (if t.inputsEmpty c then t.releaseInputs g c else t).flopOffer g

/-- GRAIN_SPACER_RETURN (R43). -/
def execGrainSpacerReturn (g : Fin 8388608) (s : State) : Out :=
  .next (if !s.tokensMove (panOfGrain g) then s
    else if (s.grain g).mode == .flop then s.returnFlop g
    else s.returnGrain g)

/-! ## Mutual exclusion (R60 to R62) -/

/-- The channel of request i of a MUTEX grain. -/
def GrainCfg.request (c : GrainCfg) (i : Nat) : Option Nat := (c.inputs.getD i none).map inputChan

/-- Request i is raised: a complete word that its channel passes, not yet acknowledged. -/
def State.requested (s : State) (g i : Nat) : Bool :=
  match (s.grain g).inputs.getD i none with
  | some x => s.inputReady g x && (s.chan (chanOfGrain g i)).idle
  | none => false

/-- Grant i rises; the value of the grant's token is free (Assumption 3). -/
def State.grant (s : State) (g i : Nat) : State :=
  ((s.useFree).drive g i (s.freeVal % 2 == 1)).modHeldOf g fun h => { h with grant := i + 1 }

/-- With no grant raised, one raised request is granted: the side that waited when the last grant fell (R62), else which of two is
free (R61). -/
def State.grantNext (s : State) (g : Nat) : State :=
  match (s.heldOf g).owed with
  | 0 =>
    if s.requested g 0 && s.requested g 1 then s.useFree.grant g (s.freeVal % 2)
    else if s.requested g 0 then s.grant g 0
    else if s.requested g 1 then s.grant g 1
    else s
  | i + 1 => if s.requested g i then (s.grant g i).modHeldOf g fun h => { h with owed := 0 } else s

/-- Request i waits: a complete word not yet acknowledged. -/
def State.waits (s : State) (g i : Nat) : Bool :=
  match (s.grain g).inputs.getD i none with
  | some x => s.inputReady g x
  | none => false

/-- The grant falls once its request has fallen; the other side, waiting, is served next (R60, R62). -/
def State.grantFalls (s : State) (g i : Nat) : State :=
  let t := (s.modChan (chanOfGrain g i) (·.offer [])).freePorts (chanOfGrain g i)
  let t := match (s.grain g).request i with
    | some k => t.modChan k (·.release (receiverOf g))
    | none => t
  let t := t.modHeldOf g fun h => { h with grant := 0 }
  if t.requested g (1 - i) then t.grant g (1 - i)
  else if t.waits g (1 - i) then t.modHeldOf g fun h => { h with owed := 2 - i }
  else t

/-- One action of a MUTEX grain: a grant, the acknowledgement of a granted request whose grant is taken, or a grant's fall. -/
def State.mutexStep (s : State) (g : Nat) : State :=
  match (s.heldOf g).grant with
  | 0 => s.grantNext g
  | k + 1 => match (s.grain g).request k with
    | none => s
    | some r =>
      let out := s.chan (chanOfGrain g k)
      if (s.chan r).spacer then s.grantFalls g k
      else if out.complete && s.acked (chanOfGrain g k) && !(s.chan r).acks.contains (receiverOf g) then
        (s.ackChan r (receiverOf g)).returnStage r
      else s

/-- MUTEX_GRANT (R61). -/
def execMutexGrant (g : Fin 4194304) (s : State) : Out :=
  .next (if s.tokensMove (panOfGrain g) && (s.grain g).mode == .mutex then s.mutexStep g else s)

/-! ## Stall watchdogs (R73 to R81) -/

/-- The timer of one watch point reaches the threshold (R73): a channel that has not moved reports once an episode. -/
def State.stallExpiry (s : State) (n wp : Nat) : State :=
  if s.fld (F.PAN_STALL_CFG_THRESH_US n) = 0 || s.suspended n wp then s
  else match s.watched n wp with
    | none => s
    | some k =>
      if s.pointPhase n wp k = 0 || (s.chan k).told.contains (n * 512 + wp) then s
      else (s.modChan k fun c => { c with told := (n * 512 + wp) :: c.told }).stall n wp (s.pointPhase n wp k) false

/-- A write of 1 to INJECT (R77, R78); the phase of a report about an idle channel is free (Assumption 3), and the injected report
leaves the watch point's own episode as it is (Assumption 57). -/
def State.stallInjectWrite (s : State) (n wp : Nat) : State :=
  let t := s.setFlds [(F.PAN_STALL_CFG_INJECT n, 0), (F.PAN_STALL_CFG_INJ_POINT n, wp)]
  match t.watched n wp with
  | none => t.setFld (F.PAN_STALL_STATUS_INJ_REFUSED n) 1
  | some k =>
    if t.pointPhase n wp k = 0 then t.useFree.stall n wp (1 + t.freeVal % 5) true else t.stall n wp (t.pointPhase n wp k) true

/-- STALL_INJECT (R77). -/
def execStallInject (n : Fin 256) (wp : Fin 512) (s : State) : Out := .next (s.stallInjectWrite n wp)

/-- STALLED written 1 (R80). -/
def State.clearStalled (s : State) (n : Nat) : State :=
  s.setFlds [(F.PAN_STALL_STATUS_STALLED n, 0), (F.PAN_STALL_STATUS_PHASE n, 0), (F.PAN_STALL_STATUS_EPI_SAT n, 0),
    (F.PAN_STALL_STATUS_FIRST_POINT n, 0), (F.PAN_STALL_STATUS_EPISODES n, 0)]

/-- STALL_THRESHOLD_EXPIRY (R73): the watch points that reach the threshold in one cycle report in ascending order, after a write
of 1 to STALLED in that cycle (R81). -/
def execStallThresholdExpiry (n : Fin 256) (wp : Fin 512) (same : SameCycle) (s : State) : Out :=
  let t := if same.clear then s.clearStalled n else s
  .next (((List.range 512).filter fun w => w = wp.val || same.points.any (·.val = w)).foldl (fun u w => u.stallExpiry n w) t)

/-- STALL_STATUS_CLEAR (R80). -/
def execStallStatusClear (n : Fin 256) (s : State) : Out := .next (s.clearStalled n)

/-! ## Pin channels (R88 to R90) -/

/-- Pin i is in fabric direct and owned by FABRIC (R90). -/
def State.fabricPin (s : State) (i : Nat) : Bool := s.pinFunc i == 9 && s.pinOwner i == OWN_FABRIC

/-- An input pin channel offers a token: dropped while DISCARD is effective (R89, R237). -/
def State.offerPin (s : State) (i : Nat) (b : Bool) : State :=
  ((s.modChan (chanOfPin i false) (·.offer [railOf b])).modPinChan i fun c => { c with level := b }).dropPin (panOfPin i) i

/-- PIN_CHANNEL_INPUT (R89): a LEVEL channel offers the level once idle; an EDGE channel offers a change, and a change while its
token waits replaces the token's value. -/
def execPinChannelInput (i : Fin 384) (s : State) : Out :=
  .next (
    let c := s.chan (chanOfPin i false)
    let b := s.pinLevel i
    if !s.awake || !s.fabricPin i || s.power (panOfPin i) ≠ 0 then s
    else match (s.pinChan i).kind with
      | 1 => if c.idle then s.offerPin i b else s
      | 2 =>
        if b = (s.pinChan i).level then s
        else if c.idle then s.offerPin i b
        else if c.complete && c.acks.isEmpty then s.offerPin i b
        else s
      | _ => s)

/-- PIN_CHANNEL_OUTPUT (R89, R90): a token leaves the pan for pin i, that of the grain that drives the channel, or one with value
v; it writes the latch, or is discarded. -/
def execPinChannelOutput (i : Fin 384) (v : Bool) (s : State) : Out :=
  .next (
    let n := panOfPin i
    match s.portToken (chanOfPin i true) (bnat v) with
    | none => s.reply .stalled
    | some x =>
      if (s.pinChan i).kind ≠ 3 || !s.tokensMove n || (s.sluice n ≠ OPEN && s.sluice n ≠ CLOSING) then s.reply .stalled
      else
        let t := s.takeToken (chanOfPin i true)
        if s.fabricPin i then (t.setLatch i (bitOf x 0)).reply .done
        else t.reply .done)

/-! ## Upsets (R76) -/

/-- A pair from its code: 0 empty, 1 zero, 2 one, 3 both rails. -/
def railCode (k : Nat) : Rail :=
  match k with
  | 0 => .empty
  | 1 => .zero
  | 2 => .one
  | _ => .both

/-- Stored width of a memory mode (R91, R92). -/
def storedBits (mode : Nat) : Nat :=
  match mode with
  | 3 => 9
  | 5 => 18
  | 7 => 36
  | 10 => 72
  | m => (bmemWords' m)
where bmemWords' (m : Nat) : Nat := match m with
  | 0 => 1
  | 1 => 2
  | 2 => 4
  | 4 => 9
  | 6 => 18
  | 8 => 36
  | _ => 64

/-- Words of a memory mode (R91). -/
def wordCount (mode : Nat) : Nat :=
  match mode with
  | 0 => 65536
  | 1 => 32768
  | 2 => 16384
  | 3 | 4 => 8192
  | 5 | 6 => 4096
  | 7 | 8 => 2048
  | _ => 1024

/-- Invert one stored bit of a block-memory word. -/
def Bmem.flip (b : Bmem) (addr mask : Nat) : Bmem :=
  let w : BmemWord := Bank.get (fun _ => {}) b.words addr
  { b with words := Bank.set (fun _ => {}) b.words addr { w with flips := w.flips ^^^ mask } }

/-- A stored bit of a memory word flips, where the word is a lagoon or stack word. -/
def State.flipWord (s : State) (w bit : Nat) : State :=
  if (eccPlace (w * 8)).isSome && s.poisoned w = false then s.modFlipMask w (· ^^^ 2 ^ bit) else s

/-- What an upset changes. -/
def State.upset (s : State) : Upset → State
  | .grain g o r =>
    if s.power (panOfGrain g) ≠ 0 then s
    else s.modChan (chanOfGrain g o) (·.offer (if r.val = 0 then [] else [railCode r]))
  | .bmem b addr bit =>
    let m := s.bmem b
    if s.power (b.val / 32) = 0 && decide (addr.toNat < wordCount m.mode) && decide (bit.val < storedBits m.mode) then
      s.modBmem b (·.flip addr.toNat (2 ^ bit.val))
    else s
  | .cache c t l =>
    if !(s.core c).caches t l.toNat then s
    else s.modCore c fun k =>
      let f := Bank.get (fun _ => 0) k.flips (4 * l.toNat + t)
      { k with flips := Bank.set (fun _ => 0) k.flips (4 * l.toNat + t) (if f % 8 < 7 then f + 1 else f) }
  | .word w bit => s.flipWord w.toNat bit

/-- SINGLE_EVENT_UPSET (R76). -/
def execSingleEventUpset (u : Upset) (s : State) : Out := .next (s.upset u)

/-! ## Clock trees (R103 to R107) -/

/-- The pin that can drive tree i (R103). -/
def treePin (i : Nat) : Nat := 32 * (6 * (i / 16) + 1) + 16 + i % 16

/-- SRC_BAD of tree i (R104). -/
def State.treeBad (s : State) (i : Nat) : Bool := s.on (F.CLK_FTREE_CFG_SRC i) && s.pinFunc (treePin i) != 10

/-- Tree i delivers rising edges (R104, R107). -/
def State.treeRuns (s : State) (i : Nat) : Bool :=
  s.awake && s.on (F.CLK_FTREE_CFG_EN i) && s.fld (F.CLK_FTREE_CFG_DIV i) != 0 && !s.treeBad i

/-- RUNNING of tree i: it delivers edges, the one that ends its present high phase among them (R106). -/
def State.treeRunning (s : State) (i : Nat) : Bool := s.treeRuns i || (s.awake && s.treeHigh i)

/-- EN, SRC and DIV of tree i are written; a high phase that runs completes (R106). -/
def State.writeTree (s : State) (i : Nat) (en src : Bool) (div : Nat) : State :=
  s.setFlds [(F.CLK_FTREE_CFG_EN i, bnat en), (F.CLK_FTREE_CFG_SRC i, bnat src), (F.CLK_FTREE_CFG_DIV i, div)]

/-- CLOCK_TREE_RECONFIGURE (R106). -/
def execClockTreeReconfigure (i : Fin 32) (en src : Bool) (div : Byte) (s : State) : Out := .next (s.writeTree i en src div.toNat)

/-! ## FLOP grains (R109 to R111) -/

/-- The tap group of a grain address (R83): groups 0, 16, 32 and 48 of every cluster. -/
def tapOf (g : Nat) : Option Nat :=
  if g / 16 % 64 % 16 = 0 then some (g % 16384 / 1024 * 4 + g / 16 % 64 / 16) else none

/-- The FLOP grains of pan n in tap group t. -/
def State.flopsOf (s : State) (n t : Nat) : List Nat :=
  (s.grains.filter fun p => decide (p.1 < 2 ^ 22) && panOfGrain p.1 == n && p.2.mode == .flop && tapOf p.1 == some t).map (·.1)

/-- FLOP grain g captures D at an active edge (item 1 of R109), and will offer what it then holds: the state after, and whether
it is late. -/
def State.flopCapture (s : State) (g : Nat) : State × Bool :=
  let c := s.grain g
  let ready := match c.inputs.getD 0 none with
    | some x => s.inputReady g x
    | none => false
  let v := if ready then bitOf (s.inputsValue c) 0 else (s.heldOf g).value
  let t := if ready then (s.ackInputs g c).returnStages g else s
  (t.modHeldOf g fun h => { h with value := v, waiting := some v }, !ready || !(s.chan (chanOfGrain g 0)).idle)

/-- Every FLOP grain of a list captures. -/
def State.flopCaptures (s : State) : List Nat → State × Bool
  | [] => (s, false)
  | g :: r =>
    let (t, a) := s.flopCapture g
    let (u, b) := t.flopCaptures r
    (u, a || b)

/-- The tap groups of pan n that select the edge. -/
def State.tapsAt (s : State) (n sel : Nat) : List Nat := (List.range 64).filter fun t => s.tapSel (n * 64 + t) == sel

/-- The FLOP grains of those tap groups capture: the late taps, ascending. -/
def State.tapEdges (s : State) (n : Nat) : List Nat → State × List Nat
  | [] => (s, [])
  | t :: r =>
    let (u, late) := s.flopCaptures (s.flopsOf n t)
    let (v, l) := u.tapEdges n r
    (v, if late then t :: l else l)

/-- A late edge of pan n (R111). -/
def State.lateEdge (s : State) (n tree tap : Nat) : State :=
  let t := s.count (F.PAN_ISLAND_STATUS_LATE_COUNT n) (some (F.PAN_ISLAND_STATUS_LATE_SAT n))
  if s.on (F.PAN_ISLAND_STATUS_LATE n) then t
  else (t.setFlds [(F.PAN_ISLAND_STATUS_LATE n, 1), (F.PAN_ISLAND_STATUS_TREE n, tree), (F.PAN_ISLAND_STATUS_TAP n, tap)]).raise
    { half := halfOfPan n, cls := ERROR, src := 5, code := 1, unit := n, ctx := tree + tap * 16 }

/-- FLOP grains of pan n clock: it is powered and holds a loaded image (R110). -/
def State.clocks (s : State) (n : Nat) : Bool :=
  s.power n == 0 && s.sluice n != RELOADING && s.sluice n != INVALID && s.on (F.PAN_IMAGE_ID_VALID n)

/-- The FLOP grains of pan n capture at an edge of a tree, and a late edge is noted. -/
def State.panCapture (s : State) (n tree : Nat) (rising : Bool) : State :=
  match s.tapEdges n (s.tapsAt n (1 + 2 * tree + bnat (!rising))) with
  | (t, []) => t
  | (t, tap :: _) => t.lateEdge n tree tap

/-- The FLOP grains of pan n offer what they hold (item 2 of R109). -/
def State.panOffer (s : State) (n tree : Nat) (rising : Bool) : State :=
  s.each ((s.tapsAt n (1 + 2 * tree + bnat (!rising))).flatMap (s.flopsOf n)) fun g t => t.flopOffer g

/-- An edge of a tree reaches the pans of its half: every FLOP grain captures, and then all offer. -/
def State.treeEdge (s : State) (i : Nat) (rising : Bool) : State :=
  let l := (pansOf (i / 16)).filter s.clocks
  (s.each l fun n t => t.panCapture n (i % 16) rising).each l fun n t => t.panOffer n (i % 16) rising

/-- FLOP_EDGE (R109): tree i of the 32 rises while it runs, or ends the high phase it is in (R106). -/
def execFlopEdge (i : Fin 32) (rising : Bool) (s : State) : Out :=
  .next (if rising then (if s.treeRuns i && !s.treeHigh i then (s.setTreeHigh i true).treeEdge i true else s)
    else if s.awake && s.treeHigh i then (s.setTreeHigh i false).treeEdge i false else s)

/-- LATE written 1 (R127). -/
def State.clearLate (s : State) (n : Nat) : State :=
  s.setFlds [(F.PAN_ISLAND_STATUS_LATE n, 0), (F.PAN_ISLAND_STATUS_LATE_COUNT n, 0), (F.PAN_ISLAND_STATUS_LATE_SAT n, 0)]

/-- ISLAND_LATE_CLEAR (R127). -/
def execIslandLateClear (n : Fin 256) (s : State) : Out := .next (s.clearLate n)

end Sys2Proof.Machine
end

