-- ==== Sys2Proof/Machine/Bmem.lean ====
section
/-! DEFINITION. Block memories (03_pan_resources): access cycles, collisions, checks, the scrubber and injection. -/

namespace Sys2Proof.Machine

/-! ## Stored words (R91, R92) -/

/-- Data width of a mode. -/
def dataBits (mode : Nat) : Nat :=
  match mode with
  | 3 => 8
  | 5 => 16
  | 7 => 32
  | 10 => 64
  | m => storedBits m

/-- A parity mode. -/
def parityMode (mode : Nat) : Bool := mode == 3 || mode == 5 || mode == 7

/-- The wrong data bits of a word in a parity mode: bit 9i + j of the stored word is bit j of byte i. -/
def parityData (flips bytes : Nat) : Nat := ((List.range bytes).map fun i => flips / 2 ^ (9 * i) % 256 * 256 ^ i).foldl (· + ·) 0

/-- The stored data bits as read. -/
def BmemWord.seen (w : BmemWord) (mode : Nat) : Nat :=
  if mode = 10 then w.data ^^^ (w.flips % 2 ^ 64)
  else if parityMode mode then w.data ^^^ parityData w.flips (dataBits mode / 8)
  else w.data ^^^ w.flips % 2 ^ dataBits mode

/-- The status a read finds (R98): 0 OK, 1 CORRECTED, 2 CHECK_FAIL. -/
def BmemWord.status (w : BmemWord) (mode : Nat) : Nat :=
  let f := w.flips % 2 ^ 72
  if mode = 10 then (if popcount 72 f = 0 then 0 else if popcount 72 f = 1 then 1 else 2)
  else if parityMode mode && (List.range (dataBits mode / 8)).any (fun i => parityOf 9 (f / 2 ^ (9 * i))) then 2
  else 0

/-- The value a read returns. -/
def BmemWord.value (w : BmemWord) (mode : Nat) : Nat := if w.status mode = 1 then w.data else w.seen mode

/-- The wrong bits come from an injection. -/
def BmemWord.injected (w : BmemWord) : Bool := decide (2 ^ 72 ≤ w.flips)

def Bmem.word (b : Bmem) (a : Nat) : BmemWord := Bank.get (fun _ => {}) b.words a
def Bmem.setWord (b : Bmem) (a : Nat) (w : BmemWord) : Bmem := { b with words := Bank.set (fun _ => {}) b.words a w }

/-! ## Check events (R98, R123, R124) -/

/-- Record a check event of memory d and raise its report: fail or corrected, with its source. -/
def State.bmemEvent (s : State) (d addr src : Nat) (fail inj : Bool) : State :=
  let n := d / 32
  let load := if fail then !s.on (F.PAN_BMEM_ECC_STATUS_UE n) else !s.on (F.PAN_BMEM_ECC_STATUS_UE n) && !s.on (F.PAN_BMEM_ECC_STATUS_CE n)
  let t := if load then s.setFlds [(F.PAN_BMEM_ECC_STATUS_MEM n, d % 32), (F.PAN_BMEM_ECC_STATUS_ADDR n, addr), (F.PAN_BMEM_ECC_STATUS_SRC n, src)] else s
  let t := if fail then t.setFld (F.PAN_BMEM_ECC_STATUS_UE n) 1
    else (t.setFld (F.PAN_BMEM_ECC_STATUS_CE n) 1).count (F.PAN_BMEM_ECC_STATUS_CE_COUNT n) none
  t.raise { half := halfOfPan n, cls := if fail then ERROR else NOTICE, src := 3, code := if fail then 2 else 1, unit := d,
            ctx := addr % 8192 + src * 8192, inj := inj }

/-- The event of one read, if there is one: its source and the word it found. -/
def State.bmemReadEvent (s : State) (d mode addr src : Nat) (w : BmemWord) : State :=
  if w.status mode = 0 then s else s.bmemEvent d addr src (w.status mode == 2) w.injected

/-! ## One access cycle (R94, R96, R97) -/

/-- A read writes a corrected word back (R98). -/
def Bmem.correct (b : Bmem) (a : Nat) : Bmem :=
  if (b.word a).status b.mode = 1 then b.setWord a { data := (b.word a).data } else b

/-- A port alone at its word: the memory after, and the response. -/
def Bmem.serve (b : Bmem) (r : BmemReq) : Bmem × BmemRsp :=
  if r.write then (b.setWord r.addr { data := r.data }, ⟨r.data, 0⟩)
  else (b.correct r.addr, ⟨(b.word r.addr).value b.mode, (b.word r.addr).status b.mode⟩)

/-- Both ports at one word (R97). -/
def Bmem.collide (b : Bmem) (bWins : Bool) (x y : BmemReq) : Bmem × BmemRsp × BmemRsp :=
  let w := b.word x.addr
  let old : BmemRsp := ⟨w.value b.mode, w.status b.mode⟩
  match x.write, y.write with
  | false, false => (b.correct x.addr, old, old)
  | false, true => (b.setWord x.addr { data := y.data }, old, ⟨y.data, 0⟩)
  | true, false => (b.setWord x.addr { data := x.data }, ⟨x.data, 0⟩, old)
  | true, true =>
    if bWins then (b.setWord x.addr { data := y.data }, ⟨y.data, 3⟩, ⟨y.data, 0⟩)
    else (b.setWord x.addr { data := x.data }, ⟨x.data, 0⟩, ⟨x.data, 3⟩)

/-- The watch point of port e of memory d, and its channel: the request channel by its drivers, the response channel by its word. -/
def bmemPoint (d e : Nat) : Nat := 256 + 2 * (d % 32) + e
def bmemPort (d e : Nat) : Nat := chanOfPoint (d / 32) (bmemPoint d e)

/-- Address width of a mode (R91). -/
def addrBits (mode : Nat) : Nat := (wordCount mode).log2

/-- The request that reaches port e: OP, ADDR and WDATA, lowest first, of the grains that drive its channel, or the one given (R93). -/
def State.bmemRequest (s : State) (d e mode : Nat) (op : Option BmemAccess) : Option BmemReq :=
  match op with
  | none => none
  | some a =>
    if (s.drivers (bmemPort d e)).isEmpty then some ⟨a.write, a.addr.toNat % wordCount mode, a.data.toNat % 2 ^ dataBits mode⟩
    else (s.portToken (bmemPort d e) 0).map fun x =>
      ⟨bitOf x 0, x / 2 % wordCount mode, x / 2 ^ (1 + addrBits mode) % 2 ^ dataBits mode⟩

/-- The requests in flight at port e: those not yet served, and those whose response is not yet acknowledged (R94). -/
def State.inFlight (s : State) (d e : Nat) (req : List BmemReq) (rsp : List BmemRsp) : Nat :=
  req.length + rsp.length + bnat ((s.chan (bmemPort d e)).complete && !(s.chan (bmemPort d e)).high)

/-- The request that port e accepts: one that waits, where fewer than two are in flight (R94). -/
def State.bmemAccept (s : State) (d e mode : Nat) (op : Option BmemAccess) (req : List BmemReq) (rsp : List BmemRsp) : Option BmemReq :=
  if s.inFlight d e req rsp < 2 then s.bmemRequest d e mode op else none

/-- Port e's channels move: the request it accepted is acknowledged, and a response that leaves is offered (R93). -/
def State.bmemMoves (s : State) (d e mode : Nat) (took leaves : Bool) (rsp : List BmemRsp) : State :=
  let t := if took then (s.takeToken (bmemPort d e)).portMoved (d / 32) (bmemPoint d e) else s
  match (if leaves then rsp else []) with
  | [] => t
  | p :: _ => (t.giveToken (bmemPort d e) (dataBits mode + 2) (p.data + p.status * 2 ^ dataBits mode)).portMoved (d / 32) (bmemPoint d e)

/-- The cycle's requests: the oldest of each port (R96). -/
def Bmem.cycle (b : Bmem) (bWins : Bool) (x y : Option BmemReq) : Bmem :=
  match x, y with
  | none, none => b
  | some r, none => let (c, p) := b.serve r; { c with rspA := c.rspA ++ [p], reqA := c.reqA.drop 1 }
  | none, some r => let (c, p) := b.serve r; { c with rspB := c.rspB ++ [p], reqB := c.reqB.drop 1 }
  | some r, some q =>
    let (c, p, o) := if r.addr = q.addr then b.collide bWins r q
      else
        let (c1, p1) := b.serve r
        let (c2, p2) := c1.serve q
        (c2, p1, p2)
    { c with rspA := c.rspA ++ [p], rspB := c.rspB ++ [o], reqA := c.reqA.drop 1, reqB := c.reqB.drop 1 }

/-- The events of a cycle's reads, port A's first unless only port B's is a CHECK_FAIL (R124). -/
def State.cycleEvents (s : State) (d : Nat) (b : Bmem) (x y : Option BmemReq) : State :=
  let ev (r : Option BmemReq) : Option (Nat × BmemWord) := match r with
    | some q => if q.write || (b.word q.addr).status b.mode = 0 then none else some (q.addr, b.word q.addr)
    | none => none
  let go (t : State) (e : Option (Nat × BmemWord)) (src : Nat) : State := match e with
    | some (a, w) => t.bmemReadEvent d b.mode a src w
    | none => t
  let bFirst := match ev x, ev y with
    | some (_, w), some (_, v) => w.status b.mode != 2 && v.status b.mode == 2
    | _, _ => false
  if bFirst then go (go s (ev y) 1) (ev x) 0 else go (go s (ev x) 0) (ev y) 1

/-- BMEM_ACCESS_CYCLE (R96): requests arrive at the ports, waiting responses leave where their channel is free, and one internal cycle
runs. A request that arrives while the cycle starts may join it or the next; which is free (R96). One that its port cannot accept
stays on its channel. -/
def execBmemAccessCycle (b : Fin 8192) (opA opB : Option BmemAccess) (takeA takeB late : Bool) (s : State) : Out :=
  .next (
    let n := b.val / 32
    let m := s.bmem b
    if !s.tokensMove n then s
    else
      let s' := if late then s.useFree else s
      let free := if late then s.freeVal else 0
      let qa := s.bmemAccept b 0 m.mode opA m.reqA m.rspA
      let qb := s.bmemAccept b 1 m.mode opB m.reqB m.rspB
      let goA := takeA && s.portFree (bmemPort b 0)
      let goB := takeB && s.portFree (bmemPort b 1)
      let a1 := m.reqA ++ qa.toList
      let b1 := m.reqB ++ qb.toList
      let x := if late && bitOf free 0 then m.reqA.head? else a1.head?
      let y := if late && bitOf free 1 then m.reqB.head? else b1.head?
      let m1 := { m with reqA := a1, reqB := b1, rspA := if goA then m.rspA.drop 1 else m.rspA, rspB := if goB then m.rspB.drop 1 else m.rspB }
      let m2 := m1.cycle (bitOf (s.fld (F.PAN_BMEM_POLICY_B_WINS n)) (b.val % 32)) x y
      let t := ((s'.setBmem b m2).bmemMoves b 0 m.mode qa.isSome goA m.rspA).bmemMoves b 1 m.mode qb.isSome goB m.rspB
      (t.cycleEvents b m1 x y).reply (if (opA.isSome && qa.isNone) || (opB.isSome && qb.isNone) then .stalled else .done))

/-! ## The scrubber (R99) -/

/-- A pass ends: the count of words visited must be 1,024. -/
def State.scrubPassEnd (s : State) (d : Nat) : State :=
  let m := s.bmem d
  if m.scrubAt ≠ 0 then s
  else if m.visited = 1024 then s.setBmem d { m with visited := 0 }
  else
    let n := d / 32
    ((s.setBmem d { m with visited := 0, scrubOff := true }).setFld (F.PAN_BMEM_ECC_STATUS_SCRUB_FAULT n) 1).raise
      { half := halfOfPan n, cls := ERROR, src := 3, code := 3, unit := d,
        ctx := s.fld (F.PAN_BMEM_ECC_STATUS_ADDR n) + s.fld (F.PAN_BMEM_ECC_STATUS_SRC n) * 8192 }

/-- One word is scrubbed; the write-back of an injected flip is recorded with SRC 0b11 (R123; Assumption 57). -/
def State.scrubWord (s : State) (d : Nat) : State :=
  let m := s.bmem d
  let w := m.word m.scrubAt
  let t := s.setBmem d { (m.correct m.scrubAt) with scrubAt := (m.scrubAt + 1) % 1024, visited := m.visited + 1 }
  (t.bmemReadEvent d m.mode m.scrubAt (if w.injected && w.status m.mode = 1 then 3 else 2) w).scrubPassEnd d

/-- BMEM_SCRUB_WORD (R99): in a cycle with no request pending, or, once it has waited 64 µs, in the next cycle. -/
def execBmemScrubWord (b : Fin 8192) (waited : Bool) (s : State) : Out :=
  .next (
    let n := b.val / 32
    let m := s.bmem b
    if m.mode ≠ 10 || m.scrubOff || s.power n ≠ 0 || s.loadsPan n then s
    else if (m.reqA.isEmpty && m.reqB.isEmpty) || waited then s.scrubWord b
    else s)

/-! ## Injection and clearing (R123, R125, R126) -/

/-- A write of 1 to INJECT (R125, R126). -/
def State.bmemInjectWrite (s : State) (n m addr bit : Nat) (double : Bool) : State :=
  let t := s.setFlds [(F.PAN_BMEM_INJECT_INJECT n, 0), (F.PAN_BMEM_INJECT_DOUBLE n, bnat double), (F.PAN_BMEM_INJECT_MEM n, m),
    (F.PAN_BMEM_INJECT_ADDR n, addr), (F.PAN_BMEM_INJECT_BIT n, bit)]
  let d := n * 32 + m
  let mode := (s.bmem d).mode
  if !(parityMode mode || mode == 10) || wordCount mode ≤ addr || storedBits mode ≤ bit + bnat double || s.power n = 2 || s.loadsPan n then
    t.setFld (F.PAN_BMEM_INJECT_INJ_REFUSED n) 1
  else
    let mask := 2 ^ bit + (if double then 2 ^ (bit + 1) else 0)
    t.modBmem d fun b =>
      let w := b.word addr
      b.setWord addr { w with flips := ((w.flips % 2 ^ 72) ^^^ mask) + 2 ^ 72 }

/-- BMEM_INJECT (R125). -/
def execBmemInject (n : Fin 256) (m : Fin 32) (addr : BitVec 13) (bit : BitVec 7) (double : Bool) (s : State) : Out :=
  .next (s.bmemInjectWrite n m addr.toNat bit.toNat double)

/-- BMEM_CE_CLEAR (R123). -/
def execBmemCeClear (n : Fin 256) (s : State) : Out :=
  .next (s.setFlds [(F.PAN_BMEM_ECC_STATUS_CE n, 0), (F.PAN_BMEM_ECC_STATUS_CE_COUNT n, 0)])

end Sys2Proof.Machine
end

