-- ==== Sys2Proof/Machine/MemEvents.lean ====
section
/-! DEFINITION. Accesses to the lagoon and the stacks, their scrubbers and injections, and the memory commands
(10_lagoon_and_hbm, R523). -/

namespace Sys2Proof.Machine

/-! ## Accesses (R362, R376, R377) -/

/-- An access of agent a, a read (0), write (1) or fetch (2), to an address that is unmapped for it (R362): a core faults, a management controller or a scheduler
reads poison, a host's access is aborted; a NOTICE is raised. -/
def State.unmappedOutcome (s : State) (a : Agent) (addr kind : Nat) : State :=
  let t := s.unmappedNotice a addr
  match a with
  | .core c => (if (t.core c).live then t.coreTrap c (if kind = 2 then 1 else if kind = 1 then 7 else 5) addr (t.core c).pc else t).reply .abort
  | .link _ => t.reply .abort
  | .debug => t.reply .refused
  | _ => t.reply (if kind = 1 then .refused else .bytes (List.replicate 8 0) true)

/-- The n bytes at addr are memory that agent a reaches, by the table of R361: host memory from cores and engines, and the debug transport
(R738); scratch not from a scheduler engine. -/
def State.agentMapped (s : State) (a : Agent) (addr n : Nat) : Bool :=
  s.reaches (agentHalf a) addr n && match a, s.region addr with
    | .link _, .host _ => false
    | .mgmt _, .host _ => false
    | .sched _, .host _ => false
    | .sched _, .scratch _ _ => false
    | .core c, _ => !s.xhomeBlocked (halfOfCore c) addr
    | _, _ => true

/-- UNMAPPED_ACCESS (R362): an instruction fetch of a core is a read whose fault has its own cause. -/
def execUnmappedAccess (a : Agent) (addr : Dword) (kind : Fin 3) (s : State) : Out :=
  .next (s.fromAgent a (match s.region addr.toNat with
    | .unmapped => s.unmappedOutcome a addr.toNat kind
    | .host _ => if s.agentMapped a addr.toNat 1 then s else s.unmappedOutcome a addr.toNat kind
    | .scratch _ _ => if s.agentMapped a addr.toNat 1 then s else s.unmappedOutcome a addr.toNat kind
    | .hbm _ _ => if s.agentMapped a addr.toNat 1 then s else s.unmappedOutcome a addr.toNat kind
    | _ => s))

/-- PORT[p]_INJECT.INJECT of link l's port reads 1 while an injection is armed on one of its links (R429). -/
def State.portInjectBit (s : State) (l : Nat) : State :=
  s.setFld (F.PORT_INJECT_INJECT (l / 4)) (bnat ((List.range 4).any fun k =>
    let x := s.hostLink (l / 4 * 4 + k); x.armFec || x.armCrc || x.armPoison))

/-- An outbound data response of link l, poisoned by an armed injection (R429). -/
def State.respond (s : State) (l : Nat) (bytes : List Byte) (poison : Bool) : State :=
  let arm := (s.hostLink l).armPoison
  (if arm then (s.modHostLink l fun k => { k with armPoison := false }).portInjectBit l else s).reply (.bytes bytes (poison || arm))

/-- A store of bytes: poisoned data is stored poisoned (R408). -/
def State.hostStore (s : State) (addr : Nat) (bytes : List Byte) (poison : Bool) : State :=
  let t := (s.storeBytes addr bytes).reply .done
  if poison then t.poisonWords ((t.memKey addr).getD 0) bytes.length else t

/-- An access to memory is served (R362, R376, R377): data that a core reads poisoned raises its exception (R325). -/
def State.serve (s : State) (x : HeldAccess) : State :=
  match x.write with
  | some b => if s.agentMapped x.agent x.addr b.length then s.hostStore x.addr b x.poison else s.unmappedOutcome x.agent x.addr 1
  | none =>
    match (if s.agentMapped x.agent x.addr x.n then s.loadBytes x.addr x.n else none), x.agent with
    | some (t, l, bad), .link k => t.respond k l bad
    | some (t, l, bad), .core c => (if bad && (t.core c).live then t.poisonTrap c x.addr else t).reply (.bytes l bad)
    | some (t, l, bad), _ => t.reply (.bytes l bad)
    | none, a => s.unmappedOutcome a x.addr 0

/-- An access to memory: served, or held while a partition command changes the scratch it names (R367). -/
def State.access (s : State) (x : HeldAccess) : State :=
  if s.scratchHeld x.addr then
    (s.modPartJob ((scratchHalf x.addr).getD 0) fun p => p.map fun j => { j with held := j.held ++ [x] }).reply .stalled
  else s.serve x

/-- Accesses that waited are served in order, and their answers go to their agents; the debug module takes what it asked for (R738). -/
def State.serveHeld (s : State) : List HeldAccess → State
  | [] => s
  | x :: r =>
    let t := s.serve x
    let t := t.send (.served x.agent x.addr t.answer)
    (match x.agent, x.write, t.answer with
      | .debug, none, .bytes l bad => { t with dbg := { t.dbg with sbdata := leNat l, sberror := if bad then 7 else t.dbg.sberror } }
      | _, _, _ => t).serveHeld r

/-! ## Scrubbers (R378 to R382) -/

/-- The key of a half's scrubber. -/
def scrubKey (h sel : Nat) : Nat := 2 * h + sel
/-- Its fields: EN, INTERVAL, RESTART, HALT, CAUSE, PASSES. -/
def fEn (h sel : Nat) : Fld := if sel = 0 then F.MEM_SCRUB_LAG_EN h else F.MEM_SCRUB_HBM_EN h
def fInterval (h sel : Nat) : Fld := if sel = 0 then F.MEM_SCRUB_LAG_INTERVAL h else F.MEM_SCRUB_HBM_INTERVAL h
def fRestart (h sel : Nat) : Fld := if sel = 0 then F.MEM_SCRUB_LAG_RESTART h else F.MEM_SCRUB_HBM_RESTART h
def fHalt (h sel : Nat) : Fld := if sel = 0 then F.MEM_SCRUB_STATUS_L_HALT h else F.MEM_SCRUB_STATUS_H_HALT h
def fCause (h sel : Nat) : Fld := if sel = 0 then F.MEM_SCRUB_STATUS_L_CAUSE h else F.MEM_SCRUB_STATUS_H_CAUSE h
def fPasses (h sel : Nat) : Fld := if sel = 0 then F.MEM_SCRUB_STATUS_L_PASSES h else F.MEM_SCRUB_STATUS_H_PASSES h

/-- N lines of a memory (R378), and its 64-bit words. -/
def linesOf (sel : Nat) : Nat := if sel = 0 then 262144 else 402653184
def wordsIn (sel : Nat) : Nat := linesOf sel * 8
/-- The key of the first byte of a memory of half h. -/
def memBase (h sel : Nat) : Nat := if sel = 0 then SCRATCH_BASE h else HBM_BASE h

/-- The memory is there to be walked: a lagoon, or a stack that is READY. -/
def State.memReady (s : State) (h sel : Nat) : Bool := sel == 0 || s.fld (F.MEM_HBM_STATUS_STATE h) == 1

/-- The scrubber is halted (R382), or stopped (R378, R387). -/
def State.scrubHalted (s : State) (h sel : Nat) : Bool := s.on (fHalt h sel)
def State.scrubStopped (s : State) (h sel : Nat) : Bool := !s.on (fEn h sel) || s.fld (fInterval h sel) == 0

/-- The scrubber halts with a cause: 1 CTL_PARITY, 2 WALK, 3 VERIFY (R382, R388). -/
def State.haltScrub (s : State) (h sel cause : Nat) : State :=
  (s.setFlds [(fHalt h sel, 1), (fCause h sel, cause)]).raise
    { half := h, cls := ERROR, src := 9, code := 4, unit := sel * 2 + h, ctx := cause, inj := (s.scrubber (scrubKey h sel)).injected }

/-- A new pass from line 0. -/
def Scrubber.restart (x : Scrubber) : Scrubber := { x with line := 0, visited := 0, sum := 0, skip := false, badPar := false, injected := false }

/-- The index sum of a whole pass (R380). -/
def fullSum (n : Nat) : Nat := n * (n - 1) / 2 % 2 ^ 32

/-- The pass ends after the last line (R380); upset marks a parity failure of the counter or the sum. -/
def State.endPass (s : State) (h sel : Nat) (upset : Bool) : State :=
  let x := s.scrubber (scrubKey h sel)
  let n := linesOf sel
  if x.line < n then s
  else
    let t := s.setScrubber (scrubKey h sel) { x with line := 0, visited := 0, sum := 0 }
    if upset || x.visited ≠ n || x.sum ≠ fullSum n then t.haltScrub h sel 2
    else t.setFld (fPasses h sel) (t.fld (fPasses h sel) + 1)

/-- One line is visited (R378): words checked, single errors written back, uncorrectable words reported, poison skipped. -/
def State.visitLine (s : State) (h sel line : Nat) : State :=
  s.each ((List.range 8).map fun i => memBase h sel / 8 + line * 8 + i) fun w t =>
    if t.checkWord w == .poisoned then t else t.readCheck w true

/-- Some word of the line holds a single-bit error. -/
def State.lineCorrects (s : State) (h sel line : Nat) : Bool :=
  (List.range 8).any fun i => s.checkWord (memBase h sel / 8 + line * 8 + i) == .corrected

/-- SCRUB_LINE (R378): the scrubber passes one line. stuck: the verify read after a write-back still finds an error (R381);
upset: the counter or the sum fails its parity at a pass end (R380). -/
def execScrubLine (h sel : Fin 2) (stuck upset : Bool) (s : State) : Out :=
  .next (
    let k := scrubKey h sel
    let x := s.scrubber k
    if s.scrubHalted h sel || s.scrubStopped h sel || !s.memReady h sel then s
    else if x.skip then (s.setScrubber k { x with skip := false, line := x.line + 1 }).endPass h sel upset
    else
      let t := (s.visitLine h sel x.line).setScrubber k { x with line := x.line + 1, visited := x.visited + 1, sum := (x.sum + x.line) % 2 ^ 32 }
      if stuck && s.lineCorrects h sel x.line then t.haltScrub h sel 3 else t.endPass h sel upset)

/-- SCRUB_PARITY_CHECK (R381). -/
def execScrubParityCheck (h sel : Fin 2) (s : State) : Out :=
  .next (if (s.scrubber (scrubKey h sel)).badPar && !s.scrubHalted h sel then s.haltScrub h sel 1 else s)

/-- A write of the scrubber's control register recomputes PAR (R381). -/
def State.repairPar (s : State) (h sel : Nat) : State :=
  s.modScrubber (scrubKey h sel) fun x => if x.badPar then { x with badPar := false, injected := false } else x

/-- RESTART written 1 (R382). -/
def State.restartScrub (s : State) (h sel : Nat) : State :=
  (s.modScrubber (scrubKey h sel) Scrubber.restart).setFlds [(fHalt h sel, 0), (fRestart h sel, 0)]

/-- SCRUB_RESTART (R382). -/
def execScrubRestart (h sel : Fin 2) (s : State) : Out := .next (s.restartScrub h sel)

/-- EN written (R387): 0 stops the walk; 1 starts a new pass from line 0. -/
def State.enableScrub (s : State) (h sel : Nat) (en : Bool) : State :=
  let t := (s.put (fEn h sel) en).repairPar h sel
  if en then t.modScrubber (scrubKey h sel) Scrubber.restart else t

/-- SCRUB_ENABLE (R387). -/
def execScrubEnable (h sel : Fin 2) (en : Bool) (s : State) : Out := .next (s.enableScrub h sel en)

/-! ## Injections (R389, R390) -/

/-- Flip stored bits of a word; the mark shows that an injection did it. -/
def State.flipBits (s : State) (w mask : Nat) : State :=
  let m := s.flipMask w % 2 ^ 72 ^^^ mask
  s.setFlipMask w (if m = 0 then 0 else m + 2 ^ 72)

/-- The injection is refused (R390). -/
def State.memInjectRefused (s : State) (h sel kind word bit : Nat) : Bool :=
  !s.memReady h sel || decide (wordsIn sel ≤ word) || decide (71 < bit + bnat (kind == 1)) ||
    (decide (2 ≤ kind) && (s.scrubHalted h sel || s.scrubStopped h sel))

/-- A write of 1 to INJECT with its fields (R389). -/
def State.memInject (s : State) (h sel kind word bit : Nat) : State :=
  let t := (s.setFlds [(F.MEM_INJECT_INJECT h, 0), (F.MEM_INJECT_INJ_KIND h, kind), (F.MEM_INJECT_TARGET h, sel), (F.MEM_INJECT_BIT h, bit)]).setReg
    (R.MEM_INJ_ADDR h) (BitVec.ofNat 32 word)
  let w := memBase h sel / 8 + word
  if s.memInjectRefused h sel kind word bit then t.setFld (F.MEM_INJECT_INJ_REFUSED h) 1
  else match kind with
    | 0 => t.flipBits w (2 ^ bit)
    | 1 => t.flipBits w (2 ^ bit + 2 ^ (bit + 1))
    | 2 => t.modScrubber (scrubKey h sel) fun x => { x with skip := true, injected := true }
    | _ => t.modScrubber (scrubKey h sel) fun x => { x with badPar := !x.badPar, injected := true }

/-- MEM_INJECT_FLIP (R389). -/
def execMemInjectFlip (h sel : Fin 2) (word : Word) (bit : BitVec 7) (s : State) : Out := .next (s.memInject h sel 0 word.toNat bit.toNat)

/-- MEM_INJECT_FLIP_DOUBLE (R389). -/
def execMemInjectFlipDouble (h sel : Fin 2) (word : Word) (bit : BitVec 7) (s : State) : Out := .next (s.memInject h sel 1 word.toNat bit.toNat)

/-- MEM_INJECT_SKIP_LINE (R389): WORD and BIT keep their values. -/
def execMemInjectSkipLine (h sel : Fin 2) (s : State) : Out :=
  .next (s.memInject h sel 2 (s.reg (R.MEM_INJ_ADDR h)).toNat (s.fld (F.MEM_INJECT_BIT h)))

/-- MEM_INJECT_PAR_FLIP (R389). -/
def execMemInjectParFlip (h sel : Fin 2) (s : State) : Out :=
  .next (s.memInject h sel 3 (s.reg (R.MEM_INJ_ADDR h)).toNat (s.fld (F.MEM_INJECT_BIT h)))

/-- MEM_ECC_CE_CLEAR (R386). -/
def execMemEccCeClear (h : Fin 2) (s : State) : Out := .next (s.setFlds [(F.MEM_ECC_STATUS_CE h, 0), (F.MEM_ECC_STATUS_CE_COUNT h, 0)])

/-! ## Start-up of the memories (R371, R372) -/

/-- HBM_TRAINING_DONE (R371); by now the stack's loop has locked (R709, R722). -/
def execHbmTrainingDone (h : Fin 2) (good : Bool) (s : State) : Out :=
  .next (if s.fld (F.MEM_HBM_STATUS_STATE h) ≠ 0 then s
    else
      let t := s.setFld F.CLK_STATUS_HBM_LOCK (putBits (s.fld F.CLK_STATUS_HBM_LOCK) h h 1)
      if good then t.setFld (F.MEM_HBM_STATUS_STATE h) 1
      else ((t.setFld (F.MEM_HBM_STATUS_STATE h) 2).raise { half := h, cls := ERROR, src := 9, code := 5, unit := 2 + h }).assertErr h)

/-- MEMORY_FILL_DONE (R372): the cold-reset fill of the lagoon, or of a trained stack, with zeros completes. -/
def execMemoryFillDone (h sel : Fin 2) (s : State) : Out :=
  .next (if s.fillDone (scrubKey h sel) || !s.memReady h sel then s
    else (s.clearMem (memBase h sel) (linesOf sel * 64)).setFillDone (scrubKey h sel) true)

/-! ## The memory commands of R523 -/

/-- [a, a + n) lies within one scratch region or one stack's region. -/
def State.oneRegion (s : State) (a n : Nat) : Bool :=
  (List.range 2).any fun h =>
    (decide (SCRATCH_BASE h ≤ a) && decide (a + n ≤ SCRATCH_BASE h + s.scratchBytes h)) || (decide (HBM_BASE h ≤ a) && decide (a + n ≤ HBM_BASE h + HBM_BYTES))

/-- The half of a stack or scratch address. -/
def halfOfAddr (a : Nat) : Nat := if a < HBM_BASE 0 then (if a < SCRATCH_BASE 1 then 0 else 1) else if a < HBM_BASE 1 then 0 else 1

/-- MEM_CLEAR of R523. -/
def cmdMemClear : Cmd where
  opcode := 0x0301
  cls := .long
  scopes := [0]
  size := fun _ => 16
  fields := [{ off := 0, len := 8, ok := fun s r => r.p.u64 0 % 64 == 0 && s.oneRegion (r.p.u64 0) 0 },
    { off := 8, len := 8, ok := fun s r => r.p.u64 8 % 64 == 0 && s.oneRegion (r.p.u64 0) (r.p.u64 8) }]
  check := fun s r =>
    if r.p.u64 8 = 0 then already
    else if HBM_BASE 0 ≤ r.p.u64 0 && !s.stackMapped (halfOfAddr (r.p.u64 0)) then refusal S_HW_FAULT D_STACK_FAILED
    else if !s.reaches r.half (r.p.u64 0) (r.p.u64 8) then refusal S_HW_FAULT D_CAUSEWAY else none
  run := fun s r => ok ((s.breakResv (r.p.u64 0) (r.p.u64 8)).clearMem ((s.memKey (r.p.u64 0)).getD 0) (r.p.u64 8))

/-- MEM_CLEAR (R523). -/
def execMemClear (p : Packet) (s : State) : Out := .next (s.deliver cmdMemClear p)

/-- MEM_READ of R523. -/
def cmdMemRead : Cmd where
  opcode := 0x0302
  cls := .read
  scopes := [0]
  size := fun _ => 16
  fields := [addrField 0 1 (fun r => r.p.u32 8), rangeField 8 4 0 4080, zeroField 12 4]
  check := fun _ r => if r.p.u32 8 = 0 then already else none
  run := fun s r => match s.loadBytes (r.p.u64 0) (r.p.u32 8) with
    | some (t, l, bad) => if bad then .done t S_HW_FAULT D_POISON l else ok t l
    | none => .done s S_ADDRESS 0x8000 []

/-- MEM_READ (R523). -/
def execMemRead (p : Packet) (s : State) : Out := .next (s.deliver cmdMemRead p)

/-- MEM_WRITE of R523. -/
def cmdMemWrite : Cmd where
  opcode := 0x0303
  cls := .short
  scopes := [0]
  size := fun r => 16 + r.p.u32 8
  fields := [addrField 0 2 (fun r => r.p.u32 8), rangeField 8 4 0 4048, zeroField 12 4]
  check := fun _ r => if r.p.u32 8 = 0 then already else none
  run := fun s r => ok (s.storeBytes (r.p.u64 0) ((r.p.params.drop 16).take (r.p.u32 8)))

/-- MEM_WRITE (R523). -/
def execMemWrite (p : Packet) (s : State) : Out := .next (s.deliver cmdMemWrite p)

/-- Copy the n bytes from key a to key b in ascending order (R523): source words are checked, and a poisoned or
uncorrectable one poisons what it lands in; the words that the ends cover in part are read first (R377). -/
def State.copyBytes (s : State) (a b n : Nat) : State :=
  let inside (w : Nat) : Bool := decide (a < w * 8 + 8) && decide (w * 8 < a + n)
  let failing := ((List.map Prod.fst s.flips).filter fun w => inside w && s.checkWord w == .failed) ++ ((List.map Prod.fst s.poison).filter inside)
  let t := s.each ((List.map Prod.fst s.flips).filter inside) fun w u => u.readCheck w false
  let bytes := s.mem.filter fun p => decide (a ≤ p.1) && decide (p.1 < a + n)
  let t := (t.when (b % 8 != 0 || decide (n < 8)) (·.writeWord b [])).when ((b + n) % 8 != 0) (·.writeWord (b + n - 1) [])
  let t := bytes.foldl (fun u p => u.setByte (p.1 + b - a) p.2) (t.clearMem b n)
  t.each failing fun w u => u.poisonWords (max (w * 8) a + b - a) (min (w * 8 + 8) (a + n) - max (w * 8) a)

/-- MEM_COPY of R523. -/
def cmdMemCopy : Cmd where
  opcode := 0x0304
  cls := .long
  scopes := [0]
  size := fun _ => 24
  fields := [addrField 0 1 (fun r => r.p.u64 16), addrField 8 2 (fun r => r.p.u64 16),
    { off := 8, len := 8, ok := fun _ r => !(decide (r.p.u64 0 < r.p.u64 8) && decide (r.p.u64 8 < r.p.u64 0 + r.p.u64 16)) }]
  check := fun _ r => if r.p.u64 16 = 0 then already else none
  run := fun s r => ok ((s.breakResv (r.p.u64 8) (r.p.u64 16)).copyBytes ((s.memKey (r.p.u64 0)).getD 0) ((s.memKey (r.p.u64 8)).getD 0) (r.p.u64 16))

/-- MEM_COPY (R523). -/
def execMemCopy (p : Packet) (s : State) : Out := .next (s.deliver cmdMemCopy p)

end Sys2Proof.Machine
end

