-- ==== Sys2Proof/Machine/CohOps.lean ====
section
/-! DEFINITION. The coherence engines (12_coherence_engine): lines, the rule table and its actions. -/

namespace Sys2Proof.Machine

/-! ## Lines and roles (R435 to R437) -/

/-- The device address of a line. -/
def lineAddr (line : Nat) : Nat := line * 64

/-- The half that is home for a line; none for host memory and unmapped addresses. -/
def State.homeOf (s : State) (line : Nat) : Option Nat :=
  match s.region (lineAddr line) with
  | .scratch h _ => some h
  | .hbm h _ => some h
  | _ => none

/-- The line lies in host memory. -/
def hostLine (line : Nat) : Bool := decide (HOST_BASE ≤ lineAddr line) && decide (lineAddr line < HOST_END)

/-- The engine of half h is the caching agent for host memory now (R436): its route names a TYPE2 link that is UP with CXL. -/
def State.cachingNow (s : State) (h : Nat) : Bool :=
  s.hostRouted h && s.fld (F.PORT_CTL_PERS (s.fld (F.PORT_ROUTE_PORT h))) == 1 &&
    s.on (F.LINK_STATUS_CXL (s.fld (F.PORT_ROUTE_PORT h)) (s.fld (F.PORT_ROUTE_LINK h)))

/-- The engine and role that take an agent's access to a line, from half h (R437). -/
def State.engineOf (s : State) (h line : Nat) : Option (Nat × Nat) :=
  match s.homeOf line with
  | some g => if g = h || !s.isSplit h then some (g, 0) else none
  | none => if hostLine line && s.cachingNow h then some (h, 1) else none

/-- The key of a line of an engine. -/
def cohKey (h role line : Nat) : Nat := (2 * h + role) * 2 ^ 58 + line
def lineKey (h line : Nat) : Nat := h * 2 ^ 58 + line

def State.lineOf (s : State) (h role line : Nat) : CohLine := s.cohLine (cohKey h role line)
def State.modLine (s : State) (h role line : Nat) (f : CohLine → CohLine) : State := s.modCohLine (cohKey h role line) f
def State.holders (s : State) (h line : Nat) : Nat := s.filterMask (lineKey h line)
def State.setHolders (s : State) (h line m : Nat) : State := s.setFilterMask (lineKey h line) m

/-! ## Exposure and bias (R442 to R444) -/

/-- The offset of an HBM line in its stack. -/
def stackOffset (h line : Nat) : Nat := lineAddr line - HBM_BASE h

/-- The extents that expose offset o of half h's stack: link and kind. -/
def State.exposed (s : State) (h o : Nat) : List (Nat × Nat) :=
  (List.range 16).flatMap fun l => ((s.hostLink l).extents.filter fun e => e.half == h && decide (e.off ≤ o) && decide (o < e.off + e.len)).map fun e => (l, e.kind)

/-- Some extent of kind k exposes the line, whose home is half h; its link. -/
def State.exposedAs (s : State) (h line k : Nat) : Option Nat :=
  match s.region (lineAddr line) with
  | .hbm _ o => ((s.exposed h o).find? fun p => p.2 == k).map (·.1)
  | _ => none

/-- Some HDM-D extent targets the half's stack. -/
def State.anyHdmD (s : State) (h : Nat) : Bool := (List.range 16).any fun l => (s.hostLink l).extents.any fun e => e.half == h && e.kind == 1

/-- The page of a line, and its key in the bias table. -/
def pageOf (h line : Nat) : Nat := stackOffset h line / 4096
def pageKey (h page : Nat) : Nat := h * 2 ^ 23 + page

/-- The line's page is in host bias (R443). -/
def State.hostBias (s : State) (h line : Nat) : Bool := (s.exposedAs h line 1).isSome && !s.inDeviceBias (pageKey h (pageOf h line))

/-- A page changes its bias; COH[h]_FLIPS counts (R443). -/
def State.setBias (s : State) (h page : Nat) (dev : Bool) : State :=
  if s.inDeviceBias (pageKey h page) = dev then s
  else (s.setInDeviceBias (pageKey h page) dev).count (F.COH_FLIPS_FLIPS h) none

/-! ## The rule table (R451, R454 to R456) -/

/-- One rule, by its fields. -/
def rule (wait next msgA destA data track : Nat) : Nat :=
  2 ^ 63 + wait * 2 ^ 62 + next * 2 ^ 59 + msgA * 2 ^ 54 + destA * 2 ^ 51 + data * 2 ^ 40 + track * 2 ^ 37

/-- The shipped entries the spec gives (R438, R439, R441 to R443, R446, R447, R450, R451, R453, and the worked example's 528, 666,
647, 887 and 826, whose DATA stays open): the home's requests wait while a snoop is outstanding; victims and bias flips snoop
their holders; a line in host bias is first asked of the host; BIConflict is acknowledged; caching requests wait in IS, IM, SM and MI; a host snoop in IS or IM is answered
RspIHitI at once, and in SM without a core copy RspIHitSE or RspSHitSE; a victim of the device cache and a flush evict. DEDUCED
where the spec says the effect and not the bits. -/
def shippedKnown (role ev st bit0 : Nat) : Option Nat :=
  if role = 0 then
    if ev ≤ 0x0C && ev ≠ 4 && ev ≠ 5 && bit0 = 1 then some (rule 1 st 0 0 0 0)
    else if ev = 0x0D then some (rule 0 st 0x13 0 0 0)
    else if (ev = 4 || ev = 0x19) && (st = 1 || st = 2) && bit0 = 0 then some (rule 0 st 0x19 3 0 0)
    else if ev = 5 && (st = 3 || st = 4) && bit0 = 0 then some (rule 0 st 0x10 2 0 0)
    else if (ev = 0 || ev = 6) && st = 5 && bit0 = 0 then some (rule 0 5 0x01 1 0 0)
    else if (ev = 1 || ev = 7) && st = 5 && bit0 = 0 then some (rule 0 5 0x02 1 0 0)
    else if ev = 0x18 && st = 5 && bit0 = 0 then some (rule 0 5 0x03 1 0 0)
    else none
  else
    if ev = 0 && st = 0 && bit0 = 0 then some (rule 0 4 0x01 1 0 0)
    else if (ev ≤ 3 || ev = 6 || ev = 7) && 4 ≤ st then some (rule 1 st 0 0 0 0)
    else if ev = 1 && st = 0 && bit0 = 0 then some (rule 0 5 0x02 1 0 0)
    else if 8 ≤ ev && ev ≤ 0x0A && (st = 4 || st = 5) then some (rule 0 st 0x08 1 0 0)
    else if ev = 4 && (st = 1 || st = 2) && bit0 = 0 then some (rule 0 0 0x06 1 0 7)
    else if ev = 4 && st = 3 && bit0 = 0 then some (rule 0 7 0x05 1 0 0)
    else if ev = 8 && st = 3 && bit0 = 1 then some (rule 0 3 0x1A 3 0 0)
    else if ev = 0x17 && st = 3 && bit0 = 1 then some (rule 0 1 0x0C 1 6 0)
    else if ev = 0x13 && st = 5 && bit0 = 0 then some (rule 0 3 0x1C 0 (bitsOf (Config.shippedRule 826) 42 40) 2)
    else if ev = 9 && st = 6 && bit0 = 0 then some (rule 0 5 0x09 1 0 0)
    else if ev = 9 && st = 6 then some (rule 0 6 0x19 3 0 0)
    else if ev = 0x17 && st = 6 then some (rule 0 5 0x09 1 0 0)
    else if 8 ≤ ev && ev ≤ 0x0A && st = 7 then some (rule 0 7 0x0B 1 6 0)
    else if ev = 0x15 && st = 7 then some (rule 0 0 (bitsOf (Config.shippedRule (512 + 16 * 0x15 + 14 + bit0)) 58 54 % 7) 1
      (bitsOf (Config.shippedRule (512 + 16 * 0x15 + 14 + bit0)) 42 40 % 7) 7)
    else if (ev = 8 || ev = 0x0A) && st = 6 then some (rule 0 6 0x0A 1 0 0)
    else if ev = 5 && 1 ≤ st && st ≤ 3 && bit0 = 1 then some (rule 0 st 0x19 3 0 0)
    else if ev = 0x18 && 1 ≤ st && st ≤ 3 && bit0 = 1 then some (rule 0 st 0x19 3 0 0)
    else if ev = 0x18 && (st = 1 || st = 2) then some (rule 0 0 0 0 0 7)
    else if ev = 0x18 && st = 3 then some (rule 0 7 0x05 1 0 0)
    else none

/-- The fields of an entry. -/
def eValid (e : Nat) : Bool := bitOf e 63
def eWait (e : Nat) : Bool := bitOf e 62
def eNext (e : Nat) : Nat := bitsOf e 61 59
def eMsgA (e : Nat) : Nat := bitsOf e 58 54
def eDestA (e : Nat) : Nat := bitsOf e 53 51
def eMsgB (e : Nat) : Nat := bitsOf e 50 46
def eDestB (e : Nat) : Nat := bitsOf e 45 43
def eData (e : Nat) : Nat := bitsOf e 42 40
def eTrack (e : Nat) : Nat := bitsOf e 39 37
def eReport (e : Nat) : Nat := bitsOf e 36 29

/-- Message codes that R456 marks not accepted. -/
def unusedMsg (m : Nat) : Bool := m == 0x07 || m == 0x0F || m == 0x1F

/-- The checks of R460 on entry i. -/
def entryAccepted (i e : Nat) : Bool :=
  let role := i / 512
  let ev := i % 512 / 16
  !eValid e || (
    !(eWait e && ((role == 1 && decide (8 ≤ ev) && decide (ev ≤ 0x0F)) || (decide (0x10 ≤ ev) && decide (ev ≤ 0x17)) || (role == 0 && ev == 0x0D))) &&
    !unusedMsg (eMsgA e) && !unusedMsg (eMsgB e) &&
    decide (eDestA e < 6) && decide (eDestB e < 6) && decide (eData e < 7) &&
    !(role == 0 && decide (6 ≤ eNext e)) && bitsOf e 28 0 == 0)

/-- Entry i of the shipped table; where the spec does not give it, an open entry, which passes the checks of R460 or is not valid. -/
def shippedEntry (i : Nat) : Nat :=
  match shippedKnown (i / 512) (i % 512 / 16) (i % 16 / 2) (i % 2) with
  | some e => e
  | none => let e := Config.shippedRule i % 2 ^ 64; if entryAccepted i e then e else 0

/-- Entry i of the table in force (R461). -/
def State.tableEntry (s : State) (h i : Nat) : Nat :=
  if s.on (F.COH_STATUS_LAB h) then Bank.get (fun _ => 0) (s.coh h).table i else shippedEntry i

/-- The STATE and BIT0 an event sees (R454). -/
def State.seenState (s : State) (h role line : Nat) : Nat :=
  if role = 0 && s.hostBias h line then 5 else (s.lineOf h role line).st
def State.seenBit (s : State) (h role line : Nat) : Bool :=
  if role = 0 then (s.lineOf h role line).snoops != 0 || (s.lineOf h role line).bisnp != 0 else s.holders h line != 0

/-- The index of an event (R454). -/
def State.ruleIndex (s : State) (h role ev line : Nat) : Nat :=
  role * 512 + ev * 16 + s.seenState h role line * 2 + bnat (s.seenBit h role line)

/-! ## Who asks, and data -/

/-- The agent behind a requester code of half h. -/
def whoAgent (h w : Nat) : Agent :=
  if w < 16 then .core (Fin.ofNat 16 w) else if w < 32 then .link (Fin.ofNat 16 (w - 16)) else if w = 32 then .sched (Fin.ofNat 2 h) else .mgmt (Fin.ofNat 2 h)

/-- The 64 bytes of a line as a number. -/
def lineData (l : List Byte) : BitVec 512 := BitVec.ofNat 512 (leNat l)

/-- Read a line at its home: the state after the checks, and the data; poison shows as none. -/
def State.readLine (s : State) (line : Nat) : State × Option (BitVec 512) :=
  match s.loadBytes (lineAddr line) 64 with
  | some (t, l, false) => (t, some (lineData l))
  | some (t, _, true) => (t, none)
  | none => (s, none)

/-- Write a line back to memory. -/
def State.writeLine (s : State) (line : Nat) (d : BitVec 512) : State := s.storeBytes (lineAddr line) (leBytes 64 d.toNat)

/-- Send a coherence message: its code, the line and the data it carries. -/
def State.cohSend (s : State) (a : Agent) (msg line : Nat) (d : Option (BitVec 512)) : State :=
  s.send (.agent a msg (line :: match d with
    | some x => [x.toNat]
    | none => []))

/-! ## Tags of a link (R406) -/

/-- Tags in each pool of a link. -/
def TAGS : Nat := 4096

/-- A D2H CXL.cache request, which holds a CQID, and a back-invalidate snoop, which holds a BITag; other messages need no tag. -/
def cacheRequest (m : Nat) : Bool := decide (1 ≤ m) && decide (m ≤ 6)
def backSnoop (m : Nat) : Bool := decide (0x10 ≤ m) && decide (m ≤ 0x12)

/-- A message of this code finds a tag, or needs none. -/
def HostLink.tagFree (k : HostLink) (m : Nat) : Bool :=
  if cacheRequest m then decide (k.cqids.length < TAGS) else if backSnoop m then decide (k.biTags.length < TAGS) else true

/-- The message takes its tag. -/
def HostLink.takeTag (k : HostLink) (m : LinkMsg) : HostLink :=
  if cacheRequest m.msg then { k with cqids := k.cqids ++ [m.key] } else if backSnoop m.msg then { k with biTags := k.biTags ++ [m.key] } else k

/-- A message to the host of link l goes out, or waits for a tag of its pool. -/
def State.linkSend (s : State) (l : Nat) (m : LinkMsg) : State :=
  if (s.hostLink l).tagFree m.msg then (s.modHostLink l (·.takeTag m)).cohSend (.link (Fin.ofNat 16 l)) m.msg (m.key % 2 ^ 58) m.data
  else s.modHostLink l fun k => { k with unsent := k.unsent ++ [m] }

/-- A tag of link l returns: a BITag (bi) or a CQID held for a key; the oldest message that waits for one goes out. -/
def State.tagBack (s : State) (l : Nat) (bi : Bool) (key : Nat) : State :=
  let t := s.modHostLink l fun k => { k with cqids := if bi then k.cqids else k.cqids.erase key, biTags := if bi then k.biTags.erase key else k.biTags }
  match (t.hostLink l).unsent.find? fun m => backSnoop m.msg == bi with
  | some m => if (t.hostLink l).tagFree m.msg then (t.modHostLink l fun k => { k with unsent := k.unsent.erase m }).linkSend l m else t
  | none => t

/-- Messages with the keys of p end on every link, and their tags are free. -/
def State.dropTags (s : State) (p : Nat → Bool) : State :=
  s.each (List.range 16) fun l t => t.modHostLink l fun k =>
    { k with cqids := k.cqids.filter (!p ·), biTags := k.biTags.filter (!p ·), unsent := k.unsent.filter fun m => !p m.key }

/-- The numbers of the bits set in a mask of 16. -/
def bitsIn (m : Nat) : List Nat := (List.range 16).filter fun i => bitOf m i

/-- Move a line to the end of an order of use. -/
def touch (line : Nat) (l : List Nat) : List Nat := l.filter (· != line) ++ [line]

/-! ## Device cache (R439) -/

/-- The device-cache line of half h. -/
def State.cached (s : State) (h line : Nat) : Option DcLine := s.dcLine (lineKey h line)
def State.dropCached (s : State) (h line : Nat) : State :=
  (s.setDcLine (lineKey h line) none).modCoh h fun c => { c with cacheOrder := c.cacheOrder.filter (· != line) }
def State.putCached (s : State) (h line : Nat) (dirty : Bool) (d : BitVec 512) : State :=
  if s.fld (F.MEM_LAG_PART_CACHE h) = 0 then s
  else (s.setDcLine (lineKey h line) (some { dirty := dirty, data := d })).modCoh h fun c => { c with cacheOrder := touch line c.cacheOrder }

/-- Dirty lines of half h's device cache. -/
def State.dirtyLines (s : State) (h : Nat) : List Nat :=
  ((s.devCache.filter fun p => p.1 / 2 ^ 58 == h && (match p.2 with
    | some d => d.dirty
    | none => false)).map fun p => p.1 % 2 ^ 58)

/-! ## Actions (R456) -/

/-- An event being carried out: what it is, who is served, and the data its response brought. -/
structure CohRun where
  h : Nat
  role : Nat
  ev : Nat
  line : Nat
  who : Option Nat
  data : Option (BitVec 512)

/-- Data at hand for a requester: set by DATA and used by the messages to it. -/
structure CohStep where
  s : State
  out : Option (BitVec 512) := none

/-- The DATA action of an entry. -/
def CohRun.doData (r : CohRun) (s : State) (code : Nat) : CohStep :=
  match code with
  | 1 => let p := s.readLine r.line; { s := p.1, out := p.2 }
  | 2 => { s := s, out := r.data }
  | 3 => match r.data with
    | some d => { s := s.writeLine r.line d }
    | none => { s := s }
  | 4 => { s := s, out := (s.cached r.h r.line).map (·.data) }
  | 5 => match r.data with
    | some d => { s := s.putCached r.h r.line (r.ev == 2 || r.ev == 0x13 || r.ev == 0x17) d, out := r.data }
    | none => { s := s }
  | 6 => { s := s, out := r.data.orElse fun _ => (s.cached r.h r.line).map (·.data) }
  | _ => { s := s }

/-- The agents that a destination code names. -/
def CohRun.dests (r : CohRun) (s : State) (dest : Nat) : List Agent :=
  match dest with
  | 0 => match r.who with
    | some w => [whoAgent r.h w]
    | none => []
  | 1 => if r.role = 1 then [.link (Fin.ofNat 16 (s.routeLink r.h))] else match s.exposedAs r.h r.line 1 with
    | some l => [.link (Fin.ofNat 16 l)]
    | none => []
  | 2 => ((bitsIn (s.lineOf r.h r.role r.line).hosts).filter fun l => r.who != some (16 + l)).map fun l => .link (Fin.ofNat 16 l)
  | 3 => ((bitsIn (s.holders r.h r.line)).filter fun c => r.who != some c).map fun c => .core (Fin.ofNat 16 c)
  | 4 => [.coh (Fin.ofNat 2 r.h)]
  | _ => []

/-- The number behind an agent in a mask: a core or a link. -/
def agentNumber : Agent → Nat
  | .core c => c.val
  | .link l => l.val
  | _ => 0

/-- The state in which a core's L2 holds a line; 0 none. -/
def Core.holds (k : Core) (line : Nat) : Nat := Bank.get (fun _ => 0) k.lines line

/-- Sets and ways of a core's cache: 0 L1I, 1 L1D, 2 L2, with lines of 64 bytes (R322). -/
def cacheSets (t : Nat) : Nat := if t = 0 then 256 else if t = 1 then 128 else 1024
def cacheWays (t : Nat) : Nat := if t = 0 then 4 else if t = 1 then 8 else 16

/-- Those lines of a list that share a set of cache t with a line. -/
def sameSet (t line : Nat) (l : List Nat) : List Nat :=
  l.filter fun x => Config.coreSet t x % cacheSets t == Config.coreSet t line % cacheSets t

/-- A line leaves an L1 cache (0 instruction, 1 data), with the wrong bits it holds there. -/
def Core.dropL1 (k : Core) (t line : Nat) : Core :=
  { k with l1i := if t = 0 then k.l1i.filter (· != line) else k.l1i, l1d := if t = 1 then k.l1d.filter (· != line) else k.l1d
           flips := Bank.erase k.flips (4 * line + t) }

/-- A line leaves the core's L2, and with it both L1 caches (R322); a reservation on it ends (R323). -/
def Core.dropLine (k : Core) (line : Nat) : Core :=
  let k := (k.dropL1 0 line).dropL1 1 line
  { k with lines := Bank.erase k.lines line, flips := Bank.erase k.flips (4 * line + 2), resv := if k.resv = line + 1 then 0 else k.resv }

/-- The core's L2 gives a line up. -/
def State.coreDrops (s : State) (c line : Nat) : State := s.modCore c (·.dropLine line)

/-- An armed injection is applied to the next line filled into its cache (R360). -/
def State.fillLine (s : State) (c target line : Nat) : State :=
  match (s.core c).inject with
  | some (t, double) =>
    if t = target then
      (s.modCore c fun k => { k with inject := none, flips := Bank.set (fun _ => 0) k.flips (4 * line + target) (9 + bnat double) }).setFld
        (F.TCORE_INJECT_INJECT c) 0
    else s
  | none => s

/-- A line that the L2 holds is filled into an L1 cache; a full set gives up a line of free choice (R322). -/
def State.fillL1 (s : State) (c t line : Nat) : State :=
  let k := s.core c
  let l := if t = 0 then k.l1i else k.l1d
  if k.holds line = 0 || l.contains line then s
  else
    let set := sameSet t line l
    let u := if set.length < cacheWays t then s
      else (s.useFree).modCore c (·.dropL1 t (set.getD (s.freeVal % set.length) 0))
    (u.modCore c fun x => { x with l1i := if t = 0 then x.l1i ++ [line] else x.l1i, l1d := if t = 1 then x.l1d ++ [line] else x.l1d }).fillLine c t line

/-- A core takes a grant of a line: 1 shared, 2 exclusive, 3 for a store (R322). A line it neither holds nor has asked for since its reset
is dropped. -/
def State.coreGrant (s : State) (c line st : Nat) : State :=
  let k := s.core c
  let t := s.modCore c fun x => { x with lines := Bank.set (fun _ => 0) x.lines line st, fills := x.fills.filter (· != line) }
  if k.holds line ≠ 0 then t else if k.fills.contains line then t.fillLine c 2 line else s

/-- The standing that one message changes at the engine (R456, R457): snoops outstanding, and a host that owes an answer. -/
def CohRun.received (r : CohRun) (s : State) (msg : Nat) (a : Agent) : State :=
  let bit := 2 ^ agentNumber a
  match msg, a with
  | 0x19, .core _ => s.modLine r.h r.role r.line fun x => { x with snoops := x.snoops ||| bit, snpInv := true }
  | 0x1A, .core _ => s.modLine r.h r.role r.line fun x => { x with snoops := x.snoops ||| bit, snpInv := false }
  | m, .link _ =>
    if 0x10 ≤ m && m ≤ 0x12 || (r.role = 0 && 1 ≤ m && m ≤ 3) then s.modLine r.h r.role r.line fun x => { x with bisnp := x.bisnp ||| bit } else s
  | _, _ => s

/-- A message reaches a core: a grant changes the line there, and an error to a request faults (R456). -/
def State.coreTakes (s : State) (m : CoreMsg) : State :=
  let t := s.cohSend (.core (Fin.ofNat 16 m.core)) m.msg m.line m.data
  match m.msg with
  | 0x1B => t.coreGrant m.core m.line 1
  | 0x1C => t.coreGrant m.core m.line m.arg
  | 0x1E =>
    let u := t.modCore m.core fun x => { x with fills := x.fills.filter (· != m.line) }
    if (u.core m.core).live then u.coreTrap m.core m.arg (lineAddr m.line) (u.core m.core).pc else u
  | _ => t

/-- The oldest message of half h for the other half's cores lands there against a credit, and enters the core's network at once, which
returns the credit (R478, R479). -/
def State.pumpSnp (s : State) (h : Nat) : State :=
  (List.range (s.cswHalf h).snpOut.length).foldl (fun t _ =>
    match (t.cswHalf h).snpOut with
    | [] => t
    | m :: r =>
      if t.tokensCross && decide (0 < (t.cswHalf h).snpCredit) then
        let u := (t.modCswHalf h fun k => { k with snpOut := r, snpCredit := k.snpCredit - 1 }).modCswHalf (1 - h) fun k => { k with snpLand := k.snpLand ++ [m] }
        ((u.modCswHalf (1 - h) fun k => { k with snpLand := k.snpLand.drop 1 }).modCswHalf h fun k => { k with snpCredit := k.snpCredit + 1 }).coreTakes m
      else t) s

/-- A message from half h to a core, over the causeway where the core is of the other half; across a split it is lost. -/
def State.toCore (s : State) (h : Nat) (m : CoreMsg) : State :=
  if m.core / 8 = h then s.coreTakes m
  else if s.isSplit h then s
  else (s.modCswHalf h fun k => { k with snpOut := k.snpOut ++ [m] }).pumpSnp h

/-- One message leaves for an agent: to a host over its link, with a tag (R406); to a core with the state it is granted or the fault it
takes. -/
def CohRun.deliver (r : CohRun) (s : State) (msg : Nat) (d : Option (BitVec 512)) : Agent → State
  | .link l => s.linkSend l ⟨msg, cohKey r.h r.role r.line, d⟩
  | .core c => s.toCore r.h ⟨c, msg, r.line, if msg = 0x1E then (if r.ev = 1 then 7 else 5)
      else if r.ev = 1 || (s.lineOf r.h r.role r.line).ev = 1 then 3 else 2, d⟩
  | a => s.cohSend a msg r.line d

/-- One message of an entry (R456). -/
def CohRun.doMsg (r : CohRun) (t : CohStep) (msg dest : Nat) : CohStep :=
  if msg = 0 then t
  else { t with s := (r.dests t.s dest).foldl (fun u a => r.received (r.deliver u msg t.out a) msg a) t.s }

/-- The TRACK action of an entry. -/
def CohRun.doTrack (r : CohRun) (s : State) (code : Nat) : State :=
  let tracked := r.role = 0 && (s.exposedAs r.h r.line 2).isSome
  let addHost (b : Nat) (sole : Bool) (u : State) : State :=
    if tracked then u.modLine r.h r.role r.line fun x => { x with hosts := if sole then b else x.hosts ||| b } else u
  match code, r.who with
  | 1, some w => if w < 16 then s.setHolders r.h r.line (s.holders r.h r.line ||| 2 ^ w) else if w < 32 then addHost (2 ^ (w - 16)) false s else s
  | 2, some w => if w < 16 then s.setHolders r.h r.line (2 ^ w) else if w < 32 then addHost (2 ^ (w - 16)) true (s.setHolders r.h r.line 0) else s
  | 3, some w => if w < 16 then s.setHolders r.h r.line (putBits (s.holders r.h r.line) w w 0)
      else if w < 32 then s.modLine r.h r.role r.line fun x => { x with hosts := putBits x.hosts (w - 16) (w - 16) 0 } else s
  | 4, _ => (s.setHolders r.h r.line 0).modLine r.h r.role r.line fun x => { x with hosts := 0 }
  | 5, _ => s.setBias r.h (pageOf r.h r.line) false
  | 6, _ => s.setBias r.h (pageOf r.h r.line) true
  | 7, _ => s.dropCached r.h r.line
  | _, _ => s

/-- The line's transaction is still active after an event: a snoop outstanding, or a transient state. -/
def State.cohActive (s : State) (h role line : Nat) : Bool :=
  let x := s.lineOf h role line
  x.snoops != 0 || x.bisnp != 0 || (role == 1 && decide (4 ≤ x.st))

/-- RULE_MISS (R458): the flag, the first index, and the report. -/
def State.ruleMiss (s : State) (h i : Nat) : State :=
  let t := if s.on (F.COH_STATUS_RULE_MISS h) then s else s.setFld (F.COH_MISS_INDEX h) i
  (t.setFld (F.COH_STATUS_RULE_MISS h) 1).raise { half := h, cls := ERROR, src := 11, code := 1, unit := h, ctx := i }

/-- The fixed fallback of R458; the data of a line that a core has modified is free (Assumption 3). -/
def CohRun.fallback (r : CohRun) (s : State) (i : Nat) : State :=
  let t := s.ruleMiss r.h i
  if r.role = 1 && 8 ≤ r.ev && r.ev ≤ 0x0A then
    let cores := bitsIn (t.holders r.h r.line)
    let t := if cores.any fun c => (t.core c).holds r.line = 3 then t.useFree.writeLine r.line (BitVec.ofNat 512 t.freeVal)
      else match t.cached r.h r.line with
      | some d => if d.dirty then t.writeLine r.line d.data else t
      | none => t
    let t := t.each cores fun c u => u.coreDrops c r.line
    let t := ((t.dropCached r.h r.line).setHolders r.h r.line 0).modLine r.h r.role r.line fun x => { x with st := 0 }
    t.cohSend (.link (Fin.ofNat 16 (t.routeLink r.h))) 0x08 r.line none
  else if r.ev < 0x10 then (r.doMsg { s := t } 0x1E 0).s
  else t

/-- With CACHE of 0 the engine keeps no line: a dirty line that a core writes back goes to the host as DirtyEvict, and waits in MI for the
host's answer (R440). -/
def State.uncached (s : State) (r : CohRun) : State :=
  if s.fld (F.MEM_LAG_PART_CACHE r.h) ≠ 0 then s
  else (s.linkSend (s.routeLink r.h) ⟨0x05, cohKey r.h 1 r.line, r.data⟩).modLine r.h 1 r.line fun y => { y with st := 7 }

/-- One event is looked up and carried out (R454 to R458). -/
def State.lookUp (s : State) (q : CohReq) (h : Nat) : State :=
  let x := s.lineOf h q.role q.line
  let request := decide (q.ev < 0x10)
  let r : CohRun := { h := h, role := q.role, ev := q.ev, line := q.line
                      who := if request then some q.who else x.who, data := q.data.orElse fun _ => x.data }
  let i := s.ruleIndex h q.role q.ev q.line
  let e := s.tableEntry h i
  if !eValid e then r.fallback s i
  else if eWait e then s.modLine h q.role q.line fun y => { y with held := y.held ++ [q] }
  else
    let t := r.doData s (eData e)
    let t := r.doMsg t (eMsgA e) (eDestA e)
    let t := r.doMsg t (eMsgB e) (eDestB e)
    let u := (r.doTrack t.s (eTrack e)).modLine h q.role q.line fun y => { y with st := eNext e }
    let u := if eData e = 5 && (r.ev == 2 || r.ev == 0x17) then u.uncached r else u
    let active := u.cohActive h q.role q.line
    let u := u.modLine h q.role q.line fun y =>
      { y with who := if active then r.who else none, ev := if active then (if request then q.ev else y.ev) else 0, data := if active then r.data else none }
    if eReport e = 0 then u else u.raise { half := h, cls := NOTICE, src := 12, code := eReport e, unit := h, ctx := q.line }

/-! ## Victims (R438, R439, R446) -/

/-- The set of a line in the core filter: 524,288 entries in sets of 16 (R437). -/
def filterSetOf (line : Nat) : Nat := Config.filterSet line % 32768

/-- The set of a line among the tracking entries of mb megabytes: 8,192 sets each (R444). -/
def dirSetOf (mb line : Nat) : Nat := Config.dirSet mb line % (8192 * mb)

/-- The set of a line in a device cache of mb megabytes: 896 sets each (R439). -/
def cacheSetOf (mb line : Nat) : Nat := Config.cacheSet mb line % (896 * mb)

/-- Lines of half h's core filter in one set. -/
def State.filterSetLines (s : State) (h set : Nat) : List Nat :=
  ((s.coreFilter.filter fun p => p.1 / 2 ^ 58 == h && filterSetOf (p.1 % 2 ^ 58) == set).map fun p => p.1 % 2 ^ 58)

/-- The line of a list used least recently, by an order. -/
def oldest (order l : List Nat) : Option Nat := (order.find? fun x => l.contains x).orElse fun _ => l.head?

/-- The role in which half h's engine tracks a line. -/
def State.roleOf (s : State) (line : Nat) : Nat := if (s.homeOf line).isSome then 0 else 1

/-- Core snoops of the line are outstanding in either role of half h. -/
def State.snooped (s : State) (h line : Nat) : Bool := (s.lineOf h 0 line).snoops != 0 || (s.lineOf h 1 line).snoops != 0

/-- Room in the core filter for a new line: a full set raises FILTER_VICTIM for its least recently used entry, unless one of its lines is
being taken back already. -/
def State.filterRoom (s : State) (h line : Nat) : State :=
  let set := s.filterSetLines h (filterSetOf line)
  if s.holders h line ≠ 0 || set.length < 16 || set.any (s.snooped h) then s
  else match oldest (s.coh h).filterOrder set with
    | none => s
    | some v =>
      let role := s.roleOf v
      (s.lookUp { role := role, ev := if role = 0 then 4 else 5, line := v, who := 33 } h).count (F.COH_EVICTS_FILTER_EVICT h) none

/-- The core filter has room for the line. -/
def State.filterFits (s : State) (h line : Nat) : Bool :=
  s.holders h line != 0 || decide ((s.filterSetLines h (filterSetOf line)).length < 16)

/-- Megabytes of tracking entries of half h (R444). -/
def State.dirMb (s : State) (h : Nat) : Nat := s.fld (F.MEM_LAG_PART_DIR h) - bnat (s.anyHdmD h)

/-- Lines of half h tracked for hosts in one set, and all of them. -/
def State.trackedLines (s : State) (h : Nat) : List Nat :=
  ((s.cohLines.filter fun p => p.1 / 2 ^ 58 == 2 * h && p.2.hosts != 0).map fun p => p.1 % 2 ^ 58)
def State.dirSetLines (s : State) (h set : Nat) : List Nat := (s.trackedLines h).filter fun x => dirSetOf (s.dirMb h) x == set

/-- Room in the directory: a full set raises DIR_VICTIM (R446), unless a line of it is being taken back already. -/
def State.dirRoom (s : State) (h line : Nat) : State :=
  let set := s.dirSetLines h (dirSetOf (s.dirMb h) line)
  if (s.lineOf h 0 line).hosts ≠ 0 || set.length < 16 || set.any (fun x => (s.lineOf h 0 x).bisnp != 0) then s
  else match oldest (s.coh h).dirOrder set with
    | none => s
    | some v => (s.lookUp { role := 0, ev := 5, line := v, who := 33 } h).count (F.COH_EVICTS_DIR_EVICT h) none

/-- The directory has room for the line. -/
def State.dirFits (s : State) (h line : Nat) : Bool :=
  (s.lineOf h 0 line).hosts != 0 || decide ((s.dirSetLines h (dirSetOf (s.dirMb h) line)).length < 16)

/-- Lines of half h's device cache in one set; a full set gives up its least recently used line as DC_VICTIM (R439). -/
def State.cacheRoom (s : State) (h line : Nat) : State :=
  let mb := s.fld (F.MEM_LAG_PART_CACHE h)
  let set := ((s.devCache.filter fun p => p.1 / 2 ^ 58 == h && cacheSetOf mb (p.1 % 2 ^ 58) == cacheSetOf mb line).map fun p => p.1 % 2 ^ 58)
  if mb = 0 || (s.cached h line).isSome || set.length < 16 then s
  else match oldest (s.coh h).cacheOrder (set.filter fun v => decide ((s.lineOf h 1 v).st < 4) && !s.snooped h v) with
    | none => s
    | some v => s.lookUp { role := 1, ev := 4, line := v, who := 33 } h

/-! ## Flush (R441) -/

/-- Host-memory lines of half h still reach the host: its route's link is up, in service or draining (R422). -/
def State.routeAlive (s : State) (h : Nat) : Bool := s.on (F.PORT_ROUTE_EN h) && s.linkUp (s.routeLink h)

/-- Half h holds the host-memory line: a core copy, a device-cache line, or a standing with the host. -/
def State.holdsHost (s : State) (h line : Nat) : Bool :=
  s.holders h line != 0 || (s.cached h line).isSome || (s.lineOf h 1 line).st != 0

/-- The host-memory lines held for half h. -/
def State.hostLines (s : State) (h : Nat) : List Nat :=
  ((((List.map Prod.fst s.coreFilter) ++ (List.map Prod.fst s.devCache)).filter fun k => k / 2 ^ 58 == h && hostLine (k % 2 ^ 58)).map (· % 2 ^ 58) ++
    (List.map (fun (p : Nat × CohLine) => p.1 % 2 ^ 58) (s.cohLines.filter fun (p : Nat × CohLine) => p.1 / 2 ^ 58 == 2 * h + 1 && p.2.st != 0))).eraseDups

/-- A FLUSH event for one line that is held and at rest. -/
def State.flushLine (s : State) (h line : Nat) : State :=
  let x := s.lineOf h 1 line
  if s.holdsHost h line && x.snoops == 0 && decide (x.st < 4) then s.lookUp { role := 1, ev := 0x18, line := line, who := 33 } h else s

/-- The new route takes effect, and its command replies (R441). -/
def State.endFlush (s : State) (h : Nat) (f : FlushJob) (aborted : Nat) : State :=
  let t := (s.modCoh h fun c => { c with flush := none }).setFlds
    [(F.PORT_ROUTE_EN h, bnat f.en), (F.PORT_ROUTE_PORT h, f.port), (F.PORT_ROUTE_LINK h, f.link)]
  t.endJobs (fun j => j.opcode == 0x0402 && j.half == h) OK 0 (drainRecord (f.items - aborted) aborted)

/-- A flush with nothing left ends. -/
def State.flushIfEmpty (s : State) (h : Nat) : State :=
  match (s.coh h).flush with
  | some f => if (s.hostLines h).isEmpty then s.endFlush h f 0 else s
  | none => s

/-! ## Requests at the input (R447, R464) -/

/-- A table load quiesces, and the request is held at the input. -/
def State.quiescing (s : State) (h : Nat) : Bool := (s.coh h).load.isSome

/-- After an event: orders of use, the flush, and bias flips. -/
def State.afterEvent (s : State) (h : Nat) (q : CohReq) : State :=
  let t := s.modCoh h fun c => { c with
    filterOrder := if q.who < 16 then touch q.line c.filterOrder else c.filterOrder
    dirOrder := if 16 ≤ q.who && q.who < 32 then touch q.line c.dirOrder else c.dirOrder }
  if q.role = 1 && (t.coh h).flush.isSome then (t.flushLine h q.line).flushIfEmpty h else t

/-- A page in device bias that a host requests flips to host bias once no core holds a line of it (R443). -/
def State.biasToHost (s : State) (h line : Nat) : State :=
  let page := pageOf h line
  let first := line - line % 64
  let t := s.each ((List.range 64).map (first + ·)) fun k u =>
    if u.holders h k ≠ 0 && (u.lineOf h 0 k).snoops = 0 then u.lookUp { role := 0, ev := 0x19, line := k, who := 33 } h else u
  if (List.range 64).all fun k => t.holders h (first + k) == 0 then t.setBias h page false else t

/-- One event past the engine's input (R438, R443, R446, R447). -/
def State.cohTake (s : State) (h : Nat) (q : CohReq) : State :=
  let core := decide (q.who < 16) && decide (q.ev ≤ 1)
  let host := q.role == 0 && decide (8 ≤ q.ev) && decide (q.ev ≤ 0x0C)
  let s1 := if core then s.filterRoom h q.line else s
  let s2 := if host && (s1.exposedAs h q.line 2).isSome && q.ev ≤ 9 then s1.dirRoom h q.line else s1
  let s3 := if host && (s2.exposedAs h q.line 1).isSome && !s2.hostBias h q.line then s2.biasToHost h q.line else s2
  let s4 := if q.role = 1 && 0x11 ≤ q.ev && q.ev ≤ 0x13 then s3.cacheRoom h q.line else s3
  let mustWait := (core && !s4.filterFits h q.line) || (host && q.ev ≤ 9 && (s4.exposedAs h q.line 2).isSome && !s4.dirFits h q.line) ||
    (host && (s4.exposedAs h q.line 1).isSome && !s4.hostBias h q.line)
  if mustWait then s4.modLine h q.role q.line fun y => { y with held := y.held ++ [q] }
  else (s4.lookUp q h).afterEvent h q

/-- Transactions that a role of an engine keeps active at most (R447). -/
def TRANSACTIONS : Nat := 1024

/-- All transactions of a role of half h's engine are in use (R447). -/
def State.cohFull (s : State) (h role : Nat) : Bool :=
  decide (TRANSACTIONS ≤ (s.cohLines.filter fun p => p.1 / 2 ^ 58 == 2 * h + role && s.cohActive h role (p.1 % 2 ^ 58)).length)

/-- Half h's engine does not take the request now. -/
def State.inputHolds (s : State) (h : Nat) (q : CohReq) : Bool :=
  s.quiescing h || s.scratchHeld (lineAddr q.line) || (!s.cohActive h q.role q.line && s.cohFull h q.role)

/-- One request reaches engine h: it stays at the input while a table load quiesces (R464), a partition command changes the scratch
it names (R367) or its role has no transaction left (R447), and behind the requests of its line that are held. -/
def State.cohRequest (s : State) (h : Nat) (q : CohReq) : State :=
  if s.inputHolds h q then s.modCoh h fun c => { c with input := c.input ++ [q] }
  else if !(s.lineOf h q.role q.line).held.isEmpty then s.modLine h q.role q.line fun y => { y with held := y.held ++ [q] }
  else s.cohTake h q

/-- The requests at the input are taken again. -/
def State.retryInput (s : State) (h : Nat) : State :=
  (s.coh h).input.foldl (fun t q => t.cohRequest h q) (s.modCoh h fun c => { c with input := [] })

end Sys2Proof.Machine
end

