-- ==== Sys2Proof/Machine/CswOps.lean ====
section
/-! DEFINITION. The causeway's registers and link groups (13_causeway_and_split, R472 to R477, R484): states, retirement, and the
wait of XHOME_BLOCK. -/

namespace Sys2Proof.Machine

/-! ## The two copies of the block -/

/-- The halves are joined: every write is made to both copies. -/
def State.joined (s : State) : Bool := !s.isSplit 0 && !s.isSplit 1

/-- A field of the causeway block takes a value: in both copies while the halves are joined, else in the copy of half h. -/
def State.cswSet (s : State) (h : Nat) (f : Nat → Fld) (v : Nat) : State :=
  if s.joined then (s.setFld (f 0) v).setFld (f 1) v else s.setFld (f h) v

/-- A field that reports the groups stands alike in both copies. -/
def State.cswShow (s : State) (f : Nat → Fld) (v : Nat) : State := (s.setFld (f 0) v).setFld (f 1) v

/-- States of a group (R493). -/
def G_UP : Nat := 0
def G_TRAINING : Nat := 1
def G_DOWN : Nat := 2
def G_RETIRED : Nat := 3

/-- The state of group g, and whether it carries traffic (R473). -/
def State.groupState (s : State) (g : Nat) : Nat := s.fld (F.CSW_GROUP_STATUS_STATE 0 g)
def State.groupUp (s : State) (g : Nat) : Bool := s.groupState g == G_UP

/-- The mask of groups UP. -/
def State.groupsUp (s : State) : Nat := (List.range 4).foldl (fun m g => m + bnat (s.groupUp g) * 2 ^ g) 0

/-- Group g is the only one UP (R475). -/
def State.onlyUp (s : State) (g : Nat) : Bool := s.groupsUp == 2 ^ g

/-- CSW_STATUS follows the groups (R492): UP, and JOINED or DEGRADED while neither a split nor a reset stands. -/
def State.showGroups (s : State) : State :=
  let m := s.groupsUp
  let t := s.cswShow F.CSW_STATUS_UP m
  t.each [0, 1] fun h u => if u.fld (F.CSW_STATUS_STATE h) ≤ 1 then u.setFld (F.CSW_STATUS_STATE h) (if m = 15 then 0 else 1) else u

/-- Group g takes a state. -/
def State.setGroup (s : State) (g v : Nat) : State := (s.cswShow (fun h => F.CSW_GROUP_STATUS_STATE h g) v).showGroups

/-- A group enters TRAINING (R493). -/
def State.groupTrains (s : State) (g : Nat) : State :=
  (s.each [0, 1] fun h t => t.count (F.CSW_GROUP_STATUS_RETRAIN h g) none).setGroup g G_TRAINING

/-- Flits of group g that are not acknowledged, at both ends (R476). -/
def State.groupFlits (s : State) (g : Nat) : Nat := (s.cswGroup g).replay + (s.cswGroup (4 + g)).replay

/-- The flits of group g are resent on the groups that remain UP (R474), or aborted. -/
def State.dropFlits (s : State) (g : Nat) : State :=
  (s.modCswGroup g fun k => { k with replay := 0 }).modCswGroup (4 + g) fun k => { k with replay := 0 }

/-- GROUP_RETIRED with its cause: 1 error rate, 2 command (R475). -/
def State.reportRetired (s : State) (g cause : Nat) (inj : Bool) : State :=
  (s.raise { half := 0, cls := ERROR, src := 13, code := 1, unit := g, ctx := cause, inj := inj }).assertErr 0

/-- Group g is retired (R475). -/
def State.retireGroup (s : State) (g cause : Nat) (inj : Bool) : State :=
  (((s.dropFlits g).cswShow (fun h => F.CSW_GROUP_STATUS_CAUSE h g) cause).setGroup g G_RETIRED).reportRetired g cause inj

/-- A cause of retirement by error rate: the only group UP stays in service, and the cause is reported (R475). -/
def State.retireByRate (s : State) (g : Nat) (inj : Bool) : State :=
  if s.onlyUp g then s.reportRetired g 1 inj else s.retireGroup g 1 inj

/-- The CSW_RETIRE command's retirement in half h ends: what is left is aborted (R476). -/
def State.endRetire (s : State) (h : Nat) : State :=
  match (s.cswHalf h).retiring with
  | none => s
  | some (g, items) =>
    let left := min items (s.groupFlits g)
    let t := (s.modCswHalf h fun k => { k with retiring := none }).cswSet h F.CSW_CTL_RETIRE 0
    (t.retireGroup g 2 false).endJobs (fun j => j.opcode == 0x0B02 && j.half == h) OK 0 (drainRecord (items - left) left)

/-- A retirement with no flit left ends. -/
def State.retireIfDrained (s : State) : State :=
  s.each [0, 1] fun h t => match (t.cswHalf h).retiring with
    | some (g, _) => if t.groupFlits g = 0 then t.endRetire h else t
    | none => t

/-! ## Cross-homed lines (R484) -/

/-- Lines that a core holds and whose home is the other half. -/
def State.crossLines (s : State) : Nat :=
  (s.coreFilter.filter fun p => if p.1 / 2 ^ 58 = 0 then bitsOf p.2 15 8 != 0 else bitsOf p.2 7 0 != 0).length

/-- CSW_XHOME with BLOCK 1 completes once the filters show no such line (R530). -/
def State.xhomeSettle (s : State) : State :=
  let mine (j : Job) : Bool := j.opcode == 0x0B01
  match s.jobs.find? mine with
  | some j => if s.crossLines = 0 then (s.cswSet j.half F.CSW_CTL_XHOME_BLOCK 1).endJobs mine OK 0 [] else s
  | none => s

end Sys2Proof.Machine
end

