-- ==== Sys2Proof/Machine/Queues.lean ====
section
/-! DEFINITION. The queue-block commands: the fabric ends, the queue windows, flushes, settings and bindings
(04_queues_and_crossings). -/

namespace Sys2Proof.Machine

/-- The fabric write end may take a unit in the sluice state (R235, R244): in CLOSING, only of a packet in progress; a packet
that is dropped is acknowledged to its END in every state (R152, R245). -/
def State.writeEndPasses (s : State) (d : Nat) : Bool :=
  s.sluice (panOfQueue d) == OPEN || (s.sluice (panOfQueue d) == CLOSING && (s.queue d).writing.isSome) || (s.queue d).dropping

/-- The watch point of the fabric end of queue d, and its channel (R72, R135): 0 the write channel, 1 the read channel. -/
def queuePoint (d e : Nat) : Nat := 320 + 2 * qOf d + e
def queuePort (d e : Nat) : Nat := chanOfPoint (panOfQueue d) (queuePoint d e)

/-- The unit in a token of the write channel (R135): DATA lowest, then END, CLASS and NULL. -/
def QBlock.unitIn (q : QBlock) (x : Nat) : QUnit :=
  let w := 8 * q.unitBytes
  { data := BitVec.ofNat 32 (x % 2 ^ w), last := bitOf x w, cls := bitOf x (w + 1), null := bitOf x (w + 2) }

/-- The unit offered at the write end: that of the grains that drive the channel, once one waits there, or u. -/
def State.offeredUnit (s : State) (d : Nat) (u : QUnit) : Option QUnit :=
  if (s.drivers (queuePort d 0)).isEmpty then some u else (s.portToken (queuePort d 0) 0).map (s.queue d).unitIn

/-- The fabric offers unit u at the write end of queue d: taken, or held unacknowledged. -/
def State.offerUnit (s : State) (d : Nat) (u : QUnit) : State :=
  let r := if s.writeEndPasses d then s.writeUnit d u else (s, false)
  if r.2 then
    (((r.1.modQueue d fun q => { q with waiting := none }).takeToken (queuePort d 0)).portMoved (panOfQueue d) (queuePoint d 0)).reply .done
  else (s.modQueue d fun q => { q with waiting := some u }).reply .stalled

/-- QUEUE_WRITE_UNIT (R139): the fabric write end of an OUT queue is offered one unit. A unit already held stays. -/
def execQueueWriteUnit (d : Fin 1024) (data : Word) (last cls null : Bool) (s : State) : Out :=
  .next (if s.fabricEnd d == .readEnd || (s.queue d).waiting.isSome then s.reply .stalled
    else match s.offeredUnit d { data := data, last := last, cls := cls, null := null } with
      | some u => s.offerUnit d u
      | none => s.reply .stalled)

/-- QUEUE_CREDIT_ACK (R145): the unit a write end holds is taken once there is room. -/
def execQueueCreditAck (d : Fin 1024) (s : State) : Out :=
  .next (match (s.queue d).waiting with
    | none => s
    | some u => s.offerUnit d u)

/-- A token of the read channel (R135): DATA, VB, END, CLASS, IDLE and CUT, lowest first, 72 pairs. -/
def itemToken (data : Dword) (vb : Nat) (last cls idle cut : Bool) : Nat :=
  data.toNat + (vb % 16) * 2 ^ 64 + bnat last * 2 ^ 68 + bnat cls * 2 ^ 69 + bnat idle * 2 ^ 70 + bnat cut * 2 ^ 71

/-- The read end offers the fabric an item. -/
def State.giveItem (s : State) (d : Nat) (data : Dword) (vb : Nat) (last cls idle cut : Bool) : State :=
  ((s.giveToken (queuePort d 1) 72 (itemToken data vb last cls idle cut)).portMoved (panOfQueue d) (queuePoint d 1)).reply
    (.item data vb last cls idle cut)

/-- The fabric read end delivers the next word, or in normal service the idle item (R143, R149, R150). -/
def State.readFabric (s : State) (d : Nat) : State :=
  let q := s.queue d
  match q.takeWord with
  | some (cls, w, q') => ((s.setQueue d q').noteDrained d true cls w.last).giveItem d w.data w.vb w.last cls false q.cut
  | none =>
    if s.qbService d then (s.setQueue d { q with cut := false }).giveItem d q.idle 0 false (q.reading.getD false) true q.cut
    else s.reply .stalled

/-- QUEUE_READ_WORD (R143): the fabric read end of an IN queue takes the next word or idle item, where the sluice passes
it (R235), its channel is free and no exchange runs (R165). -/
def execQueueReadWord (d : Fin 1024) (s : State) : Out :=
  .next (if s.fabricEnd d == .readEnd && (s.queue d).sync.isNone && s.portFree (queuePort d 1) &&
      (s.sluice (panOfQueue d) == OPEN || s.sluice (panOfQueue d) == CLOSING) then s.readFabric d
    else s.reply .stalled)

/-- A DATA read of the window of an OUT queue: one word with its tags, the idle item, or the guarded-service value
(R149, R150, R153). -/
def State.popWindow (s : State) (d : Nat) : State :=
  let q := s.queue d
  match (if q.sync.isSome then none else q.takeWord) with
  | some (cls, w, q') =>
    let t := tagWord q.cut false false false cls w.last w.vb
    ((s.setQueue d { q' with tag := t }).noteDrained d false cls w.last).reply (.tagged w.data t)
  | none =>
    if s.qbService d then
      let t := tagWord q.cut true false false (q.reading.getD false) false 0
      (s.setQueue d { q with cut := false, tag := t }).reply (.tagged q.idle t)
    else
      let t := tagWord false false true true false false 0
      ((s.setQueue d { q with tag := t }).setFld (F.PAN_QB_STATUS_UNDERRUN (panOfQueue d) (qOf d)) 1).reply (.tagged q.lastWord t)

/-- A window access by an agent that may not make it, or of the wrong form: no effect, zero, and a NOTICE (R134, R153). -/
def State.windowMisuse (s : State) (d : Nat) (a : Agent) (code off : Nat) : State :=
  (s.misuse a code (QUEUE_WINDOWS + windowOffset d off)).reply (.word 0)

/-- The packets of a class whose END word is stored and which the read end has not started (R144). -/
def QBlock.unstarted (q : QBlock) (cls : Bool) : Nat := (q.seg cls).ends - bnat (q.reading == some cls)

/-- COUNT of a queue window. -/
def countWord (q : QBlock) : Nat :=
  q.seg0.words.length + q.seg1.words.length * 2 ^ 16 + q.unstarted false * 2 ^ 32 + q.unstarted true * 2 ^ 48

/-- The data of an item read. -/
def Answer.data : Answer → Nat
  | .tagged d _ => d.toNat
  | .num n => n
  | _ => 0

/-- An aligned 64-bit read of queue d's window, by an agent that may make it. -/
def State.readWindow (s : State) (d off : Nat) : State × Nat :=
  let q := s.queue d
  match off with
  | 0x00 => if s.fabricEnd d == .readEnd then (s, 0) else let t := s.popWindow d; (t, t.answer.data)
  | 0x08 => (s, q.tag.toNat)
  | 0x10 => (s, countWord q)
  | 0x18 => (s, q.lost0 + q.lost1 * 2 ^ 16 + q.discards * 2 ^ 32)
  | 0x20 => (s, q.idle.toNat)
  | 0x28 => (s, q.hiWords)
  | _ => (s, 0)

/-- Queue d lies in the other half than agent a, and the part is split (R134, R484). -/
def State.queueCutOff (s : State) (d : Nat) (a : Agent) : Bool := halfOfQueue d != agentHalf a && s.isSplit (agentHalf a)

/-- An access to a window of a half that the split has cut off is unmapped (R362, R484). -/
def State.windowGone (s : State) (d : Nat) (a : Agent) (off : Nat) : State :=
  (s.unmappedNotice a (QUEUE_WINDOWS + windowOffset d off)).reply (.word 0)

/-- A read of the 64-bit word off of queue d's window (R153); DATA of an OUT queue pops, and of an IN queue gives zero. -/
def State.windowPop (s : State) (d : Nat) (a : Agent) (off : Nat) : State :=
  if s.queueCutOff d a then s.windowGone d a (8 * off)
  else if !s.mayAccess d a false then s.windowMisuse d a 5 (8 * off)
  else if off = 0 then (if s.fabricEnd d == .readEnd then s.reply (.tagged 0 (s.queue d).tag) else s.popWindow d)
  else s.reply (.num (s.readWindow d (8 * off)).2)

/-- The unit a DATA write carries (R153). -/
def pushUnit (v : Dword) (disp : Nat) : QUnit :=
  { data := v.truncate 32, last := v.getLsbD 32, cls := v.getLsbD 33, null := v.getLsbD 34, disp := disp }

/-- A clocked push of unit u to IN queue d: refused by a sluice that is not open (R236), taken, or held (R147). -/
def State.pushClocked (s : State) (d : Nat) (u : QUnit) : State :=
  if s.sluice (panOfQueue d) ≠ OPEN then (s.sluiceRefused (panOfQueue d) 0).reply .refused
  else
    let r := if (s.queue d).pushes.isEmpty then s.writeUnit d u else (s, false)
    if r.2 then r.1.reply .done
    else (s.modQueue d fun q => { q with pushes := q.pushes ++ [u] }).reply .stalled

/-- A DATA write to queue d's window (R153); to an OUT queue it has no effect and raises a NOTICE. -/
def State.windowPush (s : State) (d : Nat) (a : Agent) (v : Dword) : State :=
  if s.queueCutOff d a then s.windowGone d a 0
  else if !s.mayAccess d a true then s.windowMisuse d a 5 0
  else if s.fabricEnd d == .writeEnd then s.windowMisuse d a 6 0
  else s.pushClocked d (pushUnit v 0)

/-- QUEUE_PUSH_RESUME (R147): the oldest held push completes once its word is free; a sluice that has closed meanwhile
refuses it (R235). Where none is held, the coprocessor port that uses the queue pushes what it has (R342). -/
def execQueuePushResume (d : Fin 1024) (s : State) : Out :=
  .next (match (s.queue d).pushes with
    | [] => s.copRoom d
    | u :: r =>
      let t := s.writeUnit d u
      if s.sluice (panOfQueue d) ≠ OPEN then
        ((s.modQueue d fun q => { q with pushes := r }).sluiceRefused (panOfQueue d) 0).reply .refused
      else if t.2 then (t.1.modQueue d fun q => { q with pushes := r }).reply .done else s)

/-- QUEUE_PUSH_TIMEOUT (R147): the oldest held push completes without effect; OVERRUN sets and a NOTICE is raised. -/
def execQueuePushTimeout (d : Fin 1024) (s : State) : Out :=
  .next (match (s.queue d).pushes with
    | [] => s
    | _ :: r =>
      ((((s.modQueue d fun q => { q with pushes := r }).setFld (F.PAN_QB_STATUS_OVERRUN (panOfQueue d) (qOf d)) 1).raise
        { half := halfOfQueue d, cls := NOTICE, src := 5, code := 3, unit := panOfQueue d, ctx := qOf d }).reply .refused))

/-- QUEUE_WINDOW_MISUSE (R134, R153): an access that is not an aligned 64-bit one, or by an agent not bound. -/
def execQueueWindowMisuse (d : Fin 1024) (a : Agent) (off : Fin 64) (aligned push : Bool) (s : State) : Out :=
  .next (s.fromAgent a (if !aligned then s.windowMisuse d a 6 off
    else if !s.mayAccess d a push then s.windowMisuse d a 5 off
    else s))

/-- A write to LOST of queue d's window (R153): any value zeroes the three counters and clears SAT. -/
def State.lostClear (s : State) (d : Nat) (a : Agent) : State :=
  if s.queueCutOff d a then s.windowGone d a 0x18
  else if !s.mayAccess d a true then s.windowMisuse d a 5 0x18
  else ((s.modQueue d fun q => { q with lost0 := 0, lost1 := 0, discards := 0 }).setFld
    (F.PAN_QB_STATUS_SAT (panOfQueue d) (qOf d)) 0).reply .done

/-- A write of the idle item of queue d's window (R153). -/
def State.idleSet (s : State) (d : Nat) (a : Agent) (v : Dword) : State :=
  if s.queueCutOff d a then s.windowGone d a 0x20
  else if !s.mayAccess d a true then s.windowMisuse d a 5 0x20
  else (s.modQueue d fun q => { q with idle := v }).reply .done

/-- The QUEUE_FLUSH commands that the step from s to t completes: a queue flush and segment flushes that have taken effect, with
the packets of s discarded; NOTHING_DONE where s had nothing to flush (R151, R152, R521). -/
def State.flushesDone (s t : State) (d : Nat) : State :=
  let q := s.queue d
  let seg (u : State) (cls : Bool) : State :=
    if s.on (segFlushFld d cls) && !t.on (segFlushFld d cls) then
      u.endJobs (fun j => j.opcode == 0x0105 && j.unit == d && j.aux == bnat (!cls) + 1) OK (if q.segEmpty cls then NOTHING_DONE else 0)
        (leBytes 4 (q.packets cls))
    else u
  let u := if q.flushDue && !(t.queue d).flushDue then
      t.endJobs (fun j => j.opcode == 0x0105 && j.unit == d && j.aux == 0) OK (if q.idleEmpty then NOTHING_DONE else 0) (leBytes 4 q.items)
    else t
  seg (seg u true) false

/-- QB_FLUSH (R152). -/
def execQbFlush (d : Fin 1024) (s : State) : Out := .next (s.flushesDone (s.requestFlush d) d)

/-- QB_FLUSH_HI (R151). -/
def execQbFlushHi (d : Fin 1024) (s : State) : Out := .next (s.flushesDone (s.requestSegFlush d true) d)

/-- QB_FLUSH_LO (R151). -/
def execQbFlushLo (d : Fin 1024) (s : State) : Out := .next (s.flushesDone (s.requestSegFlush d false) d)

/-- SEGMENT_FLUSH_EFFECT (R151): a pending segment flush takes effect, ending the QUEUE_FLUSH that waits for it. -/
def execSegmentFlushEffect (d : Fin 1024) (cls : Bool) (s : State) : Out :=
  .next (s.flushesDone (s.trySegFlush d cls) d)

/-- QUEUE_SETTING_APPLY (R155): a changed MODE or WIDTH takes effect when the write end is outside a packet. -/
def execQueueSettingApply (d : Fin 1024) (s : State) : Out := .next (s.settingsIfOutside d)

/-- QUEUE_RESYNC_DONE (R165): the exchange completes, and the flushes asked for meanwhile act on what it left (R167). -/
def execQueueResyncDone (d : Fin 1024) (s : State) : Out :=
  .next (match (s.queue d).sync with
    | none => s
    | some e =>
      let t := s.agreed d e
      (t.flushesDone (t.dueFlushes d) d).copRoom d)

/-- QUEUE_REBIND_DRAINED (R158): the packets waiting are drained, the save area taking what it can, and the new binding
starts where none is left. -/
def execQueueRebindDrained (d : Fin 1024) (s : State) : Out :=
  .next (match (s.queue d).rebind with
    | none => s
    | some _ =>
      let t := s.saveWords d 1024
      match (t.queue d).rebind with
      | none => t
      | some r => if r.left.total = 0 then t.endRebind d r else t)

/-- QUEUE_REBIND_TIMEOUT (R158). -/
def execQueueRebindTimeout (d : Fin 1024) (s : State) : Out := .next (s.timeoutRebind d)

/-! ## The commands of R521 -/

/-- The class that a KIND of QUEUE_FLUSH names: 1 the class 1 segment, 2 the class 0 segment. -/
def flushClass (kind : Nat) : Bool := kind == 1

/-- QUEUE_FLUSH of R521. -/
def cmdQueueFlush : Cmd where
  opcode := 0x0105
  cls := .long
  scopes := [3]
  size := fun _ => 4
  fields := [rangeField 0 1 0 2, zeroField 1 3]
  check := fun s r =>
    let q := s.queue r.idx
    if (if r.p.u8 0 = 0 then q.idleEmpty else q.segEmpty (flushClass (r.p.u8 0))) then already (leBytes 4 0) else none
  run := fun s r =>
    let d := r.idx
    let kind := r.p.u8 0
    if kind = 0 then
      let t := s.flushesDone (s.requestFlush d) d
      if (t.queue d).flushDue then .job t (longJob r (s.queue d).items [r.p.target.toNat] d 0)
      else ok t (leBytes 4 (s.queue d).items)
    else
      let cls := flushClass kind
      let t := s.flushesDone (s.requestSegFlush d cls) d
      if t.on (segFlushFld d cls) then .job t (longJob r ((s.queue d).packets cls) [r.p.target.toNat] d kind)
      else ok t (leBytes 4 ((s.queue d).packets cls))

/-- QUEUE_FLUSH (R521). -/
def execQueueFlush (p : Packet) (s : State) : Out := .next (s.deliver cmdQueueFlush p)

/-- QUEUE_BIND of R521. -/
def cmdQueueBind : Cmd where
  opcode := 0x0106
  cls := .long
  scopes := [3]
  size := fun _ => 24
  fields := [rangeField 0 1 0 7, rangeField 1 1 0 15, zeroField 2 6,
    addrOrNone 8 2 fun r => r.p.u64 16,
    { off := 16, len := 8, ok := fun _ r => r.p.u64 8 == 0 || (r.p.u64 16 != 0 && r.p.u64 16 % 16 == 0) }]
  check := fun s r =>
    let p := panOfQueue r.idx
    let q := qOf r.idx
    if (s.queue r.idx).rebind.isSome then refusal S_BUSY D_HELD
    else if s.fld (F.PAN_QB_WINDOW_KIND p q) = r.p.u8 0 && s.fld (F.PAN_QB_WINDOW_INDEX p q) = r.p.u8 1 then already (drainRecord 0 0 ++ leBytes 8 0)
    else none
  run := fun s r =>
    let d := r.idx
    let items := if s.fabricEnd d == .readEnd then 0 else (s.queue d).items
    let t := s.changeBinding d (r.p.u8 0) (r.p.u8 1) (r.p.u64 8) (r.p.u64 16) true
    if (t.queue d).rebind.isSome then .job t (longJob r items [r.p.target.toNat] d)
    else ok t (drainRecord 0 items ++ leBytes 8 0)

/-- QUEUE_BIND (R158). -/
def execQueueBind (p : Packet) (s : State) : Out := .next (s.deliver cmdQueueBind p)

end Sys2Proof.Machine
end

