-- ==== Sys2Proof/Machine/Rakes.lean ====
section
/-! DEFINITION. The rake commands: the instructions of a rake's program, attention, its channels, its doorbell, injections
and stops (05_rake_datapath, 06_rake_sequencer). -/

namespace Sys2Proof.Machine

/-- STEP (R172). -/
def execStep (r : Fin 4096) (s : State) : Out := .next (s.runStep r)

/-- NOP (R200). -/
def execNop (r : Fin 4096) (s : State) : Out := .next (s.runControl r 0)

/-- REP (R204). -/
def execRep (r : Fin 4096) (s : State) : Out := .next (s.runControl r 1)

/-- BR (R202). -/
def execBr (r : Fin 4096) (s : State) : Out := .next (s.runControl r 2)

/-- DBNZ (R203). -/
def execDbnz (r : Fin 4096) (s : State) : Out := .next (s.runControl r 3)

/-- SETR (R206). -/
def execSetr (r : Fin 4096) (s : State) : Out := .next (s.runControl r 4)

/-- RESCALE (R193). -/
def execRescale (r : Fin 4096) (s : State) : Out := .next (s.runControl r 5)

/-- CLRF (R200). -/
def execClrf (r : Fin 4096) (s : State) : Out := .next (s.runControl r 6)

/-- ATOM (R219). -/
def execAtom (r : Fin 4096) (s : State) : Out := .next (s.runControl r 7)

/-- ENDATOM (R219). -/
def execEndatom (r : Fin 4096) (s : State) : Out := .next (s.runControl r 8)

/-- RETA (R217). -/
def execReta (r : Fin 4096) (s : State) : Out := .next (s.runControl r 9)

/-- RESUME (R221). -/
def execResume (r : Fin 4096) (s : State) : Out := .next (s.runControl r 10)

/-- WAIT (R218). -/
def execWaitCmd (r : Fin 4096) (s : State) : Out := .next (s.runControl r 11)

/-- HALT (R227). -/
def execHalt (r : Fin 4096) (s : State) : Out := .next (s.runControl r 12)

/-- SEGEND (R207). -/
def execSegend (r : Fin 4096) (s : State) : Out := .next (s.runControl r 13)

/-- NOTE (R200). -/
def execNote (r : Fin 4096) (s : State) : Out := .next (s.runControl r 14)

/-- ILLEGAL_INSTRUCTION (R225). -/
def execIllegalInstruction (r : Fin 4096) (s : State) : Out :=
  .next (if s.issues r && (s.rake r).illegal then s.illegalStop r else s)

/-- ATTENTION_ENTRY (R216). -/
def execAttentionEntry (r : Fin 4096) (s : State) : Out :=
  .next (match (s.rake r).event with
    | some (src, code) => if s.executes r && (s.rake r).takes then ((s.modRake r (·.enter src code)).endStep r) else s
    | none => s)

/-- COMMIT_ENTRY (R219). -/
def execCommitEntry (r : Fin 4096) (s : State) : Out :=
  .next (match (s.rake r).event with
    | some (src, code) => if s.executes r && (s.rake r).commits then ((s.modRake r (·.commit src code)).endStep r) else s
    | none => s)

/-- The watch point of a channel of rake r, and the channel (R72, R187): 0 inbound, 1 result. -/
def rakePoint (r e : Nat) : Nat := 328 + 2 * rOf r + e
def rakePort (r e : Nat) : Nat := chanOfPoint (panOfRake r) (rakePoint r e)

/-- The token on rake r's inbound channel is acknowledged where it can be; one that `held` brings stays on the channel (R188). -/
def State.takeInbound (s : State) (r data : Nat) (attn held : Bool) : State :=
  let k := { s.rake r with inbound := some (data, attn) }.absorb
  if k.inbound.isNone then (((s.setRake r k).takeToken (rakePort r 0)).portMoved (panOfRake r) (rakePoint r 0)).reply .done
  else (if held then s.setRake r k else s).reply .stalled

/-- The fabric offers a token on rake r's inbound channel: that of the grains that drive the channel, DATA lowest and ATTN above it,
or the one given (R187, R188); a rake that drains a stop takes none (R33). -/
def State.offerRake (s : State) (r data : Nat) (attn : Bool) : State :=
  if (s.rake r).inbound.isSome || (s.rake r).stopping.isSome || !s.panRuns (panOfRake r) then s.reply .stalled
  else if (s.drivers (rakePort r 0)).isEmpty then s.takeInbound r data attn true
  else match s.portToken (rakePort r 0) 0 with
    | some x => s.takeInbound r (x % 2 ^ 36) (bitOf x 36) false
    | none => s.reply .stalled

/-- RAKE_INBOUND_TOKEN (R188). -/
def execRakeInboundToken (r : Fin 4096) (data : BitVec 36) (s : State) : Out := .next (s.offerRake r data.toNat false)

/-- RAKE_FABRIC_ATTENTION (R210). -/
def execRakeFabricAttention (r : Fin 4096) (data : BitVec 36) (s : State) : Out := .next (s.offerRake r data.toNat true)

/-- RAKE_RESULT_TAKEN (R189): the token's DATA, with KIND above it; a stop counts it as drained (R228). -/
def execRakeResultTaken (r : Fin 4096) (s : State) : Out :=
  .next (match (if s.panRuns (panOfRake r) && s.portFree (rakePort r 1) then (s.rake r).resBuf else []) with
    | [] => s.reply .stalled
    | (d, rec) :: rest =>
      let t := s.modRake r fun k => { k with resBuf := rest, stopping := k.stopping.map (· + 1) }
      let t := (t.giveToken (rakePort r 1) 37 (d + bnat rec * 2 ^ 36)).portMoved (panOfRake r) (rakePoint r 1)
      ((t.when ((s.rake r).sq.segDue == 1) (·.pumpSegment r)).endStep r).reply (.num (d + bnat rec * 2 ^ 36)))

/-- The agents that reach the doorbells of pan n (R212). -/
def ringsPan (n : Nat) : Agent → Bool
  | .core _ => true
  | .sched h => h.val == halfOfPan n
  | .mgmt h => h.val == halfOfPan n
  | _ => false

/-- The control address of a rake's doorbell (R211). -/
def doorbellAddr (r : Nat) : Nat := RAKE_DOORBELLS + r * 8

/-- What a doorbell read returns (R211). -/
def State.doorbellWord (s : State) (r : Nat) : Nat :=
  let k := s.rake r
  k.extQ.length + bnat k.latch.isSome * 8 + bnat (s.on (activeBit r)) * 16 + bnat k.sq.inWait * 32

/-- An EXT event is posted: queued, or dropped with ATTN_LOST (R213); a rake that drains a stop refuses it (R33, Assumption 57). -/
def State.postExt (s : State) (r code : Nat) : State :=
  let k := s.rake r
  if s.sluice (panOfRake r) ≠ OPEN then (s.sluiceRefused (panOfRake r) 1).reply .refused
  else if k.stopping.isSome then s.reply .refused
  else if k.extQ.length < 4 then (s.setRake r { k with extQ := k.extQ ++ [code] }).reply .done
  else (s.rakeExc r 6 k.sq.pc).reply .refused

/-- An aligned access to rake r's doorbell by an agent of R212 (R211); write false is the read. -/
def State.doorbell (s : State) (r : Nat) (a : Agent) (write : Bool) (v : Dword) : State :=
  if !ringsPan (panOfRake r) a then (s.misuse a 5 (doorbellAddr r)).reply (.word 0)
  else if agentHalf a != halfOfRake r && s.isSplit (agentHalf a) then (s.unmappedNotice a (doorbellAddr r)).reply (.word 0)
  else if write then s.postExt r (v.toNat % 256)
  else s.reply (.num (s.doorbellWord r))

/-- DOORBELL_MISUSE (R211, R212): not an aligned 64-bit access, or an agent without access. -/
def execDoorbellMisuse (r : Fin 4096) (a : Agent) (off : Fin 8) (aligned : Bool) (s : State) : Out :=
  .next (s.fromAgent a (if !aligned then (s.misuse a 6 (doorbellAddr r + off)).reply (.word 0)
    else if !ringsPan (panOfRake r) a then (s.misuse a 5 (doorbellAddr r)).reply (.word 0)
    else s))

/-! ## Injections (R231, R232) -/

/-- An injection into rake r is refused. -/
def State.rakeInjectRefused (s : State) (r : Nat) : Bool :=
  !(s.on (runBit r) && s.on (activeBit r)) || s.fld (F.PAN_PWR_STATUS_STATE (panOfRake r)) == 2 || s.sluice (panOfRake r) == RELOADING

/-- The effect of writing INJECT with a kind for rake r; the bit stays set while an injection is armed, and a second one is taken beside
it (Assumption 57). -/
def State.rakeInject (s : State) (r kind : Nat) : State :=
  let n := panOfRake r
  let pc := (s.rake r).sq.pc
  if s.rakeInjectRefused r || decide (5 ≤ kind) then s.setFlds [(F.PAN_RAKE_CTL_INJECT n, 0), (F.PAN_RAKE_CTL_INJ_REFUSED n, 1)]
  else match kind with
    | 0 => (s.modRake r fun k => { k with armPar := true }).setFld (F.PAN_RAKE_CTL_INJECT n) 1
    | 1 => ((s.modRake r fun k => { k with dp := { k.dp with ovf := k.dp.ovf.set 0 true } }).setFld (F.PAN_RAKE_CTL_INJECT n) 0).rakeExc r 2 pc true
    | 2 => ((s.modRake r fun k => { k with dp := { k.dp with sat := true } }).setFld (F.PAN_RAKE_CTL_INJECT n) 0).rakeExc r 3 pc true
    | 3 => ((s.modRake r fun k => { k with dp := { k.dp with exptSat := true } }).setFld (F.PAN_RAKE_CTL_INJECT n) 0).rakeExc r 4 pc true
    | _ => (s.modRake r fun k => { k with armIll := true }).setFld (F.PAN_RAKE_CTL_INJECT n) 1

/-- The fields of a write to PAN[n]_RAKE_CTL that injects into rake r. -/
def State.injFields (s : State) (r kind : Nat) : State :=
  s.setFlds [(F.PAN_RAKE_CTL_INJ_RAKE (panOfRake r), rOf r), (F.PAN_RAKE_CTL_INJ_KIND (panOfRake r), kind)]

/-- RAKE_INJECT_PAR (R231). -/
def execRakeInjectPar (r : Fin 4096) (s : State) : Out := .next ((s.injFields r 0).rakeInject r 0)

/-- RAKE_INJECT_OVF (R231). -/
def execRakeInjectOvf (r : Fin 4096) (s : State) : Out := .next ((s.injFields r 1).rakeInject r 1)

/-- RAKE_INJECT_SAT (R231). -/
def execRakeInjectSat (r : Fin 4096) (s : State) : Out := .next ((s.injFields r 2).rakeInject r 2)

/-- RAKE_INJECT_EXPT_SAT (R231). -/
def execRakeInjectExptSat (r : Fin 4096) (s : State) : Out := .next ((s.injFields r 3).rakeInject r 3)

/-- RAKE_INJECT_ILLEGAL (R231). -/
def execRakeInjectIllegal (r : Fin 4096) (s : State) : Out := .next ((s.injFields r 4).rakeInject r 4)

/-! ## RAKE_RUN and the end of a stop (R228, R229, R521) -/

/-- Some rake of pan n drains a stop. -/
def State.rakesStopping (s : State) (n : Nat) : Bool := (List.range 16).any fun i => (s.rake (n * 16 + i)).stopping.isSome

/-- Count a finished stop in the pan's RAKE_RUN command, and end it when no rake of the pan drains. -/
def State.noteStop (s : State) (n drained aborted : Nat) : State :=
  let mine (j : Job) : Bool := j.opcode == 0x0107 && j.unit == n
  let t := s.modJobs mine fun j => { j with done := j.done + drained + aborted, aux := j.aux + aborted }
  if t.rakesStopping n then t else t.endJobsBy mine fun j => drainRecord (j.done - j.aux) j.aux

/-- A stop ends. -/
def State.endStop (s : State) (r : Nat) : State :=
  let t := s.finishStop r
  t.1.noteStop (panOfRake r) t.2.1 t.2.2

/-- The rakes of pan n stop with the pan: a stop in progress ends, and what is armed is dropped (R232, R233, R258). -/
def State.restRakes (s : State) (n : Nat) : State :=
  (s.each ((List.range 16).map (n * 16 + ·)) fun r t =>
    let t := if (t.rake r).stopping.isSome then t.endStop r else t
    (t.modRake r fun k => { k with halt := 0 }).dropArmed r).setFld (F.PAN_RAKE_STATUS_ACTIVE n) 0

/-- RAKE_STOP_DRAINED (R228). -/
def execRakeStopDrained (r : Fin 4096) (s : State) : Out :=
  .next (if (s.rake r).stopping.isSome && (s.rake r).resBuf.isEmpty then s.endStop r else s)

/-- RAKE_STOP_TIMEOUT (R228). -/
def execRakeStopTimeout (r : Fin 4096) (s : State) : Out :=
  .next (if (s.rake r).stopping.isSome then s.endStop r else s)

/-- The rakes of pan n in a mask, as device numbers. -/
def rakesIn (n mask : Nat) : List Nat := ((List.range 16).filter fun i => bitOf mask i).map (n * 16 + ·)

/-- The RUN bit of rake r is cleared: a running rake stops, at once where nothing is in flight or DRAIN_US is 0 (R228, R34). -/
def State.stopRake (s : State) (r : Nat) : State :=
  if s.on (runBit r) && s.on (activeBit r) then
    let t := s.beginStop r
    if (t.rake r).stopItems = 0 || t.fld (F.PAN_SLUICE_DRAIN_DRAIN_US (panOfRake r)) = 0 then (t.finishStop r).1 else t
  else s.setFld (runBit r) 0

/-- Set and clear RUN bits of pan n (R228, R229); a stopped rake is left alone. -/
def State.runRakes (s : State) (n start stop : Nat) : State :=
  let t := s.each (rakesIn n stop) fun r u => u.stopRake r
  t.each (rakesIn n start) fun r u => u.restartRake r

/-- RAKE_RUN of R521. -/
def cmdRakeRun : Cmd where
  opcode := 0x0107
  cls := .long
  scopes := [2]
  size := fun _ => 4
  fields := [{ off := 2, len := 2, ok := fun _ r => (r.p.u16 0 &&& r.p.u16 2) == 0 }]
  check := fun s r => if r.p.u16 0 = 0 && r.p.u16 2 = 0 then already (drainRecord 0 0)
    else if r.p.u16 0 ≠ 0 && !s.on (F.PAN_IMAGE_ID_VALID r.idx) then refusal S_STATE else none
  run := fun s r =>
    let t := s.runRakes r.idx (r.p.u16 0) (r.p.u16 2)
    let items := ((rakesIn r.idx (r.p.u16 2)).map fun i => if s.on (runBit i) && s.on (activeBit i) then (s.rake i).stopItems else 0).foldl (· + ·) 0
    if t.rakesStopping r.idx then .job t (longJob r items [r.p.target.toNat] r.idx)
    else ok t (drainRecord 0 items)

/-- RAKE_RUN (R228). -/
def execRakeRun (p : Packet) (s : State) : Out := .next (s.deliver cmdRakeRun p)

end Sys2Proof.Machine
end

