-- ==== Sys2Proof/Machine/Crossing.lean ====
section
/-! DEFINITION. Requests that cross the causeway (13_causeway_and_split, R478, R479, R485): the request landing buffers and their credits,
and the accesses to memory, queue windows and doorbells that may cross. -/

namespace Sys2Proof.Machine

/-! ## A crossing request -/

/-- A request is served in half h. -/
def State.serveReq (s : State) (h : Nat) : CrossReq → State
  | .coh q => s.cohRequest h q
  | .mem x => s.access x
  | .pop d a off => s.windowPop d a off
  | .push d a v => s.windowPush d a v
  | .lostClear d a => s.lostClear d a
  | .idleSet d a v => s.idleSet d a v
  | .doorbell r a write v => s.doorbell r a write v

/-- Half h's network has room for the request: a coherence request needs its engine's input (R447, R464); other requests always find
room. -/
def State.reqRoom (s : State) (h : Nat) : CrossReq → Bool
  | .coh q => !s.inputHolds h q
  | _ => true

/-- Who waits for the answer of a request, and the address it names; a coherence request is answered by messages. -/
def CrossReq.asker : CrossReq → Option (Agent × Nat)
  | .coh _ => none
  | .mem x => some (x.agent, x.addr)
  | .pop d a off => some (a, QUEUE_WINDOWS + windowOffset d (8 * off))
  | .push d a _ => some (a, QUEUE_WINDOWS + windowOffset d 0)
  | .lostClear d a => some (a, QUEUE_WINDOWS + windowOffset d 0x18)
  | .idleSet d a _ => some (a, QUEUE_WINDOWS + windowOffset d 0x20)
  | .doorbell r a _ _ => some (a, doorbellAddr r)

/-- A request that waited is served, and its answer goes to its agent. -/
def State.serveLate (s : State) (h : Nat) (p : CrossReq) : State :=
  let t := s.serveReq h p
  match p.asker with
  | some (a, addr) => { t.send (.served a addr t.answer) with answer := s.answer }
  | none => t

/-! ## The request landing buffer (R478, R479, R494) -/

/-- HIGH of half h's buffer follows an occupancy, in both copies. -/
def State.landMark (s : State) (h n : Nat) : State :=
  s.each [0, 1] fun k t => if t.fld (F.CSW_LAND_HIGH k h) < n then t.setFld (F.CSW_LAND_HIGH k h) n else t

/-- USED of half h's buffer shows its entries. -/
def State.showLand (s : State) (h : Nat) : State := s.cswShow (fun k => F.CSW_LAND_USED k h) (s.cswHalf h).reqLand.length

/-- The oldest request of half g that waits to cross takes a credit and an entry of the other half's buffer, while the causeway carries
traffic. -/
def State.landOne (s : State) (g : Nat) : State :=
  match (s.cswHalf g).reqOut with
  | [] => s
  | p :: r =>
    if s.tokensCross && decide (0 < (s.cswHalf g).reqCredit) then
      let t := (s.modCswHalf g fun k => { k with reqOut := r, reqCredit := k.reqCredit - 1 }).modCswHalf (1 - g) fun k => { k with reqLand := k.reqLand ++ [p] }
      t.landMark (1 - g) (t.cswHalf (1 - g)).reqLand.length
    else s

/-- The oldest request in half h's buffer enters the network where that has room; its entry is free and the credit returns. -/
def State.enterOne (s : State) (h : Nat) : State :=
  match (s.cswHalf h).reqLand with
  | [] => s
  | p :: r =>
    if s.reqRoom h p then
      ((s.modCswHalf h fun k => { k with reqLand := r }).modCswHalf (1 - h) fun k => { k with reqCredit := k.reqCredit + 1 }).serveLate h p
    else s

/-- The requests of half g for the other half move as far as credits and room let them. -/
def State.pumpReq (s : State) (g : Nat) : State :=
  let n := (s.cswHalf g).reqOut.length + (s.cswHalf (1 - g)).reqLand.length
  if n = 0 then s else ((List.range n).foldl (fun t _ => (t.landOne g).enterOne (1 - g)) s).showLand (1 - g)

/-- Nothing is ahead of a new request of half g for the other half, and the causeway carries traffic. -/
def State.crossFree (s : State) (g : Nat) : Bool := s.tokensCross && (s.cswHalf g).reqOut.isEmpty && (s.cswHalf (1 - g)).reqLand.isEmpty

/-- A request of half g for half h: within the half, or across a split, it is served or turned away at once; across the causeway it passes
the landing buffer, and waits where a credit or room is missing. -/
def State.sendReq (s : State) (g h : Nat) (p : CrossReq) : State :=
  if g = h || s.isSplit g then s.serveReq h p
  else if s.crossFree g && s.reqRoom h p then (s.landMark h 1).serveReq h p
  else (if p.asker.isSome then s.reply .stalled else s).modCswHalf g (fun k => { k with reqOut := k.reqOut ++ [p] }) |>.pumpReq g

/-- What waits to cross, in both directions. -/
def State.pumpAll (s : State) : State := (((s.pumpSnp 0).pumpSnp 1).pumpReq 0).pumpReq 1

/-- The split of half h (R485 item 1): its requests in flight end as unmapped, and messages to the far half's cores are lost. -/
def State.cutCrossing (s : State) (h : Nat) : State :=
  let flying := (s.cswHalf (1 - h)).reqLand ++ (s.cswHalf h).reqOut
  let t := (s.modCswHalf h fun k => { k with reqOut := [], reqCredit := 64, snpOut := [], snpCredit := 32 }).modCswHalf (1 - h) fun k =>
    { k with reqLand := [], snpLand := [] }
  (flying.foldl (fun u p => match p with
    | .coh q => u.unmappedNotice (whoAgent h q.who) (lineAddr q.line)
    | _ => u.serveLate (1 - h) p) t).showLand (1 - h)

/-! ## Accesses to memory (R376, R377) -/

/-- An access to memory, over the causeway where the memory is the other half's. -/
def State.accessMem (s : State) (x : HeldAccess) : State :=
  match s.region x.addr with
  | .scratch g _ => s.sendReq (agentHalf x.agent) g (.mem x)
  | .hbm g _ => s.sendReq (agentHalf x.agent) g (.mem x)
  | _ => s.access x

/-- MEMORY_READ (R376): n bytes of the lagoon or of a stack. -/
def execMemoryRead (a : Agent) (addr : Dword) (n : Byte) (s : State) : Out :=
  .next (s.fromAgent a (s.accessMem { agent := a, addr := addr.toNat, write := none, n := n.toNat }))

/-- MEMORY_PARTIAL_WRITE (R377). -/
def execMemoryPartialWrite (a : Agent) (addr : Dword) (data : List Byte) (s : State) : Out :=
  .next (s.fromAgent a (s.accessMem { agent := a, addr := addr.toNat, write := some data }))

/-- MEMORY_FULL_WRITE (R377): a write of all 8 bytes of an aligned word. -/
def execMemoryFullWrite (a : Agent) (addr : Dword) (data : Dword) (s : State) : Out :=
  .next (s.fromAgent a (s.accessMem { agent := a, addr := addr.toNat / 8 * 8, write := some (leBytes 8 data.toNat) }))

/-! ## Queue windows and doorbells (R153, R211) -/

/-- QUEUE_WINDOW_POP (R153): a read of the window's 64-bit word off. -/
def execQueueWindowPop (d : Fin 1024) (rd : WindowRead) (s : State) : Out :=
  .next (s.fromAgent rd.agent (s.sendReq (agentHalf rd.agent) (halfOfQueue d) (.pop d rd.agent rd.off)))

/-- QUEUE_WINDOW_PUSH (R153): a DATA write. -/
def execQueueWindowPush (d : Fin 1024) (a : Agent) (v : Dword) (s : State) : Out :=
  .next (s.fromAgent a (s.sendReq (agentHalf a) (halfOfQueue d) (.push d a v)))

/-- QUEUE_LOST_CLEAR (R153): a write to LOST. -/
def execQueueLostClear (d : Fin 1024) (a : Agent) (s : State) : Out :=
  .next (s.fromAgent a (s.sendReq (agentHalf a) (halfOfQueue d) (.lostClear d a)))

/-- QUEUE_IDLE_SET (R153): a write of the idle item. -/
def execQueueIdleSet (d : Fin 1024) (a : Agent) (v : Dword) (s : State) : Out :=
  .next (s.fromAgent a (s.sendReq (agentHalf a) (halfOfQueue d) (.idleSet d a v)))

/-- RAKE_DOORBELL_POST (R211): an aligned access by an agent of R212; write false is the read. -/
def execRakeDoorbellPost (r : Fin 4096) (a : Agent) (write : Bool) (v : Dword) (s : State) : Out :=
  .next (s.fromAgent a (s.sendReq (agentHalf a) (halfOfRake r) (.doorbell r a write v)))

end Sys2Proof.Machine
end

