-- ==== Sys2Proof/Machine/Encodings.lean ====
section
/-! DEFINITION. Image encodings that the spec names and does not lay out (Assumption 9): what the configuration cells of a
pan image set; and the CRC-32 of R251. -/

namespace Sys2Proof.Machine

/-- Assumption 9: the grain configurations that the cells of an image give pan n, by device grain number (R52, R82). -/
opaque Config.grainsOf : Bank Byte → Nat → List (Nat × GrainCfg)

/-- Assumption 9: the tap groups of an image: tap, and 1 + 2 × tree + falling (R108). -/
opaque Config.tapsOf : Bank Byte → List (Nat × Nat)

/-- Assumption 9: the cluster taps of an image for pan n: tap, and 1 + channel (R72). -/
opaque Config.clusterTapsOf : Bank Byte → Nat → List (Nat × Nat)

/-- Assumption 9: the pin channels of an image for pan n: pin, and 1 LEVEL input, 2 EDGE input, 3 output (R89). -/
opaque Config.pinsOf : Bank Byte → Nat → List (Nat × Nat)

/-- Assumption 9: what drives the ports and the outbound lanes and pin channels of pan n: a channel and the channels of its pairs,
lowest first (R49). -/
opaque Config.portsOf : Bank Byte → Nat → List (Nat × List Nat)

/-- Assumption 9: the mode of block memory m in an image, 0 to 10 (R91). -/
opaque Config.bmemModeOf : Bank Byte → Nat → Nat

/-- One bit of the CRC-32 register (reflected IEEE 802.3 polynomial). -/
def crcBit (c : Nat) : Nat := if c % 2 = 1 then (c / 2) ^^^ 0xEDB88320 else c / 2

/-- One byte of the CRC-32 register. -/
def crcByte (c : Nat) (b : Byte) : Nat :=
  crcBit (crcBit (crcBit (crcBit (crcBit (crcBit (crcBit (crcBit (c ^^^ b.toNat))))))))

/-- CRC-32 of R251: initial value 0xFFFF_FFFF, final complement. -/
def crc32 (l : List Byte) : Nat := l.foldl crcByte 0xFFFFFFFF ^^^ 0xFFFFFFFF

end Sys2Proof.Machine
end

