-- ==== Sys2Proof/Machine/LoadOps.lean ====
section
/-! DEFINITION. Pan loads through the internal reconfiguration port (07_sluices_and_reconfiguration): frames, the checks of
a HEADER and of later frames, acceptance, completion and failure. -/

namespace Sys2Proof.Machine

/-! ## Frames (R251) -/

/-- The load of a master of a half (R247): 0 management controller, 1 scheduler engine, 2 agent pan. -/
def loadKey (h m : Nat) : Nat := 3 * h + m

/-- A little-endian field of a byte string. -/
def numAt (l : List Byte) (o n : Nat) : Nat := leNat ((l.drop o).take n)

/-- The header fields of a frame. -/
def fType (f : List Byte) : Nat := numAt f 0 1
def fFlags (f : List Byte) : Nat := numAt f 1 1
def fPan (f : List Byte) : Nat := numAt f 2 2
def fSeq (f : List Byte) : Nat := numAt f 4 4
def fAddr (f : List Byte) : Nat := numAt f 8 4
def fLen (f : List Byte) : Nat := numAt f 12 4
/-- The payload and the trailer. -/
def fPayload (f : List Byte) : List Byte := (f.drop 32).take (fLen f)
def fTrailer (f : List Byte) : List Byte := f.drop (32 + fLen f)
/-- The header beat without PAN: bytes 0 and 1 and 4 to 31. -/
def fHead (f : List Byte) : List Byte := f.take 2 ++ (f.drop 4).take 28

/-- Every byte of a part of a byte string is zero. -/
def zeroAt (l : List Byte) (o n : Nat) : Bool := ((l.drop o).take n).all (· == 0)

/-- LEN is a multiple of 32 up to 4,096, the frame has its bytes, and the bytes marked zero are zero (R251). -/
def fFormed (f : List Byte) : Bool :=
  fLen f % 32 == 0 && decide (fLen f ≤ 4096) && f.length == fLen f + 64 && zeroAt f 16 16 && zeroAt (fTrailer f) 4 28

/-- The frame CRC matches: over the header beat without PAN, and the payload (R251). -/
def fCrc (f : List Byte) : Bool := numAt (fTrailer f) 0 4 == crc32 (fHead f ++ fPayload f)

/-! ## Causes (R261) -/

/-- The reply status of a load that ends with a cause. -/
def loadStatus (cause : Nat) (held : Bool) : Nat :=
  match cause with
  | 5 => S_APPROVED
  | 6 => S_STATE
  | 7 => S_STATE
  | 8 => if held then S_BUSY else S_STATE
  | 11 => S_SIGNATURE
  | 12 => S_DECRYPT
  | 14 => S_HW_FAULT
  | 15 => S_ABORTED
  | 16 => S_HW_FAULT
  | _ => S_CONTENT

/-- The result of a pan load: GEN, TAG and the frames written. -/
def State.loadResult (s : State) (j : LoadJob) : List Byte :=
  leBytes 2 (s.fld (F.PAN_SLUICE_STATUS_GEN j.pan)) ++ leBytes 2 (s.fld (F.PAN_IMAGE_ID_TAG j.pan)) ++ leBytes 4 j.taken

/-- The end of a load reaches its master: the PAN_LOAD command, the scheduler engine, or the agent's RESULT channel (R249). -/
def State.loadReply (s : State) (h m : Nat) (j : LoadJob) (cause : Nat) (held : Bool) : State :=
  match m with
  | 0 => if j.embedded then s
    else if cause = 0 then s.endJobs (fun x => x.opcode == 0x0100 && x.unit == j.pan && x.half == h) OK 0 (s.loadResult j)
    else s.endJobs (fun x => x.opcode == 0x0100 && x.unit == j.pan && x.half == h) (loadStatus cause held) (0x0100 + cause) (s.loadResult j)
  | 1 => s.modSched h fun c => { c with reloadEnd := some (cause, j.taken) }
  | _ => s.modAgentResult h fun l => l ++ [(if cause = 0 then 0 else loadStatus cause held, j.pan % 128, j.taken)]

/-- Record a failure (R261, R662): the cause, LOAD_FAIL, and the report, which STATE does not raise. -/
def State.loadFailed (s : State) (h m pan cause : Nat) : State :=
  let t := s.setFlds [(F.PAN_SLUICE_STATUS_LOAD_FAIL pan, 1), (F.PAN_SLUICE_STATUS_FAIL_CAUSE pan, cause)]
  if cause = 8 then t else t.raise { half := h, cls := ERROR, src := 5, code := 4, unit := pan, ctx := cause + (m + 1) * 32 }

/-- A load ends without completing (R261): the pan takes INVALID after acceptance, and is unchanged before. -/
def State.failLoad (s : State) (h m cause : Nat) (held : Bool := false) : State :=
  match s.load (loadKey h m) with
  | none => s
  | some j =>
    let t := s.setLoad (loadKey h m) none
    let t := if j.accepted then (t.shutSluice j.pan INVALID).noImage j.pan else t
    (t.loadFailed h m j.pan cause).loadReply h m j cause held

/-- A load ends for a cause of R514 (ABORTED): its pan command's own reply is written by the one that ends it. -/
def State.dropLoad (s : State) (h m cause : Nat) : State :=
  match s.load (loadKey h m) with
  | none => s
  | some j =>
    let t := s.setLoad (loadKey h m) none
    let t := if j.accepted then (t.shutSluice j.pan INVALID).noImage j.pan else t
    let t := t.loadFailed h m j.pan cause
    if m = 0 then t else t.loadReply h m j cause false

/-! ## HEADER (R253, R256, R257) -/

/-- A side is unterminated for pan n (R86). -/
def openEdge (n side : Nat) : Bool := (farLane n side 0).isNone

/-- A pin channel of PINCH does not exist in pan n (R88, R253). -/
def badPins (n pinch : Nat) : Bool :=
  let col := n % 16
  let row := n % 128 / 16
  (bitsOf pinch 7 0 != 0 && col != 0) || (bitsOf pinch 11 8 != 0 && row != 7) || (bitsOf pinch 19 12 != 0 && col != 15)

/-- The HEADER frame breaks R251 or R254. -/
def badHeaderFrame (f : List Byte) : Bool :=
  !(fFormed f && fFlags f == 0 && fSeq f == 0 && fAddr f == 0 && fLen f == 256)

/-- The payload breaks R253: cause FORMAT. -/
def badFormat (p : List Byte) : Bool :=
  let fl := numAt p 9 1
  let flags := numAt p 10 1
  numAt p 0 2 != 1 || decide (numAt p 4 4 < 2) || decide (16 ≤ numAt p 8 1) || (decide (41 ≤ fl) && decide (fl ≤ 254)) || decide (8 ≤ flags) ||
    decide (2 ^ 20 ≤ numAt p 12 4) || !zeroAt p 24 8 || !zeroAt p 188 68 ||
    (!bitOf flags 0 && !zeroAt p 80 96) || (!bitOf flags 1 && !zeroAt p 176 12)

/-- VFAB of an island floor code, in millivolts (R127). -/
def floorMv (code : Nat) : Nat := if code ≤ 40 then 550 + 10 * code else 0

/-- The governor runs FIXED in half h (R617). -/
def State.fixedMv (s : State) (h : Nat) : Option Nat :=
  if s.fld (F.GOV_CTL_PROFILE h) = 4 then some (s.fld (F.GOV_FIXED_VFAB_MV h)) else none

/-- Another pan of half h holds an agent image, or loads one (R249). -/
def State.agentElsewhere (s : State) (n : Nat) : Bool :=
  (List.range 128).any (fun i =>
    halfOfPan n * 128 + i != n && (s.pan (halfOfPan n * 128 + i)).agent && s.on (F.PAN_IMAGE_ID_VALID (halfOfPan n * 128 + i))) ||
  (List.range 3).any fun m => match s.load (loadKey (halfOfPan n) m) with
    | some j => j.pan != n && j.accepted && j.agent
    | none => false

/-- Unsigned images are refused: in the approved mode, or under FORCE_SIGNED (R257, R570). -/
def State.mustSign (s : State) : Bool := s.on F.SEC_STATUS_APPROVED || bitOf (s.fld F.SEC_KEYS_CTRL) 6

/-- The cause for which a HEADER payload is refused for pan n, if any (R257, R261). -/
def State.headerCause (s : State) (n : Nat) (p : List Byte) (embeddedSigned : Bool) : Option Nat :=
  let flags := numAt p 10 1
  if badFormat p then some 1
  else if (List.range 4).any fun sd => bitOf (numAt p 8 1) sd && openEdge n sd then some 2
  else if badPins n (numAt p 12 4) then some 3
  else if 262144 < numAt p 16 4 then some 4
  else if s.mustSign && !bitOf flags 0 && !embeddedSigned then some 5
  else if (match s.fixedMv (halfOfPan n) with
      | some mv => decide (mv < floorMv (numAt p 9 1))
      | none => false) then some 6
  else if bitOf flags 2 && s.agentElsewhere n then some 7
  else none

/-- The claim of R256 is refused for master m. -/
def State.claimRefused (s : State) (h m n : Nat) : Bool :=
  halfOfPan n != h || s.sluice n == OPEN || s.sluice n == CLOSING || s.sluice n == QUARANTINED ||
    s.on (F.PAN_SLUICE_STATUS_HOLD_TEST n) ||
    (List.range 3).any (fun k => k != m && match s.load (loadKey h k) with
      | some j => j.pan == n && j.accepted
      | none => false) ||
    (m == 2 && (s.pan n).agent) || (s.power n == 2 && s.stopped h)

/-- Another load holds the pan (the BUSY outcome of cause STATE). -/
def State.loadHolds (s : State) (h m n : Nat) : Bool :=
  (List.range 3).any fun k => k != m && match s.load (loadKey h k) with
    | some j => j.pan == n && j.accepted
    | none => false

/-- The load with what its HEADER payload gives (R253). -/
def LoadJob.header (j : LoadJob) (f : List Byte) : LoadJob :=
  let p := fPayload f
  let flags := numAt p 10 1
  { j with
    accepted := true, tag := numAt p 2 2, frames := numAt p 4 4, floor := numAt p 9 1, signed := bitOf flags 0
    encrypted := bitOf flags 1 && !j.embedded, agent := bitOf flags 2, keySel := numAt p 11 1, bWins := numAt p 20 4
    digest := (p.drop 32).take 48, signature := (p.drop 80).take 96, iv := (p.drop 176).take 12
    signedPart := p.take 80, taken := 1, payloads := p
    sigOk := if bitOf flags 0 && !j.embedded then none else some true }

/-- R258: the sluice takes RELOADING; queue fabric ends reset, notices are discarded, the pan stops, and its dispatches end. An agent
image is gone with the old image. -/
def State.acceptLoad (s : State) (n : Nat) : State :=
  let t := (s.setFld (F.PAN_IMAGE_ID_VALID n) 0).shutSluice n RELOADING
  let t := (t.restRakes n).modPan n fun p => { p with agent := false }
  let t := t.each (queuesOf n) fun d u => u.resetEnd d (u.fabricEnd d)
  let t := t.each ((List.range 16).map (n * 16 + ·)) fun r u => u.discardNotice r
  let t := t.dropGrains n
  let t := { t with
    bmems := Bank.drop (fun b => b / 32 == n) t.bmems }
  (t.poisonPan n).countUnsigned

/-! ## Later frames (R252, R254, R255, R259) -/

/-- Where the content of a frame type is kept until the load completes: CFG, then BMEM, RPROG and ROPND above it. -/
def cellBase (ty addr : Nat) : Nat :=
  match ty with
  | 2 => addr
  | 3 => 2 ^ 20 + bitsOf addr 20 16 * 16384 + addr % 65536
  | 4 => 2 ^ 21 + bitsOf addr 19 16 * 2048 + addr % 65536
  | _ => 2 ^ 22 + bitsOf addr 19 16 * 4096 + addr % 65536

/-- Write bytes into the cells of a load. -/
def cellsPut (b : Bank Byte) (k : Nat) : List Byte → Bank Byte
  | [] => b
  | x :: r => cellsPut (Bank.set (fun _ => (0 : Byte)) b k x) (k + 1) r

/-- TYPE, ADDR and LEN are in range (R252). -/
def frameRange (j : LoadJob) (f : List Byte) : Bool :=
  let a := fAddr f
  let n := fLen f
  match fType f with
  | 2 => decide (a + n ≤ 819200) && decide (a < 819200)
  | 3 => decide (a < 2 ^ 21) && decide (a % 65536 + n ≤ 9216)
  | 4 => decide (a < 2 ^ 20) && decide (a % 65536 + n ≤ 1280)
  | 5 => decide (a < 2 ^ 20) && decide (a % 65536 + n ≤ 4096)
  | 6 => decide (a < 16) && decide (a + n / 32 ≤ 16)
  | 7 => decide (a < 4) && decide (a + n / 32 ≤ 4)
  | 8 => a == 0 && decide (n ≤ 32)
  | 9 => j.encrypted && a == j.segNo && n == 32 && decide (1 ≤ j.segFrames)
  | 15 => a == 0 && n == 32 && j.segFrames == 0
  | _ => false

/-- FLAGS[0] marks exactly the encrypted frames, a full segment is followed by its SEGTAG, and only the final segment is shorter
(R255). -/
def frameMarks (j : LoadJob) (f : List Byte) : Bool :=
  let enc := j.encrypted && fType f != 9 && fType f != 15
  fFlags f % 2 == bnat enc && decide (fFlags f < 2) && (!(j.segFrames == 64) || fType f == 9) && !(enc && j.lastSeg)

/-- One RSTATE record is in range (R252, R259). -/
def goodRstate (r : List Byte) : Bool :=
  (List.range 4).all (fun n => decide (bitsOf (numAt r (4 * n) 4) 31 21 ≤ 1024)) &&
    (let sc := sgn 7 (bitsOf (numAt r 16 4) 15 9); decide (-55 ≤ sc) && decide (sc ≤ 55)) && bitsOf (numAt r 16 4) 8 0 == 0 &&
    decide (numAt r 20 4 < 2) && zeroAt r 24 8

/-- One QUEUE record is in range (R252, R259). -/
def goodQueue (r : List Byte) : Bool :=
  let kind := numAt r 3 1 % 8
  let index := numAt r 3 1 / 16
  decide (numAt r 0 2 ≤ 512) && decide (numAt r 2 1 < 16) && numAt r 2 1 / 2 % 4 != 3 && decide (kind ≤ 4) && !bitOf (numAt r 3 1) 3 &&
    !(kind == 3 && decide (3 < index)) && zeroAt r 4 4 && zeroAt r 16 16

/-- The records of 32 bytes of a payload. -/
def records (p : List Byte) : List (List Byte) := (List.range (p.length / 32)).map fun i => (p.drop (32 * i)).take 32

/-- The payload fields of a QUEUE, RSTATE, TEST, SEGTAG or END frame are in range (R259). -/
def framePayload (ty : Nat) (p : List Byte) : Bool :=
  match ty with
  | 6 => (records p).all goodRstate
  | 7 => (records p).all goodQueue
  | 8 => zeroAt p 8 24
  | 9 => zeroAt p 16 16
  | 15 => zeroAt p 8 24
  | _ => true

/-- The QUEUE record in 32 bytes. -/
def queueRec (r : List Byte) : QueueRec :=
  { hiWords := numAt r 0 2, dir := numAt r 2 1 % 2, width := numAt r 2 1 / 2 % 4, mode := numAt r 2 1 / 8 % 2
    kind := numAt r 3 1 % 8, index := numAt r 3 1 / 16, idle := BitVec.ofNat 64 (numAt r 8 8) }

/-- The words of an RSTATE record. -/
def rstateRec (r : List Byte) : List Nat := (List.range 6).map fun i => numAt r (4 * i) 4

/-- Write a frame's plain payload into the load (R252). -/
def LoadJob.write (j : LoadJob) (f p : List Byte) : LoadJob :=
  let a := fAddr f
  match fType f with
  | 6 => { j with rstates := ((List.range (p.length / 32)).foldl (fun b i => Bank.set (fun _ => []) b (a + i) (rstateRec ((p.drop (32 * i)).take 32))) j.rstates) }
  | 7 => { j with queueRecs := ((List.range (p.length / 32)).foldl (fun b i => Bank.set (fun _ => {}) b (a + i) (queueRec ((p.drop (32 * i)).take 32))) j.queueRecs) }
  | 8 => if p.isEmpty then j else { j with golden := BitVec.ofNat 64 (numAt p 0 8), hasGolden := true }
  | 3 =>
    let m := bitsOf a 20 16
    if p.isEmpty then j
    else { j with cells := cellsPut j.cells (cellBase 3 a) p
                  preload := Bank.set (fun _ => 0) j.preload m (max (Bank.get (fun _ => 0) j.preload m) (a % 65536 + p.length)) }
  | 2 => { j with cells := cellsPut j.cells (cellBase 2 a) p }
  | 4 => { j with cells := cellsPut j.cells (cellBase 4 a) p }
  | 5 => { j with cells := cellsPut j.cells (cellBase 5 a) p }
  | _ => j

/-- The bytes of the decryption key a KEYSEL names; none for an empty slot (R569). -/
def State.keyOf (s : State) (sel : Nat) : Option (List Byte) :=
  let ctrl := s.fld F.SEC_KEYS_CTRL
  match sel with
  | 0 => if bitOf ctrl 0 && !bitOf ctrl 3 then some (leBytes 32 s.sec.k0) else none
  | 1 => if bitOf ctrl 1 && !bitOf ctrl 4 then some (leBytes 32 s.sec.k1) else none
  | 2 => if s.on F.SEC_KEYS_BBRAM_HOLDS && !bitOf ctrl 9 then some (leBytes 32 s.sec.kb) else none
  | _ => none

/-- The nonce of segment g: IV with bytes 8 to 11 increased by g (R542). -/
def segNonce (iv : List Byte) (g : Nat) : List Byte := iv.take 8 ++ leBytes 4 (numAt iv 8 4 + g)

/-- The module gives cryptographic service: OPERATIONAL (R565, R567). -/
def State.secOperational (s : State) : Bool := s.fld F.SEC_STATUS_STATE == 1

/-- The half has a security module that answers: not the south half under HALF_LOST of the north (R577). -/
def State.moduleOf (s : State) (h : Nat) : Bool := s.secOperational && !(h == 1 && s.fld (F.CSW_STATUS_STATE 1) == 4)

/-- The plain payload of a frame: decrypted where the frame is encrypted and a key stands in the slot. -/
def State.plainOf (s : State) (j : LoadJob) (f : List Byte) : Option (List Byte) :=
  if fFlags f % 2 = 1 then (s.keyOf j.keySel).map fun k => Config.gcmPlain k (segNonce j.iv j.segNo) j.segment.length (fPayload f)
  else some (fPayload f)

/-- A segment's tag matches (R255, R542); an empty key slot decrypts nothing (R569). -/
def State.tagOk (s : State) (h : Nat) (j : LoadJob) (tag : List Byte) : Bool :=
  s.moduleOf h && match s.keyOf j.keySel with
    | some k => Config.gcmTag k (segNonce j.iv j.segNo) j.segAad j.segment == tag
    | none => false

/-- What every frame after the HEADER adds to the load's counts and digests. -/
def LoadJob.note (j : LoadJob) (f : List Byte) (enc : Bool) : LoadJob :=
  { j with
    taken := j.taken + 1, digested := j.digested ++ fHead f ++ fPayload f ++ fTrailer f, payloads := j.payloads ++ fPayload f
    segment := if enc then j.segment ++ fPayload f else j.segment
    segAad := if enc then j.segAad ++ fHead f else j.segAad
    segFrames := if enc then j.segFrames + 1 else j.segFrames }

/-- The cause for which a later frame fails before its content is written (R259). -/
def frameCause (j : LoadJob) (f : List Byte) : Option Nat :=
  if !fFormed f then some 10
  else if !fCrc f then some 9
  else if fSeq f ≠ j.taken || fType f = 1 || !frameRange j f || !frameMarks j f then some 10
  else none

/-! ## Completion (R260) -/

/-- Block memory words of a mode: count and stored data width (R91). -/
def bmemWords (mode : Nat) : Nat × Nat :=
  match mode with
  | 0 => (65536, 1)
  | 1 => (32768, 2)
  | 2 => (16384, 4)
  | 3 => (8192, 8)
  | 4 => (8192, 9)
  | 5 => (4096, 16)
  | 6 => (4096, 18)
  | 7 => (2048, 32)
  | 8 => (2048, 36)
  | _ => (1024, 64)

/-- The preload bytes of a mode: 9,216 in W9, W18 and W36, 8,192 elsewhere (R101). -/
def preloadBytes (mode : Nat) : Nat := if mode = 4 || mode = 6 || mode = 8 then 9216 else 8192

/-- Word i of a preload: the words stand one after another, least significant bit first (Assumption 9). -/
def preloadWord (cells : Bank Byte) (m w i : Nat) : Nat :=
  let b := i * w / 8
  leNat ((List.range 10).map fun k => Bank.get (fun _ => (0 : Byte)) cells (2 ^ 20 + m * 16384 + b + k)) / 2 ^ (i * w % 8) % 2 ^ w

/-- Block memory m of a pan after a load: its mode, its preload or zeros, and a scrubber at address 0 (R99, R100). -/
def bmemAtLoad (cells : Bank Byte) (preload : Bank Nat) (m : Nat) : Bmem :=
  let mode := Config.bmemModeOf cells m
  let (n, w) := bmemWords mode
  let used := Bank.get (fun _ => 0) preload m
  { mode := mode
    words := if used = 0 then [] else (List.range (min n (used * 8 / w + 1))).foldl (fun b i => Bank.set (fun _ => {}) b i { data := preloadWord cells m w i }) [] }

/-- A BMEM frame wrote beyond its memory's preload size (R260). -/
def LoadJob.preloadOver (j : LoadJob) : Bool :=
  j.preload.any fun p => decide (preloadBytes (Config.bmemModeOf j.cells p.1) < p.2)

/-- Instruction i of rake r of the image (R252). -/
def LoadJob.instr (j : LoadJob) (r i : Nat) : Nat :=
  leNat ((List.range 5).map fun k => Bank.get (fun _ => (0 : Byte)) j.cells (2 ^ 21 + r * 2048 + 5 * i + k))

/-- Operand word i of rake r of the image. -/
def LoadJob.opnd (j : LoadJob) (r i : Nat) : Nat :=
  leNat ((List.range 4).map fun k => Bank.get (fun _ => (0 : Byte)) j.cells (2 ^ 22 + r * 4096 + 4 * i + k))

/-- Rake r of a pan after a load (R168, R174, R195, R196). -/
def LoadJob.rakeAtLoad (j : LoadJob) (r : Nat) : Rake :=
  let k : Rake := {
    prog := (List.range 256).foldl (fun b i => Bank.set (fun _ => 0) b i (j.instr r i)) []
    opnd := (List.range 1024).foldl (fun b i => Bank.set (fun _ => (0 : Word)) b i (BitVec.ofNat 32 (j.opnd r i))) []
    image := (Bank.get (fun _ => [0, 0, 0, 0, 0, 0]) j.rstates r).take 5 }
  k.atLoad

/-- The RUN bits of the image (R252). -/
def LoadJob.runs (j : LoadJob) : Nat :=
  ((List.range 16).filter fun r => bitOf ((Bank.get (fun _ => []) j.rstates r).getD 5 0) 0).foldl (fun v r => v + 2 ^ r) 0

/-- A channel that pan n's image may use: inside the pan, of one of its ports, or on its borders (R50). -/
def ownChan (n k : Nat) : Bool := chanInPan n k || portInPan n k

/-- A grain configuration with inputs of its own pan alone: an input that no configuration of the pan can reach is unused (R50). -/
def GrainCfg.within (c : GrainCfg) (n : Nat) : GrainCfg :=
  { c with inputs := c.inputs.map fun i => match i with
      | some x => if ownChan n (inputChan x) then some x else none
      | none => none }

/-- The configuration that an image gives pan n: grains, ports, taps, pin channels, memories and rakes. The level that an EDGE input
compares with starts at 0 (Assumption 57). -/
def State.configurePan (s : State) (n : Nat) (j : LoadJob) : State :=
  let t := s.losePan n
  let t := (Config.grainsOf j.cells n).foldl (fun u p => if panOfGrain p.1 = n then u.setGrain p.1 (p.2.within n) else u) t
  let t := (Config.portsOf j.cells n).foldl (fun u p => if portInPan n p.1 then u.setDrivers p.1 (p.2.filter (chanInPan n)) else u) t
  let t := (Config.tapsOf j.cells).foldl (fun u p => if p.1 < 64 then u.setTapSel (n * 64 + p.1) p.2 else u) t
  let t := (Config.clusterTapsOf j.cells n).foldl (fun u p => if p.1 < 64 && chanInPan n (p.2 - 1) then u.setTapWatch (n * 64 + p.1) p.2 else u) t
  let t := (Config.pinsOf j.cells n).foldl (fun u p => if panOfPin p.1 = n then u.setPinChan p.1 { kind := p.2 } else u) t
  let t := t.each (List.range 32) fun m u => u.setBmem (n * 32 + m) (bmemAtLoad j.cells j.preload m)
  let t := t.each (List.range 16) fun r u => u.setRake (n * 16 + r) (j.rakeAtLoad r)
  t.modPan n fun p => { p with agent := j.agent, signed := j.signed, golden := if j.hasGolden then some j.golden else none, cells := j.cells }

/-- The release of item 5 of R260: grains start from their initial tokens, and rakes whose RUN bit is set start. -/
def State.releasePan (s : State) (n : Nat) : State :=
  (s.initGrains n).setFld (F.PAN_RAKE_STATUS_ACTIVE n) (s.fld (F.PAN_RAKE_CTL_RUN n))

/-- Items 1 to 4 of R260 for pan n. -/
def State.completePan (s : State) (n m : Nat) (j : LoadJob) : State :=
  let t := s.configurePan n j
  let t := t.setFlds [(F.PAN_SLUICE_STATUS_GEN n, s.fld (F.PAN_SLUICE_STATUS_GEN n) + 1), (F.PAN_IMAGE_ID_VALID n, 1),
    (F.PAN_IMAGE_ID_FROM_DIR n, bnat (m == 1)), (F.PAN_IMAGE_ID_SLOT n, if m = 1 then j.slot - 1 else 0), (F.PAN_IMAGE_ID_TAG n, j.tag),
    (F.PAN_BMEM_POLICY_B_WINS n, j.bWins), (F.PAN_ISLAND_STATUS_FLOOR n, j.floor), (F.PAN_RAKE_CTL_RUN n, j.runs),
    (F.PAN_SLUICE_CTL_OPEN n, 0)]
  let t := t.each [0, 1, 2, 3] fun q u => u.loadQueue (n * 4 + q) (Bank.get (fun _ => {}) j.queueRecs q)
  (((t.shutSluice n SEALED).copGen n).countUnsigned)

/-- A load completes (R260). -/
def State.completeLoad (s : State) (h m : Nat) (j : LoadJob) : State :=
  (((s.setLoad (loadKey h m) none).completePan j.pan m j).releasePan j.pan).loadReply h m j 0 false

/-- The checks of R260 at END: the counts, the CRC over the payloads before it, the digest over frames 1 on, and the
preloads. -/
def endCause (j : LoadJob) (f : List Byte) : Option Nat :=
  let p := fPayload f
  let e := j.note f false
  if numAt p 0 4 ≠ j.frames || j.frames ≠ e.taken then some 13
  else if numAt p 4 4 ≠ crc32 j.payloads then some 13
  else if Config.sha384 e.digested ≠ j.digest then some 13
  else if j.preloadOver then some 13
  else none

/-- VFAB of half h has reached a floor (R262): the rail, whatever the target. -/
def State.atFloor (s : State) (h code : Nat) : Bool := decide (floorMv code ≤ (s.gov h).rail)

end Sys2Proof.Machine
end

