-- ==== Sys2Proof/Machine/SchedRun.lean ====
section
/-! DEFINITION. How the scheduler places and dispatches (08_dataflow_scheduler): the kernel directory, resources and
costs, dispatch records, windows and packets. -/

namespace Sys2Proof.Machine

/-! ## Tokens as bytes (R280) -/

/-- The 64 bytes of a token. -/
def Token.bytes (t : Token) : List Byte :=
  leBytes 4 t.tag ++ leBytes 1 t.port ++ leBytes 1 t.flags ++ leBytes 2 t.len ++ (t.payload ++ List.replicate 56 0).take 56

/-- The token in 64 bytes. -/
def tokenOf (l : List Byte) : Token :=
  { tag := numAt l 0 4, port := numAt l 4 1, flags := numAt l 5 1, len := numAt l 6 2, payload := (l.drop 8).take 56 }

/-- n tokens from a byte string. -/
def tokensOf (l : List Byte) : Nat → List Token
  | 0 => []
  | n + 1 => tokenOf (l.take 64) :: tokensOf (l.drop 64) n

/-- Eight-byte words of a byte string. -/
def dwordsOf (l : List Byte) : Nat → List Dword
  | 0 => []
  | n + 1 => BitVec.ofNat 64 (leNat (l.take 8)) :: dwordsOf (l.drop 8) n

/-- A node of a half, or nothing. -/
def State.nodeD (s : State) (g n : Nat) : Node := (s.node g n).getD { kslot := 0 }

/-! ## The directory (R271, R302) -/

/-- Directory slot k of half h. -/
def State.kernel (s : State) (h k : Nat) : Option Kernel := Bank.get (fun _ => none) (s.sched h).directory k
def State.setKernel (s : State) (h k : Nat) (x : Option Kernel) : State :=
  s.modSched h fun c => { c with directory := Bank.set (fun _ => none) c.directory k x }

/-- The generation recorded for pan n, + 1. -/
def State.genOf (s : State) (n : Nat) : Nat := Bank.get (fun _ => 0) (s.sched (halfOfPan n)).gens n

/-- Pan n holds slot k of this scheduler's directory (R270). -/
def State.holdsSlot (s : State) (n k : Nat) : Bool :=
  s.on (F.PAN_IMAGE_ID_VALID n) && s.on (F.PAN_IMAGE_ID_FROM_DIR n) && s.fld (F.PAN_IMAGE_ID_SLOT n) == k &&
    s.genOf n == s.fld (F.PAN_SLUICE_STATUS_GEN n) + 1

/-! ## Resources (R269, R293) -/

/-- Pan n is managed by its half's scheduler. -/
def State.managedPan (s : State) (n : Nat) : Bool := bitOf (s.fld (F.SCHED_PANS_MANAGED (halfOfPan n) (n % 128 / 32))) (n % 32)
/-- Core c is managed. -/
def State.managedCore (s : State) (c : Nat) : Bool := bitOf (s.fld (F.SCHED_CORES_MANAGED (halfOfCore c))) (c % 8)

/-- Some dispatch is in flight on the resource. -/
def State.runsOn (s : State) (h : Nat) (o : Resource) : Bool := (s.sched h).records.any fun r => r.on == some o
/-- Some dispatch is in flight on pan n or one of its groups. -/
def State.panBusy (s : State) (n : Nat) : Bool :=
  (s.sched (halfOfPan n)).records.any fun r => match r.on with
    | some (.pan m) => m == n
    | some (.rake m _) => m == n
    | _ => false
/-- A reload is queued in half h. -/
def State.reloadQueued (s : State) (h : Nat) : Bool :=
  (s.sched h).reload.isSome || (s.load (loadKey h 1)).isSome || (s.sched h).ready.any fun e => match e.work with
    | .reload _ _ _ => true
    | _ => false

/-- Core c is free for node (g, n): managed, with no dispatch, and not reserved for another node. -/
def State.coreFree (s : State) (c g n : Nat) : Bool :=
  s.managedCore c && !s.runsOn (halfOfCore c) (.core c) &&
    (s.sched (halfOfCore c)).reserved.all fun r => r.1 != c || (r.2.1 == g && r.2.2 == n)
/-- Core c may run the node (R274 CORES). -/
def Node.mayCore (x : Node) (c : Nat) : Bool := bitOf x.kinds 0 && (x.cores == 0 || bitOf x.cores (c % 8))
/-- Pan n is open and in service for dispatches. -/
def State.panServes (s : State) (n : Nat) : Bool := s.managedPan n && s.sluice n == OPEN && !s.maintained n
/-- Pan n is a reload candidate for slot k (R293). -/
def State.candidate (s : State) (n k : Nat) : Bool :=
  let h := halfOfPan n
  s.managedPan n && s.sluice n != QUARANTINED && s.sluice n != RELOADING &&
    !((List.range 3).any fun m => m != 1 && match s.load (loadKey h m) with
      | some j => j.pan == n
      | none => false) &&
    !(s.power n == 2 && s.stopped h) && !s.panBusy n && !s.maintained n && !s.holdsSlot n k && !s.reloadQueued h

/-- The accepted rate of pan n in Mtok/s (R27, R162). -/
def State.rateOf (s : State) (n : Nat) : Nat :=
  let r := Bank.get (fun _ => 0) (s.sched (halfOfPan n)).rates n
  if r = 0 then (if s.power n = 2 then 0 else 1850) else r - 1
/-- The rate R294 takes: for a gated pan, the highest of the half's powered pans. -/
def State.costRate (s : State) (n : Nat) : Nat :=
  if s.power n = 2 then (List.range 128).foldl (fun v i => if s.power (halfOfPan n * 128 + i) = 2 then v else max v (s.rateOf (halfOfPan n * 128 + i))) 0
  else s.rateOf n

/-- Costs saturate at 2^64 − 1. -/
def satCost (c : Nat) : Nat := min c (2 ^ 64 - 1)
/-- num / r in whole nanoseconds, rounded up; without a rate the cost saturates. -/
def runCost (num r : Nat) : Nat := if num = 0 then 0 else if r = 0 then 2 ^ 64 - 1 else (num + r - 1) / r

/-- The cost of running node x of a half on pan n with kernel k, reloading where `reload` (R294). -/
def State.panCost (s : State) (x : Node) (n : Nat) (k : Kernel) (reload : Bool) : Nat :=
  let run := runCost (x.estFab * (if k.rake then 1500 else 1000)) (s.costRate n)
  let load := if reload then
      k.beats + 600 + (if s.on (F.PAN_IMAGE_ID_VALID n) then s.fld (F.SCHED_COST_EVICT_US (halfOfPan n)) * 1000 else 0) +
        (if s.power n = 2 then 20000 else 0)
    else 0
  satCost (run + load)

/-- What a placement can choose: a resource at once, or a reload of a pan. -/
inductive Choice where
  | run (o : Resource)
  | reload (n : Nat)
deriving DecidableEq, Repr

/-- The free resources that serve node (g, n) without a reload, with their costs, in the order of R293. -/
def State.choices (s : State) (h g n : Nat) (x : Node) : List (Nat × Choice) :=
  let cores := ((List.range 8).map (h * 8 + ·)).filter fun c => x.mayCore c && s.coreFree c g n
  let pans := (List.range 128).map (h * 128 + ·)
  match s.kernel h x.kslot with
  | none => cores.map fun c => (x.estCore, .run (.core c))
  | some k =>
    let usable := !k.bad && (if k.rake then bitOf x.kinds 2 else bitOf x.kinds 1)
    let held := if usable then pans.filter fun p => s.panServes p && s.holdsSlot p x.kslot else []
    let fabric : List (Nat × Choice) := if k.rake then
        held.flatMap fun p => ((List.range k.groups).filter fun i => !s.runsOn h (.rake p i)).map fun i => (s.panCost x p k false, .run (.rake p i))
      else (held.filter fun p => !s.panBusy p).map fun p => (s.panCost x p k false, .run (.pan p))
    let loads : List (Nat × Choice) := (if usable then pans.filter fun p => s.candidate p x.kslot else []).map fun p => (s.panCost x p k true, .reload p)
    let mine := cores.map fun c => (x.estCore, Choice.run (.core c))
    mine ++ (fabric ++ loads)

/-- The pan a choice names; 0 for a core. -/
def Choice.pan : Choice → Nat
  | .run (.core c) => c
  | .run (.pan p) => p
  | .run (.rake p _) => p
  | .reload p => p
/-- The class of a choice in the order CORE, then rake or pan. -/
def Choice.rank : Choice → Nat
  | .run (.core _) => 0
  | _ => 1
/-- The group a choice names. -/
def Choice.group : Choice → Nat
  | .run (.rake _ g) => g
  | _ => 0

/-- Choice a goes before b (R293 item 3). -/
def cheaper (a b : Nat × Choice) : Bool :=
  if a.1 ≠ b.1 then decide (a.1 < b.1)
  else if a.2.rank ≠ b.2.rank then decide (a.2.rank < b.2.rank)
  else if a.2.pan ≠ b.2.pan then decide (a.2.pan < b.2.pan)
  else decide (a.2.group < b.2.group)

/-- The best of a list of choices. -/
def bestChoice : List (Nat × Choice) → Option (Nat × Choice)
  | [] => none
  | c :: r => match bestChoice r with
    | some d => if cheaper d c then some d else some c
    | none => some c

/-- Where node (g, n) goes (R293): its last resource where that is free and needs no reload, else the cheapest. -/
def State.choose (s : State) (h g n : Nat) (x : Node) : Option Choice :=
  let l := s.choices h g n x
  match x.last with
  | some o => if l.any fun c => c.2 == .run o then some (.run o) else (bestChoice l).map (·.2)
  | none => (bestChoice l).map (·.2)

/-! ## Dispatch (R281, R288, R295, R297) -/

/-- What a firing takes: from every satisfied port its NEED tokens, with the port's number (R284). -/
def takenFrom (x : Node) : List Token :=
  (List.range x.ins.length).flatMap fun k =>
    let p := x.ins.getD k {}
    if p.satisfied then (p.tokens.take p.need).map fun t => { t with port := k } else []

/-- The ports after a firing: queue ports give up NEED tokens, latest-value ports with CONSUME empty (R282). -/
def Node.afterFire (x : Node) : Node :=
  { x with fired := none, ins := x.ins.map fun p =>
      if !p.satisfied then p
      else if p.latest then (if p.consume then { p with tokens := [] } else p)
      else InPort.refill { p with tokens := p.tokens.drop p.need } }

/-- The tag of a firing (R281). -/
def firingTag (x : Node) : Nat := match x.fired, takenFrom x with
  | some t, _ => t
  | none, t :: _ => t.tag
  | none, [] => x.source

/-- Write bytes into the dispatch window of core c. -/
def State.setWindow (s : State) (c off : Nat) : List Byte → State
  | [] => s
  | b :: r => (s.setWindowByte (c * 16384 + off) b).setWindow c (off + 1) r

/-- n bytes of the dispatch window of core c. -/
def State.windowBytes (s : State) (c off : Nat) : Nat → List Byte
  | 0 => []
  | n + 1 => s.windowByte (c * 16384 + off) :: s.windowBytes c (off + 1) n

/-- The scheduler writes a record into core c's window (R295). -/
def State.writeWindow (s : State) (c : Nat) (x : Node) (r : Record) : State :=
  (s.setWindow c 0 (leBytes 2 r.node ++ leBytes 2 r.graph ++ leBytes 4 r.tag ++ leBytes 2 r.number ++ leBytes 2 r.inputs.length ++
      leBytes 4 (bnat r.resume) ++ leBytes 8 x.entry ++ leBytes 8 x.arg)).setWindow c 0x40 (r.inputs.flatMap Token.bytes)

/-- The words of a dispatch packet (R297). -/
def packetWords (x : Node) (r : Record) (group : Nat) : List Dword :=
  [BitVec.ofNat 64 (r.node * 2 ^ 48 + r.graph * 2 ^ 40 + group * 2 ^ 38 + r.tag % 2 ^ 32),
   BitVec.ofNat 64 (r.number * 2 ^ 48 + r.inputs.length * 2 ^ 32), BitVec.ofNat 64 x.arg] ++
    dwordsOf (r.inputs.flatMap Token.bytes) (8 * r.inputs.length)

/-- The queue block that receives the dispatches of a resource. -/
def State.dispatchQueue (s : State) (o : Resource) (x : Node) (h : Nat) : Nat :=
  match o with
  | .pan p => p * 4 + (match s.kernel h x.kslot with
    | some k => k.dq
    | none => 0)
  | .rake p g => p * 4 + g
  | .core c => c

/-- The class of a dispatch packet (R297). -/
def State.dispatchClass (s : State) (d prio : Nat) : Bool :=
  let want := decide (4 ≤ prio)
  if (s.queue d).size want = 0 then !want else want

/-- Start record r on resource o: the window of a core, or the words of a packet (R295, R297). -/
def State.startOn (s : State) (h : Nat) (r : Record) (o : Resource) : State :=
  let x := s.nodeD r.graph r.node
  let t := s.modNode r.graph r.node fun y => { y with place := .dispatched, last := some o }
  let d := s.dispatchQueue o x h
  let r' : Record := { r with
    on := some o, preempting := none
    unsent := match o with
      | .core _ => []
      | .rake _ g => packetWords x r g
      | .pan _ => packetWords x r 0
    cls := s.dispatchClass d x.prio, dq := d }
  let t := t.modSched h fun c => { c with
    made := c.made + 1
    records := (c.records.filter fun y => y.id != r.id) ++ [{ r' with order := c.made }]
    reserved := c.reserved.filter fun y => !(y.2.1 == r.graph && y.2.2 == r.node)
    counted := c.counted.filter (· != (r.graph, r.node)) }
  let t := t.trace 2 h (r.graph * 2 ^ 24 + r.node * 2 ^ 8 + r.number % 256)
  match o with
  | .core c => (t.writeWindow c x r').modCore c fun k => { k with preempt := false, abort := false }
  | _ => t

/-- A firing of node (g, n) starts on resource o: its old record, or a new one that takes its inputs (R288). -/
def State.fire (s : State) (h g n : Nat) (o : Resource) : State :=
  match s.oldRecord h g n with
  | some r => s.startOn h r o
  | none =>
    let x := s.nodeD g n
    let c := s.sched h
    let r : Record := { number := c.next % 65536, id := c.next, graph := g, node := n, tag := firingTag x, inputs := takenFrom x }
    let t := (s.setSched h { c with next := c.next + 1, records := c.records ++ [r] }).modNode g n Node.afterFire
    t.startOn h r o

/-! ## Pre-emption (R292, R296) -/

/-- Records on cores of half h that node x of priority p may pre-empt, the best first found. -/
def State.preemptable (s : State) (h : Nat) (x : Node) : List Record :=
  (s.sched h).records.filter fun r => match r.on with
    | some (.core c) => x.mayCore c && s.managedCore c && r.preempting.isNone && (s.nodeD r.graph r.node).preempt && decide ((s.nodeD r.graph r.node).prio < x.prio) &&
        (s.sched h).reserved.all fun y => y.1 != c
    | _ => false

/-- The record to pre-empt: the lowest priority, the latest among equals. -/
def State.victim (s : State) : List Record → Option Record
  | [] => none
  | r :: l => match s.victim l with
    | none => some r
    | some q =>
      let a := (s.nodeD r.graph r.node).prio
      let b := (s.nodeD q.graph q.node).prio
      if a < b || (a == b && decide (q.order < r.order)) then some r else some q

/-- The pre-emption of core c is withdrawn with PREEMPT_LATE (R296). -/
def State.preemptLate (s : State) (c : Nat) : State :=
  let h := halfOfCore c
  match s.findRecord h fun r => r.on == some (.core c) && r.preempting.isSome with
  | none => s
  | some r =>
    ((((s.modRecord h r.id fun y => { y with preempting := none }).modSched h fun k => { k with reserved := k.reserved.filter fun y => y.1 != c }).modCore c
      fun k => { k with preempt := false })).schedReport h NOTICE 5 r.graph r.node 0

/-- Pre-empt a core for node (g, n) where R292 allows. -/
def State.preemptFor (s : State) (h g n : Nat) (x : Node) : State :=
  if (s.sched h).reserved.any fun y => y.2.1 == g && y.2.2 == n then s
  else match s.victim (s.preemptable h x) with
    | some r => match r.on with
      | some (.core c) =>
        let t := (((s.modRecord h r.id fun y => { y with preempting := some (g, n) }).modSched h fun k => { k with reserved := k.reserved ++ [(c, g, n)] }).modCore c
          fun k => { k with preempt := true })
        if s.fld (F.SCHED_PREEMPT_LIMIT_US h) = 0 then t.preemptLate c else t
      | _ => s
    | none => s

/-! ## Ends -/

/-- A dispatch is aborted at the end of a drain (R307 item 3). -/
def State.abortRecord (s : State) (h : Nat) (r : Record) : State :=
  let t := ((s.freeRecord h r).nodeIdle r).schedReport h NOTICE 3 r.graph r.node 0xFFFF
  match r.on with
  | some (.core c) =>
    ((t.setWindow c 0x0C (leBytes 4 (bnat r.resume + 2))).modSched h fun k => { k with reserved := k.reserved.filter fun y => y.1 != c }).modCore c
      fun k => { k with preempt := true, abort := true }
  | _ => t

/-- Stops with nothing left in flight end (R33, R307). -/
def Stop.over (p : Stop) (c : Sched) : Bool := c.records.all fun r => !p.covers r

/-- The opcode and unit of the command behind a stop: GRAPH_STOP or GRAPH_UNLOAD, SCHED_RESOURCES, SCHED_ENABLE. -/
def Stop.job (p : Stop) (h : Nat) (j : Job) : Bool :=
  match p.graph with
  | some g => (j.opcode == 0x0204 || j.opcode == 0x0205) && j.unit == g
  | none => j.half == h && (if p.cores = 0 then j.opcode == 0x020E else j.opcode == 0x020D)

/-- Link l is removed with the tokens it holds: in its hold, in transit, and those waiting at its port; answers how many. -/
def State.dropLink (s : State) (l : Link) : State × Nat :=
  let mine := (s.inPort l.dstGraph l.dstNode l.dstPort).waits.filter fun w => w.via == l.id
  let t := s.modNode l.dstGraph l.dstNode fun x => x.modIn l.dstPort fun q => { q with waits := q.waits.filter fun w => w.via != l.id }
  ({ t with links := t.links.filter fun k => k.id != l.id }, l.hold.length + l.transit.length + mine.length)

/-- Graph g leaves: its links, nodes, storage and identifier (R304, R307); a reload placed for one of its nodes runs to its end. -/
def State.dropGraph (s : State) (g : Nat) : State :=
  let t := (s.links.filter fun l => l.srcGraph == g || l.dstGraph == g).foldl (fun u l => (u.dropLink l).1) s
  let t := t.each [0, 1] fun h u => u.modSched h fun c => { c with
    reload := c.reload.map fun x => if x.1 = g then (g, 0, x.2.2) else x
    counted := c.counted.filter fun x => x.1 != g
    broke := c.broke.filter fun x => x.1 != g }
  { t with nodes := Bank.drop (fun k => k / 65536 == g) t.nodes }.setGraph g none

/-- One stop ends: the command replies, and an unload frees the graph. -/
def State.endStopJob (s : State) (h : Nat) (p : Stop) : State :=
  let t := match p.graph with
    | some g => if p.unload then s.dropGraph g else s
    | none => s
  t.endJobs (p.job h) OK 0 (drainRecord (min p.drained p.items) (p.items - p.drained))

/-- Every stop of half h with nothing left ends. -/
def State.endStops (s : State) (h : Nat) : State :=
  let c := s.sched h
  (c.stops.filter (·.over c)).foldl (fun t p => t.endStopJob h p) (s.setSched h { c with stops := c.stops.filter fun p => !p.over c })

/-- A stop's remaining dispatches are aborted, and it ends. -/
def State.timeoutStop (s : State) (h : Nat) (p : Stop) : State :=
  let t := ((s.sched h).records.filter p.covers).foldl (fun u r => u.abortRecord h r) s
  (t.endStops h).settle

/-- What follows a change in half h: lists come in line and stops end. -/
def State.schedSettle (s : State) (h : Nat) : State := (s.endStops h).settle

end Sys2Proof.Machine
end

