-- ==== Sys2Proof/Machine/Scheduler.lean ====
section
/-! DEFINITION. The scheduler's rounds, packets, completions, reloads, links and stops (08_dataflow_scheduler). -/

namespace Sys2Proof.Machine

/-! ## Dispatch rounds (R288 to R293, R301 to R303, R320) -/

/-- The scheduler of half h may dispatch: USER, enabled, and not held by a split (R306, R310). -/
def State.mayDispatch (s : State) (h : Nat) : Bool :=
  s.fld F.RST_STATUS_STATE == 7 && s.on (F.SCHED_CTL_EN h) && !(h == 1 && s.southHolds)

/-- What a round finds at one entry. -/
inductive Trial where
  | placed (s : State)
  | halted (s : State)
  | passed (s : State)

/-- A node is counted in DISPATCH_WAITS once until it is placed (R288). -/
def State.countWait (s : State) (h g n : Nat) : State :=
  if (s.sched h).counted.contains (g, n) then s
  else (s.modSched h fun c => { c with counted := c.counted ++ [(g, n)] }).count (F.SCHED_COUNTS_DISPATCH_WAITS h) none

/-- The breakpoint of R320 names the node. -/
def State.breaksAt (s : State) (h g n : Nat) : Bool :=
  s.on (F.SCHED_BRK_EN h) && s.fld (F.SCHED_BRK_GRAPH h) == g && (s.fld (F.SCHED_BRK_NODE h) == 0 || s.fld (F.SCHED_BRK_NODE h) == n)

/-- HALT sets at a breakpoint, and the round places nothing. -/
def State.breakRound (s : State) (h g n : Nat) : State :=
  (s.setFlds [(F.SCHED_CTL_HALT h, 1), (F.SCHED_STATUS_BRK_HIT h, 1)]).modSched h fun c => { c with broke := some (g, n) }

/-- Node (g, n) is placed: it counts again in DISPATCH_WAITS only after that, and its breakpoint may hit again (R288, R320). -/
def State.notePlaced (s : State) (h g n : Nat) : State :=
  s.modSched h fun c => { c with counted := c.counted.filter (· != (g, n)), broke := if c.broke = some (g, n) then none else c.broke }

/-- The choice for node (g, n) is carried out: a dispatch, or a reload that enters at the head of the node's level. -/
def State.carryOut (s : State) (h g n : Nat) (x : Node) : Choice → State
  | .run o => ((s.notePlaced h g n).leaveReady h (· == .node g n)).fire h g n o
  | .reload p =>
    (((s.notePlaced h g n).leaveReady h (· == .node g n)).modNode g n fun y => { y with place := .reload }).enterHead h x.prio (.reload g n p)

/-- A round examines a node's entry; STEP passes the breakpoint only for the node at which it has hit (R320). -/
def State.tryNode (s : State) (h g n : Nat) (step head : Bool) : Trial :=
  let x := s.nodeD g n
  if 256 ≤ (s.sched h).records.length then .passed (s.countWait h g n)
  else if !s.runs g || x.faulted then .passed s
  else match s.choose h g n x with
    | some c => if s.breaksAt h g n && !(step && (s.sched h).broke == some (g, n)) then .halted (s.breakRound h g n) else .placed (s.carryOut h g n x c)
    | none => .passed (if head && bitOf x.kinds 0 then s.preemptFor h g n x else s)

/-- The scheduler's own load of slot k begins on pan p (R302 items 1 and 2). -/
def State.beginReload (s : State) (h g n p : Nat) : State :=
  let k := (s.nodeD g n).kslot
  let b := (s.kernel h k).getD {}
  let t := (s.modSched h fun c => { c with reload := some (g, n, p, k), reloadEnd := none }).setFld (F.SCHED_STATUS_LOADING h) 1
  let t := if t.sluice p = OPEN then (t.writeShut p).1 else t
  t.setLoad (loadKey h 1) (some { pan := p, src := b.addr, left := 32 * b.beats, slot := k + 1 })

/-- A round examines a reload's entry: placed when the engine has no load in progress and a record is free. -/
def State.tryReload (s : State) (h g n p : Nat) : Trial :=
  if (s.sched h).reload.isSome || (s.load (loadKey h 1)).isSome || 256 ≤ (s.sched h).records.length then .passed s
  else .placed ((s.leaveReady h (· == .reload g n p)).beginReload h g n p)

/-- Slices in progress in half h (R704). -/
def State.slicesIn (s : State) (h : Nat) : Nat :=
  ((List.range 128).filter fun i => match s.slice (h * 128 + i) with
    | some x => decide (2 ≤ x.phase)
    | none => false).length

/-- A slice is granted: the TEST hold sets and the pan's state is saved (R303, R696). -/
def State.grantSlice (s : State) (n : Nat) : State :=
  let h := halfOfPan n
  let t := (s.leaveReady h (· == .slice n)).setSlice n (some { ((s.slice n).getD {}) with phase := 2 })
  (t.setHold n (F.PAN_SLUICE_STATUS_HOLD_TEST n)).setFld (F.ST_STATUS_INFLIGHT h) (t.slicesIn h)

/-- A round examines a slice's entry (R303). -/
def State.trySlice (s : State) (h n : Nat) : Trial :=
  if s.panBusy n || s.sluice n = RELOADING || s.sluice n = QUARANTINED || s.fld (F.GOV_STATUS_SLICES h) ≤ s.slicesIn h then .passed s
  else .placed (s.grantSlice n)

/-- One entry. -/
def State.tryEntry (s : State) (h : Nat) (e : Entry) (step head : Bool) : Trial :=
  match e.work with
  | .node g n => s.tryNode h g n step head
  | .reload g n p => s.tryReload h g n p
  | .slice n => s.trySlice h n

/-- The entries of a level from its head on, until one is placed. -/
def State.tryLevel (s : State) (h : Nat) (step : Bool) : List Entry → Bool → Trial
  | [], _ => .passed s
  | e :: r, head => match s.tryEntry h e step head with
    | .passed t => t.tryLevel h step r false
    | x => x

/-- The levels from k − 1 down to 0; at most 64 entries of each. -/
def State.tryLevels (s : State) (h : Nat) (step : Bool) : Nat → State
  | 0 => s
  | k + 1 => match s.tryLevel h step (((s.sched h).ready.filter fun e => e.level == k).take 64) true with
    | .placed t => t.settle
    | .halted t => t
    | .passed t => t.tryLevels h step k

/-- One dispatch round of half h (R291). -/
def State.round (s : State) (h : Nat) (step : Bool) : State :=
  let t := s.schedSettle h
  if t.mayDispatch h then t.tryLevels h step 8 else t

/-- DISPATCH_ROUND (R291). -/
def execDispatchRound (h : Fin 2) (s : State) : Out :=
  .next (if s.on (F.SCHED_CTL_HALT h) then s.schedSettle h else s.round h false)

/-- SCHED_STEP (R310): with HALT set one round runs; the bit ends clear. -/
def State.schedStepWrite (s : State) (h : Nat) : State :=
  (if s.on (F.SCHED_CTL_HALT h) then s.round h true else s).setFld (F.SCHED_CTL_STEP h) 0

/-- SCHED_STEP (R310). -/
def execSchedStep (h : Fin 2) (s : State) : Out := .next (s.schedStepWrite h)

/-! ## Packets (R297, R307) -/

/-- One word is pushed into a free place of queue block d (R297): the state, and whether it was taken. Toward a pan that is not OPEN
the scheduler pushes nothing and keeps the word (R235; Assumption 57). -/
def State.pushWord (s : State) (d : Nat) (cls last : Bool) (w : Dword) (disp : Nat) : State × Bool :=
  let q := s.queue d
  if q.sync.isSome || q.kind ≠ 2 || s.fabricEnd d == .writeEnd || s.sluice (panOfQueue d) ≠ OPEN then (s, false)
  else if q.dropping then ((s.setQueue d { q with dropping := !last }).settingsIfOutside d, true)
  else if q.writing.isNone && s.on (segFlushFld d cls) then (s, false)
  else if (q.writing.isSome && q.writing != some cls) || (q.seg cls).full (q.size cls) then (s, false)
  else
    let t := s.setQueue d { q.setSeg cls ((q.seg cls).push (q.size cls) { data := w, vb := 8, last := last, disp := disp }) with
      writing := if last then none else some cls, packDisp := if last then 0 else disp }
    (if last then t.settingsIfOutside d else t, true)

/-- Cut packets are ended, each by one unit with NULL and END where its queue has a place and the packet still stands open (R307
item 3): the state, and those that wait. -/
def State.pushCuts (s : State) : List (Nat × Bool) → State × List (Nat × Bool)
  | [] => (s, [])
  | (d, cls) :: r =>
    let q := s.queue d
    let x := if !(q.dropping || q.writing == some cls) then (s, true)
      else if s.sluice (panOfQueue d) ≠ OPEN then (s, false)
      else s.writeUnit d { data := 0, last := true, cls := cls, null := true }
    let y := x.1.pushCuts r
    (y.1, if x.2 then y.2 else (d, cls) :: y.2)

/-- The cut packets of half h are ended where they can be. -/
def State.endCuts (s : State) (h : Nat) : State :=
  let x := s.pushCuts (s.sched h).cutting
  x.1.modSched h fun c => { c with cutting := x.2 }

/-- The next word of a dispatch with this number is pushed, into a queue in which no packet waits to be cut. -/
def State.pushNext (s : State) (h number : Nat) : State :=
  match s.findRecord h fun r => r.number == number && !r.unsent.isEmpty && (s.sched h).cutting.all fun x => x.1 != r.dq with
  | none => s
  | some r => match r.unsent with
    | [] => s
    | w :: rest =>
      let p := s.pushWord r.dq r.cls rest.isEmpty w (dispKey h r.id)
      if p.2 then p.1.modRecord h r.id fun y => { y with unsent := rest } else s

/-- SCHED_DISPATCH_PUSH (R297): packets to be cut are ended first; then the next word of the dispatch with this number. -/
def execSchedDispatchPush (h : Fin 2) (number : BitVec 16) (s : State) : Out := .next ((s.endCuts h).pushNext h number.toNat)

/-! ## Completions (R295 to R298) -/

/-- STRAY is set. -/
def State.strayDone (s : State) (h : Nat) : State := s.setFld (F.SCHED_STATUS_STRAY h) 1

/-- A completion packet has ended, by its END word or by a cut: its words, oldest first (R297). -/
def State.takeCompletion (s : State) (h : Nat) (ws : List QWord) : State :=
  let w (i : Nat) : Nat := ((ws.getD i {}).data).toNat
  if ws.length < 3 then s.strayDone h
  else
    match s.findRecord h fun r => r.answers (w 0) (w 1) with
    | none => s.strayDone h
    | some r =>
      let m := bitsOf (w 1) 47 32
      if 64 < m || ws.length ≠ 3 + 8 * m || ws.getLast?.all (fun x => !x.last) then (s.setFld (F.SCHED_STATUS_EXCESS h) 1).acceptStatus h r 1 []
      else s.acceptStatus h r (bitsOf (w 1) 15 0) (tokensOf ((ws.drop 3).flatMap fun x => leBytes 8 x.data.toNat) m)

/-- Words popped so far of queue d. -/
def State.setPopped (s : State) (h d : Nat) (l : List (QWord × Bool)) : State :=
  s.modSched h fun c => { c with popped := Bank.set (fun _ => []) c.popped d l }

/-- SCHED_COMPLETION_POP (R297): the scheduler pops one word of completion queue d. A word with CUT ends the packet before it. -/
def execSchedCompletionPop (d : Fin 1024) (s : State) : Out :=
  let h := halfOfQueue d
  let q := s.queue d
  .next (if q.kind ≠ 2 || q.sync.isSome || s.fabricEnd d == .readEnd then s.reply .none
    else match q.takeWord with
      | none => s.reply .none
      | some (cls, w, q') =>
        let t := s.setQueue d q'
        let t := (t.noteDrained d false cls w.last).reply (.item w.data w.vb w.last false false q.cut)
        let old := Bank.get (fun _ => []) (t.sched h).popped d
        let t1 := if q.cut && !old.isEmpty then (t.takeCompletion h (old.map (·.1))).setPopped h d [] else t
        let l := (if q.cut then [] else old) ++ [(w, q.cut)]
        if w.last then ((t1.setPopped h d []).takeCompletion h (l.map (·.1))).schedSettle h else t1.setPopped h d l)

/-- Apply a core's stores to its window's completion fields. -/
def State.applyStores (s : State) (c : Nat) : List (BitVec 14 × Byte) → State
  | [] => s
  | (o, b) :: r =>
    (if (0x2000 ≤ o.toNat && o.toNat < 0x2004) || (0x2040 ≤ o.toNat && o.toNat < 0x3040) then s.setWindowByte (c * 16384 + o.toNat) b else s).applyStores c r

/-- The dispatch on core c yields (R296). -/
def State.yieldRecord (s : State) (h c : Nat) (r : Record) : State :=
  let p := (s.nodeD r.graph r.node).prio
  let t := ((s.modRecord h r.id fun y => { y with on := none, preempting := none, resume := true }).modNode r.graph r.node fun x =>
    { x with place := .preempted, last := some (.core c) }).modCore c fun k => { k with preempt := false }
  if t.runs r.graph then t.enterHead h p (.node r.graph r.node) else t

/-- Core c completes its dispatch (R295, R298). -/
def State.coreDone (s : State) (c : Nat) : State :=
  let h := halfOfCore c
  match s.coreRecord c with
  | none => (s.strayDone h).modCore c fun k => { k with preempt := false, abort := false }
  | some r =>
    let w := leNat (s.windowBytes c 0x2000 4)
    let status := w % 65536
    let m := w / 65536
    if status = 0x8000 then (s.yieldRecord h c r).schedSettle h
    else
      let t := s.modCore c fun k => { k with preempt := false }
      (if 64 < m then (t.setFld (F.SCHED_STATUS_EXCESS h) 1).acceptStatus h r 1 []
        else t.acceptStatus h r status (tokensOf (s.windowBytes c 0x2040 (64 * m)) m)).schedSettle h

/-- The agents that reach the window of core c (R295). -/
def reachesWindow (c : Nat) : Agent → Bool
  | .core k => k.val == c
  | .mgmt h => h.val == halfOfCore c
  | _ => false

/-- The device address of a window offset. -/
def windowAddr (c off : Nat) : Nat := SCHED_WINDOWS + c * 0x4000 + off

/-- DISPATCH_DONE_WRITE (R295): the agent stores its completion fields and writes DONE. -/
def execDispatchDoneWrite (a : Agent) (c : Fin 16) (stores : List (BitVec 14 × Byte)) (s : State) : Out :=
  .next (s.fromAgent a (if reachesWindow c a then (s.applyStores c stores).coreDone c else (s.misuse a 5 (windowAddr c 0x3FF8)).reply (.word 0)))

/-- DISPATCH_WINDOW_MISUSE (R295): an access by an agent that does not reach the window. -/
def execDispatchWindowMisuse (a : Agent) (c : Fin 16) (off : BitVec 14) (write : Bool) (s : State) : Out :=
  .next (s.fromAgent a (if reachesWindow c a then s
    else if agentHalf a != halfOfCore c && s.isSplit (agentHalf a) then (s.unmappedNotice a (windowAddr c off.toNat)).reply (.word 0)
    else (s.misuse a 5 (windowAddr c off.toNat)).reply (if write then .none else .word 0)))

/-- PREEMPT_LIMIT_EXPIRY (R296). -/
def execPreemptLimitExpiry (c : Fin 16) (s : State) : Out := .next (s.preemptLate c)

/-! ## Reloads (R302) -/

/-- A node returns to the head of its level. -/
def State.nodeToHead (s : State) (h g n : Nat) : State :=
  match s.node g n with
  | none => s
  | some x =>
    if s.runs g then (s.setNode g n { x with place := .ready }).enterHead h x.prio (.node g n) else s.setNode g n { x with place := .idle }

/-- The nodes of graphs of half h that name slot k for a pan or a rake group. -/
def State.namers (s : State) (h k : Nat) : List (Nat × Nat) :=
  (List.range 256).flatMap fun g => match s.graph g with
    | none => []
    | some x => if x.home = h then (x.ids.filter fun n => (s.nodeD g n).kslot == k && decide (2 ≤ (s.nodeD g n).kinds)).map fun n => (g, n) else []

/-- The slot is BAD, and every node that names it takes FAULTED with RELOAD_FAIL (R302). -/
def State.badSlot (s : State) (h k : Nat) : State :=
  let t := match s.kernel h k with
    | some b => s.setKernel h k (some { b with bad := true })
    | none => s
  (t.namers h k).foldl (fun u p => ((((u.leaveReady h (· == .node p.1 p.2)).modNode p.1 p.2 fun x =>
    { x with faulted := true, place := if x.place = .dispatched || x.place = .preempted then x.place else .idle }).setFld (F.SCHED_STATUS_FAULT h) 1).schedReport
      h ERROR 4 p.1 p.2 k)) t

/-- The bindings that a kernel's queues must have (R272): dispatch queues IN, CQ OUT, all bound to the scheduler as their binding
registers say. -/
def State.bindingsOk (s : State) (n : Nat) (k : Kernel) : Bool :=
  let dqs := if k.rake then List.range k.groups else [k.dq]
  let mine (q : Nat) : Bool := s.fld (F.PAN_QB_WINDOW_KIND n q) == 2
  dqs.all (fun q => s.fabricEnd (n * 4 + q) == .readEnd && mine q) && s.fabricEnd (n * 4 + k.cq) == .writeEnd && mine k.cq

/-- A cause of class 0x01xx or 0x04xx, or FETCH (R261, R302). -/
def marksSlot (cause : Nat) : Bool := loadStatus cause false / 256 == 1 || loadStatus cause false / 256 == 4 || cause == 16

/-- Items 3 to 5 of R302: bindings, OPEN, the generation, and the dispatch. -/
def State.reloaded (s0 : State) (h g n p k : Nat) : State :=
  let s := s0.trace 4 h (p + k * 256)
  match s.kernel h k with
  | none => s.nodeToHead h g n
  | some b =>
    if !s.bindingsOk p b then s.badSlot h k
    else match s.writeOpen p with
      | (_, .refused) => s.nodeToHead h g n
      | (t, _) =>
        let t := t.modSched h fun c => { c with gens := Bank.set (fun _ => 0) c.gens p (t.fld (F.PAN_SLUICE_STATUS_GEN p) + 1) }
        if !t.runs g then t.modNode g n fun x => { x with place := .idle }
        else if t.sluice p = OPEN && (t.sched h).records.length < 256 && ((t.oldRecord h g n).isSome || (t.nodeD g n).portsFire || (t.nodeD g n).fired.isSome) then
          t.fire h g n (if b.rake then .rake p 0 else .pan p)
        else t.nodeToHead h g n

/-- SCHED_RELOAD_COMPLETE (R302): the scheduler's load has ended. -/
def execSchedReloadComplete (h : Fin 2) (s : State) : Out :=
  .next (match (s.sched h).reload, (s.sched h).reloadEnd with
    | some (g, n, p, k), some (cause, _) =>
      let t := (s.modSched h fun c => { c with reload := none, reloadEnd := none }).setFld (F.SCHED_STATUS_LOADING h) 0
      (if cause = 0 then t.reloaded h g n p k
        else if marksSlot cause then t.badSlot h k
        else t.nodeToHead h g n).schedSettle h
    | _, _ => s)

/-- SLICE_PROMOTE (R301): a slice that has waited 10 ms moves to the tail of level 7. -/
def execSlicePromote (n : Fin 256) (s : State) : Out :=
  .next (s.modSched (halfOfPan n) fun c =>
    if c.ready.any fun e => e.work == .slice n.val then { c with ready := (c.ready.filter fun e => e.work != .slice n.val) ++ [⟨7, .slice n.val⟩] } else c)

/-! ## Links across the halves (R305) -/

/-- CROSS_HALF_TOKEN_ARRIVE (R305): the oldest token in transit on a link lands at its consumer port. -/
def execCrossHalfTokenArrive (id : BitVec 16) (s : State) : Out :=
  .next (match s.links.find? fun l => l.id == id.toNat with
    | none => s
    | some l => match l.transit with
      | [] => s
      | t :: rest =>
        if !s.tokensCross then s
        else ((s.modLink l.id fun x => { x with transit := rest }).arrive l.dstGraph l.dstNode l.dstPort l.srcGraph l.srcNode t l.id).settle)

/-! ## Stops and injections -/

/-- SCHED_DRAIN_TIMEOUT (R307): the drain of a graph, of cores, or of the half passes. -/
def execSchedDrainTimeout (h : Fin 2) (graph : Option (Fin 256)) (cores : Byte) (s : State) : Out :=
  .next (match (s.sched h).stops.find? fun p => p.graph == graph.map (·.val) && p.cores == cores.toNat with
    | some p => s.timeoutStop h p
    | none => s)

/-- The class of an injected scheduler report (R319). -/
def schedKindClass (kind : Nat) : Nat := if kind = 1 || kind = 3 || kind = 5 then ERROR else NOTICE

/-- A write of 1 to INJECT with a kind (R319); the unit and context of the report are free (Assumption 3). -/
def State.schedInjectWrite (s : State) (h kind : Nat) : State :=
  let t := s.setFlds [(F.SCHED_INJECT_INJECT h, 0), (F.SCHED_INJECT_INJ_KIND h, kind)]
  if kind ≤ 5 then
    t.useFree.raise { half := h, cls := schedKindClass kind, src := 6, code := kind + 1, unit := h * 256 + t.freeVal % 256, ctx := t.freeVal, inj := true }
  else t.setFld (F.SCHED_INJECT_INJ_REFUSED h) 1

/-- SCHED_INJECT (R319). -/
def execSchedInject (h : Fin 2) (kind : Fin 8) (s : State) : Out := .next (s.schedInjectWrite h kind)

/-- SCHED_COUNTS_CLEAR (R318). -/
def execSchedCountsClear (h : Fin 2) (s : State) : Out :=
  .next (s.setFlds [(F.SCHED_COUNTS_READY_WAITS h, 0), (F.SCHED_COUNTS_DISPATCH_WAITS h, 0), (F.SCHED_COUNTS_NOTES_DROPPED h, 0)])

end Sys2Proof.Machine
end

