-- ==== Sys2Proof/Machine/Graphs.lean ====
section
/-! DEFINITION. The graph, kernel and token commands of group 0x02 (R522). -/

namespace Sys2Proof.Machine

/-! ## Kernel registration (R271, R272) -/

/-- The KERNEL entry in 64 parameter bytes. -/
def kernelOf (l : List Byte) : Kernel :=
  { addr := numAt l 0 8, beats := numAt l 8 4, tag := numAt l 12 2, rake := numAt l 14 1 == 1, dq := numAt l 16 1, cq := numAt l 17 1
    groups := numAt l 18 1, masks := [numAt l 20 2, numAt l 22 2, numAt l 24 2] }

/-- Mask i of a kernel. -/
def Kernel.mask (k : Kernel) (i : Nat) : Nat := k.masks.getD i 0

/-- Mask i holds what R272 asks: a used group's mask is not zero and shares no rake with the masks before it, and any other is zero. -/
def Kernel.maskOk (k : Kernel) (i : Nat) : Bool :=
  if k.rake && decide (i < k.groups) then k.mask i != 0 && (List.range i).all fun j => (k.mask i &&& k.mask j) == 0
  else k.mask i == 0

/-- A field of the entry that holds its rule (R271, R272); R is given the kernel. -/
def entryField (o n : Nat) (okay : Kernel → Nat → Bool) : FieldRule :=
  { off := o, len := n, ok := fun _ r => okay (kernelOf r.p.params) (r.p.num o n) }

/-- The lowest directory slot that is not valid. -/
def State.freeSlot (s : State) (h : Nat) : Option Nat := (List.range 1024).find? fun k => (s.kernel h k).isNone

/-- KERNEL_REGISTER of R522. -/
def cmdKernelRegister : Cmd where
  opcode := 0x0200
  cls := .short
  scopes := [1]
  size := fun _ => 64
  fields := [entryField 8 4 fun _ v => decide (13 ≤ v), rangeField 14 1 0 1, zeroField 15 1,
    entryField 16 1 fun k v => if k.rake then v == 0 else decide (v ≤ 3),
    entryField 17 1 fun k v => decide (v ≤ 3) && (k.rake || v != k.dq),
    entryField 18 1 fun k v => if k.rake then decide (1 ≤ v) && decide (v ≤ 3) && decide (v ≤ k.cq) else v == 0,
    zeroField 19 1,
    entryField 20 2 fun k _ => k.maskOk 0, entryField 22 2 fun k _ => k.maskOk 1, entryField 24 2 fun k _ => k.maskOk 2,
    { off := 26, len := 38, ok := fun _ r => zeroAt r.p.params 26 38 }]
  check := fun s r =>
    if !s.stackMapped r.half then refusal S_HW_FAULT D_STACK_FAILED
    else if (s.freeSlot r.half).isNone then refusal S_EXHAUSTED 0x0205 else none
  run := fun s r => match s.freeSlot r.half with
    | none => .done s S_EXHAUSTED 0x0205 []
    | some k => ok (s.setKernel r.half k (some (kernelOf r.p.params))) (leBytes 2 k ++ leBytes 2 0)

/-- KERNEL_REGISTER (R271). -/
def execKernelRegister (p : Packet) (s : State) : Out := .next (s.deliver cmdKernelRegister p)

/-- A resident graph of half h names slot k. -/
def State.slotNamed (s : State) (h k : Nat) : Bool := !(s.namers h k).isEmpty

/-- KERNEL_UNREGISTER of R522. -/
def cmdKernelUnregister : Cmd where
  opcode := 0x0201
  cls := .short
  scopes := [1]
  size := fun _ => 4
  fields := [rangeField 0 2 0 1023, zeroField 2 2]
  check := fun s r =>
    if (s.kernel r.half (r.p.u16 0)).isNone then already
    else if s.slotNamed r.half (r.p.u16 0) then refusal S_IN_USE else none
  run := fun s r => ok (s.setKernel r.half (r.p.u16 0) none)

/-- KERNEL_UNREGISTER (R522). -/
def execKernelUnregister (p : Packet) (s : State) : Out := .next (s.deliver cmdKernelUnregister p)

/-! ## Graph descriptors (R273 to R277) -/

/-- An input port descriptor in 8 bytes; none when it breaks R275. -/
def inPortOf (l : List Byte) : Option InPort :=
  let k := numAt l 0 1
  let d := numAt l 1 1
  let n := numAt l 2 1
  let latest := k % 2 == 1
  if 8 ≤ k || !zeroAt l 3 5 then none
  else if latest then (if n ≤ 1 then some { latest := true, consume := bitOf k 1, tagOrder := bitOf k 2, depth := 1, need := n } else none)
  else if k ≠ 0 || 64 < d || d < n then none
  else some { depth := d, need := n }

/-- An output port descriptor. -/
def outPortOf (l : List Byte) : Option OutPort :=
  if numAt l 0 1 ≠ 0 || 64 < numAt l 1 1 || !zeroAt l 2 6 then none else some { maxOut := numAt l 1 1 }

/-- n descriptors of 8 bytes, by a reader of one. -/
def portsOf {α : Type} (f : List Byte → Option α) (l : List Byte) : Nat → Option (List α)
  | 0 => some []
  | n + 1 => match f (l.take 8), portsOf f (l.drop 8) n with
    | some x, some r => some (x :: r)
    | _, _ => none

/-- The fields of a node header are in range (R274). -/
def nodeHeaderOk (l : List Byte) : Bool :=
  let kinds := numAt l 2 1
  decide (1 ≤ numAt l 0 2) && decide (1 ≤ kinds) && decide (kinds ≤ 7) && decide (numAt l 3 1 < 64) && decide (numAt l 4 1 ≤ 16) && decide (numAt l 5 1 ≤ 16) &&
    decide (numAt l 6 1 ≤ numAt l 5 1) && numAt l 7 1 == 0 && (decide (kinds < 2) || decide (numAt l 8 2 ≤ 1023)) && numAt l 11 1 == 0 && zeroAt l 20 4 && zeroAt l 40 24

/-- One node descriptor at the head of a byte string: its identifier, the node, and its length. -/
def nodeOf (l : List Byte) : Option (Nat × Node × Nat) :=
  let nin := numAt l 4 1
  let nout := numAt l 5 1
  if l.length < 64 || !nodeHeaderOk l || l.length < 64 + 8 * (nin + nout) then none
  else match portsOf inPortOf (l.drop 64) nin, portsOf outPortOf (l.drop (64 + 8 * nin)) nout with
    | some i, some o =>
      let ctl := numAt l 3 1
      if 64 < (i.map (·.need)).foldl (· + ·) 0 || 64 < (o.map (·.maxOut)).foldl (· + ·) 0 then none
      else some (numAt l 0 2, { kinds := numAt l 2 1, prio := ctl % 8, preempt := bitOf ctl 3, retry := bitOf ctl 4, anyRule := bitOf ctl 5, notice := numAt l 6 1, kslot := numAt l 8 2, cores := numAt l 10 1, estCore := numAt l 12 4, estFab := numAt l 16 4, entry := numAt l 24 8, arg := numAt l 32 8, ins := i, outs := o }, 64 + 8 * (nin + nout))
    | _, _ => none

/-- n node descriptors, one after another. -/
def nodesOf (l : List Byte) : Nat → Option (List (Nat × Node))
  | 0 => some []
  | n + 1 => match nodeOf l with
    | none => none
    | some (id, x, len) => match nodesOf (l.drop len) n with
      | some r => some ((id, x) :: r)
      | none => none

/-- One edge descriptor. -/
def edgeOf (l : List Byte) : Option Edge :=
  if l.length < 16 || 8 ≤ numAt l 3 1 || !zeroAt l 7 9 then none
  else some { srcNode := numAt l 0 2, srcPort := numAt l 2 1, prio := numAt l 3 1, dstNode := numAt l 4 2, dstPort := numAt l 6 1 }

/-- n edge descriptors. -/
def edgesOf (l : List Byte) : Nat → Option (List Edge)
  | 0 => some []
  | n + 1 => match edgeOf l, edgesOf (l.drop 16) n with
    | some e, some r => some (e :: r)
    | _, _ => none

/-- Node identifier n of a list of nodes. -/
def findNode (l : List (Nat × Node)) (n : Nat) : Option Node := (l.find? fun p => p.1 == n).map (·.2)

/-- The edge joins ports that exist. -/
def edgeFits (l : List (Nat × Node)) (e : Edge) : Bool :=
  match findNode l e.srcNode, findNode l e.dstNode with
  | some a, some b => decide (e.srcPort < a.outs.length) && decide (e.dstPort < b.ins.length)
  | _, _ => false

/-- A queue port of depth 0 is fed by no edge and needs nothing (R275). -/
def depthsFit (l : List (Nat × Node)) (es : List Edge) : Bool :=
  l.all fun p => (List.range p.2.ins.length).all fun k =>
    let i := p.2.ins.getD k {}
    i.latest || decide (1 ≤ i.depth) || (i.need == 0 && es.all fun e => !(e.dstNode == p.1 && e.dstPort == k))

/-- KSLOT of a node names a valid slot of a kind that the node's KINDS include, not BAD (R277). -/
def State.slotFits (s : State) (h : Nat) (x : Node) : Bool :=
  decide (x.kinds < 2) || match s.kernel h x.kslot with
    | none => false
    | some k => !k.bad && (if k.rake then bitOf x.kinds 2 else bitOf x.kinds 1)

/-- A parsed graph: its home, START, nodes and edges. -/
structure Descriptor where
  home : Nat
  start : Bool
  nodes : List (Nat × Node)
  edges : List Edge

/-- A descriptor in memory, against R277; none refuses it with CONTENT. -/
def State.parseGraph (s : State) (l : List Byte) : Option Descriptor :=
  let n := numAt l 4 4
  let e := numAt l 8 4
  let no := numAt l 16 8
  let eo := numAt l 24 8
  if l.length < 64 || numAt l 0 2 ≠ 1 || 2 ≤ numAt l 2 1 || 2 ≤ numAt l 3 1 || !zeroAt l 12 4 || no % 8 ≠ 0 || eo % 8 ≠ 0 || !zeroAt l 32 32 || 65535 < n ||
      (n ≠ 0 && l.length < no) || (e ≠ 0 && l.length < eo + 16 * e) then none
  else match nodesOf (l.drop no) n, edgesOf (l.drop eo) e with
    | some ns, some es =>
      if (ns.map (·.1)).eraseDups.length = ns.length && es.all (edgeFits ns) && depthsFit ns es && ns.all (fun p => s.slotFits (numAt l 2 1) p.2) then
        some { home := numAt l 2 1, start := numAt l 3 1 == 1, nodes := ns, edges := es }
      else none
    | _, _ => none

/-- Token storage of a graph in bytes (R279). -/
def Descriptor.storage (d : Descriptor) : Nat :=
  let q := (d.nodes.map fun p => ((p.2.ins.filter fun i => !i.latest).map (·.depth)).foldl (· + ·) 0).foldl (· + ·) 0
  let v := (d.nodes.map fun p => (p.2.ins.filter (·.latest)).length).foldl (· + ·) 0
  let h := (d.edges.map fun e => match findNode d.nodes e.dstNode, findNode d.nodes e.srcNode with
    | some b, some a => if (b.ins.getD e.dstPort {}).latest then 0 else (a.outs.getD e.srcPort {}).maxOut
    | _, _ => 0).foldl (· + ·) 0
  64 * (q + v + h)

/-- Resident graphs of half h. -/
def State.graphsOf (s : State) (h : Nat) : List Graph :=
  ((List.range 256).filterMap fun g => s.graph g).filter fun x => x.home == h

/-- Node entries, edge entries with links, and token storage in use in half h (R309, R279, R304). -/
def State.nodesUsed (s : State) (h : Nat) : Nat := ((s.graphsOf h).map fun x => x.ids.length).foldl (· + ·) 0
def State.edgesUsed (s : State) (h : Nat) : Nat :=
  ((s.graphsOf h).map fun x => x.edges.length).foldl (· + ·) 0 + (s.links.filter fun l => s.home l.srcGraph == h).length
def State.linkBytes (s : State) (g n p dg dn dp : Nat) : Nat :=
  if ((s.nodeD dg dn).ins.getD dp {}).latest then 0 else 64 * ((s.nodeD g n).outs.getD p {}).maxOut
def State.storageUsed (s : State) (h : Nat) : Nat :=
  ((s.graphsOf h).map (·.storage)).foldl (· + ·) 0 +
    ((s.links.filter fun l => s.home l.srcGraph == h).map fun l => s.linkBytes l.srcGraph l.srcNode l.srcPort l.dstGraph l.dstNode l.dstPort).foldl (· + ·) 0

/-- Storage for tokens in half h: TOKEN less the dispatch area (R279). -/
def State.storageOf (s : State) (h : Nat) : Nat := (s.fld (F.MEM_LAG_PART_TOKEN h) - 1) * 0x100000

/-- The lowest free graph identifier that half h may give: each of two halves that continue gives its own, even ones north and odd
ones south (R486). -/
def State.freeGraph (s : State) (h : Nat) : Option Nat :=
  let both := s.fld (F.CSW_STATUS_STATE h) == 3 || (s.fld (F.CSW_STATUS_STATE h) == 5 && (s.cswHalf h).was == 3)
  (List.range 256).find? fun g => (s.graph g).isNone && (!both || g % 2 == h)

/-- Why a parsed graph does not fit, as a detail of EXHAUSTED (R277, R309). -/
def State.graphLack (s : State) (h : Nat) (d : Descriptor) : Option Nat :=
  if (s.freeGraph h).isNone then some 0x0201
  else if 32768 < s.nodesUsed d.home + d.nodes.length then some 0x0202
  else if 65536 < s.edgesUsed d.home + d.edges.length then some 0x0203
  else if s.storageOf d.home < s.storageUsed d.home + d.storage then some 0x0204
  else none

/-- Insert a number into an ascending list. -/
def insertAsc (n : Nat) : List Nat → List Nat
  | [] => [n]
  | x :: r => if n < x then n :: x :: r else x :: insertAsc n r

/-- The graph takes its identifier, nodes and edges (R278). -/
def State.placeGraph (s : State) (g : Nat) (d : Descriptor) : State :=
  let t := s.setGraph g (some { home := d.home, started := d.start, ids := d.nodes.foldl (fun l p => insertAsc p.1 l) [], edges := d.edges, storage := d.storage })
  (d.nodes.foldl (fun u p => u.setNode g p.1 p.2) t).settle

/-- The result of GRAPH_LOAD. -/
def graphResult (g : Nat) : List Byte := leBytes 1 g ++ leBytes 3 0

/-- GRAPH_LOAD of R522. -/
def cmdGraphLoad : Cmd where
  opcode := 0x0202
  cls := .long
  scopes := [0]
  size := fun _ => 16
  fields := [{ addrField 0 1 (fun r => r.p.u64 8) with ok := fun s r => r.p.u64 8 == 0 || s.reaches r.half (r.p.u64 0) (r.p.u64 8) }]
  check := fun _ r => if r.p.u64 8 = 0 then already (graphResult 0xFF) else none
  run := fun s r => match s.loadBytes (r.p.u64 0) (r.p.u64 8) with
    | none => .done s S_ADDRESS 0x8000 []
    | some (t, _, true) => .done t S_ADDRESS D_POISON []
    | some (t, l, false) => match t.parseGraph l with
      | none => .done t S_CONTENT 0 []
      | some d =>
        if d.nodes.isEmpty then nothing t (graphResult 0xFF)
        else if d.home ≠ r.half && t.isSplit r.half then .done t S_HW_FAULT D_CAUSEWAY []
        else match t.graphLack r.half d, t.freeGraph r.half with
          | some e, _ => .done t S_EXHAUSTED e []
          | none, some g => ok (t.placeGraph g d) (graphResult g)
          | none, none => .done t S_EXHAUSTED 0x0201 []

/-- GRAPH_LOAD (R277). -/
def execGraphLoad (p : Packet) (s : State) : Out := .next (s.deliver cmdGraphLoad p)

/-! ## Starting and stopping (R289, R307) -/

/-- A yielded or retried firing of a graph that starts again returns to the head of its level. -/
def State.reenter (s : State) (h : Nat) (p : Record → Bool) : State :=
  ((s.sched h).records.filter fun r => p r && r.on.isNone).foldl (fun t r => t.nodeToHead h r.graph r.node) s

/-- The nodes of a graph that runs again leave STOPPED for IDLE, those that were FAULTED too (R289). -/
def State.clearFaults (s : State) (g : Nat) : State :=
  match s.graph g with
  | some x => if s.runs g then s.each x.ids fun n t => t.modNode g n fun y => { y with faulted := false } else s
  | none => s

/-- Work of graph g, or of every graph of the half. -/
def workOf (g : Option Nat) : Work → Bool
  | .node x _ => g == none || g == some x
  | .reload x _ _ => g == none || g == some x
  | .slice _ => false

/-- The nodes whose unplaced reload is withdrawn return to IDLE, and entries leave (R307 item 1). -/
def State.withdraw (s : State) (h : Nat) (g : Option Nat) : State :=
  let back := (s.sched h).ready.filterMap fun e => match e.work with
    | .reload x n _ => if g == none || g == some x then some (x, n) else none
    | .node x n => if g == none || g == some x then some (x, n) else none
    | .slice _ => none
  let waits := (s.sched h).waits.filter fun w => g == none || g == some w.1
  let t := s.leaveReady h (workOf g)
  (back ++ waits).foldl (fun u p => u.modNode p.1 p.2 fun x => { x with place := if x.place = .preempted then .preempted else .idle }) t

/-- A stop begins (R307): with nothing in flight, or with no drain period, it ends at once. Answers the state, the items,
and whether it has ended. -/
def State.beginStop' (s : State) (h : Nat) (p : Stop) : State × Nat × Bool :=
  let items := ((s.sched h).records.filter p.covers).length
  if items = 0 then (s, 0, true)
  else if s.fld (F.SCHED_DRAIN_DRAIN_US h) = 0 then
    ((((s.sched h).records.filter p.covers).foldl (fun u r => u.abortRecord h r) s), items, true)
  else (s.modSched h fun c => { c with stops := c.stops ++ [{ p with items := items }] }, items, false)

/-- GRAPH_START of R522. -/
def cmdGraphStart : Cmd where
  opcode := 0x0203
  cls := .short
  scopes := [6]
  size := fun _ => 0
  check := fun s r => match s.graph r.idx with
    | some x => if x.started then already else none
    | none => refusal S_TARGET 0x4006
  run := fun s r => ok ((((s.modGraph r.idx fun x => x.map fun y => { y with started := true }).clearFaults r.idx).reenter r.half fun k => k.graph == r.idx).settle)

/-- GRAPH_START (R522). -/
def execGraphStart (p : Packet) (s : State) : Out := .next (s.deliver cmdGraphStart p)

/-- A stop or unload of graph g (R307). -/
def stopGraph (s : State) (r : Req) (unload : Bool) : Run :=
  let t := (s.modGraph r.idx fun x => x.map fun y => { y with started := false }).withdraw r.half (some r.idx)
  match t.beginStop' r.half { graph := some r.idx, unload := unload } with
  | (u, items, true) => ok ((if unload then u.dropGraph r.idx else u).settle) (drainRecord 0 items)
  | (u, items, false) => .job u (longJob r items [r.p.target.toNat] r.idx)

/-- GRAPH_STOP of R522. -/
def cmdGraphStop : Cmd where
  opcode := 0x0204
  cls := .long
  scopes := [6]
  size := fun _ => 0
  check := fun s r => match s.graph r.idx with
    | some x => if x.started then none else already (drainRecord 0 0)
    | none => refusal S_TARGET 0x4006
  run := fun s r => stopGraph s r false

/-- GRAPH_STOP (R307). -/
def execGraphStop (p : Packet) (s : State) : Out := .next (s.deliver cmdGraphStop p)

/-- GRAPH_UNLOAD of R522. -/
def cmdGraphUnload : Cmd where
  opcode := 0x0205
  cls := .long
  scopes := [6]
  size := fun _ => 0
  run := fun s r => stopGraph s r true

/-- GRAPH_UNLOAD (R307). -/
def execGraphUnload (p : Packet) (s : State) : Out := .next (s.deliver cmdGraphUnload p)

/-! ## Status (R522) -/

/-- The STATE code of a node (R289). -/
def State.nodeState (s : State) (g n : Nat) (x : Node) : Nat :=
  if !s.runs g then 8
  else if x.place = .dispatched then 4
  else if x.faulted then 7
  else if s.holding g n then 6
  else match x.place with
    | .waiting => 1
    | .ready => 2
    | .reload => 3
    | .preempted => 5
    | _ => 0

/-- LAST of a status record. -/
def lastWord : Option Resource → Nat
  | none => 0
  | some (.core c) => 0x4000 + c
  | some (.pan n) => 0x8000 + n
  | some (.rake n g) => 0xC000 + 4 * n + g

/-- A GRAPH_STATUS record. -/
def State.nodeRecord (s : State) (g n : Nat) : List Byte :=
  let x := s.nodeD g n
  let port (k : Nat) : InPort := x.ins.getD k {}
  leBytes 2 n ++ leBytes 1 (s.nodeState g n x) ++ leBytes 1 0 ++
    leBytes 2 ((List.range 16).foldl (fun v k => v + bnat (port k).sat * 2 ^ k) 0) ++ leBytes 2 (lastWord x.last) ++
    (List.range 16).flatMap (fun k => leBytes 1 (port k).tokens.length) ++ (List.range 16).flatMap (fun k => leBytes 2 (port k).repl) ++ leBytes 8 0

/-- The nodes that GRAPH_STATUS writes: from FIRST on, at most COUNT. -/
def State.statusNodes (s : State) (r : Req) : List Nat :=
  match s.graph r.idx with
  | some x => (x.ids.filter fun n => decide (r.p.u16 0 ≤ n)).take (r.p.u16 2)
  | none => []

/-- GRAPH_STATUS of R522. -/
def cmdGraphStatus : Cmd where
  opcode := 0x0206
  cls := .read
  scopes := [6]
  size := fun _ => 16
  fields := [{ off := 2, len := 2, ok := fun _ r => r.p.u64 8 != 0 || decide (r.p.u16 2 ≤ 63) }, zeroField 4 4,
    addrOrNone 8 2 fun r => 64 * r.p.u16 2]
  check := fun _ r => if r.p.u16 2 = 0 then already (leBytes 8 0) else none
  run := fun s r =>
    let l := (s.statusNodes r).flatMap fun n => s.nodeRecord r.idx n
    let head := leBytes 4 (s.statusNodes r).length ++ leBytes 4 0
    if r.p.u64 8 = 0 then ok s (head ++ l) else ok (s.storeBytes (r.p.u64 8) l) head

/-- GRAPH_STATUS (R522). -/
def execGraphStatus (p : Packet) (s : State) : Out := .next (s.deliver cmdGraphStatus p)

/-! ## Links (R304) -/

/-- The lowest free link identifier of 1 to 65,535. -/
def State.freeLink (s : State) (n : Nat) : Option Nat := ((List.range n).map (· + 1)).find? fun i => s.links.all fun l => l.id != i

/-- The node and the port of a GRAPH_LINK parameter exist. -/
def State.hasOut (s : State) (g n p : Nat) : Bool := match s.node g n with
  | some x => decide (p < x.outs.length)
  | none => false
def State.hasIn (s : State) (g n p : Nat) : Bool := match s.node g n with
  | some x => decide (p < x.ins.length)
  | none => false

/-- GRAPH_LINK of R522. The two graphs differ (R304). -/
def cmdGraphLink : Cmd where
  opcode := 0x0207
  cls := .short
  scopes := [0]
  size := fun _ => 16
  fields := [
    { off := 0, len := 2, ok := fun s r => (s.node (r.p.u8 4) (r.p.u16 0)).isSome },
    { off := 2, len := 2, ok := fun s r => (s.node (r.p.u8 6) (r.p.u16 2)).isSome },
    { off := 4, len := 1, ok := fun s r => (s.graph (r.p.u8 4)).isSome },
    { off := 5, len := 1, ok := fun s r => s.hasOut (r.p.u8 4) (r.p.u16 0) (r.p.u8 5) },
    { off := 6, len := 1, ok := fun s r => (s.graph (r.p.u8 6)).isSome && r.p.u8 6 != r.p.u8 4 },
    { off := 7, len := 1, ok := fun s r => s.hasIn (r.p.u8 6) (r.p.u16 2) (r.p.u8 7) &&
        (let i := s.inPort (r.p.u8 6) (r.p.u16 2) (r.p.u8 7); i.latest || i.depth != 0) },
    rangeField 8 1 0 7, zeroField 9 7]
  check := fun s r =>
    let h := s.home (r.p.u8 4)
    if 65536 < s.edgesUsed h + 1 || (s.freeLink 65535).isNone then refusal S_EXHAUSTED 0x0203
    else if s.storageOf h < s.storageUsed h + s.linkBytes (r.p.u8 4) (r.p.u16 0) (r.p.u8 5) (r.p.u8 6) (r.p.u16 2) (r.p.u8 7) then refusal S_EXHAUSTED 0x0204
    else if h ≠ s.home (r.p.u8 6) && s.fld (F.CSW_STATUS_STATE r.half) ≥ 2 then refusal S_HW_FAULT D_CAUSEWAY
    else none
  run := fun s r => match s.freeLink 65535 with
    | none => .done s S_EXHAUSTED 0x0203 []
    | some i => ok { s with links := s.links ++ [{ id := i, srcGraph := r.p.u8 4, srcNode := r.p.u16 0, srcPort := r.p.u8 5, dstGraph := r.p.u8 6, dstNode := r.p.u16 2, dstPort := r.p.u8 7, prio := r.p.u8 8 }] } (leBytes 2 i ++ leBytes 2 0)

/-- GRAPH_LINK (R304). -/
def execGraphLink (p : Packet) (s : State) : Out := .next (s.deliver cmdGraphLink p)

/-- GRAPH_UNLINK of R522. -/
def cmdGraphUnlink : Cmd where
  opcode := 0x0208
  cls := .short
  scopes := [0]
  size := fun _ => 4
  fields := [{ off := 0, len := 2, ok := fun s r => s.links.any fun l => l.id == r.p.u16 0 }, zeroField 2 2]
  run := fun s r => match s.links.find? fun l => l.id == r.p.u16 0 with
    | none => .done s S_FIELD 0x8000 []
    | some l =>
      let d := s.dropLink l
      ok d.1.settle (leBytes 4 d.2)

/-- GRAPH_UNLINK (R522). -/
def execGraphUnlink (p : Packet) (s : State) : Out := .next (s.deliver cmdGraphUnlink p)

/-! ## Tokens from and to the outside (R281, R287) -/

/-- The free places of a queue port, less the tokens that wait for it in producers' holds, those of cross-half links too (R287). -/
def State.room (s : State) (g n k : Nat) : Nat :=
  let p := s.inPort g n k
  let held := (s.links.filter fun l => l.dstGraph == g && l.dstNode == n && l.dstPort == k).map fun l => l.hold.length
  p.depth - p.tokens.length - p.waits.length - held.foldl (· + ·) 0

/-- A token of a TOKEN_INJECT: reserved FLAGS bits zero, LEN in range (R280). -/
def tokenOk (l : List Byte) : Bool :=
  decide (numAt l 5 1 < 4) && decide (numAt l 6 2 ≤ 56) && (numAt l 5 1 % 2 == 0 || numAt l 6 2 == 0)

/-- TOKEN_INJECT of R522. -/
def cmdTokenInject : Cmd where
  opcode := 0x0209
  cls := .short
  scopes := [6]
  size := fun r => 4 + 64 * r.p.u8 3
  fields := [
    { off := 0, len := 2, ok := fun s r => (s.node r.idx (r.p.u16 0)).isSome },
    { off := 2, len := 1, ok := fun s r => s.hasIn r.idx (r.p.u16 0) (r.p.u8 2) },
    rangeField 3 1 0 63,
    { off := 4, len := 64, ok := fun _ r => (List.range (r.p.u8 3)).all fun i => tokenOk ((r.p.params.drop (4 + 64 * i)).take 64) }]
  check := fun s r =>
    let p := s.inPort r.idx (r.p.u16 0) (r.p.u8 2)
    if r.p.u8 3 = 0 then already
    else if !s.runs r.idx then refusal S_STATE
    else if !p.latest && s.room r.idx (r.p.u16 0) (r.p.u8 2) < r.p.u8 3 then refusal S_RETRY else none
  run := fun s r =>
    let ts := tokensOf (r.p.params.drop 4) (r.p.u8 3)
    ok (ts.foldl (fun u t => u.arrive r.idx (r.p.u16 0) (r.p.u8 2) 0 0 t) s).settle

/-- TOKEN_INJECT (R287). -/
def execTokenInject (p : Packet) (s : State) : Out := .next (s.deliver cmdTokenInject p)

/-- TOKEN_DRAIN of R522. -/
def cmdTokenDrain : Cmd where
  opcode := 0x020A
  cls := .short
  scopes := [6]
  size := fun _ => 4
  fields := [
    { off := 0, len := 2, ok := fun s r => (s.node r.idx (r.p.u16 0)).isSome },
    { off := 2, len := 1, ok := fun s r => s.hasOut r.idx (r.p.u16 0) (r.p.u8 2) && !s.hasWay r.idx (r.p.u16 0) (r.p.u8 2) },
    rangeField 3 1 0 63]
  check := fun s r => if r.p.u8 3 = 0 then already (leBytes 4 0 ++ leBytes 4 ((s.nodeD r.idx (r.p.u16 0)).outs.getD (r.p.u8 2) {}).lost) else none
  run := fun s r =>
    let o := (s.nodeD r.idx (r.p.u16 0)).outs.getD (r.p.u8 2) {}
    let out := o.kept.take (r.p.u8 3)
    let t := s.modNode r.idx (r.p.u16 0) fun x => x.modOut (r.p.u8 2) fun q => { q with kept := q.kept.drop (r.p.u8 3), lost := 0 }
    let res := leBytes 1 out.length ++ leBytes 3 0 ++ leBytes 4 o.lost ++ out.flatMap Token.bytes
    ok t res

/-- TOKEN_DRAIN (R287). -/
def execTokenDrain (p : Packet) (s : State) : Out := .next (s.deliver cmdTokenDrain p)

/-- NODE_FIRE of R522: the node becomes fireable once; its firing takes the source counter (R281). -/
def cmdNodeFire : Cmd where
  opcode := 0x020B
  cls := .short
  scopes := [6]
  size := fun _ => 4
  fields := [{ off := 0, len := 2, ok := fun s r => (s.node r.idx (r.p.u16 0)).isSome }, zeroField 2 2]
  check := fun s r =>
    let x := s.nodeD r.idx (r.p.u16 0)
    if x.ins.any (fun p => p.need != 0) || s.nodeState r.idx (r.p.u16 0) x ≠ 0 then refusal S_STATE else none
  run := fun s r =>
    let x := s.nodeD r.idx (r.p.u16 0)
    ok (s.setNode r.idx (r.p.u16 0) { x with source := (x.source + 1) % 2 ^ 32, fired := some x.source }).settle (leBytes 4 x.source)

/-- NODE_FIRE (R281). -/
def execNodeFire (p : Packet) (s : State) : Out := .next (s.deliver cmdNodeFire p)

/-- NODE_CLEAR of R522. -/
def cmdNodeClear : Cmd where
  opcode := 0x020C
  cls := .short
  scopes := [6]
  size := fun _ => 4
  fields := [{ off := 0, len := 2, ok := fun s r => (s.node r.idx (r.p.u16 0)).isSome }, zeroField 2 2]
  check := fun s r => if s.nodeState r.idx (r.p.u16 0) (s.nodeD r.idx (r.p.u16 0)) = 7 then none else already
  run := fun s r => ok ((s.modNode r.idx (r.p.u16 0) fun x => { x with faulted := false }).reenter r.half fun k => k.graph == r.idx && k.node == r.p.u16 0 && s.runs r.idx).settle

/-- NODE_CLEAR (R289). -/
def execNodeClear (p : Packet) (s : State) : Out := .next (s.deliver cmdNodeClear p)

/-! ## Resources and the enable (R307, R310, R315) -/

/-- The cores of half h, among those a write clears, that run a dispatch. -/
def State.busyCores (s : State) (h cleared : Nat) : Nat :=
  (List.range 8).foldl (fun v i => v + bnat (bitOf cleared i && s.runsOn h (.core (h * 8 + i))) * 2 ^ i) 0

/-- Begin a stop that a LONG command of half r.half waits for. -/
def stopHalf (s : State) (r : Req) (p : Stop) : Run :=
  match s.beginStop' r.half p with
  | (u, items, true) => ok u.settle (drainRecord 0 items)
  | (u, items, false) => .job u (longJob r items [r.p.target.toNat])

/-- SCHED_RESOURCES of R522. -/
def cmdSchedResources : Cmd where
  opcode := 0x020D
  cls := .long
  scopes := [1]
  size := fun _ => 20
  fields := [zeroField 1 3]
  run := fun s r =>
    let h := r.half
    let cleared := s.fld (F.SCHED_CORES_MANAGED h) &&& (r.p.u8 0 ^^^ 0xFF)
    let busy := s.busyCores h cleared
    let t := s.setFld (F.SCHED_CORES_MANAGED h) (r.p.u8 0)
    let t := t.each [0, 1, 2, 3] fun k u => u.setFld (F.SCHED_PANS_MANAGED h k) (r.p.u32 (4 + 4 * k))
    if busy = 0 then ok t.settle (drainRecord 0 0) else stopHalf t r { cores := busy }

/-- SCHED_RESOURCES (R307). -/
def execSchedResources (p : Packet) (s : State) : Out := .next (s.deliver cmdSchedResources p)

/-- EN of half h is cleared: every node is STOPPED (R307, R310). -/
def State.disableSched (s : State) (h : Nat) : State := (s.setFld (F.SCHED_CTL_EN h) 0).withdraw h none

/-- EN of half h is set: the nodes of started graphs return to IDLE (R310). -/
def State.enableSched (s : State) (h : Nat) : State :=
  let t := s.setFld (F.SCHED_CTL_EN h) 1
  if s.on (F.SCHED_CTL_EN h) then t
  else ((t.each (List.range 256) fun g u => if u.home g = h then u.clearFaults g else u).reenter h fun k => t.runs k.graph).settle

/-- SCHED_ENABLE of R522. -/
def cmdSchedEnable : Cmd where
  opcode := 0x020E
  cls := .long
  scopes := [1]
  size := fun _ => 12
  fields := [rangeField 0 1 0 1, rangeField 1 1 0 7, zeroField 2 2, rangeField 8 4 0 0xFFFFF]
  run := fun s r =>
    let h := r.half
    let was := s.on (F.SCHED_CTL_EN h)
    let t := s.setFlds [(F.SCHED_CTL_TEST_PRIO h, r.p.u8 1), (F.SCHED_COST_EVICT_US h, r.p.u16 4), (F.SCHED_PREEMPT_LIMIT_US h, r.p.u16 6),
      (F.SCHED_DRAIN_DRAIN_US h, r.p.u32 8)]
    if r.p.u8 0 = 1 then ok (t.enableSched h) (drainRecord 0 0)
    else if was then stopHalf (t.disableSched h) r {}
    else ok t (drainRecord 0 0)

/-- SCHED_ENABLE (R310). -/
def execSchedEnable (p : Packet) (s : State) : Out := .next (s.deliver cmdSchedEnable p)

end Sys2Proof.Machine
end

