-- ==== Sys2Proof/Machine/Coherence.lean ====
section
/-! DEFINITION. The rows of the coherence engine (12_coherence_engine) and the commands on it: requests, responses, snoops, grants,
route flushes, bias, rule tables, lagoon partitions. -/

namespace Sys2Proof.Machine

/-! ## Lagoon partitions (R366 to R368) -/

/-- The partition of half h takes new sizes, and its contents follow R368. -/
def State.applyPart (s : State) (h : Nat) (p : PartJob) : State :=
  let tok := s.fld (F.MEM_LAG_PART_TOKEN h)
  let dir := s.fld (F.MEM_LAG_PART_DIR h)
  let cac := s.fld (F.MEM_LAG_PART_CACHE h)
  let scr := s.fld (F.MEM_LAG_PART_SCRATCH h)
  let area (u : State) (from' n : Nat) : State := u.clearMem (SCRATCH_BASE h + from' * 0x100000) (n * 0x100000)
  let t := if p.scratch = scr then s else area s (16 - max scr p.scratch) (max scr p.scratch)
  let t := if p.token = tok && p.dir = dir then t
    else { area t p.token p.dir with
      cohLines := Bank.map (fun _ => {}) (fun k x => if k / 2 ^ 58 = 2 * h then { x with hosts := 0 } else x) t.cohLines
      deviceBias := Bank.drop (fun k => k / 2 ^ 23 == h) t.deviceBias
      biasPend := Bank.drop (fun k => k / 2 ^ 23 == h) t.biasPend }
  let t := if p.token + p.dir = tok + dir && p.cache = cac then t
    else ({ area t (p.token + p.dir) p.cache with devCache := Bank.drop (fun k => k / 2 ^ 58 == h) t.devCache }).modCoh h
      fun c => { c with cacheOrder := [] }
  t.setFlds [(F.MEM_LAG_PART_TOKEN h, p.token), (F.MEM_LAG_PART_DIR h, p.dir), (F.MEM_LAG_PART_CACHE h, p.cache), (F.MEM_LAG_PART_SCRATCH h, p.scratch)]

/-- A partition command ends: the sizes take effect and its reply counts what drained and what was aborted (R367). -/
def State.endPart (s : State) (h : Nat) (p : PartJob) (aborted : Nat) : State :=
  ((((s.setPartJob h none).applyPart h p).serveHeld p.held).retryInput h).endJobs (fun j => j.opcode == 0x0300 && j.half == h) OK 0
    (drainRecord (p.items - aborted) aborted)

/-- The engine writes every dirty line of the device cache back to its home (R367). -/
def State.writeBackCache (s : State) (h : Nat) : State :=
  s.each (s.dirtyLines h) fun line t =>
    let x := t.lineOf h 1 line
    if decide (x.st < 4) && x.snoops == 0 then t.lookUp { role := 1, ev := 4, line := line, who := 33 } h else t

/-- A partition command whose dirty lines have left the device cache ends. -/
def State.partIfDone (s : State) (h : Nat) : State :=
  match s.partJob h with
  | none => s
  | some p =>
    let n := (s.dirtyLines h).length
    if n = 0 then s.endPart h p 0
    else s.modJobs (fun j => j.opcode == 0x0300 && j.half == h) fun j => { j with done := p.items - n }

/-- The lines that remain are written back poisoned, and the partition takes effect (R367). -/
def State.abortPart (s : State) (h : Nat) : State :=
  match s.partJob h with
  | none => s
  | some p =>
    let left := s.dirtyLines h
    let t := s.each left fun line u => ((u.linkSend (u.routeLink h) ⟨0x05, cohKey h 1 line, none⟩).dropCached h line).modLine h 1 line
      fun x => { x with st := if x.st = 3 then 0 else x.st }
    t.endPart h p left.length

/-- PARTITION_DRAIN_TIMEOUT (R367). -/
def execPartitionDrainTimeout (h : Fin 2) (s : State) : Out := .next (s.abortPart h)

/-- LAGOON_PARTITION of R523. -/
def cmdLagoonPartition : Cmd where
  opcode := 0x0300
  cls := .long
  scopes := [1]
  size := fun _ => 4
  fields := [{ off := 0, len := 1, ok := fun _ r => r.p.u8 0 != 0 && r.p.u8 0 + r.p.u8 1 + r.p.u8 2 + r.p.u8 3 == 16 }]
  check := fun s r =>
    let h := r.idx
    if (s.partJob h).isSome then refusal S_BUSY
    else if (r.p.u8 0 - 1) * 0x100000 < s.storageUsed h then refusal S_EXHAUSTED 0x0204
    else if (r.p.u8 0 ≠ s.fld (F.MEM_LAG_PART_TOKEN h) || r.p.u8 1 ≠ s.fld (F.MEM_LAG_PART_DIR h)) &&
      ((List.range 16).any fun l => (s.hostLink l).extents.any fun e => e.half == h) then refusal S_STATE
    else if r.p.u8 0 = s.fld (F.MEM_LAG_PART_TOKEN h) && r.p.u8 1 = s.fld (F.MEM_LAG_PART_DIR h) && r.p.u8 2 = s.fld (F.MEM_LAG_PART_CACHE h) then
      already (drainRecord 0 0)
    else none
  run := fun s r =>
    let h := r.idx
    let moves := r.p.u8 0 + r.p.u8 1 ≠ s.fld (F.MEM_LAG_PART_TOKEN h) + s.fld (F.MEM_LAG_PART_DIR h) || r.p.u8 2 ≠ s.fld (F.MEM_LAG_PART_CACHE h)
    let n := if moves then (s.dirtyLines h).length else 0
    let p : PartJob := ⟨r.p.u8 0, r.p.u8 1, r.p.u8 2, r.p.u8 3, n, 0, []⟩
    if n = 0 then ok (s.applyPart h p) (drainRecord 0 0)
    else if s.fld (F.MEM_DRAIN_DRAIN_US h) = 0 then ok ((s.setPartJob h (some p)).abortPart h) (drainRecord 0 n)
    else .job ((s.setPartJob h (some p)).writeBackCache h) (longJob r n [r.p.target.toNat])

/-- LAGOON_PARTITION (R366, R367). -/
def execLagoonPartition (p : Packet) (s : State) : Out := .next (s.deliver cmdLagoonPartition p)

/-! ## Warm reset (R466) -/

/-- Back-invalidate snoops of home h that no BIRsp has answered. -/
def State.unanswered (s : State) (h : Nat) : Nat :=
  ((s.cohLines.filter fun p => p.1 / 2 ^ 58 == 2 * h).map fun p => popcount 16 p.2.bisnp).foldl (· + ·) 0

/-- The links that owe a BIRsp to home h. -/
def State.owingLinks (s : State) (h : Nat) : List Nat :=
  (List.range 16).filter fun l => s.cohLines.any fun p => p.1 / 2 ^ 58 == 2 * h && bitOf p.2.bisnp l

/-- The steps of R466 end in half h: lines still dirty are dropped, the hosts that have not answered are signalled Viral, and
every HDM-D page reads host bias. -/
def State.cohWarmEnd (s : State) (h : Nat) : State :=
  let lines := (s.dirtyLines h).length
  let snoops := s.unanswered h
  let t := s.each (s.owingLinks h) fun l u => u.modHostLink l fun x => { x with viral := true }
  let t := if lines = 0 && snoops = 0 then t
    else (t.setFld (F.COH_STATUS_FLUSH_LOSS h) 1).raise { half := h, cls := ERROR, src := 11, code := 3, unit := h, ctx := lines % 65536 + snoops % 65536 * 65536 }
  State.dropTags { t with
           devCache := Bank.drop (fun k => k / 2 ^ 58 == h) t.devCache
           coreFilter := Bank.drop (fun k => k / 2 ^ 58 == h) t.coreFilter
           cohLines := Bank.drop (fun k => k / 2 ^ 58 / 2 == h) t.cohLines
           deviceBias := Bank.drop (fun k => k / 2 ^ 23 == h) t.deviceBias
           biasPend := Bank.drop (fun k => k / 2 ^ 23 == h) t.biasPend
           cohs := Bank.set (fun _ => {}) t.cohs h {}
           warm := t.warm.map fun w => { w with cohDone := w.cohDone ++ [h] } } fun k => k / 2 ^ 59 == h

/-- A warm reset waits for the engine of half h. -/
def State.cohWarmRuns (s : State) (h : Nat) : Bool :=
  match s.warm with
  | some w => w.halves.contains h && !w.cohDone.contains h
  | none => false

/-- WARM_COH_DRAIN_TIMEOUT (R466). -/
def execWarmCohDrainTimeout (h : Fin 2) (s : State) : Out := .next (if s.cohWarmRuns h then s.cohWarmEnd h else s)

/-! ## Events -/

/-- Items in flight of a disable of link l (R422): dirty host-memory lines that its port's disable writes back through it, and
back-invalidate snoops outstanding. -/
def State.linkItems (s : State) (l : Nat) : Nat :=
  (if s.on (F.PORT_CTL_EN (l / 4)) then 0
    else (((List.range 2).filter fun h => s.on (F.PORT_ROUTE_EN h) && s.routeLink h == l).map fun h => (s.dirtyLines h).length).foldl (· + ·) 0) +
  (s.cohLines.filter fun p => bitOf p.2.bisnp l).length

/-- Disables of links that have drained end, with their drain records; aux counts the items aborted. -/
def State.portSettle (s : State) : State :=
  let t := s.each (List.range 16) fun l u =>
    match (u.hostLink l).drain with
    | some _ => if u.linkItems l = 0 then u.modHostLink l fun k => { k with drain := none } else u
    | none => u
  let idle (j : Job) : Bool := (j.opcode == 0x0400 || j.opcode == 0x0401) && j.data.all fun l => (t.hostLink l).drain.isNone
  t.endJobsBy idle fun j => drainRecord (j.total - j.aux) j.aux

/-- What follows an event in half h: a flush, a partition command, a link's disable or a warm reset that it lets end. -/
def State.cohSettle (s : State) (h : Nat) : State :=
  let t := if (s.coh h).input.isEmpty then s else s.retryInput h
  let t := ((t.pumpAll.flushIfEmpty h).partIfDone h).portSettle.xhomeSettle
  if t.cohWarmRuns h && (t.dirtyLines h).isEmpty && t.unanswered h == 0 then t.cohWarmEnd h else t

/-- A request of a core, from the engine that plays its role (R437). -/
def State.coreAsks (s : State) (c ev line : Nat) (data : Option (BitVec 512)) : State :=
  match (if s.xhomeBlocked (c / 8) (lineAddr line) then none else s.engineOf (c / 8) line) with
  | some (h, role) => (s.sendReq (c / 8) h (.coh { role := role, ev := ev, line := line, who := c, data := data })).cohSettle h
  | none => s

/-- A line of a core's L2 is evicted: a dirty one is written back, its data free (Assumption 3). -/
def State.coreEvicts (s : State) (c line : Nat) : State :=
  if (s.core c).holds line = 3 then ((s.useFree).coreDrops c line).coreAsks c 2 line (some (BitVec.ofNat 512 s.freeVal))
  else (s.coreDrops c line).coreAsks c 3 line none

/-- The steps of R466 begin: the cores' lines leave their caches (R328), dirty lines of the device cache go to the
host, and every tracked line is snooped. -/
def State.cohWarmStart (s : State) (h : Nat) : State :=
  let s := s.each ((List.range 8).map (h * 8 + ·)) fun c u => u.each (List.map Prod.fst (u.core c).lines) fun line v => v.coreEvicts c line
  let t := if s.cachingNow h then s.each (s.dirtyLines h) fun line u =>
      let x := u.lineOf h 1 line
      if decide (x.st < 4) && x.snoops == 0 then u.lookUp { role := 1, ev := 4, line := line, who := 33 } h else u
    else s
  t.each (t.trackedLines h) fun line u =>
    let hosts := (u.lineOf h 0 line).hosts
    let u := (bitsIn hosts).foldl (fun v l => v.linkSend l ⟨0x10, cohKey h 0 line, none⟩) u
    u.modLine h 0 line fun x => { x with bisnp := x.bisnp ||| hosts }

/-- The lines of the L2's set that a line falls into: those held, and those asked for. -/
def Core.l2Held (k : Core) (line : Nat) : List Nat := sameSet 2 line (List.map Prod.fst k.lines)
def Core.l2Asked (k : Core) (line : Nat) : List Nat := sameSet 2 line k.fills

/-- The L2 asks for a line to read or to own: one that it does not hold needs room in its set, which a line of free choice gives up; a set
of lines still asked for makes the request wait (R322). -/
def State.coreFetch (s : State) (c ev line : Nat) : State :=
  let k := s.core c
  if (s.engineOf (c / 8) line).isNone || k.holds line ≠ 0 || k.fills.contains line then s.coreAsks c ev line none
  else
    let held := k.l2Held line
    let full := decide (cacheWays 2 ≤ held.length + (k.l2Asked line).length)
    if full && held.isEmpty then s.reply .stalled
    else
      let t := if full then (s.useFree).coreEvicts c (held.getD (s.freeVal % held.length) 0) else s
      (t.modCore c fun x => { x with fills := x.fills ++ [line] }).coreAsks c ev line none

/-- CORE_RD (R454). -/
def execCoreRd (c : Fin 16) (line : BitVec 58) (s : State) : Out := .next (s.coreFetch c 0 line.toNat)

/-- CORE_OWN (R454). -/
def execCoreOwn (c : Fin 16) (line : BitVec 58) (s : State) : Out := .next (s.coreFetch c 1 line.toNat)

/-- CORE_WB (R454): the line leaves the core's L2 with its data. -/
def execCoreWb (c : Fin 16) (line : BitVec 58) (data : BitVec 512) (s : State) : Out :=
  .next ((s.coreDrops c line.toNat).coreAsks c 2 line.toNat (some data))

/-- CORE_EVICT (R454): the line leaves the core's L2 clean. -/
def execCoreEvict (c : Fin 16) (line : BitVec 58) (s : State) : Out := .next ((s.coreDrops c line.toNat).coreAsks c 3 line.toNat none)

/-- A request of the scheduler engine or the management controller of half h. -/
def State.agentAsks (s : State) (h : Nat) (mgmt : Bool) (ev line : Nat) (data : Option (BitVec 512)) : State :=
  match s.engineOf h line with
  | some (g, role) => (s.sendReq h g (.coh { role := role, ev := ev, line := line, who := 32 + bnat mgmt, data := data })).cohSettle g
  | none => s

/-- AGENT_RD (R454). -/
def execAgentRd (h : Fin 2) (mgmt : Bool) (line : BitVec 58) (s : State) : Out := .next (s.agentAsks h mgmt 6 line.toNat none)

/-- AGENT_WR (R454). -/
def execAgentWr (h : Fin 2) (mgmt : Bool) (line : BitVec 58) (data : BitVec 512) (s : State) : Out :=
  .next (s.agentAsks h mgmt 7 line.toNat (some data))

/-- The half whose stack the line lies in, where an extent of link l exposes it (R404). -/
def State.exposedBy (s : State) (l line : Nat) : Option Nat :=
  match s.region (lineAddr line) with
  | .hbm h o => if (s.exposed h o).any (fun p => p.1 == l) && (h == l / 8 || !s.isSplit (l / 8)) then some h else none
  | _ => none

/-- A CXL.mem request of link l: from a link that is UP and carries CXL.mem traffic; at a line no extent of the link exposes it
is class address misuse (R404). -/
def State.hostAsks (s : State) (l : Fin 16) (ev line : Nat) (data : Option (BitVec 512)) : State :=
  if s.asleep (.link l) then s.reply .abort
  else if !s.linkServes l || (s.hostLink l).memOff || s.on (F.LINK_STATUS_FENCED (l / 4) (l % 4)) || bitOf (s.hostLink l).refusing 5 then
    s.reply (if data.isNone then .bytes (List.replicate 64 0) true else .done)
  else match s.exposedBy l line with
    | none => (s.misuse (.link l) 4 (lineAddr line)).reply (if data.isNone then .bytes (List.replicate 64 0) true else .done)
    | some h => (s.sendReq (l / 8) h (.coh { role := 0, ev := ev, line := line, who := 16 + l, data := data })).cohSettle h

/-- HOST_RD (R454). -/
def execHostRd (l : Fin 16) (line : BitVec 58) (s : State) : Out := .next (s.hostAsks l 8 line.toNat none)

/-- HOST_OWN (R454). -/
def execHostOwn (l : Fin 16) (line : BitVec 58) (s : State) : Out := .next (s.hostAsks l 9 line.toNat none)

/-- HOST_CUR (R454). -/
def execHostCur (l : Fin 16) (line : BitVec 58) (s : State) : Out := .next (s.hostAsks l 0x0A line.toNat none)

/-- HOST_WR (R454). -/
def execHostWr (l : Fin 16) (line : BitVec 58) (data : BitVec 512) (s : State) : Out := .next (s.hostAsks l 0x0B line.toNat (some data))

/-- HOST_INV (R454). -/
def execHostInv (l : Fin 16) (line : BitVec 58) (s : State) : Out := .next (s.hostAsks l 0x0C line.toNat none)

/-- BICONFLICT (R453): it never waits at the input or behind the line's requests. -/
def execBiconflict (l : Fin 16) (line : BitVec 58) (s : State) : Out :=
  .next (match s.exposedBy l line.toNat with
    | none => s
    | some h => (s.lookUp { role := 0, ev := 0x0D, line := line.toNat, who := 16 + l } h).cohSettle h)

/-! ## Responses -/

/-- Keep the data a response brought. -/
def keepData (x : CohLine) (d : Option (BitVec 512)) : CohLine := { x with data := d.orElse fun _ => x.data }

/-- A host request waits at the line's page for its flip to host bias (R443). -/
def State.hostWaits (s : State) (h line : Nat) : Bool :=
  (List.range 64).any fun k => (s.lineOf h 0 (line - line % 64 + k)).held.any fun q => decide (8 ≤ q.ev) && decide (q.ev ≤ 0x0C)

/-- CORE_SNPRSP of core c at the engine of half h in a role: an invalidated copy leaves the core; the last response is looked
up (R449). -/
def State.snoopAnswered (s : State) (h role c line : Nat) (data : Option (BitVec 512)) : State :=
  let x := s.lineOf h role line
  let t := if x.snpInv then (s.coreDrops c line).setHolders h line (putBits (s.holders h line) c c 0) else s.coreGrant c line 1
  let t := t.modLine h role line fun y => keepData { y with snoops := putBits y.snoops c c 0 } data
  if (t.lineOf h role line).snoops ≠ 0 then t
  else
    let q : CohReq := { role := role, ev := if role = 0 then 0x10 else 0x17, line := line, who := c, data := none }
    let u := (t.lookUp q h).afterEvent h q
    (if role = 0 && (u.exposedAs h line 1).isSome && (u.biasLeft (pageKey h (pageOf h line)) == 0) && u.hostWaits h line then u.biasToHost h line else u).cohSettle h

/-- CORE_SNPRSP (R454). -/
def execCoreSnprsp (c : Fin 16) (line : BitVec 58) (data : Option (BitVec 512)) (s : State) : Out :=
  .next (match [(0, 0), (1, 0), (0, 1), (1, 1)].find? fun p => bitOf (s.lineOf p.1 p.2 line.toNat).snoops c with
    | some p => s.snoopAnswered p.1 p.2 c line.toNat data
    | none => s)

/-- Link l no longer owes home h a BIRsp for the line; the last one is looked up. -/
def State.bisnpAnswered (s : State) (h l line : Nat) (data : Option (BitVec 512)) : State :=
  let t := (s.tagBack l true (cohKey h 0 line)).modLine h 0 line fun y => keepData { y with bisnp := putBits y.bisnp l l 0 } data
  if (t.lineOf h 0 line).bisnp ≠ 0 then t
  else
    let q : CohReq := { role := 0, ev := 0x11, line := line, who := 16 + l, data := none }
    ((t.lookUp q h).afterEvent h q).cohSettle h

/-- BIRSP (R454): the response of a link to a back-invalidate snoop. -/
def execBirsp (l : Fin 16) (line : BitVec 58) (data : Option (BitVec 512)) (s : State) : Out :=
  .next (match (List.range 2).find? fun h => bitOf (s.lineOf h 0 line.toNat).bisnp l with
    | none => s
    | some h => s.bisnpAnswered h l line.toNat data)

/-- Every back-invalidate snoop outstanding on link l ends as the standard's forced invalidation (R422). -/
def State.forceSnoops (s : State) (l : Nat) : State :=
  let s := s.modHostLink l fun k => { k with biTags := [], unsent := k.unsent.filter fun m => !backSnoop m.msg }
  (s.cohLines.filter fun p => bitOf p.2.bisnp l && p.1 / 2 ^ 58 % 2 == 0).foldl (fun t p =>
    (t.modLine (p.1 / 2 ^ 59) 0 (p.1 % 2 ^ 58) fun y => { y with hosts := putBits y.hosts l l 0 }).bisnpAnswered (p.1 / 2 ^ 59) l (p.1 % 2 ^ 58) none) s

/-- A page of a bias command has completed: it is in device bias, and its command's progress and reply follow (R443). -/
def State.pageFlipped (s : State) (h page : Nat) : State :=
  let mine (j : Job) : Bool := j.opcode == 0x0403 && j.half == h && j.data.contains page
  let t := (s.setBias h page true).modJobs mine fun j => { j with done := j.done + 1, data := j.data.filter (· != page) }
  t.endJobsBy (fun j => j.opcode == 0x0403 && j.half == h && j.data.isEmpty) fun j => leBytes 4 j.done ++ leBytes 4 0

/-- HOST_SNPRSP (R454, R443): the host answers RdShared, RdOwn or RdOwnNoData; the 64th line of a page completes its flip. -/
def execHostSnprsp (l : Fin 16) (line : BitVec 58) (data : Option (BitVec 512)) (s : State) : Out :=
  .next (match (List.range 2).find? fun h => bitOf (s.lineOf h 0 line.toNat).bisnp l with
    | none => s
    | some h =>
      let n := line.toNat
      let t := (s.tagBack l false (cohKey h 0 n)).modLine h 0 n fun y => keepData { y with bisnp := putBits y.bisnp l l 0 } data
      let q : CohReq := { role := 0, ev := 0x12, line := n, who := 16 + l, data := none }
      let t := (t.lookUp q h).afterEvent h q
      let pk := pageKey h (pageOf h n)
      if bitOf (t.biasLeft pk) (n % 64) then
        let u := t.setBiasLeft pk (putBits (t.biasLeft pk) (n % 64) (n % 64) 0)
        (if u.biasLeft pk = 0 then u.pageFlipped h (pageOf h n) else u).cohSettle h
      else t.cohSettle h)

/-! ## The caching role -/

/-- A snoop or a response of the host reaches the caching agent of half h (R436); it never waits (R450). -/
def State.hostSays (s : State) (h ev line : Nat) (data : Option (BitVec 512)) : State :=
  if hostLine line && s.routeAlive h then
    let q : CohReq := { role := 1, ev := ev, line := line, who := 16 + s.routeLink h, data := data }
    let t := if 0x10 ≤ ev then s.tagBack (s.routeLink h) false (cohKey h 1 line) else s
    let t := if 0x11 ≤ ev && ev ≤ 0x13 then t.cacheRoom h line else t
    ((t.lookUp q h).afterEvent h q).cohSettle h
  else s

/-- SNP_DATA (R450). -/
def execSnpData (h : Fin 2) (line : BitVec 58) (s : State) : Out := .next (s.hostSays h 8 line.toNat none)

/-- SNP_INV (R450). -/
def execSnpInv (h : Fin 2) (line : BitVec 58) (s : State) : Out := .next (s.hostSays h 9 line.toNat none)

/-- SNP_CUR (R450). -/
def execSnpCur (h : Fin 2) (line : BitVec 58) (s : State) : Out := .next (s.hostSays h 0x0A line.toNat none)

/-- GO_I (R454). -/
def execGoI (h : Fin 2) (line : BitVec 58) (s : State) : Out := .next (s.hostSays h 0x10 line.toNat none)

/-- GO_S (R454). -/
def execGoS (h : Fin 2) (line : BitVec 58) (data : BitVec 512) (s : State) : Out := .next (s.hostSays h 0x11 line.toNat (some data))

/-- GO_E (R454). -/
def execGoE (h : Fin 2) (line : BitVec 58) (data : BitVec 512) (s : State) : Out := .next (s.hostSays h 0x12 line.toNat (some data))

/-- GO_M (R454). -/
def execGoM (h : Fin 2) (line : BitVec 58) (data : BitVec 512) (s : State) : Out := .next (s.hostSays h 0x13 line.toNat (some data))

/-- GO_ERR (R454). -/
def execGoErr (h : Fin 2) (line : BitVec 58) (s : State) : Out := .next (s.hostSays h 0x14 line.toNat none)

/-- WRITEPULL (R454). -/
def execWritepull (h : Fin 2) (line : BitVec 58) (s : State) : Out := .next (s.hostSays h 0x15 line.toNat none)

/-- The pending state a held request waits for has cleared (R456 WAIT). -/
def State.waitOver (s : State) (h role line : Nat) : Bool :=
  let x := s.lineOf h role line
  if role = 0 then x.snoops == 0 && x.bisnp == 0 else decide (x.st < 4)

/-- COH_WAIT_RELEASE (R447): the first held request of the line is looked up again; one that waits again keeps its place. -/
def execCohWaitRelease (h role : Fin 2) (line : BitVec 58) (s : State) : Out :=
  .next (match (s.lineOf h role line.toNat).held with
    | [] => s
    | q :: rest =>
      if !s.waitOver h role line.toNat then s
      else
        let t := (s.modLine h role line.toNat fun y => { y with held := rest }).cohTake h q
        let t := if (t.lineOf h role line.toNat).held = rest ++ [q] then t.modLine h role line.toNat fun y => { y with held := q :: rest } else t
        t.cohSettle h)

/-! ## The route (R441) -/

/-- A route change or the loss of the route begins to flush the half's host-memory lines. -/
def State.startFlush (s : State) (h : Nat) (en : Bool) (port link : Nat) : State :=
  let t := s.modCoh h fun c => { c with flush := some { items := (s.dirtyLines h).length, en := en, port := port, link := link } }
  (t.each (t.hostLines h) fun line u => u.flushLine h line).flushIfEmpty h

/-- Every host-memory line held for half h is dropped, core copies included. -/
def State.dropHost (s : State) (h : Nat) : State :=
  let s := s.dropTags fun k => k / 2 ^ 58 == 2 * h + 1
  s.each (s.hostLines h) fun line u =>
    let u := u.each (bitsIn (u.holders h line)) fun c v => v.coreDrops c line
    (((u.dropCached h line).setHolders h line 0).modLine h 1 line fun x => { x with st := 0, snoops := 0, who := none, data := none, ev := 0 })

/-- What is left of a flush is dropped: dirty lines count as aborted (R441, R423). -/
def State.abortFlush (s : State) (h : Nat) : State :=
  match (s.coh h).flush with
  | none => s
  | some f => ((s.dropHost h).endFlush h f (s.dirtyLines h).length).retryInput h

/-- The route of half h changes, which flushes its host-memory lines; with a drain timeout of zero they are dropped at once (R34). -/
def State.changeRoute (s : State) (h : Nat) (en : Bool) (port link : Nat) : State :=
  if s.fld (F.COH_DRAIN_DRAIN_US h) = 0 then
    (s.modCoh h fun c => { c with flush := some { items := (s.dirtyLines h).length, en := en, port := port, link := link } }).abortFlush h
  else s.startFlush h en port link

/-- COH_FLUSH_TIMEOUT (R441). -/
def execCohFlushTimeout (h : Fin 2) (s : State) : Out := .next (s.abortFlush h)

/-- The route of half h is as given. -/
def State.routeIs (s : State) (h : Nat) (en : Bool) (port link : Nat) : Bool :=
  s.on (F.PORT_ROUTE_EN h) == en && s.fld (F.PORT_ROUTE_PORT h) == port && s.fld (F.PORT_ROUTE_LINK h) == link

/-- PORT_ROUTE of R524. -/
def cmdPortRoute : Cmd where
  opcode := 0x0402
  cls := .long
  scopes := [1]
  size := fun _ => 4
  fields := [rangeField 0 1 0 1, rangeField 1 1 0 3, { off := 2, len := 1, ok := fun s r => decide (r.p.u8 2 < s.linkCount (r.p.u8 1)) }, zeroField 3 1]
  check := fun s r => if s.routeIs r.idx (r.p.u8 0 == 1) (r.p.u8 1) (r.p.u8 2) then already (drainRecord 0 0)
    else if (s.coh r.idx).flush.isSome then refusal S_BUSY else none
  run := fun s r =>
    if (s.hostLines r.idx).isEmpty then
      ok (s.setFlds [(F.PORT_ROUTE_EN r.idx, r.p.u8 0), (F.PORT_ROUTE_PORT r.idx, r.p.u8 1), (F.PORT_ROUTE_LINK r.idx, r.p.u8 2)]) (drainRecord 0 0)
    else
      let n := (s.dirtyLines r.idx).length
      let t := s.changeRoute r.idx (r.p.u8 0 == 1) (r.p.u8 1) (r.p.u8 2)
      let aborted := if s.fld (F.COH_DRAIN_DRAIN_US r.idx) = 0 then n else 0
      if (t.coh r.idx).flush.isSome then .job t (longJob r n [r.p.target.toNat]) else ok t (drainRecord (n - aborted) aborted)

/-- PORT_ROUTE (R441). -/
def execPortRoute (p : Packet) (s : State) : Out := .next (s.deliver cmdPortRoute p)

/-! ## Bias (R443) -/

/-- The pages that a bias command names. -/
def biasPages (r : Req) : List Nat := (List.range (r.p.u32 8)).map fun i => r.p.u64 0 / 4096 + i

/-- RdOwnNoData goes out for the 64 lines of a page (R443); a line with a transaction takes it behind that one. -/
def State.askPage (s : State) (h page : Nat) : State :=
  let first := (HBM_BASE h + page * 4096) / 64
  (s.setBiasLeft (pageKey h page) (2 ^ 64 - 1)).each ((List.range 64).map (first + ·)) fun line t =>
    let q : CohReq := { role := 0, ev := 0x18, line := line, who := 33 }
    if (t.lineOf h 0 line).snoops = 0 && (t.lineOf h 0 line).bisnp = 0 then t.lookUp q h
    else t.modLine h 0 line fun y => { y with held := y.held ++ [q] }

/-- BIAS_TO_DEVICE of R524. -/
def cmdBiasToDevice : Cmd where
  opcode := 0x0403
  cls := .long
  scopes := [1]
  size := fun _ => 16
  fields := [{ off := 0, len := 8, ok := fun s r => r.p.u64 0 % 4096 == 0 &&
      (biasPages r).all fun p => (s.exposed r.idx (p * 4096)).any fun x => x.2 == 1 }, zeroField 12 4]
  check := fun _ r => if r.p.u32 8 = 0 then already (leBytes 8 0) else none
  run := fun s r =>
    let due := (biasPages r).filter fun p => !s.inDeviceBias (pageKey r.idx p)
    let t := s.each (due.filter fun p => s.biasLeft (pageKey r.idx p) == 0) fun p u => u.askPage r.idx p
    if due.isEmpty then ok t (leBytes 8 0) else .job t (longJob r due.length [r.p.target.toNat] 0 0 due)

/-- BIAS_TO_DEVICE (R443). -/
def execBiasToDevice (p : Packet) (s : State) : Out := .next (s.deliver cmdBiasToDevice p)

/-! ## Rule tables (R460 to R465) -/

/-- The file of R462 with this table. -/
def State.tableFile (s : State) (h : Nat) : List Byte :=
  let entries := (List.range 1024).flatMap fun i => leBytes 8 (s.tableEntry h i)
  leBytes 2 1 ++ leBytes 2 0 ++ leBytes 4 (s.fld (F.COH_TABLE_TAG_TAG h)) ++ leBytes 4 1024 ++ leBytes 4 0 ++
    Config.sha384 entries ++ List.replicate 192 0 ++ entries

/-- COH_TABLE_READ of R524. -/
def cmdCohTableRead : Cmd where
  opcode := 0x0404
  cls := .read
  scopes := [1]
  size := fun _ => 8
  fields := [addrField 0 2 fun _ => 8448]
  run := fun s r => ok (s.storeBytes (r.p.u64 0) (s.tableFile r.idx))
    (leBytes 4 (s.fld (F.COH_TABLE_TAG_TAG r.idx)) ++ leBytes 1 (s.fld (F.COH_STATUS_LAB r.idx)) ++ leBytes 3 0)

/-- COH_TABLE_READ (R461). -/
def execCohTableRead (p : Packet) (s : State) : Out := .next (s.deliver cmdCohTableRead p)

/-- The entries of a file. -/
def fileEntries (f : List Byte) : List Nat := (List.range 1024).map fun i => leNat ((f.drop (256 + 8 * i)).take 8)

/-- The parameter checks of R463 on a file. -/
def tableContent (f : List Byte) : Bool :=
  leNat (f.take 2) == 1 && leNat ((f.drop 2).take 2) == 0 && leNat ((f.drop 12).take 4) == 0 && ((f.drop 160).take 96).all (· == 0) &&
    (leNat ((f.drop 8).take 4) == 0 || (leNat ((f.drop 8).take 4) == 1024 &&
      (List.range 1024).all fun i => entryAccepted i (leNat ((f.drop (256 + 8 * i)).take 8))))

/-- The DIGEST and SIGNATURE of a file hold, under the image-signing key (R462). -/
def State.tableSigned (s : State) (f : List Byte) : Bool :=
  decide (Config.sha384 ((f.drop 256).take 8192) = (f.drop 16).take 48) && match s.sec.pubkey with
    | some k => Config.ecdsaVerifies k (f.take 64) ((f.drop 64).take 96)
    | none => false

/-- A table load or restore is accepted, and the engine quiesces (R464). -/
def State.beginQuiesce (s : State) (h : Nat) (j : TableJob) : State :=
  (s.modCoh h fun c => { c with load := some j }).setFld (F.COH_STATUS_LOADING h) 1

/-- No transaction is active and no request is held in either role of half h (R464). -/
def State.engineQuiet (s : State) (h : Nat) : Bool :=
  s.cohLines.all fun p => p.1 / 2 ^ 58 / 2 != h || (!s.cohActive h (p.1 / 2 ^ 58 % 2) (p.1 % 2 ^ 58) && p.2.held.isEmpty)

/-- The requests held at the input are taken, in order (R464). -/
def State.takeInput (s : State) (h : Nat) : State :=
  ((s.coh h).input.foldl (fun t q => t.cohRequest h q) (s.modCoh h fun c => { c with input := [], load := none })).cohSettle h

/-- The table of a load or restore is a command of half h. -/
def tableJob (h : Nat) (j : Job) : Bool := (j.opcode == 0x0405 || j.opcode == 0x0406) && j.half == h

/-- The table takes effect (R464, R465). -/
def State.switchTable (s : State) (h : Nat) (j : TableJob) : State :=
  let t := (s.modCoh h fun c => { c with table := (j.entries.foldl (fun p e => (p.1 + 1, Bank.set (fun _ => 0) p.2 p.1 e)) (0, ([] : Bank Nat))).2 }).setFlds
    [(F.COH_STATUS_LAB h, bnat j.lab), (F.COH_STATUS_LOADING h, 0), (F.COH_TABLE_TAG_TAG h, j.tag),
     (F.COH_STATUS_LOADS h, s.fld (F.COH_STATUS_LOADS h) + bnat j.lab)]
  let t := if j.lab then t.raise { half := h, cls := NOTICE, src := 11, code := 2, unit := h, ctx := j.tag } else t
  (t.takeInput h).endJobs (tableJob h) OK 0 (if j.lab then leBytes 4 j.tag else [])

/-- A load or restore starts; with a drain timeout of zero it succeeds only where the engine is idle already (R469). -/
def State.startTable (s : State) (r : Req) (j : TableJob) : Run :=
  if s.fld (F.COH_DRAIN_DRAIN_US r.idx) ≠ 0 then .job (s.beginQuiesce r.idx j) (longJob r 0 [r.p.target.toNat])
  else if s.engineQuiet r.idx then ok (s.switchTable r.idx j) (if j.lab then leBytes 4 j.tag else [])
  else .done s S_BUSY 0 []

/-- COH_TABLE_LOAD of R524. -/
def cmdCohTableLoad : Cmd where
  opcode := 0x0405
  cls := .long
  scopes := [1]
  size := fun _ => 8
  fields := [addrField 0 1 fun _ => 8448]
  check := fun s r => if s.on F.SEC_STATUS_APPROVED then refusal S_APPROVED else if s.quiescing r.idx then refusal S_BUSY else none
  run := fun s r => match s.loadBytes (r.p.u64 0) 8448 with
    | none => .done s S_ADDRESS 0x8000 []
    | some (t, _, true) => .done t S_ADDRESS D_POISON []
    | some (t, f, false) =>
      if !tableContent f then .done t S_CONTENT 0 []
      else if !t.tableSigned f then .done t S_SIGNATURE 0 []
      else if leNat ((f.drop 8).take 4) = 0 then nothing t (leBytes 4 (leNat ((f.drop 4).take 4)))
      else t.startTable r { entries := fileEntries f, tag := leNat ((f.drop 4).take 4), lab := true }

/-- COH_TABLE_LOAD (R463, R464). -/
def execCohTableLoad (p : Packet) (s : State) : Out := .next (s.deliver cmdCohTableLoad p)

/-- The TAG of the shipped table (R461). -/
def SHIPPED_TAG : Nat := 0x00010000

/-- COH_TABLE_RESTORE of R524. -/
def cmdCohTableRestore : Cmd where
  opcode := 0x0406
  cls := .long
  scopes := [1]
  size := fun _ => 0
  check := fun s r => if s.quiescing r.idx then refusal S_BUSY else if !s.on (F.COH_STATUS_LAB r.idx) then already else none
  run := fun s r => s.startTable r { entries := [], tag := SHIPPED_TAG, lab := false }

/-- COH_TABLE_RESTORE (R465). -/
def execCohTableRestore (p : Packet) (s : State) : Out := .next (s.deliver cmdCohTableRestore p)

/-- COH_TABLE_SWITCH (R464). -/
def execCohTableSwitch (h : Fin 2) (s : State) : Out :=
  .next (match (s.coh h).load with
    | some j => if s.engineQuiet h then s.switchTable h j else s
    | none => s)

/-- The quiescence ends without a switch: the old table stays and the held requests are released (R464). -/
def State.giveUpTable (s : State) (h : Nat) : State :=
  if s.quiescing h then (s.setFld (F.COH_STATUS_LOADING h) 0).takeInput h else s

/-- COH_TABLE_QUIESCE_TIMEOUT (R464). -/
def execCohTableQuiesceTimeout (h : Fin 2) (s : State) : Out :=
  .next (if s.quiescing h && !s.engineQuiet h then (s.giveUpTable h).endJobs (tableJob h) S_BUSY 0 [] else s)

/-! ## Registers (R470, R471) -/

/-- A write of 1 to COH[h]_INJECT.INJECT with INJ_KIND (R471): the report's context is a free value (Assumption 3). -/
def State.cohInject (s : State) (h kind : Nat) : State :=
  let t := s.setFlds [(F.COH_INJECT_INJECT h, 0), (F.COH_INJECT_INJ_KIND h, kind)]
  if 2 ≤ kind then t.setFld (F.COH_INJECT_INJ_REFUSED h) 1
  else (t.raise { half := h, cls := ERROR, src := 11, code := if kind = 0 then 1 else 3, unit := h, ctx := t.freeVal, inj := true }).useFree

/-- COH_INJECT (R471). -/
def execCohInject (h : Fin 2) (kind : Fin 4) (s : State) : Out := .next (s.cohInject h kind)

/-- EVICTS_CLEAR (R470). -/
def execEvictsClear (h : Fin 2) (s : State) : Out := .next (s.setFlds [(F.COH_EVICTS_DIR_EVICT h, 0), (F.COH_EVICTS_FILTER_EVICT h, 0)])

/-- FLIPS_CLEAR (R470). -/
def execFlipsClear (h : Fin 2) (s : State) : Out := .next (s.setFld (F.COH_FLIPS_FLIPS h) 0)

end Sys2Proof.Machine
end

