-- ==== Sys2Proof/Machine/Cores.lean ====
section
/-! DEFINITION. Tender cores (09_tender_cores): start and reset, the coprocessor port, timers, caches, and the management
controllers. -/

namespace Sys2Proof.Machine

/-! ## Start and reset (R327, R328) -/

/-- The release address of core c (R353). -/
def State.resetVec (s : State) (c : Nat) : Nat := s.fld (F.TCORE_RESET_VEC_VEC c 0) / 64 * 64 + s.fld (F.TCORE_RESET_VEC_VEC c 1) * 2 ^ 32

/-- Core c is released in M mode, once the part is in USER; a halt that is asked for halts it at once (R327, R730). -/
def State.releaseCore (s : State) (c : Nat) : State :=
  if s.on (F.TCORE_CTL_RUN c) && s.fld F.RST_STATUS_STATE = 7 && !(s.core c).live then
    (s.modCore c fun k => { k with live := true, prv := 3, pc := BitVec.ofNat 64 (s.resetVec c) }).haltDue c
  else s

/-- RUN is set with the release address given. -/
def State.startCore (s : State) (c vec : Nat) : State :=
  (s.setFlds [(F.TCORE_RESET_VEC_VEC c 0, vec % 2 ^ 32), (F.TCORE_RESET_VEC_VEC c 1, vec / 2 ^ 32), (F.TCORE_CTL_RUN c, 1)]).releaseCore c

/-- The core's lines leave its caches: dirty ones are written back; the data of a cached line is free (Assumption 3). -/
def State.flushCore (s : State) (c : Nat) : State :=
  s.each (List.map Prod.fst (s.core c).lines) fun l t => t.coreEvicts c l

/-- The clocked ends of the queue blocks bound to core c reset (R164, R328). -/
def State.resetCoreQueues (s : State) (c : Nat) : State :=
  s.resetBound fun _ kind index => kind == 1 && index == c

/-- Core c resets (R328). -/
def State.resetCore (s : State) (c : Nat) : State :=
  let t := s.flushCore c
  let t := t.resetCoreQueues c
  let t := match t.coreRecord c with
    | some r => t.poisonDispatches [dispKey (c / 8) r.id]
    | none => t
  let k := t.core c
  let t := t.modJobs (fun j => j.opcode == 0x000A && j.unit == c) fun j => { j with aux := j.aux + k.outstanding }
  let t := t.setCore c { nextRid := k.nextRid, items := k.items, draining := k.draining, inject := k.inject }
  let t := t.setFlds [(F.TCORE_CTL_WFI c, 0), (F.TCORE_CTL_HALTED c, 0)]
  ((t.modHart c fun h => { h with havereset := true, resumeack := false }).copSettle c).settle

/-- RUN is cleared. -/
def State.stopCore (s : State) (c : Nat) : State := (s.setFld (F.TCORE_CTL_RUN c) 0).resetCore c

/-- CORE_START of R519. -/
def cmdCoreStart : Cmd where
  opcode := 0x0007
  cls := .short
  scopes := [4]
  size := fun _ => 8
  check := fun s r => if s.on (F.TCORE_CTL_RUN r.idx) then refusal S_STATE else none
  run := fun s r => ok (s.startCore r.idx (r.p.u64 0))

/-- CORE_START (R327). -/
def execCoreStart (p : Packet) (s : State) : Out := .next (s.deliver cmdCoreStart p)

/-- CORE_STOP of R519. -/
def cmdCoreStop : Cmd where
  opcode := 0x0008
  cls := .short
  scopes := [4]
  size := fun _ => 0
  check := fun s r => if s.on (F.TCORE_CTL_RUN r.idx) then none else already
  run := fun s r => ok (s.stopCore r.idx)

/-- CORE_STOP (R328). -/
def execCoreStop (p : Packet) (s : State) : Out := .next (s.deliver cmdCoreStop p)

/-! ## Binding (R336, R344) -/

/-- Queue d of a bind has the direction, is 32 bits wide, CREDIT, and bound with KIND TENDER and INDEX c. -/
def State.copQueue (s : State) (c d : Nat) (fabric : QEnd) : Bool :=
  let q := s.queue d
  s.fabricEnd d == fabric && q.width == 2 && q.mode == 0 && q.kind == 1 && q.index == c

/-- The STATE cases of R336. -/
def State.copBindable (s : State) (c n req rsp : Nat) : Bool :=
  let q := s.queue (n * 4 + req)
  s.copQueue c (n * 4 + req) .readEnd && s.copQueue c (n * 4 + rsp) .writeEnd && q.size true != 0 && q.size false != 0 &&
    s.on (F.PAN_IMAGE_ID_VALID n) && !s.on (F.TCORE_COP_BIND_EN c)

/-- An accepted bind (R336): both queues are flushed and their clocked ends reset. -/
def State.bindCop (s : State) (c n req rsp : Nat) : State :=
  let t := s.setFlds [(F.TCORE_COP_BIND_EN c, 1), (F.TCORE_COP_BIND_REQ_Q c, req), (F.TCORE_COP_BIND_RSP_Q c, rsp), (F.TCORE_COP_BIND_PAN c, n),
    (F.TCORE_COP_BIND_GEN c, s.fld (F.PAN_SLUICE_STATUS_GEN n))]
  let t := (t.setCop c BOUND).modCore c fun k => { k with nextRid := 0, items := 0, sending := [] }
  let t := (t.refusePushes (n * 4 + req)).refusePushes (n * 4 + rsp)
  let t := (t.requestFlush (n * 4 + req)).requestFlush (n * 4 + rsp)
  (t.resetEnd (n * 4 + req) (t.fabricEnd (n * 4 + req)).other).resetEnd (n * 4 + rsp) (t.fabricEnd (n * 4 + rsp)).other

/-- COP_BIND of R519. -/
def cmdCopBind : Cmd where
  opcode := 0x0009
  cls := .short
  scopes := [4]
  size := fun _ => 4
  fields := [{ off := 0, len := 1, ok := fun _ r => halfOfPan (r.p.u8 0) == halfOfCore r.idx }, rangeField 1 1 0 3,
    { off := 2, len := 1, ok := fun _ r => decide (r.p.u8 2 ≤ 3) && r.p.u8 1 != r.p.u8 2 }, zeroField 3 1]
  check := fun s r => if s.copBindable r.idx (r.p.u8 0) (r.p.u8 1) (r.p.u8 2) then none else refusal S_STATE
  run := fun s r =>
    let t := s.bindCop r.idx (r.p.u8 0) (r.p.u8 1) (r.p.u8 2)
    ok t (leBytes 2 (t.fld (F.TCORE_COP_BIND_GEN r.idx)) ++ leBytes 2 0)

/-- COP_BIND (R336). -/
def execCopBind (p : Packet) (s : State) : Out := .next (s.deliver cmdCopBind p)

/-- The drain of an unbind ends before its operations do: they fault UNBOUND and count as aborted (R344). -/
def State.cutUnbind (s : State) (c : Nat) : State :=
  let n := (s.core c).outstanding
  let t := s.modJobs (fun j => j.opcode == 0x000A && j.unit == c) fun j => { j with aux := n }
  ((t.faultAll c 8).modCore c fun k => { k with kills := [] }).copSettle c

/-- COP_UNBIND of R519. -/
def cmdCopUnbind : Cmd where
  opcode := 0x000A
  cls := .long
  scopes := [4]
  size := fun _ => 0
  check := fun s r => if s.copState r.idx = UNBOUND then already (drainRecord 0 0) else none
  run := fun s r =>
    let c := r.idx
    let n := (s.core c).outstanding
    let t := (s.setCop c DRAINING).modCore c fun k => { k with items := n, draining := true }
    if n = 0 then ok (t.copSettle c) (drainRecord 0 0)
    else if t.fld (F.TCORE_COP_DRAIN_DRAIN_US c) = 0 then ok (t.cutUnbind c) (drainRecord 0 n)
    else .job t (longJob r n [r.p.target.toNat] c)

/-- COP_UNBIND (R344). -/
def execCopUnbind (p : Packet) (s : State) : Out := .next (s.deliver cmdCopUnbind p)

/-- COP_UNBIND_TIMEOUT (R344). -/
def execCopUnbindTimeout (c : Fin 16) (s : State) : Out := .next (if (s.core c).draining then s.cutUnbind c else s)

/-! ## Operations (R332 to R343) -/

/-- The fields of a coprocessor instruction (R332). -/
def copOpc (w : Nat) : Nat := bitsOf w 31 25 * 8 + bitsOf w 14 12
def isCustom01 (w : Nat) : Bool := bitsOf w 6 0 == 0x0B || bitsOf w 6 0 == 0x2B
def isCustom23 (w : Nat) : Bool := bitsOf w 6 0 == 0x5B || bitsOf w 6 0 == 0x7B

/-- COPCTL permits coprocessor instructions in the core's mode (R333). -/
def State.copPermitted (s : State) (c : Nat) : Bool :=
  match (s.core c).prv with
  | 3 => true
  | 1 => bitOf (s.csr c 0x7C5).toNat 0
  | _ => bitOf (s.csr c 0x7C5).toNat 1

/-- An operation is added behind those of the core, and the pc moves on. -/
def State.addOp (s : State) (c : Nat) (o : CopOp) : State := s.modCore c fun k => { k with ops := k.ops ++ [o], pc := k.pc + 4 }

/-- An operation issues: it faults, or its request goes to the port (R334, R338). -/
def State.issueCop (s : State) (c w : Nat) (effecting : Bool) : State :=
  let k := s.core c
  match s.copRefusal c true with
  | some d => ((s.addOp c { effecting := effecting, rd := bitsOf w 11 7, pc := k.pc, fault := some (d, 0) }).setFld
      (F.TCORE_COP_STATUS_LAST_DETAIL c) d).copSettle c
  | none => (s.addOp c { effecting := effecting, rd := bitsOf w 11 7, pc := k.pc, unsent := true, opc := copOpc w,
                         a := s.xreg c (bitsOf w 19 15), b := s.xreg c (bitsOf w 24 20) }).copSettle c

/-- A register that an operation not retired will write (R334). -/
def Core.owes (k : Core) (r : Nat) : Bool := r != 0 && k.ops.any fun o => o.rd == r

/-- An instruction word of the custom opcode spaces issues; one that must wait, for a source register, for room among the 8 operations or
for the older instructions of an effecting one, leaves the state as it is (R334). -/
def State.issueWord (s : State) (c n : Nat) : State :=
  let k := s.core c
  if isCustom23 n || (isCustom01 n && !s.copPermitted c) then (if k.ops.isEmpty then s.useFree.coreTrap c 2 s.freeVal k.pc else s.reply .stalled)
  else if !isCustom01 n then s
  else if 8 ≤ k.outstanding || k.owes (bitsOf n 19 15) || k.owes (bitsOf n 24 20) || (bitsOf n 6 0 = 0x2B && !k.ops.isEmpty) then s.reply .stalled
  else s.issueCop c n (bitsOf n 6 0 == 0x2B)

/-- COP_ISSUE (R334). -/
def execCopIssue (c : Fin 16) (w : Word) (s : State) : Out :=
  .next (if !(s.core c).live || s.isHalted c then s else s.issueWord c w.toNat)

/-- COP_RESPONSE (R339): the port takes one stored response. -/
def execCopResponse (c : Fin 16) (s : State) : Out :=
  .next (if s.on (F.TCORE_COP_BIND_EN c) && (s.queue (s.rspQ c)).hasPacket then (s.popResponse c).copSettle c else s)

/-- COP_TIMEOUT (R340): an operation or a kill has no answer in time. -/
def execCopTimeout (c : Fin 16) (rid : BitVec 16) (s : State) : Out :=
  .next (
    let k := s.core c
    let op (o : CopOp) : Bool := o.rid == rid.toNat && o.sent
    let kill (x : CopKill) : Bool := x.rid == rid.toNat && !x.held
    if s.fld (F.TCORE_COP_CFG_TIMEOUT_US c) = 0 || !(k.ops.any op || k.kills.any kill) then s
    else
      let t := s.setCore c { k with ops := k.ops.map fun o => if op o then { o with fault := some (5, 0) } else o
                                    kills := k.kills.filter fun x => !kill x }
      (((t.setFld (F.TCORE_COP_STATUS_LAST_DETAIL c) 5).faultAll c 7).setCop c FAULTED).copSettle c)

/-- COP_SQUASH (R342): the flow is redirected behind the first k operations; never before an effecting one, which waits for all that is
older (R334, R335). -/
def execCopSquash (c : Fin 16) (k : Fin 8) (target : Dword) (s : State) : Out :=
  .next (if (s.core c).live && !((s.core c).ops.drop k).any (·.effecting) then
      ((s.squashFrom c k).modCore c fun x => { x with pc := target }).copSettle c
    else s)

/-! ## Timer and software interrupt (R326) -/

/-- mtime (R326). -/
def State.mtime (s : State) : Nat := s.ns.toNat

/-- The compare of core c. -/
def State.mtimecmp (s : State) (c : Nat) : Nat := s.fld (F.TCORE_MTIMECMP_CMP c 0) + s.fld (F.TCORE_MTIMECMP_CMP c 1) * 2 ^ 32

/-- MSIP of mip is the register. -/
def State.writeMsip (s : State) (c : Nat) (v : Bool) : State := s.put (F.TCORE_MSIP_MSIP c) v

/-- A half of the compare is written. -/
def State.writeMtimecmp (s : State) (c : Nat) (high : Bool) (v : Nat) : State :=
  s.setFld (if high then F.TCORE_MTIMECMP_CMP c 1 else F.TCORE_MTIMECMP_CMP c 0) v

/-- A store of core a to a core-writable register at an address: performed from M mode, a store access fault from S and U mode. It waits
for the operations issued before it (R334; Assumption 57). Whether the store is a compressed instruction, and so the pc's advance, is free
(Assumption 3). -/
def State.coreStore (s : State) (a addr : Nat) (f : State → State) : State :=
  let k := s.core a
  if !k.live || s.isHalted a then s
  else if !k.ops.isEmpty then s.reply .stalled
  else if k.prv ≠ 3 then s.coreTrap a 7 addr k.pc
  else ((f s).useFree).modCore a fun x => { x with pc := x.pc + (if s.freeVal % 2 = 0 then 4 else 2) }

/-- MTIMECMP_WRITE (R326): a store of core a to the compare of core c. -/
def execMtimecmpWrite (a c : Fin 16) (high : Bool) (v : Word) (s : State) : Out :=
  .next (s.coreStore a (if high then R.TCORE_MTIMECMP c 1 else R.TCORE_MTIMECMP c 0) (·.writeMtimecmp c high v.toNat))

/-- MSIP_WRITE (R326). -/
def execMsipWrite (a c : Fin 16) (v : Bool) (s : State) : Out := .next (s.coreStore a (R.TCORE_MSIP c) (·.writeMsip c v))

/-! ## Cache checks (R325, R360) -/

/-- A corrected error counts (R355). -/
def State.coreCorrected (s : State) (c : Nat) : State :=
  (s.setFld (F.TCORE_STATUS_CE c) 1).count (F.TCORE_STATUS_CE_COUNT c) none

/-- A dirty line with an uncorrectable error is written back poisoned; its data is free (Assumption 3). -/
def State.writeBackPoisoned (s : State) (c line : Nat) : State :=
  let t := ((s.useFree).coreDrops c line).coreAsks c 2 line (some (BitVec.ofNat 512 s.freeVal))
  match t.memKey (lineAddr line) with
  | some k => t.poisonWords k 64
  | none => t

/-- The number of wrong bits of a line in a cache (0 L1I, 1 L1D, 2 L2), + 8 where injected. -/
def State.cacheFlips (s : State) (c target line : Nat) : Nat := Bank.get (fun _ => 0) (s.core c).flips (4 * line + target)

/-- A check of a line in a cache finds wrong bits (R325). -/
def State.cacheEvent (s : State) (c target line : Nat) : State :=
  let f := s.cacheFlips c target line
  let inj := decide (8 ≤ f)
  let t := s.modCore c fun k => { k with flips := Bank.erase k.flips (4 * line + target) }
  if f % 8 = 0 then s
  else if target = 0 then (t.coreCorrected c).coreReport c NOTICE 1 line inj
  else if f % 8 = 1 then (t.coreCorrected c).coreReport c NOTICE 2 line inj
  else
    let t := t.setFld (F.TCORE_STATUS_UE c) 1
    if (s.core c).holds line = 3 then (t.writeBackPoisoned c line).coreReport c ERROR 4 line inj
    else t.coreReport c NOTICE 3 line inj

/-- The word of memory at an address is poisoned, or a read of it would find an uncorrectable error (R376). -/
def State.badWord (s : State) (addr : Nat) : Bool :=
  match s.memKey addr with
  | some k => s.checkWord (k / 8) == .poisoned || s.checkWord (k / 8) == .failed
  | none => false

/-- An access of core c through a cache (0 L1I, 1 L1D, 2 L2) meets the check of its line, and an L1 access the word's poison (R325,
R376). -/
def State.cacheCheck (s : State) (c target addr : Nat) : State :=
  if s.cacheFlips c target (addr / 64) % 8 ≠ 0 then s.cacheEvent c target (addr / 64)
  else if target < 2 && s.badWord addr then (s.readCheck (((s.memKey addr).getD 0) / 8) false).poisonTrap c addr
  else s

/-- CORE_CACHE_CHECK (R325): fill asks that the line be filled into the cache first, an L1 cache from the L2 that holds it; an L2 fills
by a grant, and a line it holds is then fetched again. -/
def execCoreCacheCheck (c : Fin 16) (target : Fin 3) (addr : Dword) (fill : Bool) (s : State) : Out :=
  .next (
    let line := addr.toNat / 64
    if !(s.core c).live then s
    else (if !fill || (s.core c).holds line = 0 then s else if target.val < 2 then s.fillL1 c target line else s.fillLine c 2 line).cacheCheck c
      target addr.toNat)

/-- CORE_CE_CLEAR (R355). -/
def execCoreCeClear (c : Fin 16) (s : State) : Out := .next (s.setFlds [(F.TCORE_STATUS_CE c, 0), (F.TCORE_STATUS_CE_COUNT c, 0)])

/-- COP_STRAY_CLEAR (R359). -/
def execCopStrayClear (c : Fin 16) (s : State) : Out :=
  .next (s.setFlds [(F.TCORE_COP_STATUS_STRAY c, 0), (F.TCORE_COP_STATUS_STRAY_COUNT c, 0)])

/-- A write of 1 to INJECT (R360). -/
def State.coreInjectWrite (s : State) (c target : Nat) (double : Bool) : State :=
  let t := s.setFlds [(F.TCORE_INJECT_TARGET c, target), (F.TCORE_INJECT_DOUBLE c, bnat double)]
  if target = 3 || !(s.core c).live || (double && target = 0) then
    t.setFlds [(F.TCORE_INJECT_INJECT c, 0), (F.TCORE_INJECT_INJ_REFUSED c, 1)]
  else (t.setFld (F.TCORE_INJECT_INJECT c) 1).modCore c fun k => { k with inject := some (target, double) }

/-- TCORE_INJECT (R360). -/
def execTcoreInject (c : Fin 16) (target : Fin 4) (double : Bool) (s : State) : Out := .next (s.coreInjectWrite c target double)

/-! ## Management controllers (R350 to R352) -/

/-- The patch VERSION in force in half h; 0 without a patch. -/
def State.patchVersion (s : State) (h : Nat) : Nat := s.patch (2 * h) - 1

/-- The commands that controller h executes or holds end with HW_FAULT and MGMT_RESTART; its pan load ends (R352, R261). -/
def State.mgmtStops (s : State) (h : Nat) : State :=
  let mine (j : Job) : Bool := j.half == h
  let t := (s.jobs.filter mine).foldl (fun u j => u.jobReply j S_HW_FAULT D_MGMT_RESTART
      (if j.opcode = 0x0100 then (match u.load (loadKey h 0) with | some l => u.loadResult l | none => []) else []))
    { s with jobs := s.jobs.filter fun j => !mine j }
  let held (w : Waiting) : Bool := w.half == h || receivingHalf w.packet.via == h
  let t := (t.waiting.filter held).foldl (fun u w => u.sendReply w.packet.via w.packet.seq.toNat w.opcode S_HW_FAULT D_MGMT_RESTART [])
    { t with waiting := t.waiting.filter fun w => !held w }
  (t.dropLoad h 0 15).resetBound fun d kind _ => kind == 4 && halfOfQueue d == h

/-- MGMT_LOCKSTEP_MISMATCH (R352). -/
def execMgmtLockstepMismatch (h : Fin 2) (s : State) : Out :=
  .next (((s.mgmtStops h).setIsRestarting h true).raise { half := h, cls := FATAL, src := 8, code := 1, unit := h, ctx := s.patchVersion h })

/-- MGMT_RESTART_DONE (R352): the controller has restarted, and what waits for it can start (R512). -/
def execMgmtRestartDone (h : Fin 2) (s : State) : Out :=
  .next (if !s.isRestarting h then s
    else
      let t := (s.setIsRestarting h false).raise { half := h, cls := NOTICE, src := 8, code := 2, unit := h, ctx := s.patchVersion h }
      t.each (List.range 16) fun l u => if l / 8 = h || u.causewayUp h then u.mbxEvent l 3 else u)

end Sys2Proof.Machine
end

