-- ==== Sys2Proof/Machine/PortOps.lean ====
section
/-! DEFINITION. The coherent host ports (11_coherent_ports): training, loss and reset of a link, the disables of R422, memory extents, and
what the image gives a port. -/

namespace Sys2Proof.Machine

/-! ## Settings (R392, R393, R427) -/

/-- STATE of LINK_STATUS. -/
def L_IDLE : Nat := 0
def L_TRAINING : Nat := 1
def L_UP : Nat := 2
def L_DISABLED : Nat := 3
def L_HOLD : Nat := 4

/-- The state field of link l, and a change of it. -/
def State.linkState (s : State) (l : Nat) : Nat := s.fld (F.LINK_STATUS_STATE (l / 4) (l % 4))
def State.setLinkState (s : State) (l v : Nat) : State := s.setFld (F.LINK_STATUS_STATE (l / 4) (l % 4)) v

/-- The link exists under its port's BIFUR (R391). -/
def State.linkExists (s : State) (l : Nat) : Bool := decide (l < 16) && decide (l % 4 < s.linkCount (l / 4))

/-- The links of a port. -/
def State.linksOf (s : State) (p : Nat) : List Nat := (List.range (s.linkCount p)).map (4 * p + ·)

/-- Personality of a link's port: 0 PCIE, 1 TYPE2, 2 TYPE3. -/
def State.personality (s : State) (l : Nat) : Nat := s.fld (F.PORT_CTL_PERS (l / 4))

/-- The link serves CXL (R393). -/
def State.cxlLink (s : State) (l : Nat) : Bool := s.linkUp l && s.on (F.LINK_STATUS_CXL (l / 4) (l % 4)) && s.personality l != 0

/-- The highest rate that MAXRATE allows. -/
def State.maxRate (s : State) (p : Nat) : Nat := min 5 (s.fld (F.PORT_CTL_MAXRATE p))

/-- The GLOBAL record PORTS of the image in force gives port p its settings (R541). -/
def State.portFromImage (s : State) (p : Nat) : State :=
  match Bank.get (fun _ => []) s.image.globals 3 with
  | [] => s
  | r =>
    let w := leNat ((r.drop (4 * p)).take 4)
    s.setFlds [(F.PORT_CTL_EN p, bitsOf w 31 31), (F.PORT_CTL_PERS p, bitsOf w 30 29), (F.PORT_CTL_BIFUR p, bitsOf w 28 27), (F.PORT_CTL_MAXRATE p, bitsOf w 26 24)]

/-- A link leaves service: its status reads as in electrical idle, in the state given. -/
def State.clearLink (s : State) (l st : Nat) : State :=
  let t := s.setReg (R.LINK_STATUS (l / 4) (l % 4)) (s.reg (R.LINK_STATUS (l / 4) (l % 4)) &&& 0x00010000)
  (t.setLinkState l st).modHostLink l fun k => { k with config := { k.config with power := .l0 } }

/-! ## Traffic that ends (R422, R423) -/

/-- The halves whose route names link l. -/
def State.halvesVia (s : State) (l : Nat) : List Nat := (List.range 2).filter fun h => s.on (F.PORT_ROUTE_EN h) && s.routeLink h == l

/-- The items that link l's disables still hold are aborted, and count so in their commands. -/
def State.abortLinkItems (s : State) (l : Nat) : State :=
  let n := s.linkItems l
  s.modJobs (fun j => (j.opcode == 0x0400 || j.opcode == 0x0401) && j.data.contains l && (s.hostLink l).drain.isSome) fun j => { j with aux := j.aux + n }

/-- Dirty host-memory lines of half h go out with the standard's poison (R422). -/
def State.poisonDirty (s : State) (h : Nat) : State :=
  s.each (s.dirtyLines h) fun line t => (t.linkSend (t.routeLink h) ⟨0x05, cohKey h 1 line, none⟩).dropCached h line

/-- PORT_DRAIN_TIMEOUT's work: dirty lines are written back poisoned, snoops are ended, and the disables of link l end. -/
def State.timeoutLink (s : State) (l : Nat) : State :=
  let t := s.abortLinkItems l
  let t := if t.on (F.PORT_CTL_EN (l / 4)) then t else t.each (t.halvesVia l) fun h u => ((u.poisonDirty h).dropHost h).flushIfEmpty h
  ((t.forceSnoops l).modHostLink l fun k => { k with drain := none }).portSettle

/-- Every IDE stream of link l becomes Insecure (R411). -/
def State.insecure (s : State) (l : Nat) : State :=
  ((s.modHostLink l fun k => { k with secure := 0 }).setFld (F.LINK_STATUS_IDE_SECURE (l / 4) (l % 4)) 0)

/-- The loss of link l (R423): a disable with no drain, whose dirty lines are dropped and counted in one report. -/
def State.loseLink (s : State) (l : Nat) : State :=
  let dirty := ((s.halvesVia l).map fun h => (s.dirtyLines h).length).foldl (· + ·) 0
  let t := s.abortLinkItems l
  let t := t.each (t.halvesVia l) fun h u => if (u.coh h).flush.isSome then u.abortFlush h else u.dropHost h
  let t := (t.forceSnoops l).modHostLink l fun k => { k with
    drain := none, viral := true, assemblies := [], xids := [], replay := 0, secure := 0, cqids := [], biTags := [], unsent := [] }
  t.portSettle.raise { half := l / 8, cls := ERROR, src := 10, code := 6, unit := l, ctx := dirty }

/-- Whether a link trains again: its port is enabled, or serves the load under CFG_MODE 0b010 (R392). -/
def State.trains (s : State) (l : Nat) : Bool := s.on (F.PORT_CTL_EN (l / 4)) || (l == 0 && s.image.port0Due)

/-- A link that was lost or reset trains again, or rests. -/
def State.retrain (s : State) (l : Nat) : State := s.clearLink l (if s.trains l then L_TRAINING else L_IDLE)

/-- A per-port reset of link l (R425); the first of port 0 after WAKE brings in the image's settings, under which all its links train
(R392). -/
def State.resetLink (s : State) (l : Nat) : State :=
  let t := if s.linkUp l then s.loseLink l else s
  let t := t.resetBound fun _ kind index => kind == 3 && index == l / 4
  let t := t.modHostLink l fun k => { k with secure := 0, refusing := 0, events := [], timestamp := none, replay := 0, config := {} }
  if l / 4 = 0 && t.image.port0Due && decide (6 ≤ t.fld F.RST_STATUS_STATE) then
    let u := { t.portFromImage 0 with image := { t.image with port0Due := false } }
    (List.range 4).foldl (fun v k => if v.linkExists k then v.retrain k else v.clearLink k L_IDLE) u
  else t.retrain l

/-! ## Reports -/

/-- A report of the port family about link l. -/
def State.portReport (s : State) (l cls code ctx : Nat) (inj : Bool := false) : State :=
  s.raise { half := l / 8, cls := cls, src := 10, code := code, unit := l, ctx := ctx, inj := inj }

/-! ## Disabling and exposing -/

/-- Half h flushes its host-memory lines to the same route while the port drains (R422). -/
def State.flushSame (s : State) (h : Nat) : State :=
  s.startFlush h (s.on (F.PORT_ROUTE_EN h)) (s.fld (F.PORT_ROUTE_PORT h)) (s.fld (F.PORT_ROUTE_LINK h))

/-- The port's EN clears, and its links drain (R422). -/
def State.disablePort (s : State) (p : Nat) : State :=
  let t := s.setFld (F.PORT_CTL_EN p) 0
  (t.linksOf p).foldl (fun u l =>
    let u := if u.linkState l = L_UP then u.setLinkState l L_DISABLED
      else if u.linkState l = L_TRAINING || u.linkState l = L_HOLD then u.clearLink l L_IDLE else u
    let u := u.modHostLink l fun k => { k with drain := if u.linkItems l = 0 then none else some (u.linkItems l) }
    (u.halvesVia l).foldl (fun v h => if (v.coh h).flush.isSome || (v.hostLines h).isEmpty then v else v.flushSame h) u) t

/-- The port's EN sets: links come back to service or train (R427). -/
def State.enablePort (s : State) (p : Nat) : State :=
  let t := s.setFld (F.PORT_CTL_EN p) 1
  (t.linksOf p).foldl (fun u l =>
    if u.linkState l = L_DISABLED && !(u.hostLink l).memOff then u.setLinkState l L_UP
    else if u.linkState l = L_IDLE then u.setLinkState l L_TRAINING else u) t

/-- The links of port p that drain, and the items they still hold. -/
def State.leftOn (s : State) (p : Nat) : Nat := ((s.linksOf p).map fun l => s.linkItems l).foldl (· + ·) 0

/-- Port p is disabled (R422); with a drain timeout of zero what it holds is aborted at once (R34). With the items aborted. -/
def State.stopPort (s : State) (p : Nat) : State × Nat :=
  let t := (s.disablePort p).portSettle
  if t.fld (F.PORT_DRAIN_DRAIN_US p) = 0 then
    (((t.linksOf p).foldl (fun u l => if (u.hostLink l).drain.isSome then u.timeoutLink l else u) t), t.leftOn p)
  else (t, 0)

/-- PORT_ENABLE of R524. -/
def cmdPortEnable : Cmd where
  opcode := 0x0400
  cls := .long
  scopes := [5]
  size := fun _ => 4
  fields := [rangeField 0 1 0 1, zeroField 1 3]
  check := fun s r => if s.fld (F.PORT_CTL_EN (r.idx / 4)) = r.p.u8 0 then already (drainRecord 0 0) else none
  touches := fun s r => (s.linksOf (r.idx / 4)).map (0x5000 + ·)
  run := fun s r =>
    let p := r.idx / 4
    if r.p.u8 0 = 1 then ok (s.enablePort p) (drainRecord 0 0)
    else
      let items := ((s.linksOf p).map fun l => (s.setFld (F.PORT_CTL_EN p) 0).linkItems l).foldl (· + ·) 0
      let x := s.stopPort p
      let t := x.1
      if (s.linksOf p).all fun l => (t.hostLink l).drain.isNone then ok t (drainRecord (items - x.2) x.2)
      else .job t (longJob r items ((s.linksOf p).map (0x5000 + ·)) p 0 (s.linksOf p))

/-! ## Extents (R403) -/

/-- 256 MB. -/
def EXTENT_UNIT : Nat := 0x10000000

/-- Extent i of a MEM_EXPOSE command. -/
def extentAt (p : Packet) (i : Nat) : Extent := ⟨p.u64 (8 + 32 * i), p.u64 (16 + 32 * i), p.u64 (24 + 32 * i), p.u8 (32 + 32 * i), p.u8 (33 + 32 * i)⟩

/-- The extents given that are not empty. -/
def extentsOf (p : Packet) : List Extent := ((List.range (p.u8 0)).map (extentAt p)).filter fun e => e.len != 0

/-- Two half-open ranges overlap. -/
def overlap (a n b m : Nat) : Bool := decide (a < b + m) && decide (b < a + n)

/-- The fields of one extent hold (R403). -/
def Extent.formed (e : Extent) : Bool :=
  if e.len = 0 then e.dpa == 0 && e.off == 0 && e.half == 0 && e.kind == 0
  else e.dpa % EXTENT_UNIT == 0 && e.len % EXTENT_UNIT == 0 && e.off % EXTENT_UNIT == 0 && decide (e.off + e.len ≤ HBM_BYTES) && decide (e.half < 2) && decide (e.kind < 3)

/-- A kind that the personality supports. -/
def kindAllowed (pers kind : Nat) : Bool := (pers == 1 && (kind == 1 || kind == 2)) || (pers == 2 && (kind == 0 || kind == 2))

/-- No two of the extents overlap in DPA. -/
def disjointDpa : List Extent → Bool
  | [] => true
  | e :: r => r.all (fun x => !overlap e.dpa e.len x.dpa x.len) && disjointDpa r

/-- An HBM range of the set overlaps an extent of another link, or of the set itself, and not both are HDM-DB. -/
def State.hbmClash (s : State) (l : Nat) (es : List Extent) : Bool :=
  es.any fun e => (List.range 16).any fun k => k != l && (s.hostLink k).extents.any fun x =>
    x.half == e.half && overlap x.off x.len e.off e.len && !(x.kind == 2 && e.kind == 2)

/-- The DIR partition of half h is too small for the extents it would carry (R445). -/
def State.dirTooSmall (s : State) (l h : Nat) (es : List Extent) : Bool :=
  let others := ((List.range 16).filter (· != l)).flatMap fun k => (s.hostLink k).extents
  let b := if (others ++ es).any fun e => e.half == h && e.kind == 1 then 1 else 0
  let dir := s.fld (F.MEM_LAG_PART_DIR h)
  (es.any (fun e => e.half == h && e.kind == 1) && decide (dir < 1)) || (es.any (fun e => e.half == h && e.kind == 2) && decide (dir < b + 1))

/-- The link takes a new extent set: pages of new HDM-D extents start in host bias, and host copies of lines no longer exposed leave
the directory (R403, R443). -/
def State.setExtents (s : State) (l : Nat) (es : List Extent) : State :=
  let old := (s.hostLink l).extents
  let fresh := es.filter fun e => e.kind == 1 && !old.contains e
  let inFresh (k : Nat) : Bool := fresh.any fun e => e.half == k / 2 ^ 23 && decide (e.off ≤ k % 2 ^ 23 * 4096) && decide (k % 2 ^ 23 * 4096 < e.off + e.len)
  let t := s.modHostLink l fun k => { k with extents := es, memOff := es.isEmpty }
  let t := { t with deviceBias := Bank.drop inFresh t.deviceBias }
  let t := (s.cohLines.filter fun p => p.1 / 2 ^ 58 % 2 == 0 && bitOf p.2.hosts l).foldl (fun u p =>
    let line := p.1 % 2 ^ 58
    if es.any fun e => e.half == p.1 / 2 ^ 59 && decide (e.off ≤ stackOffset e.half line) && decide (stackOffset e.half line < e.off + e.len) then u
    else u.modCohLine p.1 fun x => { x with hosts := putBits x.hosts l l 0 }) t
  if es.isEmpty then (if t.linkState l = L_UP then t.setLinkState l L_DISABLED else t)
  else if t.linkState l = L_DISABLED && t.on (F.PORT_CTL_EN (l / 4)) then t.setLinkState l L_UP else t

/-- MEM_EXPOSE of R524; with a drain timeout of zero what an extent's removal leaves is aborted at once (R34). -/
def cmdMemExpose : Cmd where
  opcode := 0x0401
  cls := .long
  scopes := [5]
  size := fun r => 8 + 32 * r.p.u8 0
  fields := [rangeField 0 1 0 16, zeroField 1 7,
    { off := 8, len := 32, ok := fun _ r => (List.range (r.p.u8 0)).all fun i => (extentAt r.p i).formed && r.p.num (34 + 32 * i) 6 == 0 },
    { off := 8, len := 32, ok := fun _ r => disjointDpa (extentsOf r.p) },
    { off := 8, len := 32, ok := fun s r => (extentsOf r.p).all fun e => kindAllowed (s.personality r.idx) e.kind }]
  check := fun s r =>
    let es := extentsOf r.p
    if es.isEmpty && (s.hostLink r.idx).extents.isEmpty then already (drainRecord 0 0)
    else if es.any fun e => !s.stackMapped e.half then refusal S_HW_FAULT D_STACK_FAILED
    else if s.hbmClash r.idx es then refusal S_IN_USE
    else if s.dirTooSmall r.idx 0 es || s.dirTooSmall r.idx 1 es then refusal S_EXHAUSTED 0x0206
    else none
  run := fun s r =>
    let l := r.idx
    let es := extentsOf r.p
    let removes := (s.hostLink l).extents.any fun e => !es.contains e
    let t := s.setExtents l es
    let n := if removes then t.linkItems l else 0
    let u := t.modHostLink l fun k => { k with drain := some n }
    if n = 0 then ok t (drainRecord 0 0)
    else if s.fld (F.PORT_DRAIN_DRAIN_US (l / 4)) = 0 then ok (u.timeoutLink l) (drainRecord 0 n)
    else .job u (longJob r n [r.p.target.toNat] l 0 [l])

end Sys2Proof.Machine
end

