-- ==== Sys2Proof/Machine/Ports.lean ====
section
/-! DEFINITION. The rows of the coherent host ports (11_coherent_ports), but for the deliveries of commands. -/

namespace Sys2Proof.Machine

/-! ## The link -/

/-- The widest link of port p has this many lanes (R391). -/
def State.lanesOf (s : State) (l : Nat) : Nat := 16 / s.linkCount (l / 4)

/-- LINK_TRAINING_DONE (R393, R394): rate, width 2^width, framing, and whether the host negotiated CXL. -/
def execLinkTrainingDone (l : Fin 16) (rate : Fin 6) (width : Fin 5) (framing : Fin 4) (cxl : Bool) (s : State) : Out :=
  let p := l.val / 4
  let k := l.val % 4
  .next (if s.linkState l ≠ L_TRAINING || !s.linkExists l then s
    else
      let r := min rate.val (s.maxRate p)
      let w := min (2 ^ width.val) (s.lanesOf l)
      let slow := decide (r < 2)
      let cx := cxl && !slow && s.personality l != 0
      let degraded := slow || decide (w < s.lanesOf l) || (s.personality l != 0 && !cx)
      let noted := decide (w < s.lanesOf l) || (s.personality l != 0 && !cxl)
      let t := s.setFlds [(F.LINK_STATUS_RATE p k, r), (F.LINK_STATUS_WIDTH p k, w), (F.LINK_STATUS_FRAMING p k, if slow then 0 else framing.val),
        (F.LINK_STATUS_CXL p k, bnat cx), (F.LINK_STATUS_DEGRADED p k, bnat degraded),
        (F.LINK_STATUS_STATE p k, if (s.hostLink l).memOff then L_DISABLED else L_UP), (F.CLK_STATUS_SERDES_LOCK, putBits (s.fld F.CLK_STATUS_SERDES_LOCK) p p 1)]
      let t := if (t.hostLink l).viral then (t.send (.port l 0 [])).modHostLink l fun x => { x with viral := false } else t
      if noted then t.portReport l NOTICE 1 0 else t)

/-- A CRC failure of link l (R395): counted, NAKed for replay, and reported at most once a millisecond. -/
def State.crcFailure (s : State) (l : Nat) (inj : Bool) : State :=
  let t := s.count (F.LINK_ERRCNT_CRC (l / 4) (l % 4)) none
  let x := t.hostLink l
  let due := match x.crcAt with
    | some a => decide (a + 1000000 ≤ t.ns.toNat)
    | none => true
  if due then (t.modHostLink l fun y => { y with replay := min 512 (y.replay + 1), crcAt := some t.ns.toNat, crcSince := 0 }).portReport l NOTICE 2 (x.crcSince + 1) inj
  else t.modHostLink l fun y => { y with replay := min 512 (y.replay + 1), crcSince := y.crcSince + 1 }

/-- FLIT_RECEIVE (R395): whether the FEC corrects the flit, and whether its CRC fails. A flit ends L1 (R397). -/
def execFlitReceive (l : Fin 16) (fec crc : Bool) (s : State) : Out :=
  .next (if !s.linkUp l || s.fld (F.LINK_STATUS_FRAMING (l / 4) (l % 4)) = 0 then s
    else
      let x := s.hostLink l
      let t := s.modHostLink l fun y =>
        { y with armFec := false, armCrc := false, config := { y.config with power := if y.config.power = .l0p then .l0p else .l0 } }
      let t := if x.armFec || x.armCrc then t.portInjectBit l else t
      if crc || x.armCrc then t.crcFailure l x.armCrc
      else
        let t := t.modHostLink l fun y => { y with replay := y.replay - 1 }
        if fec || x.armFec then t.count (F.LINK_FEC_COUNT (l / 4) (l % 4)) none else t)

/-- REPLAY_ROLLOVER (R396): the link retrains; the fourth time within 1 s takes it down. -/
def execReplayRollover (l : Fin 16) (s : State) : Out :=
  .next (if !s.linkUp l then s
    else
      let t := s.count (F.LINK_ERRCNT_RETRAIN (l / 4) (l % 4)) none
      let recent := (t.hostLink l).rollovers.filter (fun a => decide (t.ns.toNat < a + 1000000000)) ++ [t.ns.toNat]
      if 4 ≤ recent.length then
        (((t.modHostLink l fun x => { x with rollovers := [] }).portReport l ERROR 3 0).loseLink l).clearLink l L_HOLD
      else (t.modHostLink l fun x => { x with rollovers := recent }).setLinkState l L_TRAINING)

/-- LINK_HOLD_END (R396). -/
def execLinkHoldEnd (l : Fin 16) (s : State) : Out := .next (if s.linkState l = L_HOLD then s.retrain l else s)

/-- LINK_LOSS (R423). -/
def execLinkLoss (l : Fin 16) (s : State) : Out := .next (if s.linkUp l then (s.loseLink l).retrain l else s)

/-- PER_PORT_RESET (R425); a warm reset absorbs it (R712). -/
def execPerPortReset (l : Fin 16) (s : State) : Out :=
  .next (if !s.linkExists l || s.warm.isSome || s.linkState l = L_IDLE then s else s.resetLink l)

/-- PORT_DRAIN_TIMEOUT (R422). -/
def execPortDrainTimeout (l : Fin 16) (s : State) : Out := .next (if (s.hostLink l).drain.isSome then s.timeoutLink l else s)

/-! ## Power states and the configuration space (R391, R397) -/

/-- One choice of the host and the link partner in a link's configuration space, spelled by a number. -/
def LinkConfig.choose (k : LinkConfig) (v : Nat) : LinkConfig :=
  let x := v / 16
  match v % 16 with
  | 0 => { k with power := .l0 }
  | 1 => { k with power := .l0p }
  | 2 => { k with power := .l1 }
  | 3 => { k with power := .l11 }
  | 4 => { k with function := .d0 }
  | 5 => { k with function := .d3hot }
  | 6 => { k with tagBits := 8 }
  | 7 => { k with tagBits := 10 }
  | 8 => { k with tagBits := 14 }
  | 9 => { k with timeoutUs := x }
  | 10 => { k with bar0 := x }
  | 11 => { k with bar2 := x }
  | 12 => { k with decoders := k.decoders ++ [(x % 2 ^ 64, x / 2 ^ 64)] }
  | _ => k

/-- A configuration request or a power negotiation that no row carries: a free value names the link, which is up, and what is chosen for it
(Assumption 59). -/
def State.hostChooses (s : State) : State :=
  if (List.range 16).any s.linkUp then
    let l := s.freeVal % 16
    let t := s.useFree
    if t.linkUp l then t.modHostLink l fun k => { k with config := k.config.choose (s.freeVal / 16) } else t
  else s

/-! ## The host's accesses -/

/-- A posted write that a disable turns away is dropped and counts as aborted in the disable's command (R422). -/
def State.dropPosted (s : State) (l : Nat) : State :=
  if (s.hostLink l).drain.isNone then s
  else s.modJobs (fun j => j.opcode == 0x0400 && j.data.contains l) fun j => { j with total := j.total + 1, aux := j.aux + 1 }

/-- Inbound traffic of link l is new work that a disable or a fence turns away (R422, R424). -/
def State.turnedAway (s : State) (l : Nat) : Bool :=
  !s.linkServes l || s.on (F.LINK_STATUS_FENCED (l / 4) (l % 4)) || decide (s.fld F.RST_STATUS_STATE < 6)

/-- The extent of link l that contains a DPA (R404). -/
def State.extentFor (s : State) (l dpa : Nat) : Option Extent := (s.hostLink l).extents.find? fun e => decide (e.dpa ≤ dpa) && decide (dpa < e.dpa + e.len)

/-- CXL_MEM_REQUEST (R404): an HDM-H range is served from the stack; other kinds go to the home agent as a host request. -/
def execCxlMemRequest (l : Fin 16) (dpa : Dword) (write : Option (BitVec 512)) (poison : Bool) (s : State) : Out :=
  let a := dpa.toNat / 64 * 64
  let away (t : State) : State := t.reply (if write.isNone then .bytes (List.replicate 64 0) true else .done)
  .next (s.fromAgent (.link l) (if !s.cxlLink l then s.reply .abort
    else if s.turnedAway l || (s.hostLink l).memOff || bitOf (s.hostLink l).refusing 5 then away s
    else match s.extentFor l a with
      | none => away (s.misuse (.link l) 4 a)
      | some e =>
        let addr := HBM_BASE e.half + e.off + (a - e.dpa)
        if e.kind = 0 && !s.reaches (l / 8) addr 64 then away (s.misuse (.link l) 4 a)
        else if e.kind = 0 then
          s.accessMem { agent := .link l, addr := addr, write := write.map fun d => leBytes 64 d.toNat, n := 64, poison := poison }
        else s.hostAsks l (if write.isNone then 8 else 0x0B) (addr / 64) (if poison then none else write)))

/-- The device address behind a BAR2 offset (R402). -/
def bar2Addr (off : Nat) : Nat := if off < 0x1000000 then SCRATCH_BASE 0 + off else SCRATCH_BASE 1 + (off - 0x1000000)

/-- BAR2_ACCESS (R402): a write of bytes, or a read of n. -/
def execBar2Access (l : Fin 16) (off : BitVec 25) (write : Option (List Byte)) (n : Byte) (poison : Bool) (s : State) : Out :=
  let a := bar2Addr off.toNat
  .next (s.fromAgent (.link l) (if !s.linkUp l then s
    else if s.turnedAway l then (if write.isSome then s.dropPosted l else s).reply .abort
    else s.accessMem { agent := .link l, addr := a, write := write, n := n.toNat, poison := poison }))

/-- A BAR0 offset that R401 gives content on link l. -/
def State.bar0Content (s : State) (l off : Nat) : Bool :=
  if off < 0x20000 then s.personality l != 0
  else decide (off < 0x21020) || (decide (0x30000 ≤ off) && decide (off < 0x31000)) || (decide (0x40000 ≤ off) && decide (off < 0x51000))

/-- BAR0_MISUSE (R401). -/
def execBar0Misuse (l : Fin 16) (off : BitVec 20) (write : Bool) (s : State) : Out :=
  .next (s.fromAgent (.link l)
    (if s.bar0Content l off.toNat then s else (s.misuse (.link l) 4 off.toNat).reply (if write then .none else .word 0)))

/-- COMPLETION_TIMEOUT (R409): a request of agent a over link l gets no completion. -/
def execCompletionTimeout (l : Fin 16) (a : Agent) (addr : Dword) (s : State) : Out :=
  let t := s.portReport l ERROR 4 0
  .next (match a with
    | .core c => (if (t.core c).live then t.coreTrap c 5 addr.toNat (t.core c).pc else t).reply .abort
    | _ => t.reply (.bytes (List.replicate 8 0) true))

/-- An IDE stream of link l fails (R411). -/
def State.ideFail (s : State) (l stream : Nat) (inj : Bool) : State :=
  let t := s.modHostLink l fun k => { k with secure := putBits k.secure stream stream 0, refusing := putBits k.refusing stream stream 1 }
  let t := if stream = 0 then t.setFld (F.LINK_STATUS_IDE_SECURE (l / 4) (l % 4)) 0 else t
  t.portReport l ERROR 5 0 inj

/-- IDE_INTEGRITY_FAIL (R411): a Secure stream fails; 0 link, 1 to 4 selective, 5 CXL. -/
def execIdeIntegrityFail (l : Fin 16) (stream : Fin 6) (s : State) : Out :=
  .next (if bitOf (s.hostLink l).secure stream then s.ideFail l stream false else s)

/-! ## Mailbox slots and messages -/

/-- The control address of a byte of slot sl of link l's mailbox (R426). -/
def slotAddr (l sl off : Nat) : Nat := 0x00910000 + l / 4 * 0x40000 + l % 4 * 0x2000 + sl * 128 + off

/-- The agent reaches the mailbox of link l: cores, controllers and the debugger that of any link, a host its own (R498, R499). -/
def reachesMailbox (l : Nat) : Agent → Bool
  | .link k => k.val == l
  | .core _ => true
  | .mgmt _ => true
  | .debug => true
  | _ => false

/-- The link whose mailbox registers or slots hold address a, and the offset in its 8 KB (R426). -/
def mailboxAt (a : Nat) : Option (Nat × Nat) :=
  let o := a % 0x40000
  if 0x00900000 ≤ a && a < 0x00A00000 && 0x10000 ≤ o && o < 0x18000 then
    some (4 * ((a - 0x00900000) / 0x40000) + (o - 0x10000) / 0x2000, o % 0x2000)
  else none

/-- An aligned write of v into the slots of link l (R416). -/
def State.slotStore (s : State) (l off : Nat) (a : Agent) (v : Nat) : State :=
  if bitOf (s.reg (R.MBX_BUSY (l / 4) (l % 4))).toNat (off / 128) then
    (s.setFld (F.MBX_STATUS_WRITE_REFUSED (l / 4) (l % 4)) 1).misuse a 7 (slotAddr l (off / 128) (off % 128))
  else s.setSlot l (off / 128) (off % 128) (leBytes 4 v)

/-- The link and offset of an aligned word of a mailbox's slots. -/
def State.slotWord (s : State) (a : Nat) : Option (Nat × Nat) :=
  match mailboxAt a with
  | some (l, off) => if off < 0x1000 && a % 4 == 0 && s.linkExists l then some (l, off) else none
  | none => none

/-- MAILBOX_SLOT_WRITE (R416): a write to a busy slot has no effect. -/
def execMailboxSlotWrite (l : Fin 16) (a : Agent) (slot : Fin 32) (off : Fin 128) (data : List Byte) (s : State) : Out :=
  .next (s.fromAgent a (if !s.linkExists l then s
    else if !reachesMailbox l a then s.misuse a 3 (slotAddr l slot off)
    else if bitOf (s.reg (R.MBX_BUSY (l / 4) (l % 4))).toNat slot then
      (s.setFld (F.MBX_STATUS_WRITE_REFUSED (l / 4) (l % 4)) 1).misuse a 7 (slotAddr l slot off)
    else s.setSlot l slot off (data.take (128 - off))))

/-- VDM_REASSEMBLY_TIMEOUT (R420). -/
def execVdmReassemblyTimeout (l : Fin 16) (requester xid : BitVec 16) (s : State) : Out :=
  let mine (x : Assembly) : Bool := x.requester == requester.toNat && x.xid == xid.toNat
  .next (if (s.hostLink l).assemblies.any mine then
      (s.modHostLink l fun k => { k with assemblies := k.assemblies.filter fun x => !mine x }).portReport l NOTICE 8 0
    else s)

/-! ## Injections and counters (R429, R431) -/

/-- A write of 1 to PORT[p]_INJECT.INJECT (R429). -/
def State.portInject (s : State) (p k kind : Nat) : State :=
  let l := 4 * p + k
  let t := (s.setFlds [(F.PORT_INJECT_INJ_KIND p, kind), (F.PORT_INJECT_INJ_LINK p, k)]).portInjectBit l
  if !s.linkUp l || (decide (kind ≤ 1) && s.fld (F.LINK_STATUS_FRAMING p k) == 0) || decide (4 ≤ kind) then t.setFld (F.PORT_INJECT_INJ_REFUSED p) 1
  else match kind with
    | 0 => (t.modHostLink l fun x => { x with armFec := true }).portInjectBit l
    | 1 => (t.modHostLink l fun x => { x with armCrc := true }).portInjectBit l
    | 2 => t.portReport l ERROR 3 0 true
    | _ => (t.modHostLink l fun x => { x with armPoison := true }).portInjectBit l

/-- PORT_INJECT_FEC (R429). -/
def execPortInjectFec (p l : Fin 4) (s : State) : Out := .next (s.portInject p l 0)

/-- PORT_INJECT_CRC (R429). -/
def execPortInjectCrc (p l : Fin 4) (s : State) : Out := .next (s.portInject p l 1)

/-- PORT_INJECT_REPLAY (R429). -/
def execPortInjectReplay (p l : Fin 4) (s : State) : Out := .next (s.portInject p l 2)

/-- PORT_INJECT_POISON (R429). -/
def execPortInjectPoison (p l : Fin 4) (s : State) : Out := .next (s.portInject p l 3)

/-- ERRCNT_CLEAR (R431). -/
def State.errcntClear (s : State) (l : Nat) : State :=
  s.setFlds [(F.LINK_ERRCNT_CRC (l / 4) (l % 4), 0), (F.LINK_ERRCNT_RETRAIN (l / 4) (l % 4), 0), (F.LINK_FEC_COUNT (l / 4) (l % 4), 0)]

/-- ERRCNT_CLEAR (R431). -/
def execErrcntClear (l : Fin 16) (s : State) : Out := .next (s.errcntClear l)

/-! ## The commands of R524 -/

/-- PORT_ENABLE (R422). -/
def execPortEnable (p : Packet) (s : State) : Out := .next (s.deliver cmdPortEnable p)

/-- MEM_EXPOSE (R403). -/
def execMemExpose (p : Packet) (s : State) : Out := .next (s.deliver cmdMemExpose p)

/-! ## The CXL primary mailbox (R400) -/

/-- Opcodes and return codes of the CXL standard (Assumption 12, PRESUMED). -/
def CXL_SUCCESS : Nat := 0x0000
def CXL_INVALID_INPUT : Nat := 0x0002
def CXL_UNSUPPORTED : Nat := 0x0003
def CXL_INVALID_LOG : Nat := 0x0017
def cxlOpcodes : List Nat := [0x0001, 0x0100, 0x0101, 0x0300, 0x0301, 0x0400, 0x0401, 0x4000, 0x4200, 0x4300]

/-- The Command Effects Log's identifier (Assumption 12, PRESUMED). -/
def CEL_UUID : Nat := 0x0da9c0b5bf414b788f7996b1623b3f17

/-- A response of link l's primary mailbox: opcode, return code and payload. -/
def State.cxlReply (s : State) (l op code : Nat) (payload : List Nat) : State := s.send (.port l 1 ([op, code] ++ payload))

/-- The command runs where the link has a primary mailbox: personality TYPE2 or TYPE3 (R401). -/
def State.cxlCmd (s : State) (l : Fin 16) (f : State → State) : Out :=
  .next (s.fromAgent (.link l) (if s.linkUp l && s.personality l ≠ 0 then f s else s))

/-- The sum of the link's memory extents. -/
def State.capacity (s : State) (l : Nat) : Nat := ((s.hostLink l).extents.map (·.len)).foldl (· + ·) 0

/-- CXL_IDENTIFY (R400). -/
def execCxlIdentify (l : Fin 16) (s : State) : Out := s.cxlCmd l fun t => t.cxlReply l 0x0001 CXL_SUCCESS [Config.vendor, Config.serial]

/-- CXL_IDENTIFY_MEMORY_DEVICE (R400): the capacity. -/
def execCxlIdentifyMemoryDevice (l : Fin 16) (s : State) : Out := s.cxlCmd l fun t => t.cxlReply l 0x4000 CXL_SUCCESS [t.capacity l]

/-- The Command Effects Log: opcodes with their effects; Set Timestamp and Clear Event Records change the device (Assumption 12). -/
def effectsLog : List Byte := cxlOpcodes.flatMap fun o => leBytes 2 o ++ leBytes 2 0

/-- GET_SUPPORTED_LOGS (R400). -/
def execGetSupportedLogs (l : Fin 16) (s : State) : Out := s.cxlCmd l fun t => t.cxlReply l 0x0400 CXL_SUCCESS [1, CEL_UUID, effectsLog.length]

/-- GET_LOG (R400): the Command Effects Log alone. -/
def execGetLog (l : Fin 16) (log : BitVec 128) (offset len : Word) (s : State) : Out :=
  s.cxlCmd l fun t =>
    if log.toNat ≠ CEL_UUID then t.cxlReply l 0x0401 CXL_INVALID_LOG []
    else if effectsLog.length < offset.toNat + len.toNat then t.cxlReply l 0x0401 CXL_INVALID_INPUT []
    else t.cxlReply l 0x0401 CXL_SUCCESS (((effectsLog.drop offset.toNat).take len.toNat).map (·.toNat))

/-- The event log that holds a record: 0 informational for a corrected error, 2 failure for an uncorrectable one (Assumption 12). -/
def MediaEvent.log (e : MediaEvent) : Nat := if e.ue then 2 else 0

/-- GET_EVENT_RECORDS (R400). -/
def execGetEventRecords (l : Fin 16) (log : Byte) (s : State) : Out :=
  s.cxlCmd l fun t => t.cxlReply l 0x0100 CXL_SUCCESS (((t.hostLink l).events.filter fun e => e.log == log.toNat).map (·.dpa))

/-- CLEAR_EVENT_RECORDS (R400): the n oldest records of a log. -/
def execClearEventRecords (l : Fin 16) (log : Byte) (n : Byte) (s : State) : Out :=
  s.cxlCmd l fun t =>
    let keep := (t.hostLink l).events.filter fun e => e.log != log.toNat
    let mine := (t.hostLink l).events.filter fun e => e.log == log.toNat
    (t.modHostLink l fun k => { k with events := keep ++ mine.drop n.toNat }).cxlReply l 0x0101 CXL_SUCCESS []

/-- The DPAs of link l's poisoned words. -/
def State.poisonList (s : State) (l : Nat) : List Nat :=
  (s.hostLink l).extents.flatMap fun e =>
    let base := HBM_BASE e.half + e.off
    ((s.poison.filter fun p => decide (base ≤ p.1 * 8) && decide (p.1 * 8 < base + e.len)).map fun p => p.1 * 8 - base + e.dpa)

/-- GET_POISON_LIST (R400): words stored poisoned within [dpa, dpa + len). -/
def execGetPoisonList (l : Fin 16) (dpa len : Dword) (s : State) : Out :=
  s.cxlCmd l fun t => t.cxlReply l 0x4300 CXL_SUCCESS ((t.poisonList l).filter fun d => decide (dpa.toNat ≤ d) && decide (d < dpa.toNat + len.toNat))

/-- The higher TJ of the two halves, in units of 0.125 °C (R626). -/
def State.deviceTj (s : State) : Int := max (sgn 16 (s.fld (F.GOV_POWER_TJ 0))) (sgn 16 (s.fld (F.GOV_POWER_TJ 1)))

/-- GET_HEALTH_INFO (R400): device temperature in °C, life used 0. -/
def execGetHealthInfo (l : Fin 16) (s : State) : Out := s.cxlCmd l fun t => t.cxlReply l 0x4200 CXL_SUCCESS [uns 16 (t.deviceTj / 8), 0]

/-- GET_TIMESTAMP (R400): 0 until one is set. -/
def execGetTimestamp (l : Fin 16) (s : State) : Out :=
  s.cxlCmd l fun t => t.cxlReply l 0x0300 CXL_SUCCESS [match (t.hostLink l).timestamp with
    | some (v, at') => (v + (t.ns.toNat - at')) % 2 ^ 64
    | none => 0]

/-- SET_TIMESTAMP (R400): the real-time clock does not change. -/
def execSetTimestamp (l : Fin 16) (v : Dword) (s : State) : Out :=
  s.cxlCmd l fun t => (t.modHostLink l fun k => { k with timestamp := some (v.toNat, t.ns.toNat) }).cxlReply l 0x0301 CXL_SUCCESS []

/-- CXL_UNSUPPORTED_OPCODE (R400). -/
def execCxlUnsupportedOpcode (l : Fin 16) (opcode : BitVec 16) (s : State) : Out :=
  s.cxlCmd l fun t => if cxlOpcodes.contains opcode.toNat then t else t.cxlReply l opcode.toNat CXL_UNSUPPORTED []

end Sys2Proof.Machine
end

