-- ==== Sys2Proof/Machine/Reconfig.lean ====
section
/-! DEFINITION. The reconfiguration port's commands: grants, frames, signatures, ends of loads, and PAN_LOAD
(07_sluices_and_reconfiguration). -/

namespace Sys2Proof.Machine

/-! ## The port's grant (R248) -/

/-- The master the port of half h has granted, while it keeps the port. -/
def State.portMaster (s : State) (h : Nat) : Option Nat := if 4 ≤ s.granted h then some (s.granted h - 5) else none

/-- A master has a frame ready: a load that waits for frames, or an agent frame. -/
def State.frameReady (s : State) (h m : Nat) : Bool :=
  if m = 2 then !(s.agentFrame h).isEmpty
  else match s.load (loadKey h m) with
    | some j => !j.waitFloor && !j.embedded
    | none => false

/-- The next master of the rotation after the one granted last (R248). -/
def State.nextMaster (s : State) (h : Nat) : Option Nat :=
  let first := s.granted h % 4 % 3
  [first, (first + 1) % 3, (first + 2) % 3].find? fun m => s.frameReady h m

/-- The pan of half h that holds the agent image, with its sluice open (R249). -/
def State.agentOpen (s : State) (h : Nat) : Bool :=
  (List.range 128).any fun i => (s.pan (h * 128 + i)).agent && s.sluice (h * 128 + i) == OPEN

/-- The RESULT channel of the agent pan of half h, while its sluice passes it as it passes a queue's read end (R249, R235). -/
def State.resultPort (s : State) (h : Nat) : Option Nat :=
  ((pansOf h).find? fun n => (s.pan n).agent && (s.sluice n == OPEN || s.sluice n == CLOSING)).map fun n => chanOfPoint n 424

/-- The oldest result goes to the agent pan once its RESULT channel is free: STATUS 16, PAN 8 and COUNT 16, lowest first (R249). -/
def State.giveResult (s : State) (h : Nat) : State :=
  match s.resultPort h, s.agentResult h with
  | some k, (st, pan, count) :: r =>
    if s.portFree k then
      let v := st % 2 ^ 16 + pan % 2 ^ 8 * 2 ^ 16 + count % 2 ^ 16 * 2 ^ 24
      ((s.setAgentResult h r).giveToken k 40 v).reply (.num v)
    else s
  | _, _ => s

/-- RECONFIG_GRANT (R248): the port of half h grants the next whole frame; `agent` is the frame the agent pan offers, if any; a result
that waits goes to the agent pan (R249). -/
def execReconfigGrant (h : Fin 2) (agent : List Byte) (s : State) : Out :=
  .next (
    let s := s.giveResult h
    let t := if !agent.isEmpty && s.agentOpen h && (s.agentFrame h).isEmpty then s.setAgentFrame h agent else s
    if (t.portMaster h).isSome then t
    else match t.nextMaster h with
      | some m => t.setGranted h (5 + m)
      | none => t)

/-- The port is free again after master m's frame. -/
def State.freePort (s : State) (h m : Nat) : State := s.setGranted h (1 + m)

/-- What the port finds where the next frame should stand. -/
inductive Fetch where
  | frame (f : List Byte)
  /-- The image has no further bytes. -/
  | short
  /-- A read failed or returned poison. -/
  | failed
deriving DecidableEq, Repr

/-- The next frame of master m: an agent frame, or bytes of memory from the load's source on (R249). -/
def State.fetchFrame (s : State) (h m : Nat) : State × Fetch :=
  if m = 2 then (s.setAgentFrame h [], .frame (s.agentFrame h))
  else match s.load (loadKey h m) with
    | none => (s, .short)
    | some j =>
      if j.left < 64 then (s, .short)
      else if !s.reaches h j.src 32 then (s, .failed)
      else
        let l := leNat (s.bytesAt (((s.memKey j.src).getD 0) + 12) 4)
        let n := if l % 32 = 0 && decide (l ≤ 4096) then 64 + l else 64
        if j.left < n then (s, .short)
        else if !s.reaches h j.src n then (s, .failed)
        else match s.loadBytes j.src n with
          | some (t, f, false) => (t.setLoad (loadKey h m) (some { j with src := j.src + n, left := j.left - n }), .frame f)
          | some (t, _, true) => (t, .failed)
          | none => (s, .failed)

/-- A HEADER, or a first frame that is none, of master m (R256 to R258); FRAME_CRC is the cause of a HEADER that fails only its
CRC (R261). -/
def State.header (s : State) (h m : Nat) (j : LoadJob) (f : List Byte) : State :=
  let n := j.pan
  let t := s.setLoad (loadKey h m) (some j)
  if fType f ≠ 1 then t.failLoad h m 10
  else if s.claimRefused h m n then
    (t.when (s.power n == 2 && s.stopped h) (·.refusePower n CAUSE_THERMAL)).failLoad h m 8 (s.loadHolds h m n)
  else if badHeaderFrame f then t.failLoad h m 10
  else match s.headerCause n (fPayload f) false with
    | some c => t.failLoad h m c
    | none => if !fCrc f then t.failLoad h m 9 else (t.setLoad (loadKey h m) (some (j.header f))).setFld (F.PAN_SLUICE_STATUS_LOADER n) (m + 1) |>.acceptLoad n

/-- PAN_LOAD_HEADER (R257): the frame granted in half h begins a load. A claim on a gated pan that R256
does not refuse wakes it first (R117), and the frame waits. -/
def execPanLoadHeader (h : Fin 2) (s : State) : Out :=
  .next (match s.portMaster h with
    | none => s
    | some m =>
      let j0 := if m = 2 then some ((s.load (loadKey h m)).getD { pan := numAt (s.agentFrame h) 2 2 % 256 }) else s.load (loadKey h m)
      match j0 with
      | none => s.freePort h m
      | some j =>
        if j.accepted then s
        else match s.fetchFrame h m with
          | (t, .frame f) =>
            if s.power j.pan ≠ 0 && fType f == 1 && !s.claimRefused h m j.pan then (s.requestWake j.pan).freePort h m
            else (t.header h m ((t.load (loadKey h m)).getD j) f).freePort h m
          | (t, .short) => ((t.setLoad (loadKey h m) (some j)).failLoad h m 13).freePort h m
          | (t, .failed) => ((t.setLoad (loadKey h m) (some j)).failLoad h m 16).freePort h m)

/-- A SEGTAG closes the running segment (R255). -/
def LoadJob.closeSegment (j : LoadJob) : LoadJob :=
  { j with segment := [], segAad := [], segNo := j.segNo + 1, segFrames := 0, lastSeg := decide (j.segFrames < 64) }

/-- A later frame, not END, of a load (R259). -/
def State.laterFrame (s : State) (h m : Nat) (j : LoadJob) (f : List Byte) : State :=
  match frameCause j f with
  | some c => s.failLoad h m c
  | none =>
    let enc := fFlags f % 2 == 1
    match s.plainOf j f with
    | none => s.setLoad (loadKey h m) (some (j.note f enc))
    | some p =>
      if !framePayload (fType f) p then s.failLoad h m 10
      else if fType f = 9 then
        if s.tagOk h j (p.take 16) then s.setLoad (loadKey h m) (some ((j.note f false).closeSegment)) else s.failLoad h m 12
      else s.setLoad (loadKey h m) (some ((j.write f p).note f enc))

/-- PAN_FRAME (R259): the frame granted in half h, of a load that is accepted, other than END. -/
def execPanFrame (h : Fin 2) (s : State) : Out :=
  .next (match s.portMaster h with
    | none => s
    | some m => match s.load (loadKey h m) with
      | none => s.freePort h m
      | some j =>
        if !j.accepted || j.waitFloor then s
        else match s.fetchFrame h m with
          | (t, .frame f) =>
            if fType f = 15 then s else (t.laterFrame h m ((t.load (loadKey h m)).getD j) f).freePort h m
          | (t, .short) => (t.failLoad h m 13).freePort h m
          | (t, .failed) => (t.failLoad h m 16).freePort h m)

/-- PAN_SIGNATURE_DONE (R258): the security module has verified the signature of master m's load; a failure ends it. -/
def execPanSignatureDone (h : Fin 2) (m : Fin 3) (s : State) : Out :=
  .next (match s.load (loadKey h m) with
    | none => s
    | some j =>
      if !j.accepted || j.sigOk.isSome then s
      else
        let good := s.moduleOf h && match s.sec.pubkey with
          | some k => Config.ecdsaVerifies k j.signedPart j.signature
          | none => false
        if !good then s.failLoad h m 11
        else if j.waitFloor && s.atFloor h j.floor then s.completeLoad h m { j with sigOk := some true }
        else s.setLoad (loadKey h m) (some { j with sigOk := some true }))

/-- END of an accepted load (R260): its checks, then completion, or the wait for the signature (R258) and the floor (R262). -/
def State.endFrame (s : State) (h m : Nat) (j : LoadJob) (f : List Byte) : State :=
  match (frameCause j f).orElse fun _ => if framePayload 15 (fPayload f) then endCause j f else some 10 with
  | some c => s.failLoad h m c
  | none =>
    let j' := j.note f false
    if s.atFloor h j.floor && j.sigOk.isSome then s.completeLoad h m j'
    else s.setLoad (loadKey h m) (some { j' with waitFloor := true })

/-- PAN_LOAD_END (R260): the END frame granted in half h; the port is free after its last beat (R248). -/
def execPanLoadEnd (h : Fin 2) (s : State) : Out :=
  .next (match s.portMaster h with
    | none => s
    | some m => match s.load (loadKey h m) with
      | none => s.freePort h m
      | some j =>
        if !j.accepted || j.waitFloor then s
        else match s.fetchFrame h m with
          | (t, .frame f) =>
            if fType f = 15 then (t.endFrame h m ((t.load (loadKey h m)).getD j) f).freePort h m else s
          | (t, .short) => (t.failLoad h m 13).freePort h m
          | (t, .failed) => (t.failLoad h m 16).freePort h m)

/-- PAN_LOAD_FLOOR_REACHED (R262). -/
def execPanLoadFloorReached (h : Fin 2) (m : Fin 3) (s : State) : Out :=
  .next (match s.load (loadKey h m) with
    | none => s
    | some j => if j.waitFloor && j.sigOk.isSome && s.atFloor h j.floor then s.completeLoad h m j else s)

/-- The frame of master m is abandoned, and the port serves the others (R250). -/
def State.abandonFrame (s : State) (h m : Nat) : State :=
  let t := if m = 2 then s.setAgentFrame h [] else s
  if t.portMaster h = some m then t.freePort h m else t

/-- RECONFIG_MASTER_STALL (R250): the load of master m ends MASTER_STALL, and the port serves the others. A HEADER frame of the agent
that stalls has begun a load of the pan it names. -/
def execReconfigMasterStall (h : Fin 2) (m : Fin 3) (s : State) : Out :=
  .next (match s.load (loadKey h m) with
    | none =>
      if m.val = 2 && !(s.agentFrame h).isEmpty then
        ((s.setLoad (loadKey h m) (some { pan := numAt (s.agentFrame h) 2 2 % 256 })).failLoad h m 14).abandonFrame h m
      else s
    | some j => if j.waitFloor then s else (s.failLoad h m 14).abandonFrame h m)

/-- PAN_LOAD of R521. -/
def cmdPanLoad : Cmd where
  opcode := 0x0100
  cls := .long
  scopes := [2]
  size := fun _ => 16
  fields := [{ off := 8, len := 8, ok := fun _ r => r.p.u64 8 % 32 == 0 }]
  check := fun s r => if r.p.u64 8 = 0 then already (s.loadResult { pan := r.idx }) else none
  run := fun s r =>
    if (s.load (loadKey r.half 0)).isSome then .later s
    else .job (s.setLoad (loadKey r.half 0) (some { pan := r.idx, src := r.p.u64 0, left := r.p.u64 8 })) (longJob r 0 [r.p.target.toNat] r.idx)

/-- PAN_LOAD (R521). -/
def execPanLoad (p : Packet) (s : State) : Out := .next (s.deliver cmdPanLoad p)

end Sys2Proof.Machine
end

