-- ==== Sys2Proof/Machine/Loading.lean ====
section
/-! DEFINITION. Configuration loading (15_configuration_loading): frames of the full image, VERIFY, DONE_WAIT, WAKE and failures. -/

namespace Sys2Proof.Machine

/-! ## States (R546) -/

def CONFIG_WAIT : Nat := 2
def LOADING : Nat := 3
def VERIFY : Nat := 4
def DONE_WAIT : Nat := 5
def WAKE : Nat := 6
def USER : Nat := 7
def CONFIG_FAIL : Nat := 8

/-- The start-up state; CFG_STATUS shows the controller's states with the codes of DEVICE_STATUS (R546). -/
def State.phase (s : State) : Nat := s.fld F.RST_STATUS_STATE
def State.setPhase (s : State) (v : Nat) : State := s.setFlds [(F.RST_STATUS_STATE, v), (F.CFG_STATUS_STATE, v)]

/-- CFG_BYTES follows the bytes accepted (R560). -/
def State.showBytes (s : State) : State :=
  s.setFlds [(F.CFG_BYTES_COUNT 0, s.image.taken % 2 ^ 32), (F.CFG_BYTES_COUNT 1, s.image.taken / 2 ^ 32)]

/-! ## Failures (R554) -/

/-- The reply status of CFG_LOAD for a cause, with the pan's cause for PAN. -/
def cfgStatus (cause pan : Nat) : Nat × Nat :=
  match cause with
  | 0x05 => (S_APPROVED, 0)
  | 0x07 => (S_AUTHORITY, 0)
  | 0x08 => (S_SIGNATURE, 0)
  | 0x09 => (S_SIGNATURE, 0)
  | 0x0A => (S_DECRYPT, 0)
  | 0x0B => (loadStatus pan false, 0x0100 + pan)
  | 0x0E => (S_HW_FAULT, 0)
  | 0x0F => (S_HW_FAULT, 0)
  | 0x11 => (S_ABORTED, 0)
  | _ => (S_CONTENT, 0)

/-- The pan takes INVALID with no image, unless it is quarantined (R552, R703). -/
def State.blankPan (s : State) (n : Nat) : State :=
  if s.sluice n = QUARANTINED then s else ((s.setFld (F.PAN_IMAGE_ID_VALID n) 0).shutSluice n INVALID).noImage n

/-- The embedded loads in progress are given up. -/
def State.dropEmbedded (s : State) : State := (s.setLoad (loadKey 0 0) none).setLoad (loadKey 1 0) none

/-- The load of the configuration image fails at frame `index` (R554, R559). -/
def State.cfgFail (s : State) (cause index : Nat) (pan : Option (Nat × Nat) := none) : State :=
  let t := ({ s with cfgErr := true }).setPhase CONFIG_FAIL
  let t := (t.each (List.range 256) fun n u => u.blankPan n).dropEmbedded.countUnsigned
  let t := t.setFlds [(F.CFG_STATUS_CAUSE, cause), (F.CFG_FAIL_FRAME_INDEX, index)]
  let t := match pan with
    | some (n, c) => t.setFlds [(F.CFG_FAIL_PAN_VALID, 1), (F.CFG_FAIL_PAN_PAN, n), (F.CFG_FAIL_PAN_PAN_CAUSE, c)]
    | none => t.setFld F.CFG_FAIL_PAN_VALID 0
  let t := t.raise { half := 0, cls := ERROR, src := 14, code := 1, unit := cause, ctx := index }
  let (st, d) := cfgStatus cause ((pan.map fun p => p.2).getD 0)
  t.endJobs (fun j => j.opcode == 0x0108) st d []

/-- Zeroization and emergency thermal stop end a load (R552). -/
def State.abortImage (s : State) : State :=
  if s.phase = LOADING || s.phase = VERIFY then s.cfgFail 0x11 s.image.index else s

/-- A pan of the image fails one of R547's checks. -/
def State.panFails (s : State) (n cause : Nat) : State := s.cfgFail 0x0B s.image.index (some (n, cause))

/-! ## Where frames come from (R534, R555) -/

/-- The CFG_LOAD command's source and length. -/
def State.cfgSource (s : State) : Option (Nat × Nat) :=
  (s.jobs.find? fun j => j.opcode == 0x0108).map fun j => (j.data.getD 0 0, j.data.getD 1 0)

/-- Bytes of the image read from host memory through port 0, link 0 (R555); none where the read fails. -/
def State.hostRead (s : State) (a n : Nat) : Option (List Byte) :=
  if !s.linkUp 0 || !s.mapped a n then none
  else match s.loadBytes a n with
    | some (_, f, false) => some f
    | _ => none

/-- What the image's source gives: nothing further, a frame, or a failure with its cause. -/
inductive CfgFetch where
  | nothing
  | frame (f : List Byte)
  | fails (cause : Nat)
deriving DecidableEq, Repr

/-- The controller's next read of the image (R555). -/
def State.readImage (s : State) : CfgFetch :=
  match s.cfgSource with
  | none => .nothing
  | some (src, len) =>
    let at' := if s.phase = CONFIG_WAIT then 0 else s.image.taken
    if len ≤ at' then .nothing
    else if len - at' < 64 then .fails 0x10
    else match s.hostRead (src + at') 32 with
      | none => .fails 0x0F
      | some hd =>
        let n := 64 + fLen hd % 2 ^ 13
        if len - at' < n then .fails 0x10
        else match s.hostRead (src + at') n with
          | none => .fails 0x0F
          | some f => .frame f

/-- The next image frame: one from the slave port, or the controller's own read. Under CFG_MODE 0b010 an image frame at the
slave port is discarded with a NOTICE (R537); a reserved mode takes none (R532). -/
def State.cfgFetch (s : State) (f : Option (List Byte)) : State × CfgFetch :=
  let mode := s.fld F.CFG_STATUS_MODE
  match f with
  | some b =>
    if mode = 2 then (s.raise { half := 0, cls := NOTICE, src := 14, code := 2, unit := 0, ctx := s.image.index }, .nothing)
    else if 4 ≤ mode then (s, .nothing)
    else (s, .frame b)
  | none => (s, if mode = 2 then s.readImage else .nothing)

/-! ## The DEVICE frame (R539, R545) -/

/-- The payload breaks R539: cause HEADER. -/
def badDevice (p : List Byte) : Bool :=
  let flags := numAt p 12 1
  numAt p 0 2 != 2 || !zeroAt p 2 2 || decide (numAt p 8 4 < 2) || decide (4 ≤ flags) || decide (256 < numAt p 14 2) ||
    !zeroAt p 36 12 || !zeroAt p 288 224 || (!bitOf flags 1 && !zeroAt p 24 12) || (!bitOf flags 0 && !zeroAt p 96 192)

/-- The cause for which a DEVICE payload is refused, if any (R539, R545, R555). -/
def State.deviceCause (s : State) (p : List Byte) : Option Nat :=
  let flags := numAt p 12 1
  let locked := s.fld F.CFG_STATUS_MODE == 3
  if badDevice p then some 0x04
  else if (locked || s.mustSign) && !bitOf flags 0 then some 0x05
  else if locked && !bitOf flags 1 then some 0x06
  else if bitOf flags 1 && (!s.secOperational || (s.keyOf (numAt p 13 1)).isNone) then some 0x07
  else if numAt p 16 8 < 576 then some 0x10
  else match s.cfgSource with
    | some (_, len) => if len ≠ numAt p 16 8 then some 0x10 else none
    | none => none

/-- A device-level frame's fields hold (R251, R538): PAN 0xFFFF, SEQ the image index, FLAGS as R542 marks it. -/
def deviceFrame (f : List Byte) (index : Nat) (encrypted : Bool) : Bool :=
  fFormed f && fPan f == 0xFFFF && fSeq f == index && fFlags f == bnat encrypted

/-- The image a DEVICE frame begins. -/
def imageOf (f : List Byte) (port0 : Bool) : ImageRun :=
  let p := fPayload f
  let flags := numAt p 12 1
  { tag := numAt p 4 4, frames := numAt p 8 4, signed := bitOf flags 0, encrypted := bitOf flags 1, keySel := numAt p 13 1
    pans := numAt p 14 2, bytes := numAt p 16 8, iv := (p.drop 24).take 12, digest := (p.drop 48).take 48
    pubkey := (p.drop 96).take 96, signature := (p.drop 192).take 96, signedPart := p.take 192
    index := 1, taken := f.length, checked := f, sigOk := if bitOf flags 0 then none else some true, port0Due := port0 }

/-- The DEVICE frame begins LOADING (R546). A failure of its own is one of LOADING. -/
def State.beginImage (s : State) (f : List Byte) : State :=
  let t := ({ s with image := { port0Due := s.image.port0Due } }).setPhase LOADING
  if !fCrc f then t.cfgFail 0x02 0
  else if !(deviceFrame f 0 false && fAddr f == 0 && fLen f == 512) then t.cfgFail 0x03 0
  else match s.deviceCause (fPayload f) with
    | some c => t.cfgFail c 0
    | none =>
      let u := { t with image := imageOf f s.image.port0Due }
      (u.setFlds [(F.CFG_IMAGE_TAG_TAG, u.image.tag), (F.CFG_STATUS_ENCRYPTED, bnat u.image.encrypted), (F.CFG_STATUS_SIGNED, 0),
        (F.CFG_STATUS_PANS, 0)]).showBytes

/-! ## Later frames -/

/-- What a frame of the image adds to the counts and digests (R539, R540, R542). -/
def ImageRun.note (i : ImageRun) (f : List Byte) : ImageRun :=
  let enc := fFlags f % 2 == 1
  let last := fType f == 0x1F
  { i with
    index := i.index + 1, taken := i.taken + f.length
    digested := if last then i.digested else i.digested ++ f
    checked := if last then i.checked else i.checked ++ f
    segment := if enc then i.segment ++ fPayload f else i.segment
    segAad := if enc then i.segAad ++ f.take 32 else i.segAad
    segFrames := if enc then i.segFrames + 1 else i.segFrames }

/-- The frame is counted (R560). -/
def State.noteFrame (s : State) (f : List Byte) : State := ({ s with image := s.image.note f }).showBytes

/-- The plain payload of a frame of the image: decrypted where it is encrypted (R542). -/
def State.imagePlain (s : State) (f : List Byte) : List Byte :=
  let i := s.image
  if fFlags f % 2 = 1 then match s.keyOf i.keySel with
    | some k => Config.gcmPlain k (segNonce i.iv i.segNo) i.segment.length (fPayload f)
    | none => fPayload f
  else fPayload f

/-! ### GLOBAL records (R541) -/

/-- The LEN of a record: its size rounded up to 32. -/
def globalLen (a : Nat) : Nat :=
  match a with
  | 1 => 128
  | 5 => 32
  | 6 => 1536
  | _ => 32

/-- Every field of a record is in its range. -/
def globalOk (a : Nat) (p : List Byte) : Bool :=
  let w (i : Nat) : Nat := numAt p (4 * i) 4
  match a with
  | 2 => (List.range 2).all fun h => bitsOf (w h) 19 15 + bitsOf (w h) 14 10 + bitsOf (w h) 9 5 + bitsOf (w h) 4 0 == 16 && bitsOf (w h) 19 15 != 0
  | 3 => (List.range 4).all fun k => bitsOf (w k) 30 29 != 3 && bitsOf (w k) 28 27 != 3
  | 4 => bitsOf (w 0) 30 0 == 0
  | 6 => (List.range 384).all fun k => wordFields k (w k) && funcOwner (wordFunc (w k)) (wordOwner (w k))
  | _ => true

/-- A GLOBAL frame (R541). -/
def State.globalFrame (s : State) (f : List Byte) : State :=
  let a := fAddr f
  let p := s.imagePlain f
  if !deviceFrame f s.image.index s.image.encrypted || s.image.current.isSome then s.cfgFail 0x03 s.image.index
  else if !(decide (1 ≤ a) && decide (a ≤ 6) && fLen f == globalLen a && globalOk a p) then s.cfgFail 0x0D s.image.index
  else
    let t := s.noteFrame f
    { t with image := { t.image with globals := Bank.set (fun _ => []) t.image.globals a p } }

/-! ### SEGTAG frames (R542) -/

/-- A device SEGTAG closes the running segment and checks its tag (R542, R543). -/
def State.segtagFrame (s : State) (f : List Byte) : State :=
  let i := s.image
  if !(deviceFrame f i.index false && i.encrypted && fAddr f == i.segNo && fLen f == 32 && decide (1 ≤ i.segFrames) && zeroAt (fPayload f) 16 16) then
    s.cfgFail 0x03 i.index
  else
    let good := match s.keyOf i.keySel with
      | some k => s.secOperational && Config.gcmTag k (segNonce i.iv i.segNo) i.segAad i.segment == (fPayload f).take 16
      | none => false
    if !good then s.cfgFail 0x0A i.index
    else
      let t := s.noteFrame f
      { t with image := { t.image with segment := [], segAad := [], segNo := i.segNo + 1, segFrames := 0, lastSeg := decide (i.segFrames < 64) } }

/-! ### Embedded pan images (R547) -/

/-- A frame as it reads with its payload in plain. -/
def plainFrame (f p : List Byte) : List Byte := (f.take 1 ++ [0]) ++ (f.drop 2).take 30 ++ p ++ fTrailer f

/-- The HEADER frame of an embedded image (R253, R257, R547): no claim is made. -/
def State.embeddedHeader (s : State) (f : List Byte) : State :=
  let n := fPan f
  let p := s.imagePlain f
  let g := plainFrame f p
  if badHeaderFrame g || s.image.done.contains n then s.cfgFail 0x03 s.image.index
  else match (s.headerCause n p s.image.signed).orElse fun _ => if bitOf (numAt p 10 1) 1 then some 1 else none with
    | some c => s.panFails n c
    | none =>
      let j : LoadJob := { pan := n, embedded := true }
      let t := (s.setLoad (loadKey (halfOfPan n) 0) (some { j.header g with payloads := fPayload f })).noteFrame f
      { t with image := { t.image with current := some n } }

/-- An embedded image has completed (R547): the pan stands SEALED with GEN 1, or stays as it is when quarantined (R718). -/
def State.embeddedDone (s : State) (n : Nat) (j : LoadJob) : State :=
  let t := s.setLoad (loadKey (halfOfPan n) 0) none
  let t := if t.sluice n = QUARANTINED then t else
    ((t.setFld (F.PAN_PWR_STATUS_STATE n) 0).completePan n 0 { j with signed := j.signed || t.image.signed }).setFlds
      [(F.PAN_SLUICE_STATUS_GEN n, 1), (F.PAN_SLUICE_STATUS_LOADER n, 0)]
  ({ t with image := { t.image with current := none, done := n :: t.image.done } }).setFld F.CFG_STATUS_PANS (t.image.done.length + 1)

/-- The own signature of an embedded image that carries one verifies under the key of R544 (R258, R260). -/
def State.embeddedSigned (s : State) (j : LoadJob) : Bool :=
  !j.signed || (s.secOperational &&
    match (if s.image.signed then some s.image.pubkey else s.sec.pubkey) with
    | some k => Config.ecdsaVerifies k j.signedPart j.signature
    | none => false)

/-- A later frame of the embedded image in progress (R254, R259, R260). -/
def State.embeddedFrame (s : State) (n : Nat) (j : LoadJob) (f : List Byte) : State :=
  let p := s.imagePlain f
  let g := plainFrame f p
  let key := loadKey (halfOfPan n) 0
  if fPan f ≠ n || fSeq f ≠ j.taken || fType f = 1 || !frameRange j g then s.cfgFail 0x03 s.image.index
  else if !framePayload (fType f) p then s.panFails n 10
  else if fType f = 15 then
    let e := j.note f false
    if numAt p 0 4 ≠ j.frames || j.frames ≠ e.taken || numAt p 4 4 ≠ crc32 j.payloads || Config.sha384 e.digested ≠ j.digest || j.preloadOver then
      s.panFails n 13
    else if !s.embeddedSigned j then s.panFails n 11
    else (s.noteFrame f).embeddedDone n e
  else ((s.setLoad key (some ((j.write g p).note f false))).noteFrame f)

/-- A frame of an embedded pan image (R538, R547). -/
def State.panFrame (s : State) (f : List Byte) : State :=
  if !fFormed f || fFlags f ≠ bnat s.image.encrypted || 256 ≤ fPan f then s.cfgFail 0x03 s.image.index
  else match s.image.current with
    | none => if fType f = 1 then s.embeddedHeader f else s.cfgFail 0x03 s.image.index
    | some n => match s.load (loadKey (halfOfPan n) 0) with
      | some j => s.embeddedFrame n j f
      | none => s.cfgFail 0x03 s.image.index

/-! ### DEVICE_END (R540, R548) -/

/-- The checks of R548 but for the signature, which has a command of its own. -/
def ImageRun.whole (i : ImageRun) (p : List Byte) : Bool :=
  numAt p 0 4 == i.frames && i.frames == i.index && i.taken == i.bytes && numAt p 4 4 == crc32 i.checked &&
    decide (Config.sha384 i.digested = i.digest) && i.done.length == i.pans

/-- A DEVICE_END frame enters VERIFY, whose checks run (R546, R548). -/
def State.endImage (s : State) (f : List Byte) : State :=
  if !(deviceFrame f s.image.index false && fAddr f == 0 && fLen f == 32) || s.image.current.isSome || s.image.segFrames ≠ 0 then
    s.cfgFail 0x03 s.image.index
  else
    let t := (s.noteFrame f).setPhase VERIFY
    let t := { t with image := { t.image with ended := true } }
    if t.image.whole (fPayload f) && zeroAt (fPayload f) 8 24 then t else t.cfgFail 0x0C s.image.index

/-! ### One frame -/

/-- A frame of the image after DEVICE (R547): its CRC, its length under BYTES, its place, and what its TYPE does. -/
def State.laterImageFrame (s : State) (f : List Byte) : State :=
  let i := s.image
  if !fCrc f then s.cfgFail 0x02 i.index
  else if i.bytes < i.taken + f.length then s.cfgFail 0x10 i.index
  else if (i.segFrames = 64 && fType f ≠ 9) || (i.lastSeg && fFlags f % 2 = 1) then s.cfgFail 0x03 i.index
  else if fType f = 9 then s.segtagFrame f
  else if fType f = 0x11 then s.globalFrame f
  else if fType f = 0x1F then s.endImage f
  else s.panFrame f

/-- A frame of the image in the controller's state (R546). In CONFIG_WAIT only a DEVICE frame begins an image; in VERIFY a frame
is beyond BYTES; elsewhere no image is taken. -/
def State.imageFrame (s : State) (f : List Byte) : State :=
  if s.phase = CONFIG_WAIT then (if fType f = 0x10 then s.beginImage f else s)
  else if s.phase = LOADING then s.laterImageFrame f
  else if s.phase = VERIFY then s.cfgFail 0x10 s.image.index
  else s

/-- The next frame of the image arrives. An image that the controller reads must begin with DEVICE (R538). -/
def State.nextImageFrame (s : State) (f : Option (List Byte)) : State :=
  match s.cfgFetch f with
  | (t, .nothing) => t
  | (t, .frame b) => if f.isNone && t.phase = CONFIG_WAIT && fType b ≠ 0x10 then t.cfgFail 0x03 0 else t.imageFrame b
  | (t, .fails c) =>
    if t.phase = CONFIG_WAIT then t.cfgFail c 0
    else if t.phase = LOADING then t.cfgFail c t.image.index
    else t

/-- CFG_DEVICE_FRAME (R539): the image's first frame; its TYPE decides, as for every image frame. -/
def execCfgDeviceFrame (f : Option (List Byte)) (s : State) : Out := .next (s.nextImageFrame f)

/-- CFG_GLOBAL_FRAME (R541). -/
def execCfgGlobalFrame (f : Option (List Byte)) (s : State) : Out := .next (s.nextImageFrame f)

/-- CFG_SEGTAG_FRAME (R542). -/
def execCfgSegtagFrame (f : Option (List Byte)) (s : State) : Out := .next (s.nextImageFrame f)

/-- CFG_PAN_FRAME (R547). -/
def execCfgPanFrame (f : Option (List Byte)) (s : State) : Out := .next (s.nextImageFrame f)

/-- CFG_DEVICE_END (R548). -/
def execCfgDeviceEnd (f : Option (List Byte)) (s : State) : Out := .next (s.nextImageFrame f)

/-- CFG_SIGNATURE_CHECKED (R544): the key's hash against the fuses, then the signature; a good one keeps PUBKEY. -/
def execCfgSignatureChecked (s : State) : Out :=
  .next (
    let i := s.image
    if !(s.phase = LOADING || s.phase = VERIFY) || i.sigOk.isSome then s
    else if s.secOperational && (!bitOf (s.fld F.SEC_KEYS_CTRL) 2 || Config.sha384 i.pubkey ≠ leBytes 48 s.sec.pkh) then s.cfgFail 0x08 0
    else if !s.secOperational || !Config.ecdsaVerifies i.pubkey i.signedPart i.signature then s.cfgFail 0x09 0
    else ({ s with image := { i with sigOk := some true }, sec := { s.sec with pubkey := some i.pubkey } }).setFld F.CFG_STATUS_SIGNED 1)

/-! ## VERIFY to USER (R549 to R553) -/

/-- The highest island floor of the pans loaded in half h, in millivolts (R113). -/
def State.highestFloor (s : State) (h : Nat) : Nat :=
  (pansOf h).foldl (fun m n => if s.on (F.PAN_IMAGE_ID_VALID n) then max m (floorMv (s.fld (F.PAN_ISLAND_STATUS_FLOOR n))) else m) 0

/-- The waits of R549 are over: fills, stacks and voltages. -/
def State.waitsOver (s : State) : Bool :=
  (List.range 2).all fun h => s.fillDone (2 * h) && (s.fillDone (2 * h + 1) || s.fld (F.MEM_HBM_STATUS_STATE h) == 2) &&
    s.fld (F.MEM_HBM_STATUS_STATE h) != 0 && decide (s.highestFloor h ≤ (s.gov h).rail)

/-- CFG_VERIFY_DONE (R549): the checks have passed and the waits are over; CFG_DONE is released. -/
def execCfgVerifyDone (s : State) : Out :=
  .next (
    if s.phase = VERIFY && s.image.ended && s.image.sigOk == some true && s.waitsOver then
      (({ s with cfgDoneLow := false }).setPhase DONE_WAIT).endJobs (fun j => j.opcode == 0x0108) OK 0 []
    else s)

/-- A GLOBAL record of the image in force, if it carries one. -/
def State.global (s : State) (a : Nat) : Option (List Byte) :=
  match Bank.get (fun _ => []) s.image.globals a with
  | [] => none
  | r => some r

/-- Run with word i of a record, if the image carries it. -/
def State.withGlobal (s : State) (a : Nat) (f : (Nat → Nat) → State → State) : State :=
  match s.global a with
  | none => s
  | some r => f (fun i => numAt r (4 * i) 4) s

/-- Action 1 of R550: the GLOBAL records take effect; clock trees start. -/
def State.applyGlobals (s : State) : State :=
  let t := s.withGlobal 1 fun w t => t.each (List.range 32) fun i u => u.setFlds
    [(F.CLK_FTREE_CFG_EN i, bitsOf (w i) 31 31), (F.CLK_FTREE_CFG_SRC i, bitsOf (w i) 30 30), (F.CLK_FTREE_CFG_DIV i, bitsOf (w i) 7 0)]
  let t := t.each [0, 1] fun h u => u.setFlds
    [(F.MEM_LAG_PART_TOKEN h, 4), (F.MEM_LAG_PART_DIR h, 4), (F.MEM_LAG_PART_CACHE h, 4), (F.MEM_LAG_PART_SCRATCH h, 4)]
  let t := t.withGlobal 2 fun w t => t.each [0, 1] fun h u => u.setFlds
    [(F.MEM_LAG_PART_TOKEN h, bitsOf (w h) 19 15), (F.MEM_LAG_PART_DIR h, bitsOf (w h) 14 10), (F.MEM_LAG_PART_CACHE h, bitsOf (w h) 9 5),
     (F.MEM_LAG_PART_SCRATCH h, bitsOf (w h) 4 0), (F.MEM_HBM_STATUS_ILV h, bitsOf (w 2) 0 0)]
  let t := t.withGlobal 3 fun w t => t.each [0, 1] fun h u => u.setFlds
    [(F.PORT_ROUTE_EN h, bitsOf (w (4 + h)) 31 31), (F.PORT_ROUTE_PORT h, bitsOf (w (4 + h)) 3 2), (F.PORT_ROUTE_LINK h, bitsOf (w (4 + h)) 1 0)]
  t.withGlobal 4 fun w t => t.each [0, 1] fun h u => u.setFld (F.CSW_CTL_POLICY h) (bitsOf (w 0) 31 31)

/-- Action 2: pans with no image are gated (R119). -/
def State.gateEmpty (s : State) : State :=
  s.each (List.range 256) fun n t => if t.on (F.PAN_IMAGE_ID_VALID n) || t.power n = 2 then t else t.gated n

/-- Action 3: each loaded pan's grains and rakes are released, and it opens or stays sealed (R550). -/
def State.openLoaded (s : State) : State :=
  let open' (n : Nat) : Bool := match s.global 5 with
    | some r => bitOf (leNat r) n
    | none => false
  s.each (List.range 256) fun n t =>
    if t.on (F.PAN_IMAGE_ID_VALID n) && t.sluice n == SEALED then ((t.releasePan n).put (F.PAN_SLUICE_CTL_OPEN n) (open' n)).tryOpen n else t

/-- Action 4: the pins take the functions of the PINS record, or else those of a cold reset, and their latches INIT (R551, R647). -/
def State.configurePins (s : State) : State :=
  let t := { s with pinWords := (s.global 6).getD [] }
  ((t.each (List.range 384) fun i u => u.placePinWord i (u.imagePin i)).each (List.range 12) fun b u => u.initLatches b).noteConflicts s

/-- Action 5: ports take their settings and train; port 0 keeps those of the load under CFG_MODE 0b010 (R392). -/
def State.startPorts (s : State) : State :=
  s.each (List.range 4) fun p t =>
    if p = 0 && t.image.port0Due then t
    else
      let u := t.portFromImage p
      if u.on (F.PORT_CTL_EN p) then u.enablePort p else u

/-- WAKE (R550): its actions in their order, and USER; cores whose RUN is set start (R327). -/
def State.wake (s : State) : State :=
  let t := (s.setFld F.CFG_STATUS_DONE_IN 1).setPhase WAKE
  let t := ((((t.applyGlobals.gateEmpty).dropHardChans fun _ => true).openLoaded).configurePins).startPorts
  (t.setPhase USER).each (List.range 16) fun c u => u.releaseCore c

/-- CFG_DONE_HIGH (R553): the line has been sampled high on 8 edges. -/
def execCfgDoneHigh (s : State) : Out := .next (if s.phase = DONE_WAIT then s.wake else s)

/-- CFG_STREAM_STALL (R554): LOADING has seen no byte for 1 s. -/
def execCfgStreamStall (s : State) : Out := .next (if s.phase = LOADING then s.cfgFail 0x0E s.image.index else s)

/-! ## Replies on the slave port (R537) -/

/-- A frame of TYPE 0x21 that carries a reply, with its CRC (R251, R537). -/
def replyFrame (r : List Byte) : List Byte :=
  let p := r ++ List.replicate ((32 - r.length % 32) % 32) 0
  let hd := leBytes 1 0x21 ++ leBytes 1 0 ++ leBytes 2 0xFFFF ++ leBytes 4 0 ++ leBytes 4 0 ++ leBytes 4 p.length ++ List.replicate 16 0
  hd ++ p ++ leBytes 4 (crc32 (hd.take 2 ++ hd.drop 4 ++ p)) ++ List.replicate 28 0

/-- CFG_REPLY_READ (R537): the oldest reply in its frame, or one beat of zeros. -/
def execCfgReplyRead (s : State) : Out :=
  .next (match s.cfgReplies with
    | [] => s.reply (.bytes (List.replicate 32 0) false)
    | r :: l => ({ s with cfgReplies := l }).reply (.bytes (replyFrame r) false))

/-! ## CFG_LOAD (R521, R555) -/

/-- CFG_LOAD of R521. -/
def cmdCfgLoad : Cmd where
  opcode := 0x0108
  cls := .long
  scopes := [0]
  size := fun _ => 16
  fields := [{ off := 0, len := 8, status := S_ADDRESS, ok := fun _ r => decide (HOST_BASE ≤ r.p.u64 0) && decide (r.p.u64 0 + r.p.u64 8 ≤ HOST_END) }]
  check := fun s r =>
    let mailbox0 := match r.p.via with
      | .mailbox l _ => l.val / 4 == 0
      | _ => false
    if !mailbox0 || s.fld F.CFG_STATUS_MODE ≠ 2 || s.phase ≠ CONFIG_WAIT then refusal S_STATE
    else if r.p.u64 8 = 0 then already
    else if (s.cfgSource).isSome then refusal S_STATE
    else none
  run := fun s r => .job s (longJob r (r.p.u64 8) [r.p.target.toNat] 0 0 [r.p.u64 0, r.p.u64 8])

/-- CFG_LOAD (R555). -/
def execCfgLoad (p : Packet) (s : State) : Out := .next (s.deliver cmdCfgLoad p)

end Sys2Proof.Machine
end

