-- ==== Sys2Proof/Machine/SelfTest.lean ====
section
/-! DEFINITION. Periodic self-test (20_self_test): sweeps, the steps of a slice, its commands and its injections. -/

namespace Sys2Proof.Machine

/-! ## Sweeps (R701) -/

/-- SELFTEST_SWEEP_START (R701): a period has passed. A sweep that still runs sets OVERRUN, unless TEST_RUN started it. -/
def execSelftestSweepStart (h : Fin 2) (s : State) : Out :=
  .next (if !s.on (F.ST_CTL_EN h) then s
    else match (s.sweep h).kind with
      | 0 => (s.startSweep h 1).testPump h
      | 1 => (s.modSweep h fun w => { w with due := true }).setFld (F.ST_STATUS_OVERRUN h) 1
      | _ => s.modSweep h fun w => { w with due := true })

/-! ## The steps of a slice (R696) -/

/-- SLICE_SAVE_DONE (R696 step 2). -/
def execSliceSaveDone (n : Fin 256) (s : State) : Out :=
  .next (match s.slice n with
    | some x => if x.phase = 2 then s.setSlice n (some { s.saveSlice n x with phase := 3 }) else s
    | none => s)

/-- A failed slice (R703): the verdict, the report, the record, and quarantine; the scheduler forgets the pan's kernel. -/
def State.sliceFails (s : State) (n : Nat) (x : Slice) (cause bits : Nat) (inj : Bool) : State :=
  let h := halfOfPan n
  let t := s.endSlice n x (some false)
  let t := (t.setFlds [(F.ST_STATUS_FAIL h, 1), (F.ST_LAST_CAUSE h, cause), (F.ST_LAST_PAN h, n), (F.PAN_SLUICE_STATUS_HOLD_TEST n, 0)]).count
    (F.ST_COUNTS_FAILED h) none
  let t := (t.shutSluice n QUARANTINED).modSched h fun c => { c with gens := Bank.set (fun _ => 0) c.gens n 0 }
  ((t.raise { half := h, cls := ERROR, src := 0x12, code := 1, unit := n, ctx := cause + bits % 2 ^ 28 * 16, inj := inj }).testPump h).settle

/-- SLICE_PATTERNS_DONE (R696 steps 3 and 4, R706): the signature is compared with the golden value. -/
def execSlicePatternsDone (n : Fin 256) (signature : Dword) (s : State) : Out :=
  .next (match s.slice n with
    | some x =>
      let golden := (s.pan n).golden.getD 0
      let inv := s.invertedAt n
      if x.phase ≠ 3 then s
      else if inv || signature != golden then
        ((s.setInvertedAt n false).when inv fun u => u.setFld (F.ST_INJECT_INJECT (halfOfPan n)) 0).sliceFails n x 1 ((signature ^^^ golden).toNat) inv
      else s.setSlice n (some { x with phase := 4 })
    | none => s)

/-- SLICE_RESTORE_DONE (R696 steps 5 and 6, R697): the pan reopens where OPEN is set; a save area that is lost fails the slice. -/
def execSliceRestoreDone (n : Fin 256) (lost : Bool) (s : State) : Out :=
  .next (match s.slice n with
    | some x =>
      if x.phase ≠ 4 then s
      else if lost then s.sliceFails n x 2 0 false
      else
        let t := (((s.restoreSlice n x).endSlice n x (some true)).count (F.ST_COUNTS_PASSED (halfOfPan n)) none).clearHold n (F.PAN_SLUICE_STATUS_HOLD_TEST n)
        (t.testPump (halfOfPan n)).settle
    | none => s)

/-! ## Control (R702, R704) -/

/-- Requests of the periodic sweep that are not placed are withdrawn. -/
def State.cancelSweep (s : State) (h : Nat) : State :=
  let t := s.modSweep h fun w => { w with left := [] }
  (t.each (pansOf h) fun n u => match u.slice n with
    | some x => if x.phase = 1 && !x.single then u.endSlice n x none else u
    | none => u).testPump h

/-- A write of EN and PERIOD_S (R702). -/
def State.writeTestCtl (s : State) (h : Nat) (en : Bool) (period : Nat) : State :=
  let was := s.on (F.ST_CTL_EN h)
  let t := (s.put (F.ST_CTL_EN h) en).when (decide (1 ≤ period) && decide (period ≤ 3600)) fun u => u.setFld (F.ST_CTL_PERIOD_S h) period
  if en && !was then
    (if (t.sweep h).kind = 0 then (t.startSweep h 1).testPump h else t.modSweep h fun w => { w with due := true })
  else if !en then
    let t := t.modSweep h fun w => { w with due := false }
    if (t.sweep h).kind = 1 then t.cancelSweep h else t
  else t

/-- TEST_CONFIG of R528. -/
def cmdTestConfig : Cmd where
  opcode := 0x0800
  cls := .short
  scopes := [1]
  size := fun _ => 8
  fields := [rangeField 0 1 0 1, zeroField 1 3, rangeField 4 4 1 3600]
  run := fun s r => ok (s.writeTestCtl r.idx (r.p.u8 0 == 1) (r.p.u32 4))

/-- TEST_CONFIG (R702). -/
def execTestConfig (p : Packet) (s : State) : Out := .next (s.deliver cmdTestConfig p)

/-- TEST_RUN of R528: a sweep of a half, or a slice of one pan (R702). -/
def cmdTestRun : Cmd where
  opcode := 0x0801
  cls := .long
  scopes := [1, 2]
  size := fun _ => 0
  check := fun s r =>
    if scopeOf r.p.target.toNat = 1 then
      (if (s.sweep r.idx).kind ≠ 0 then refusal S_STATE
        else if ((pansOf r.idx).filter s.testable).isEmpty then already (leBytes 8 0) else none)
    else if s.power r.idx ≠ 0 || decide (RELOADING ≤ s.sluice r.idx) then refusal S_STATE
    else if !s.testable r.idx then already (leBytes 8 0)
    else none
  run := fun s r =>
    if scopeOf r.p.target.toNat = 1 then
      .job (s.startSweep r.idx 2) (longJob r ((pansOf r.idx).filter s.testable).length [r.p.target.toNat] 0 0 [0, 0])
    else .job s (longJob r 1 [r.p.target.toNat] r.idx 1 [0, 0])

/-- TEST_RUN (R702). -/
def execTestRun (p : Packet) (s : State) : Out := .next (((s.deliver cmdTestRun p).testPump 0).testPump 1)

/-- TEST_STATUS of R528 with the layout of R702. -/
def cmdTestStatus : Cmd where
  opcode := 0x0802
  cls := .read
  scopes := [1]
  size := fun _ => 0
  run := fun s r =>
    let h := r.idx
    ok s (leBytes 1 (s.fld (F.ST_STATUS_SWEEPING h)) ++ leBytes 1 (s.fld (F.ST_STATUS_INFLIGHT h)) ++ leBytes 2 0 ++
      leBytes 4 (s.fld (F.ST_STATUS_SWEEPS h)) ++ leBytes 4 (s.fld (F.ST_COUNTS_PASSED h)) ++ leBytes 4 (s.fld (F.ST_COUNTS_FAILED h)) ++
      leBytes 4 (s.fld (F.ST_COUNTS_ABANDONED h)) ++ leBytes 2 (s.fld (F.ST_LAST_PAN h)) ++ leBytes 1 (s.fld (F.ST_LAST_CAUSE h)) ++ leBytes 1 0 ++
      leBytes 16 (((List.range 128).map fun i => bnat (s.sluice (h * 128 + i) == QUARANTINED) * 2 ^ i).foldl (· + ·) 0))

/-- TEST_STATUS (R702). -/
def execTestStatus (p : Packet) (s : State) : Out := .next (s.deliver cmdTestStatus p)

/-- QUARANTINE_RELEASE of R528 (R240, R703). -/
def cmdQuarantineRelease : Cmd where
  opcode := 0x0803
  cls := .short
  scopes := [2]
  size := fun _ => 0
  check := fun s r => if s.sluice r.idx = QUARANTINED then none else already
  run := fun s r => ok ((s.shutSluice r.idx INVALID).restRakes r.idx)

/-- QUARANTINE_RELEASE (R703). -/
def execQuarantineRelease (p : Packet) (s : State) : Out := .next (s.deliver cmdQuarantineRelease p)

/-! ## Counts and injections (R705, R706) -/

/-- ST_COUNTS_CLEAR (R705). -/
def execStCountsClear (h : Fin 2) (s : State) : Out :=
  .next (s.setFlds [(F.ST_COUNTS_PASSED h, 0), (F.ST_COUNTS_FAILED h, 0), (F.ST_COUNTS_ABANDONED h, 0)])

/-- A write of 1 to INJECT (R706): 0 REPORT, whose context is free, 1 FAIL, which keeps INJECT set until its slice; other kinds, a pan of the other half, and FAIL on a pan
that is not testable are refused. -/
def State.stInjectWrite (s : State) (h kind pan : Nat) : State :=
  let t := s.setFlds [(F.ST_INJECT_INJECT h, 0), (F.ST_INJECT_INJ_KIND h, kind), (F.ST_INJECT_INJ_PAN h, pan)]
  if halfOfPan pan ≠ h || 2 ≤ kind || (kind = 1 && !s.testable pan) then t.setFld (F.ST_INJECT_INJ_REFUSED h) 1
  else if kind = 0 then
    t.useFree.raise { half := h, cls := ERROR, src := 0x12, code := 1, unit := pan, ctx := t.freeVal, inj := true }
  else (t.setInvertedAt pan true).setFld (F.ST_INJECT_INJECT h) 1

/-- ST_INJECT_REPORT (R706). -/
def execStInjectReport (h : Fin 2) (pan : BitVec 8) (s : State) : Out := .next (s.stInjectWrite h 0 pan.toNat)

/-- ST_INJECT_FAIL (R706). -/
def execStInjectFail (h : Fin 2) (pan : BitVec 8) (s : State) : Out := .next (s.stInjectWrite h 1 pan.toNat)

end Sys2Proof.Machine
end

