-- ==== Sys2Proof/Machine/Abort.lean ====
section
/-! DEFINITION. Commands that end early (R514 to R516), the register domains of a reset (R15), and the per-pan reset (R719). -/

namespace Sys2Proof.Machine

/-! ## LONG commands that end early -/

/-- A command of class LONG; ZEROIZE only waits for its own completion. -/
def Job.isLong (j : Job) : Bool := j.opcode != 0x0905

/-- The same outstanding command, or the same part of one: its transport and SEQ, and what it acts on. -/
def sameJob (a b : Job) : Bool := decide (a.via = b.via) && a.seq == b.seq && a.opcode == b.opcode && a.unit == b.unit

/-- Units completed and units in all, for a command that is no disable (R515). -/
def State.jobProgress (s : State) (j : Job) : Nat × Nat :=
  match j.opcode with
  | 0x0100 => match s.load (loadKey j.half 0) with
    | some l => if l.pan = j.unit then (l.taken, l.frames) else (0, 0)
    | none => (0, 0)
  | 0x0108 => (if s.phase = LOADING || s.phase = VERIFY then s.image.taken else 0, j.total)
  | 0x0403 => ((j.data.filter fun p => s.inDeviceBias (pageKey j.half p)).length, j.data.length)
  | 0x0904 => match s.sec.fuse with
    | some f => (f.done, f.words)
    | none => (0, 0)
  | 0x0B01 => (j.total - s.crossLines, j.total)
  | 0x0B03 => (popcount 4 s.groupsUp, 4)
  | _ => (j.done, j.total)

/-- The requests of a TEST_RUN that have not been placed are withdrawn; slices in progress go on. -/
def State.dropRequests (s : State) (j : Job) : State :=
  let mine (n : Nat) (x : Slice) : Bool := x.phase == 1 && (if j.aux = 1 then x.single && n == j.unit else !x.single)
  let t := if j.aux = 1 then s else s.modSweep j.half fun w => { w with left := [] }
  t.each (pansOf j.half) fun n u => match u.slice n with
    | some x => if mine n x then u.endSlice n x none else u
    | none => u

/-- Slot r of half h holds no more than its registers. -/
def State.slot (s : State) (h r : Nat) : RegSlot := Bank.get (fun _ => {}) (s.gov h).slots r

/-- Change what slot r of half h holds beyond its registers. -/
def State.modSlot (s : State) (h r : Nat) (f : RegSlot → RegSlot) : State :=
  s.modGov h fun g => { g with slots := Bank.set (fun _ => {}) g.slots r (f (Bank.get (fun _ => {}) g.slots r)) }

/-- The disable of slot r of half h in progress, as a REG_WRITE job (R520, R607). -/
def isSlotJob (h r : Nat) (j : Job) : Bool := j.opcode == 4 && j.aux == 1 && j.unit == 8 * h + r

/-- The disable of slot r ends; what is still queued is aborted. -/
def State.endSlot (s : State) (h r : Nat) : State :=
  match (s.slot h r).drain with
  | none => s
  | some n =>
    let q := min n (s.slot h r).queued
    ((s.modSlot h r fun x => { x with drain := none, queued := 0 }).setFld (F.GOV_REG_STATUS_STATE h r) 0).endJobs (isSlotJob h r) OK 0
      (drainRecord (n - q) q)

/-- What ending a command early does to its unit: a disable aborts its remaining items at once (R516), a load stops (R36), and a
wait is given up. -/
def State.stopWork (s : State) (j : Job) : State :=
  match j.opcode with
  | 0x0004 => if j.aux = 1 then s.endSlot (j.unit / 8) (j.unit % 8) else s
  | 0x000A => s.cutUnbind j.unit
  | 0x0100 => match s.load (loadKey j.half 0) with
    | some l => if l.pan = j.unit then s.dropLoad j.half 0 15 else s
    | none => s
  | 0x0102 => s.endClose j.unit false
  | 0x0105 => if j.aux = 0 then (s.modQueue j.unit fun q => { q with flushDue := false }).setFld (F.PAN_QB_CTL_FLUSH (panOfQueue j.unit) (qOf j.unit)) 0
    else s.setFld (segFlushFld j.unit (flushClass j.aux)) 0
  | 0x0106 => s.timeoutRebind j.unit
  | 0x0107 => s.each ((List.range 16).map (j.unit * 16 + ·)) fun r t => if (t.rake r).stopping.isSome then t.endStop r else t
  | 0x0108 => s.abortImage
  | 0x0204 => cutStops s j
  | 0x0205 => cutStops s j
  | 0x020D => cutStops s j
  | 0x020E => cutStops s j
  | 0x0300 => s.abortPart j.half
  | 0x0400 => j.data.foldl (fun t l => t.timeoutLink l) s
  | 0x0401 => j.data.foldl (fun t l => t.timeoutLink l) s
  | 0x0402 => s.abortFlush j.half
  | 0x0405 => s.giveUpTable j.half
  | 0x0406 => s.giveUpTable j.half
  | 0x0801 => s.dropRequests j
  | 0x0904 => { s with sec := { s.sec with fuse := none } }
  | 0x0906 => s.setPatch (2 * j.half + 1) 0
  | 0x0B02 => s.endRetire j.half
  | _ => s
where
  cutStops (s : State) (j : Job) : State :=
    s.each [0, 1] fun h t => ((t.sched h).stops.filter fun p => p.job h j).foldl (fun u p => u.timeoutStop h p) t

/-- One LONG command ends early for a cause of R514: its work stops, and it replies ABORTED once. -/
def State.abortJob (s : State) (cause : Nat) (j : Job) : State :=
  if s.jobs.any fun x => sameJob x j then
    let p := s.jobProgress j
    let t := s.modJobs (sameJob j) fun x => { x with cause := some cause, done := p.1, total := p.2 }
    (t.stopWork j).endJobs (sameJob j) S_ABORTED cause (drainRecord 0 j.total)
  else s

/-- Every LONG command that the test names ends early. -/
def State.abortAll (s : State) (p : Job → Bool) (cause : Nat) : State :=
  (s.jobs.filter fun j => j.isLong && p j).foldl (fun t j => t.abortJob cause j) s

/-! ## Reset domains (R15) -/

/-- The word with every field of the named domains at its reset value. -/
def resetFields (doms : Dom → Bool) : List RegField → Nat → Nat
  | [], w => w
  | f :: r, w => resetFields doms r (if doms f.dom then putBits w f.hi f.lo f.rst else w)

/-- Fields of the named domains take their reset values, in the registers whose addresses the test names. -/
def State.resetRegs (s : State) (scope : Nat → Bool) (doms : Dom → Bool) : State :=
  { s with regs := Bank.map resetWord (fun a w =>
      if scope a then match findReg a with
        | some d => BitVec.ofNat 32 (resetFields doms d.fields w.toNat)
        | none => w
      else w) s.regs }

/-- The registers of pan n's block (R25). -/
def panBlock (n a : Nat) : Bool := decide (0x01000000 + n * 0x10000 ≤ a) && decide (a < 0x01000000 + n * 0x10000 + 0x10000)

/-! ## The per-pan reset (R719) -/

/-- Loads of pan n stop at once; a PAN_LOAD command has ended by itself (R719). -/
def State.dropLoads (s : State) (n : Nat) : State :=
  s.each [0, 1, 2] fun m t => match t.load (loadKey (halfOfPan n) m) with
    | some j => if j.pan = n then t.dropLoad (halfOfPan n) m 15 else t
    | none => t

/-- What pan n holds of its image starts afresh: grains, and rakes but for their memories; with no image, no rake runs. -/
def State.restartPan (s : State) (n : Nat) (run : Bool) : State :=
  let valid := s.on (F.PAN_IMAGE_ID_VALID n)
  let t := if valid then s.initGrains n else s.dropGrains n
  let t := t.each ((List.range 16).map (n * 16 + ·)) fun r u => u.modRake r fun k => k.atLoad
  t.setFld (F.PAN_RAKE_STATUS_ACTIVE n) (if run && valid then t.fld (F.PAN_RAKE_CTL_RUN n) else 0)

/-- A per-pan reset of pan n (R719, R240); `run`: its rakes start again, which a warm reset leaves to WAKE; `both`: the clocked ends
of its queue blocks reset with it. -/
def State.resetPan (s : State) (n : Nat) (run both : Bool) : State :=
  let t := s.dropLoads n
  let t := t.abandonSlice n false
  let t := t.endClose n false
  let t := if t.power n ≠ 2 && t.sluice n ≤ SEALED then t.shutSluice n SEALED else t
  let t := (t.resetRegs (panBlock n) fun d => d == .pan).modPan n fun p => { p with armed := none, close := none }
  let t := if t.power n ≠ 2 then t.restartPan n run else t
  let t := t.each (queuesOf n) fun d u =>
    if both then (u.when (u.queue d).rebind.isSome (·.startBinding d)).resetBothEnds d else u.resetEnd d (u.fabricEnd d)
  ((t.poisonPan n).testPump (halfOfPan n)).settle

/-- PAN_RESET of R521: no hold refuses it, and it ends the LONG command that holds the pan (R511, R719). During a warm reset it is
absorbed (R712). -/
def cmdPanReset : Cmd where
  opcode := 0x0104
  cls := .short
  scopes := [2]
  size := fun _ => 0
  touches := fun _ _ => []
  run := fun s r => if s.warm.isSome then ok s
    else ok ((s.abortAll (fun j => j.holds.contains r.p.target.toNat) ABORT_PAN_RESET).resetPan r.idx true false)

/-- PAN_RESET (R719). -/
def execPanReset (p : Packet) (s : State) : Out := .next (s.deliver cmdPanReset p)

end Sys2Proof.Machine
end

