-- ==== Sys2Proof/Machine/GovOps.lean ====
section
/-! DEFINITION. The governor's readings and its control law (17_governor): temperatures, regulator power, the thermal model, the
VFAB ceiling and target, duties, and the shares of the power cap. -/

namespace Sys2Proof.Machine

/-! ## Arithmetic (R610) -/

/-- One kelvin, degree or watt in the units of the model, 2^-24. -/
def Q24 : Int := 16777216

/-- A quotient as the hard logic rounds it (Assumption 20): exact where it is whole, else the integer below it or the one above. -/
def qdiv (a b : Int) : Int := if a % b = 0 then a / b else a / b + (if Config.roundsUp a b then 1 else 0)

/-- The cycle time of a LUT6 grain at 85 °C in tenths of a picosecond, at v millivolts (R66, with its interpolation). -/
def cycleTenths (v : Nat) : Nat :=
  if v ≤ 600 then 15200 - 74 * (v - 550)
  else if v ≤ 650 then 11500 - 54 * (v - 600)
  else if v ≤ 700 then 8800 - 32 * (v - 650)
  else if v ≤ 800 then 7200 - 18 * (v - 700)
  else if v ≤ 900 then 5400 - 10 * (v - 800)
  else 4400 - 8 * (v - 900)

/-! ## Reports -/

/-- A governor report for sensor, channel or slot k of half h (R660): REGULATOR carries its STATUS_WORD and THERMAL_STOP its
cause; the context of the others is a free value. -/
def State.govRaise (s : State) (h cls code k : Nat) (inj : Bool := false) : State :=
  if code = 4 then s.raise { half := h, cls := cls, src := 16, code := 4, unit := h * 64 + k, ctx := s.fld (F.GOV_REG_STATUS_STATUS_WORD h k), inj := inj }
  else if code = 8 then s.raise { half := h, cls := cls, src := 16, code := 8, unit := h * 64 + k, ctx := s.fld (F.GOV_STATUS_STOP_CAUSE h), inj := inj }
  else s.useFree.raise { half := h, cls := cls, src := 16, code := code, unit := h * 64 + k, ctx := s.freeVal, inj := inj }

/-! ## Die sensors (R602, R603) -/

/-- Sensor k of half h is valid. -/
def State.sensorValid (s : State) (h k : Nat) : Bool := !s.on (F.GOV_TSENSE_FAILED h k)

/-- The reading of sensor k in units of 0.125 °C. -/
def State.sensorTemp (s : State) (h k : Nat) : Int := sgn 16 (s.fld (F.GOV_TSENSE_TEMP h k))

/-- The readings of the valid sensors of half h. -/
def State.validTemps (s : State) (h : Nat) : List Int := ((List.range 64).filter (s.sensorValid h)).map (s.sensorTemp h)

/-- How many sensors of half h have failed. -/
def State.failedSensors (s : State) (h : Nat) : Nat := ((List.range 64).filter fun k => !s.sensorValid h k).length

/-- The highest of several numbers. -/
def highest : List Int → Option Int
  | [] => none
  | x :: r => some (r.foldl max x)

/-- Tj of half h follows its valid sensors (R603); with none left the spec gives no value. -/
def State.showTj (s : State) (h : Nat) : State :=
  match highest (s.validTemps h) with
  | some t => s.setFld (F.GOV_POWER_TJ h) (uns 16 t)
  | none => s.useFree.setFld (F.GOV_POWER_TJ h) s.freeVal

/-- Tj of half h in the units of the model. -/
def State.tj (s : State) (h : Nat) : Int := sgn 16 (s.fld (F.GOV_POWER_TJ h)) * (Q24 / 8)

/-! ## External inputs (R601) -/

/-- The highest value among the inputs of half h with this ROLE, in hundredths. -/
def State.coolant (s : State) (h role : Nat) : Option Int :=
  highest (((List.range 8).filter fun i => s.fld (F.GOV_AIN_CFG_ROLE h i) == role).map fun i => sgn 16 (s.fld (F.GOV_AIN_VAL_VALUE h i)))

/-- The coolant inlet temperature of R610 in the units of the model. -/
def State.tin (s : State) (h : Nat) : Int :=
  match s.coolant h 1 with
  | some v => qdiv (v * Q24) 100
  | none => s.fld (F.GOV_COOL_TIN_DEF h) * Q24

/-! ## Regulator slots and power (R604, R615) -/

/-- An enabled slot on the VFAB rail. -/
def State.fabSlot (s : State) (h r : Nat) : Bool := s.on (F.GOV_REG_CFG_EN h r) && s.fld (F.GOV_REG_CFG_RAIL h r) == 0

/-- An enabled VFAB slot that takes the target over AVSBus. -/
def State.avsSlot (s : State) (h r : Nat) : Bool := s.fabSlot h r && s.on (F.GOV_REG_CFG_AVS h r)

/-- The sum of READ_POUT in 0.1 W over the slots of half h that the test names. -/
def State.poutOf (s : State) (h : Nat) (p : Nat → Bool) : Nat := ((List.range 8).filter p).foldl (fun v r => v + (s.slot h r).pout) 0

/-- P_fab and P_other of R611, in 0.1 W. -/
def State.fabPower (s : State) (h : Nat) : Nat := s.poutOf h (s.fabSlot h)
def State.otherPower (s : State) (h : Nat) : Nat :=
  s.poutOf h (fun r => s.on (F.GOV_REG_CFG_EN h r) && !s.fabSlot h r) + 10 * s.fld (F.GOV_CAP_OTHER_W h)

/-- The measured power of half h in 0.1 W (R615). -/
def State.measured (s : State) (h : Nat) : Nat := s.fabPower h + s.otherPower h

/-- AT_CAP and CAP_EXCEEDED follow the power and the limiter, with one NOTICE each per episode (R614, R615). -/
def State.showCap (s : State) (h : Nat) : State :=
  let above := decide (10 * s.fld (F.GOV_CAP_SHARE_W h) < s.measured h)
  let at' := above || s.fld (F.GOV_STATUS_LIMITER h) == 2
  let t := (if at' && !s.on (F.GOV_STATUS_AT_CAP h) then s.govRaise h NOTICE 6 0 else s).put (F.GOV_STATUS_AT_CAP h) at'
  let ex := above && s.fld (F.GOV_CTL_PROFILE h) == 4
  (if ex && !(s.gov h).overCap then t.govRaise h NOTICE 7 0 else t).modGov h fun g => { g with overCap := ex }

/-- GOV_POWER.POWER_DW follows the measured power. -/
def State.showPower (s : State) (h : Nat) : State := (s.setFld (F.GOV_POWER_POWER_DW h) (min 65535 (s.measured h))).showCap h

/-- The estimate of R611 at v millivolts, as a fraction in 0.1 W. -/
def State.estNum (s : State) (h v : Nat) : Nat :=
  s.otherPower h * (s.gov h).rail ^ 2 * cycleTenths v + s.fabPower h * v ^ 2 * cycleTenths (s.gov h).rail
def State.estDen (s : State) (h v : Nat) : Nat := (s.gov h).rail ^ 2 * cycleTenths v

/-! ## Island floors (R113, R262) -/

/-- The floors of loads that half h has accepted and that have not ended. -/
def State.loadFloor (s : State) (h : Nat) : Nat :=
  (List.range 3).foldl (fun v m => match s.load (loadKey h m) with
    | some j => if j.accepted then max v (floorMv j.floor) else v
    | none => v) 0

/-- The island floor in force in half h, in millivolts. -/
def State.islandFloor (s : State) (h : Nat) : Nat := max (s.highestFloor h) (s.loadFloor h)

/-- The highest island floor loaded in either half (R617). -/
def State.loadedFloor (s : State) : Nat := max (s.highestFloor 0) (s.highestFloor 1)

/-! ## The thermal model (R610) -/

/-- The numbers one forecast works with: the model fields, the coolant temperature, the limit, and the four nodes with the
allowance so far. -/
structure Forecast where
  cd : Int
  thdc : Int
  cc : Int
  thca : Int
  tin : Int
  limit : Int
  fa : Int
  fb : Int
  ua : Int
  ub : Int
  allow : Int

/-- One step of 10 ms. -/
def Forecast.next (x : Forecast) : Forecast :=
  let fa := x.fa - qdiv (20 * (x.fa - x.fb)) (x.cd * x.thdc)
  let fb := x.fb + qdiv (5 * (x.fa - x.fb)) (2 * x.cc * x.thdc) - qdiv (5 * (x.fb - x.tin)) (2 * x.cc * x.thca)
  let ua := x.ua + qdiv Q24 (50 * x.cd) - qdiv (20 * (x.ua - x.ub)) (x.cd * x.thdc)
  let ub := x.ub + qdiv (5 * (x.ua - x.ub)) (2 * x.cc * x.thdc) - qdiv (5 * x.ub) (2 * x.cc * x.thca)
  { x with fa := fa, fb := fb, ua := ua, ub := ub, allow := min x.allow (qdiv ((x.limit - fa) * Q24) ua) }

/-- n steps. -/
def Forecast.run : Nat → Forecast → Forecast
  | 0, x => x
  | n + 1, x => Forecast.run n x.next

/-- A model field, or its reset value where it is 0 (R628). -/
def State.model (s : State) (f : Fld) (rst : Nat) : Int := if s.fld f = 0 then (rst : Int) else (s.fld f : Int)

/-- The cold-plate node after 1 ms. -/
def State.coldPlate (s : State) (h : Nat) : Int :=
  let tc := (s.gov h).tc
  let cc := s.model (F.GOV_MODEL_CC h) 40
  let t := tc + qdiv (s.tj h - tc) (4 * cc * s.model (F.GOV_MODEL_THDC h) 110) -
    qdiv (tc - s.tin h) (4 * cc * s.model (F.GOV_MODEL_THCA h) 60)
  match s.coolant h 2 with
  | some v => max t (qdiv (v * Q24) 100)
  | none => t

/-- P_allow of half h, with its cold plate at tc, in the units of the model. -/
def State.allowance (s : State) (h : Nat) (tc : Int) : Int :=
  let k : Int := if s.on (F.GOV_STATUS_PUMP_LOSS h) then 4 else 1
  let x : Forecast := { cd := s.model (F.GOV_MODEL_CD h) 24, thdc := s.model (F.GOV_MODEL_THDC h) 110, cc := s.model (F.GOV_MODEL_CC h) 40, thca := k * s.model (F.GOV_MODEL_THCA h) 60, tin := s.tin h, limit := s.fld (F.GOV_LIMITS_TJ_LIMIT h) * Q24, fa := s.tj h, fb := tc, ua := 0, ub := 0, allow := s.fld (F.GOV_CAP_SHARE_W h) * Q24 }
  max (x.run (s.fld (F.GOV_LIMITS_HORIZON h) * 10)).allow 0

/-- The estimate of R611 at v millivolts does not exceed the power p, in the units of the model. -/
def State.fits (s : State) (h v : Nat) (p : Int) : Bool := decide ((s.estNum h v : Int) * Q24 ≤ p * 10 * s.estDen h v)

/-- The voltages of R611, highest first. -/
def candidates : List Nat := (List.range 41).map (950 - 10 * ·)

/-- The reactive backstop acts: Tj is at TJ_LIMIT or above (R611). -/
def State.backstop (s : State) (h : Nat) : Bool := decide (s.fld (F.GOV_LIMITS_TJ_LIMIT h) * Q24 ≤ s.tj h)

/-- The 1 ms computation of half h (R610, R611): the cold plate, the allowance and the ceiling. -/
def State.modelUpdate (s : State) (h : Nat) : State :=
  let tc := s.coldPlate h
  let p := s.allowance h tc
  let best := ((candidates.find? fun v => s.fits h v p).getD 550)
  let old := (s.gov h).ceiling
  let new := min best (if s.backstop h then old else old + 50)
  s.modGov h fun g => { g with tc := tc, ceiling := new, capped := decide (p = s.fld (F.GOV_CAP_SHARE_W h) * Q24) && new == best }

/-! ## The target (R612, R614) -/

/-- Pans of half h whose rates count: powered, with a valid image (R614). -/
def State.ratedPans (s : State) (h : Nat) : List Nat := (pansOf h).filter fun n => s.power n == 0 && s.on (F.PAN_IMAGE_ID_VALID n)

/-- RATE_MIN and RATE_MAX of half h. -/
def State.rateMin (s : State) (h : Nat) : Option Nat :=
  match (s.ratedPans h).map fun n => s.fld (F.GOV_RATE_RATE h (n % 128)) with
  | [] => none
  | x :: r => some (r.foldl min x)
def State.rateMax (s : State) (h : Nat) : Option Nat :=
  match (s.ratedPans h).map fun n => s.fld (F.GOV_RATE_RATE h (n % 128)) with
  | [] => none
  | x :: r => some (r.foldl max x)

/-- The next wish of BALANCED (R614), within the range of R612. -/
def State.balanced (s : State) (h : Nat) : Nat :=
  let w := (s.gov h).wish
  match s.rateMin h with
  | none => 550
  | some r =>
    let target := s.fld (F.GOV_TARGET_RATE h)
    if r < target then min 950 (w + 10)
    else if 560 ≤ w && decide (target * cycleTenths (w - 10) ≤ r * cycleTenths (s.gov h).rail) then w - 10
    else w

/-- QUIET: the power estimated at v millivolts stays within 5 W of the power at the second's start (R614). -/
def State.quietFits (s : State) (h v : Nat) : Bool :=
  let r := (s.gov h).quietRef
  decide (s.estNum h v ≤ (r + 50) * s.estDen h v) && decide (r * s.estDen h v ≤ s.estNum h v + 50 * s.estDen h v)

/-- The profile's wish in mV, and whether QUIET's limit holds it. -/
def State.wishOf (s : State) (h : Nat) : Nat × Bool :=
  match s.fld (F.GOV_CTL_PROFILE h) with
  | 0 => (950, false)
  | 2 => (550, false)
  | 3 => if s.quietFits h (s.balanced h) then (s.balanced h, false) else ((s.gov h).wish, s.balanced h != (s.gov h).wish)
  | 4 => (s.fld (F.GOV_FIXED_VFAB_MV h), false)
  | _ => (s.balanced h, false)

/-- The VFAB target of half h and its LIMITER: emergency thermal stop, the voltage held until WAKE (R623), or R612. -/
def State.targetOf (s : State) (h : Nat) (wish : Nat × Bool) : Nat × Nat :=
  let fl := s.islandFloor h
  let floored (v lim : Nat) : Nat × Nat := if v < fl then (fl, 3) else (max v 550, lim)
  if s.on (F.GOV_STATUS_STOP h) then (550, 6)
  else if s.phase ≠ WAKE && s.phase ≠ USER then floored 800 0
  else if s.fld (F.GOV_CTL_PROFILE h) = 4 then floored (min wish.1 950) 5
  else if (s.gov h).ceiling < wish.1 then floored (min (s.gov h).ceiling 950) (if (s.gov h).capped then 2 else 1)
  else floored (min wish.1 950) (if wish.2 then 4 else 0)

/-! ## Duties (R608) -/

/-- The cold-plate rule of R608: DUTY_MIN plus 10 % per kelvin above the setpoint, rounded up, between DUTY_MIN and 100. -/
def State.coolDuty (s : State) (h : Nat) : Nat :=
  let least := min 100 (s.fld (F.GOV_COOL_DUTY_MIN h))
  let sp : Int := (s.fld (F.GOV_COOL_TCP_SET h) + (if s.fld (F.GOV_CTL_PROFILE h) = 2 then s.fld (F.GOV_LIMITS_EFF_WARM h) else 0) : Nat)
  let more := -(10 * (sp * Q24 - (s.gov h).tc) / Q24)
  min 100 (least + more.toNat)

/-- Every FAN and PUMP channel of half h at duty d; NONE at 0. -/
def State.setDuty (s : State) (h d : Nat) : State :=
  s.each [0, 1, 2, 3] fun j t => t.setFld (F.GOV_FAN_DUTY h j) (if t.fld (F.GOV_FAN_ROLE h j) = 0 then 0 else d)

/-- The duty of the half's channels before this step. -/
def State.dutyNow (s : State) (h : Nat) : Nat := (List.range 4).foldl (fun v j => max v (s.fld (F.GOV_FAN_DUTY h j))) 0

/-- QUIET's limits: at most 1 % a second, toward the duty at or below QUIET_DUTY. -/
def State.quietDuty (s : State) (h : Nat) : State :=
  let now := s.dutyNow h
  let want := min (s.coolDuty h) (s.fld (F.GOV_COOL_QUIET_DUTY h))
  if want = now then s.setDuty h now
  else if (s.gov h).dutyAt + 1000000000 ≤ s.ns.toNat then
    (s.setDuty h (if now < want then now + 1 else now - 1)).modGov h fun g => { g with dutyAt := s.ns.toNat }
  else s.setDuty h now

/-- The duties of half h follow R608. -/
def State.showDuty (s : State) (h : Nat) : State :=
  if s.phase < CONFIG_WAIT || s.on (F.GOV_STATUS_STOP h) || s.on (F.GOV_STATUS_PUMP_LOSS h) then s.setDuty h 100
  else if s.fld (F.GOV_CTL_PROFILE h) = 4 then s.setDuty h (s.fld (F.GOV_FIXED_DUTY h))
  else if s.fld (F.GOV_CTL_PROFILE h) = 3 && s.fld (F.GOV_STATUS_LIMITER h) ≠ 1 then s.quietDuty h
  else s.setDuty h (s.coolDuty h)

/-- QUIET's second begins anew (R614). -/
def State.quietSecond (s : State) (h : Nat) : State :=
  if (s.gov h).quietAt + 1000000000 ≤ s.ns.toNat then s.modGov h fun g => { g with quietAt := s.ns.toNat, quietRef := s.measured h } else s

/-- The 100 µs step of half h (R611, R612, R614): the backstop, the wish, the target, and the duties. -/
def State.targetUpdate (s : State) (h : Nat) : State :=
  let t := if s.backstop h then s.modGov h fun g => { g with ceiling := g.ceiling - 10, capped := false } else s
  let t := t.quietSecond h
  let w := t.wishOf h
  let p := t.fld (F.GOV_CTL_PROFILE h)
  let v := t.targetOf h w
  let t := t.setFlds [(F.GOV_STATUS_VFAB_MV h, v.1), (F.GOV_STATUS_LIMITER h, v.2), (F.GOV_STATUS_FLOOR_MV h, t.islandFloor h)]
  let t := if p = 1 || p = 3 then t.modGov h fun g => { g with wish := w.1 } else t
  (t.showDuty h).showCap h

/-! ## Shares (R618, R619) -/

/-- The slice budget of half h (R619). -/
def State.sliceBudget (s : State) (h : Nat) : Nat :=
  let share := 10 * s.fld (F.GOV_CAP_SHARE_W h)
  let w := s.fld (F.GOV_CAP_SLICE_W h)
  if s.on (F.GOV_STATUS_STOP h) then 0
  else if share < s.measured h then 0
  else if w = 0 then 4
  else min 4 ((share - s.measured h) / (10 * w))

/-- Half h takes a share; a pump loss limits it to 30 W (R613). -/
def State.setShare (s : State) (h w : Nat) : State :=
  let t := s.setFld (F.GOV_CAP_SHARE_W h) (if s.on (F.GOV_STATUS_PUMP_LOSS h) then min w 30 else w)
  (t.setFld (F.GOV_STATUS_SLICES h) (t.sliceBudget h)).showCap h

/-- The demand of half h in W: the estimate at its profile's wish, without ceiling (R618). -/
def State.demand (s : State) (h : Nat) : Nat := (qdiv (s.estNum h (s.wishOf h).1) (10 * s.estDen h (s.wishOf h).1)).toNat

/-- Half the device cap. -/
def State.halfCap (s : State) (h : Nat) : Nat := (qdiv (s.fld (F.GOV_CAP_CAP_W h)) 2).toNat

/-- The shares of R618: the north half's, then the south half's. -/
def State.shares (s : State) : Nat × Nat :=
  let cap := s.fld (F.GOV_CAP_CAP_W 0)
  let half := s.halfCap 0
  let dn := s.demand 0
  let ds := s.demand 1
  let sn := min dn half
  let ss := min ds half
  let left := cap - sn - ss
  let sn := if sn < dn then sn + left else if ss < ds then sn else sn + (qdiv left 2).toNat
  let sn := max sn 30
  (sn, max (cap - sn) 30)

end Sys2Proof.Machine
end

