-- ==== Sys2Proof/Machine/Security.lean ====
section
/-! DEFINITION. The security module (16_security_module): zeroization, self-tests, keys, fuses, patches, tamper, the approved mode,
debug authorisation, and attestation. -/

namespace Sys2Proof.Machine

/-- SEC_STATUS.STATE (R565). -/
def SELFTEST : Nat := 0
def OPERATIONAL : Nat := 1
def SEC_ERROR : Nat := 2
def ZEROIZING : Nat := 3

/-- The module's state. -/
def State.secState (s : State) : Nat := s.fld F.SEC_STATUS_STATE

/-- The approved mode (R586), and one bit of the fuse control word (R570). -/
def State.approved (s : State) : Bool := s.on F.SEC_STATUS_APPROVED
def State.fuseBit (s : State) (b : Nat) : Bool := bitOf (s.fld F.SEC_KEYS_CTRL) b

/-- A report of source SECURITY (R660). -/
def State.secReport (s : State) (cls code unit ctx : Nat) (inj : Bool := false) : State :=
  s.raise { half := 0, cls := cls, src := 15, code := code, unit := unit, ctx := ctx, inj := inj }

/-- Change what the module holds. -/
def State.modSec (s : State) (f : Security → Security) : State := { s with sec := f s.sec }

/-- n bytes from the DRBG; and the request counted: after 2²⁰ of them it reseeds (R566). -/
def State.random (s : State) (n : Nat) : List Byte := leBytes n (leNat (Config.drbg s.sec.seeded s.sec.requests))
def State.reseed (s : State) : State := s.modSec fun m => { m with seeded := m.seeded + 1, requests := 0 }
def State.drew (s : State) : State :=
  if 2 ^ 20 ≤ s.sec.requests + 1 then s.reseed else s.modSec fun m => { m with requests := m.requests + 1 }

/-- The DRBG starts afresh, and the halves agree the key-wrap key (R563, R582; Assumption 57). -/
def State.agreeWrap (s : State) : State := s.reseed.drew.modSec fun m => { m with wrapKey := s.reseed.random 32 }

/-! ## Debug grants (R589, R590, R737) -/

/-- The debug module lets core c go on: pc and privilege return (R730). -/
def State.leaveDebug (s : State) (c : Nat) : State :=
  if s.isHalted c then
    let held := if bitOf (s.hart c).dcsr 10 then 2 * (s.ns.toNat - (s.hart c).haltedAt) else 0
    let t := s.setCsr c 0xB00 (s.csr c 0xB00 - BitVec.ofNat 64 held)
    (((t.setFld (F.TCORE_CTL_HALTED c) 0).modCore c fun k => { k with pc := (s.hart c).dpc, prv := (s.hart c).prv }).modHart c fun h =>
      { h with resumeack := true }).copSettle c
  else s

/-- A debug halt of rake r, or its request, ends (R734). -/
def State.resumeRake (s : State) (r : Nat) : State := s.modRake r fun k => { k with halt := 0 }

/-- The end of a grant (R737). -/
def State.endGrant (s : State) : State :=
  if !s.on F.SEC_STATUS_DBG_GRANTED then s
  else
    let t := s.modSec fun m => { m with grantFor := 0 }
    let t := t.setFlds [(F.SEC_STATUS_DBG_GRANTED, 0), (F.SEC_STATUS_DBG_SCOPE, 0), (F.DBG_TRACE_CTL_EN, 0), (F.DBG_RAKE_BP_EN0, 0), (F.DBG_RAKE_BP_EN1, 0)]
    let t := t.each (List.range 16) fun c u => (u.modHart c fun h => { h with haltReq := false, triggers := [] }).leaveDebug c
    t.each ((List.map Prod.fst t.rakes)) fun r u => u.resumeRake r

/-! ## Zeroization (R582 to R585) -/

/-- The battery key and its check word are cleared (R579). -/
def State.clearKb (s : State) : State := (s.modSec fun m => { m with kb := 0 }).setFld F.SEC_KEYS_BBRAM_HOLDS 0

/-- Sessions and link keys are lost, and every stream is Insecure (R412, R582). -/
def State.dropLinkKeys (s : State) : State :=
  ((s.modSec fun m => { m with sessions := [], ideKeys := [], generated := [] }).setFld F.SEC_STATUS_SESSIONS 0).each (List.range 16) fun l t => t.insecure l

/-- A zeroization of volatile keys starts, or joins the one that runs (R582, R584); LONG commands end (R514). In ERROR and SELFTEST
the state stays as it is. -/
def State.startZeroize (s : State) (mode : Nat) : State :=
  if s.sec.zeroizing ≠ 0 then s.modSec fun m => { m with zeroizing := max m.zeroizing (1 + mode) }
  else
    let t := (s.abortAll (fun _ => true) ABORT_ZEROIZE).abortImage
    let t := (t.clearKb.dropLinkKeys.endGrant).modSec fun m => { m with zeroizing := 1 + mode, challenge := none, wrapKey := [] }
    if t.secState = OPERATIONAL then t.setFld F.SEC_STATUS_STATE ZEROIZING else t

/-- ZEROIZATION_COMPLETE (R582, R583): revocations of MODE 1, a fresh DRBG, and the replies. -/
def execZeroizationComplete (s : State) : Out :=
  .next (
    if s.sec.zeroizing = 0 then s
    else
      let t := if s.sec.zeroizing = 2 then s.setFld F.SEC_KEYS_CTRL (s.fld F.SEC_KEYS_CTRL ||| 0x18) else s
      let t := (t.modSec fun m => { m with zeroizing := 0 }).setFld F.SEC_COUNTS_ZCOUNT (s.fld F.SEC_COUNTS_ZCOUNT + 1)
      let t := if t.secState = ZEROIZING then t.agreeWrap.setFld F.SEC_STATUS_STATE OPERATIONAL else t
      t.endJobs (fun j => j.opcode == 0x0905) OK 0 [])

/-- ZEROIZE of R592: never refused by its fields; it replies once zeroization has completed (R583). -/
def cmdZeroize : Cmd where
  opcode := 0x0905
  cls := .urgent
  scopes := [0]
  size := fun _ => 4
  run := fun s r => .job ((s.startZeroize (if r.p.u8 0 = 1 then 1 else 0)).secReport ERROR 6 0 0) (longJob r 0 [])

/-- ZEROIZE (R583). -/
def execZeroize (p : Packet) (s : State) : Out := .next (s.deliver cmdZeroize p)

/-! ## Self-tests (R566, R567) -/

/-- The module enters ERROR (R567), a standing fatal cause (R673). -/
def State.secError (s : State) (cause : Nat) : State :=
  (((s.setFlds [(F.SEC_STATUS_STATE, SEC_ERROR), (F.SEC_STATUS_ERR_CAUSE, cause)]).secReport FATAL 2 cause 0).setStanding 0 3 true).startZeroize 0

/-- MODULE_SELFTEST_DONE (R566): every test has passed (0), or the first failure's ERR_CAUSE. -/
def execModuleSelftestDone (cause : Fin 7) (s : State) : Out :=
  .next (
    if s.secState ≠ SELFTEST || s.phase ≠ 1 then s
    else if cause.val = 0 then s.agreeWrap.setFld F.SEC_STATUS_STATE OPERATIONAL
    else s.secError cause)

/-- ENTROPY_HEALTH_FAIL (R566): a conditional test, ERR_CAUSE 0x7 to 0x9, fails while the module is OPERATIONAL. -/
def execEntropyHealthFail (cause : Fin 3) (s : State) : Out :=
  .next (if s.secState = OPERATIONAL then s.secError (7 + cause) else s)

/-- DRBG_RESEED (R566). -/
def execDrbgReseed (s : State) : Out :=
  .next (if s.secState = OPERATIONAL then s.reseed else s)

/-! ## SEC_STATUS and the approved mode (R586 to R588) -/

/-- The result of SEC_STATUS (R592). -/
def State.secStatus (s : State) : List Byte :=
  leBytes 1 s.secState ++
  leBytes 1 (bnat s.approved + bnat (s.on F.SEC_STATUS_LEAVE_PENDING) * 2 + bnat (s.on F.SEC_STATUS_FORCED) * 4 + bnat (s.on F.SEC_STATUS_DBG_GRANTED) * 8) ++
  leBytes 1 (s.fld F.SEC_STATUS_DBG_SCOPE) ++ leBytes 1 (s.fld F.SEC_STATUS_SESSIONS) ++ leBytes 4 (s.reg R.SEC_KEYS).toNat ++
  leBytes 4 (s.reg R.SEC_TAMPER_CFG).toNat ++ leBytes 4 (s.reg R.SEC_TAMPER_LATCH).toNat ++
  leBytes 4 (s.fld (F.SEC_TAMPER_TIME_SECONDS 0)) ++ leBytes 4 (s.fld (F.SEC_TAMPER_TIME_SECONDS 1)) ++ leBytes 4 (s.fld F.SEC_COUNTS_ZCOUNT) ++
  leBytes 1 (s.fld F.SEC_STATUS_ERR_CAUSE) ++ leBytes 2 (s.fld F.SEC_STATUS_UNSIGNED_PANS) ++ leBytes 1 0

/-- SEC_STATUS of R592. -/
def cmdSecStatus : Cmd where
  opcode := 0x0900
  cls := .read
  scopes := [0]
  size := fun _ => 0
  run := fun s _ => ok s s.secStatus

/-- SEC_STATUS (R592). -/
def execSecStatus (p : Packet) (s : State) : Out := .next (s.deliver cmdSecStatus p)

/-- The conditions of R586. -/
def State.mayApprove (s : State) : Bool :=
  s.secOperational && s.fld (F.GOV_CTL_PROFILE 0) == 4 && s.fld (F.GOV_CTL_PROFILE 1) == 4 && s.on F.CFG_STATUS_SIGNED &&
    s.fld F.SEC_STATUS_UNSIGNED_PANS == 0 && (List.range 6).all (fun k => (s.load k).isNone) && !s.on (F.COH_STATUS_LAB 0) && !s.on (F.COH_STATUS_LAB 1) &&
    bitsOf (s.fld F.SEC_TAMPER_CFG_EN) 6 4 == 7

/-- APPROVED_ENTER of R592. -/
def cmdApprovedEnter : Cmd where
  opcode := 0x0901
  cls := .short
  scopes := [0]
  size := fun _ => 0
  check := fun s _ => if s.approved then already else if s.mayApprove then none else refusal S_STATE
  run := fun s _ => ok (s.endGrant.setFld F.SEC_STATUS_APPROVED 1)

/-- APPROVED_ENTER (R586). -/
def execApprovedEnter (p : Packet) (s : State) : Out := .next (s.deliver cmdApprovedEnter p)

/-- APPROVED_LEAVE of R592. -/
def cmdApprovedLeave : Cmd where
  opcode := 0x0902
  cls := .short
  scopes := [0]
  size := fun _ => 0
  check := fun s _ => if s.fuseBit 5 then refusal S_STATE
    else if !s.approved || s.on F.SEC_STATUS_LEAVE_PENDING then already else none
  run := fun s _ => ok ((s.setFld F.SEC_STATUS_LEAVE_PENDING 1).secReport NOTICE 7 0 0)

/-- APPROVED_LEAVE (R588). -/
def execApprovedLeave (p : Packet) (s : State) : Out := .next (s.deliver cmdApprovedLeave p)

/-! ## Keys and fuses (R569 to R571) -/

/-- KEY_LOAD of R592: a key of all zeros empties the slot. -/
def cmdKeyLoad : Cmd where
  opcode := 0x0903
  cls := .short
  scopes := [0]
  size := fun _ => 32
  check := fun s r =>
    if s.approved then refusal S_APPROVED
    else if s.fuseBit 9 || s.fld F.SEC_TAMPER_LATCH_LATCH ≠ 0 then refusal S_STATE
    else if !s.secOperational then refusal S_HW_FAULT
    else if r.p.num 0 32 = 0 && !s.on F.SEC_KEYS_BBRAM_HOLDS then already else none
  run := fun s r =>
    if r.p.num 0 32 = 0 then ok s.clearKb
    else ok ((s.modSec fun m => { m with kb := r.p.num 0 32 }).setFld F.SEC_KEYS_BBRAM_HOLDS 1)

/-- KEY_LOAD (R592). -/
def execKeyLoad (p : Packet) (s : State) : Out := .next (s.deliver cmdKeyLoad p)

/-- Fuse words of a field: 0 K0, 1 K1, 2 PKH, 3 the control word (R571). -/
def fuseWords (field : Nat) : Nat := if field = 2 then 12 else if field = 3 then 1 else 8

/-- What the fuses of a field hold. -/
def State.fuses (s : State) (field : Nat) : Nat :=
  match field with
  | 0 => s.sec.k0
  | 1 => s.sec.k1
  | 2 => s.sec.pkh
  | _ => s.fld F.SEC_KEYS_CTRL

/-- Word w of a field takes the set bits of value too. -/
def State.blow (s : State) (field w value : Nat) : State :=
  let bits := value / 2 ^ (32 * w) % 2 ^ 32 * 2 ^ (32 * w)
  match field with
  | 0 => s.modSec fun m => { m with k0 := m.k0 ||| bits }
  | 1 => s.modSec fun m => { m with k1 := m.k1 ||| bits }
  | 2 => s.modSec fun m => { m with pkh := m.pkh ||| bits }
  | _ =>
    let t := s.setFld F.SEC_KEYS_CTRL (s.fld F.SEC_KEYS_CTRL ||| bits)
    t.put F.SEC_STATUS_FORCED (t.fuseBit 5)

/-- FUSE_PROGRAM of R592. It holds DEVICE, so that the module programs one field at a time (Assumption 28). -/
def cmdFuseProgram : Cmd where
  opcode := 0x0904
  cls := .long
  scopes := [0]
  size := fun _ => 52
  fields := [rangeField 0 1 0 3, zeroField 1 3,
    { off := 4, len := 48, ok := fun _ r => decide (r.p.num 4 48 < 2 ^ (32 * fuseWords (r.p.u8 0))) && !(r.p.u8 0 == 3 && r.p.num 4 48 % 8 != 0) }]
  check := fun s r =>
    let field := r.p.u8 0
    let v := r.p.num 4 48
    if field ≠ 3 && s.approved then refusal S_APPROVED
    else if field ≠ 3 && (s.fuseBit field || (s.fuses field ||| v) ≠ v) then refusal S_STATE
    else if !s.secOperational then refusal S_HW_FAULT
    else if field = 3 && (s.fuses 3 ||| v) = s.fuses 3 then already (leBytes 4 0)
    else none
  run := fun s r =>
    let n := fuseWords (r.p.u8 0)
    .job (s.modSec fun m => { m with fuse := some { field := r.p.u8 0, value := r.p.num 4 48, words := n } }) (longJob r n [r.p.target.toNat])

/-- FUSE_PROGRAM (R571). -/
def execFuseProgram (p : Packet) (s : State) : Out := .next (s.deliver cmdFuseProgram p)

/-- The FUSE_PROGRAM command ends. -/
def State.fuseEnds (s : State) (status : Nat) (result : List Byte) : State :=
  (s.modSec fun m => { m with fuse := none }).endJobs (fun j => j.opcode == 0x0904) status 0 result

/-- FUSE_WORD_PROGRAMMED (R571): the word reads back right or wrong; the last one of a key field is followed by VALID. -/
def execFuseWordProgrammed (good : Bool) (s : State) : Out :=
  .next (match s.sec.fuse with
    | none => s
    | some f =>
      if !good then s.fuseEnds S_HW_FAULT []
      else
        let t := s.blow f.field f.done f.value
        if f.done + 1 < f.words then t.modSec fun m => { m with fuse := some { f with done := f.done + 1 } }
        else (if f.field = 3 then t else t.setFld F.SEC_KEYS_CTRL (t.fld F.SEC_KEYS_CTRL ||| 2 ^ f.field)).fuseEnds OK (leBytes 4 f.words))

/-! ## Firmware patches (R573) -/

/-- A patch file of n bytes holds content for half h. -/
def patchFormed (f : List Byte) (n h : Nat) : Bool :=
  numAt f 0 2 == 1 && bitOf (numAt f 2 1) h && decide (numAt f 2 1 < 4) && zeroAt f 3 1 && decide (numAt f 8 4 ≤ 262144) && n == 256 + numAt f 8 4 &&
    zeroAt f 12 4 && zeroAt f 160 96

/-- Its body's digest and its signature hold. -/
def patchSigned (f : List Byte) : Bool :=
  decide (Config.sha384 (f.drop 256) = (f.drop 16).take 48) && Config.ecdsaVerifies Config.firmwareKey (f.take 64) ((f.drop 64).take 96)

/-- PATCH_LOAD of R529 with the outcomes of R573; the patch waits for PATCH_APPLY, and holds its half. -/
def cmdPatchLoad : Cmd where
  opcode := 0x0906
  cls := .long
  scopes := [1]
  size := fun _ => 16
  fields := [addrField 0 1 fun r => r.p.u64 8]
  check := fun s r => if r.p.u64 8 = 0 then already (leBytes 4 (s.patchVersion r.idx)) else if !s.secOperational then refusal S_HW_FAULT else none
  run := fun s r =>
    let n := r.p.u64 8
    match s.loadBytes (r.p.u64 0) n with
    | none => .done s S_ADDRESS 0x8000 []
    | some (t, _, true) => .done t S_ADDRESS D_POISON []
    | some (t, f, false) =>
      if n < 256 || !patchFormed f n r.idx then .done t S_CONTENT 0 []
      else if !patchSigned f then .done t S_SIGNATURE 0 []
      else
        let v := numAt f 4 4
        if v + 1 < t.patch (2 * r.idx) then .done t S_STATE 0 []
        else if v + 1 = t.patch (2 * r.idx) then nothing t (leBytes 4 v)
        else .job ((t.setPatch (2 * r.idx + 1) (v + 1)).setPatchHash (2 * r.idx + 1) ((f.drop 16).take 48))
          { longJob r n [r.p.target.toNat] with done := n }

/-- PATCH_LOAD (R573). -/
def execPatchLoad (p : Packet) (s : State) : Out := .next (s.deliver cmdPatchLoad p)

/-- PATCH_APPLY (R529): the verified patch of half h applies once its controller executes no other command. -/
def execPatchApply (h : Fin 2) (s : State) : Out :=
  .next (
    let v := s.patch (2 * h + 1)
    if v = 0 || s.isRestarting h || s.jobs.any (fun j => j.half == h.val && j.opcode != 0x0906) then s
    else
      let t := ((s.setPatch (2 * h) v).setPatchHash (2 * h) (s.patchHash (2 * h + 1))).setPatch (2 * h + 1) 0
      (t.setPatchHash (2 * h + 1) []).endJobs (fun j => j.opcode == 0x0906 && j.half == h.val) OK 0 (leBytes 4 (v - 1)))

/-! ## Tamper (R578 to R581) -/

/-- Tamper source `src` is watched in this state (R578): supply detection is suspended while POWER_UP sequences the supplies, and a
clock is watched only while the part is powered. -/
def State.tamperWatched (s : State) (src : Nat) : Bool :=
  bitOf (s.fld F.SEC_TAMPER_CFG_EN) src && (s.phase != 0 || (if src = 4 then s.supplyLow else src != 6))

/-- TAMPER_DETECTION (R579). On VBAT alone its report waits for the next SECURE_BOOT. -/
def execTamperDetection (src : Fin 7) (s : State) : Out :=
  .next (
    if !s.tamperWatched src then s
    else
      let was := s.fld F.SEC_TAMPER_LATCH_LATCH
      let t := s.setFlds [(F.SEC_TAMPER_LATCH_LATCH, was ||| 2 ^ src.val), (F.SEC_STATUS_LATCHED, 1)]
      let t := t.count F.SEC_TAMPER_LATCH_COUNT none
      let t := if was = 0 then t.setFlds [(F.SEC_TAMPER_TIME_SECONDS 0, s.fld (F.RTC_SECONDS_SECONDS 0)), (F.SEC_TAMPER_TIME_SECONDS 1, s.fld (F.RTC_SECONDS_SECONDS 1))] else t
      let t := t.clearKb
      if s.phase = 0 then t.modSec fun m => { m with owedTamper := if m.owedTamper.contains src.val then m.owedTamper else m.owedTamper ++ [src.val] }
      else (t.startZeroize 0).secReport FATAL 1 src (was ||| 2 ^ src.val))

/-- TAMPER_CONFIG of R592. Whether an enabled source that is latched still detects is a free value (Assumption 3). -/
def cmdTamperConfig : Cmd where
  opcode := 0x0907
  cls := .short
  scopes := [0]
  size := fun _ => 4
  fields := [rangeField 0 1 0 127, rangeField 1 1 0 15, rangeField 2 1 0 3, rangeField 3 1 0 1]
  check := fun s r =>
    let en := s.fld F.SEC_TAMPER_CFG_EN
    if s.approved && ((r.p.u8 0 ||| en) ≠ r.p.u8 0 || r.p.u8 1 ≠ s.fld F.SEC_TAMPER_CFG_POL || r.p.u8 2 ≠ s.fld F.SEC_TAMPER_CFG_FILTER) then refusal S_APPROVED
    else none
  run := fun s r =>
    let set (t : State) : State := t.setFlds [(F.SEC_TAMPER_CFG_EN, r.p.u8 0), (F.SEC_TAMPER_CFG_POL, r.p.u8 1), (F.SEC_TAMPER_CFG_FILTER, r.p.u8 2)]
    if r.p.u8 3 = 0 then ok (set s)
    else if s.fld F.SEC_TAMPER_LATCH_LATCH &&& s.fld F.SEC_TAMPER_CFG_EN &&& s.freeVal ≠ 0 then .done s.useFree S_STATE 0 []
    else ok ((set s.useFree).setFlds [(F.SEC_TAMPER_LATCH_LATCH, 0), (F.SEC_STATUS_LATCHED, 0), (F.SEC_TAMPER_TIME_SECONDS 0, 0), (F.SEC_TAMPER_TIME_SECONDS 1, 0)])

/-- TAMPER_CONFIG (R581). -/
def execTamperConfig (p : Packet) (s : State) : Out := .next (s.deliver cmdTamperConfig p)

/-! ## Debug authorisation (R589, R590) -/

/-- DBG_CHALLENGE of R592. -/
def cmdDbgChallenge : Cmd where
  opcode := 0x0A00
  cls := .short
  scopes := [0]
  size := fun _ => 8
  fields := [rangeField 0 1 1 7, zeroField 1 7]
  check := fun s _ => if s.fuseBit 8 || 8 ≤ s.fld F.SEC_COUNTS_DBG_FAILS then refusal S_AUTHORITY else if !s.secOperational then refusal S_HW_FAULT else none
  run := fun s r =>
    let nonce := s.random 48
    ok (s.drew.modSec fun m => { m with challenge := some ⟨nonce, r.p.u8 0⟩ }) (nonce ++ leBytes 8 Config.serial)

/-- DBG_CHALLENGE (R589). -/
def execDbgChallenge (p : Packet) (s : State) : Out := .next (s.deliver cmdDbgChallenge p)

/-- The outcome of a response: its refusal, or none for one that verifies (R590). -/
def State.responseFails (s : State) (p : Packet) : Option (Nat × Nat) :=
  match s.sec.challenge with
  | none => some (S_STATE, 0)
  | some c =>
    let key := (p.params.drop 8).take 96
    if p.u8 0 ≠ c.scope then some (S_FIELD, 0x8000)
    else if p.u32 4 = 0 || 86400 < p.u32 4 then some (S_FIELD, 0x8004)
    else if !s.fuseBit 2 || Config.sha384 key ≠ leBytes 48 s.sec.pkh then some (S_SIGNATURE, 0)
    else if !Config.ecdsaVerifies key (c.nonce ++ leBytes 8 Config.serial ++ leBytes 1 c.scope ++ leBytes 3 0 ++ leBytes 4 (p.u32 4)) ((p.params.drop 104).take 96) then
      some (S_SIGNATURE, 0)
    else none

/-- DBG_RESPONSE of R592: every response consumes the challenge. -/
def cmdDbgResponse : Cmd where
  opcode := 0x0A01
  cls := .short
  scopes := [0]
  size := fun _ => 200
  fields := [zeroField 1 3]
  check := fun s _ => if !s.secOperational then refusal S_HW_FAULT else none
  run := fun s r =>
    let t := s.modSec fun m => { m with challenge := none }
    match s.responseFails r.p with
    | some (st, d) => .done (t.setFld F.SEC_COUNTS_DBG_FAILS (min 8 (s.fld F.SEC_COUNTS_DBG_FAILS + 1))) st d []
    | none => ok ((t.modSec fun m => { m with grantFor := r.p.u32 4 }).setFlds [(F.SEC_STATUS_DBG_GRANTED, 1), (F.SEC_STATUS_DBG_SCOPE, r.p.u8 0)])

/-- DBG_RESPONSE (R590). -/
def execDbgResponse (p : Packet) (s : State) : Out := .next (s.deliver cmdDbgResponse p)

/-- DBG_REVOKE of R592. -/
def cmdDbgRevoke : Cmd where
  opcode := 0x0A02
  cls := .short
  scopes := [0]
  size := fun _ => 0
  check := fun s _ => if s.on F.SEC_STATUS_DBG_GRANTED then none else already
  run := fun s _ => ok s.endGrant

/-- DBG_REVOKE (R592). -/
def execDbgRevoke (p : Packet) (s : State) : Out := .next (s.deliver cmdDbgRevoke p)

/-- DBG_CHALLENGE_EXPIRY (R589). -/
def execDbgChallengeExpiry (s : State) : Out := .next (s.modSec fun m => { m with challenge := none })

/-- DBG_GRANT_EXPIRY (R590). -/
def execDbgGrantExpiry (s : State) : Out := .next s.endGrant

/-! ## Attestation (R574 to R577) -/

/-- Response and error codes of the SPDM standard (Assumption 12). -/
def SPDM_ERROR : Nat := 0x7F
def SPDM_INVALID : Nat := 0x01
def SPDM_BUSY : Nat := 0x03
def SPDM_UNEXPECTED : Nat := 0x04
def SPDM_UNSPECIFIED : Nat := 0x05

/-- A response on link l's data object exchange mailbox: its code and content. -/
def State.spdm (s : State) (l code : Nat) (data : List Byte) : State := s.send (.port l (0x100 + code) (data.map fun b => b.toNat))
def State.spdmError (s : State) (l code : Nat) : State := s.spdm l SPDM_ERROR (leBytes 1 code)

/-- The responder answers on link l, or says why it does not: Busy during a zeroization (R585), Unspecified on ports 2 and 3 while no
causeway group is UP (R577) and while the module gives no service (R567). A link that is not up carries no request. -/
def State.spdmServe (s : State) (l : Nat) (f : State → State) : State :=
  if !s.linkUp l then s
  else if s.secState = ZEROIZING then s.spdmError l SPDM_BUSY
  else if !s.secOperational || (8 ≤ l && !s.causewayUp 0) then s.spdmError l SPDM_UNSPECIFIED
  else f s

/-- Sessions open on a link (R574). -/
def State.sessionsOf (s : State) (l : Nat) : Nat := Bank.get (fun _ => 0) s.sec.sessions l
def State.setSessions (s : State) (l n : Nat) : State :=
  let t := s.modSec fun m => { m with sessions := Bank.set (fun _ => 0) m.sessions l n }
  t.setFld F.SEC_STATUS_SESSIONS (((List.range 16).map t.sessionsOf).foldl (· + ·) 0)

/-- A request that needs a session. -/
def State.inSession (s : State) (l : Nat) (f : State → State) : State :=
  s.spdmServe l fun t => if t.sessionsOf l = 0 then t.spdmError l SPDM_UNEXPECTED else f t

/-- GET_VERSION (R574): SPDM 1.2. -/
def execGetVersion (l : Fin 16) (s : State) : Out := .next (s.spdmServe l fun t => t.spdm l 0x04 (leBytes 1 0x12))

/-- GET_CAPABILITIES (R574): the flags word is the standard's, and free (Assumption 12). -/
def execGetCapabilities (l : Fin 16) (s : State) : Out :=
  .next (s.spdmServe l fun t => (t.spdm l 0x61 (leBytes 4 t.freeVal)).useFree)

/-- NEGOTIATE_ALGORITHMS (R574): ECDSA P-384, SHA-384, secp384r1, AES-256-GCM by the standard's bits (Assumption 12). -/
def execNegotiateAlgorithms (l : Fin 16) (s : State) : Out :=
  .next (s.spdmServe l fun t => t.spdm l 0x63 (leBytes 4 0x80 ++ leBytes 4 0x02 ++ leBytes 2 0x10 ++ leBytes 2 0x02))

/-- GET_DIGESTS (R574): slot 0 alone. -/
def execGetDigests (l : Fin 16) (s : State) : Out :=
  .next (s.spdmServe l fun t => t.spdm l 0x01 (leBytes 1 1 ++ Config.sha384 Config.certChain))

/-- GET_CERTIFICATE (R574). -/
def execGetCertificate (l : Fin 16) (slot : Byte) (offset len : BitVec 16) (s : State) : Out :=
  .next (s.spdmServe l fun t =>
    if slot ≠ 0 then t.spdmError l SPDM_INVALID
    else
      let part := (Config.certChain.drop offset.toNat).take len.toNat
      t.spdm l 0x02 (leBytes 2 part.length ++ leBytes 2 (Config.certChain.length - offset.toNat - part.length) ++ part))

/-- CHALLENGE (R574): a nonce of its own, and a signature of the identity key over both. -/
def execChallenge (l : Fin 16) (slot : Byte) (nonce : BitVec 256) (s : State) : Out :=
  .next (s.spdmServe l fun t =>
    if slot ≠ 0 then t.spdmError l SPDM_INVALID
    else
      let own := t.random 32
      let body := Config.sha384 Config.certChain ++ own
      t.drew.spdm l 0x03 (body ++ Config.identitySign (leBytes 32 nonce.toNat ++ body)))

/-- A measurement block of R575. -/
def State.measurement (s : State) (i : Nat) : List Byte :=
  let hash (h : Nat) : List Byte := if s.patch (2 * h) = 0 then List.replicate 48 0 else s.patchHash (2 * h)
  match i with
  | 1 => Config.romDigest
  | 2 => hash 0
  | 3 => hash 1
  | 4 => leBytes 4 (s.fld F.CFG_IMAGE_TAG_TAG) ++ s.image.digest
  | 5 => leBytes 4 (s.fld (F.COH_TABLE_TAG_TAG 0)) ++ leBytes 1 (s.fld (F.COH_STATUS_LAB 0)) ++ leBytes 4 (s.fld (F.COH_TABLE_TAG_TAG 1)) ++ leBytes 1 (s.fld (F.COH_STATUS_LAB 1))
  | _ => leBytes 1 (bnat s.approved) ++ leBytes 1 (s.fld F.SEC_STATUS_DBG_GRANTED) ++ leBytes 1 (s.fld F.SEC_STATUS_DBG_SCOPE) ++ leBytes 4 (s.reg R.SEC_KEYS).toNat

/-- GET_MEASUREMENTS (R575): the number of blocks (index 0), one block, or all (0xFF). -/
def execGetMeasurements (l : Fin 16) (index : Byte) (s : State) : Out :=
  .next (s.spdmServe l fun t =>
    if index = 0 then t.spdm l 0x60 (leBytes 1 6)
    else if index = 0xFF then t.spdm l 0x60 ([1, 2, 3, 4, 5, 6].flatMap t.measurement)
    else if 6 < index.toNat then t.spdmError l SPDM_INVALID
    else t.spdm l 0x60 (t.measurement index.toNat))

/-- KEY_EXCHANGE (R574): a session opens, or Busy beyond 2 of the link or 16 of the part. -/
def execKeyExchange (l : Fin 16) (slot : Byte) (s : State) : Out :=
  .next (s.spdmServe l fun t =>
    if slot ≠ 0 then t.spdmError l SPDM_INVALID
    else if 2 ≤ t.sessionsOf l || 16 ≤ t.fld F.SEC_STATUS_SESSIONS then t.spdmError l SPDM_BUSY
    else (t.drew.setSessions l (t.sessionsOf l + 1)).spdm l 0x64 (t.random 32))

/-- FINISH (R574). -/
def execFinish (l : Fin 16) (s : State) : Out := .next (s.inSession l fun t => t.spdm l 0x65 [])

/-- KEY_UPDATE (R574). -/
def execKeyUpdate (l : Fin 16) (s : State) : Out := .next (s.inSession l fun t => t.spdm l 0x69 [])

/-- HEARTBEAT (R574). -/
def execHeartbeat (l : Fin 16) (s : State) : Out := .next (s.inSession l fun t => t.spdm l 0x68 [])

/-- END_SESSION (R574): keys generated for the link's last session go with it. -/
def execEndSession (l : Fin 16) (s : State) : Out :=
  .next (s.inSession l fun t =>
    let u := (t.setSessions l (t.sessionsOf l - 1)).spdm l 0x6C []
    if t.sessionsOf l = 1 then u.modSec fun m => { m with generated := Bank.drop (fun k => k / 8 == l) m.generated } else u)

/-- The stream is offered on link l (R410): stream 5, CXL IDE, only on TYPE2 and TYPE3. -/
def State.streamOffered (s : State) (l stream : Nat) : Bool := stream != 5 || s.personality l != 0

/-- IDE_KEY_RETRIEVE (R576): a key of the DRBG for the stream, within a session. -/
def execIdeKeyRetrieve (l : Fin 16) (stream : Fin 6) (s : State) : Out :=
  .next (s.inSession l fun t =>
    if !t.streamOffered l stream then t.spdmError l SPDM_INVALID
    else
      let key := t.random 32
      (t.drew.modSec fun m => { m with generated := Bank.set (fun _ => []) m.generated (8 * l + stream) key }).spdm l 0x1FE key)

/-- KEY_PROG (R576): refused for a key that the module did not generate for the stream and session; the stream is then Secure. -/
def execKeyProg (l : Fin 16) (stream : Fin 6) (key : BitVec 256) (s : State) : Out :=
  .next (s.inSession l fun t =>
    let given := Bank.get (fun _ => []) t.sec.generated (8 * l + stream)
    if given.isEmpty || given ≠ leBytes 32 key.toNat then t.spdmError l SPDM_INVALID
    else
      let u := t.modSec fun m => { m with ideKeys := Bank.set (fun _ => []) m.ideKeys (8 * l + stream) given }
      let u := u.modHostLink l fun k => { k with secure := putBits k.secure stream stream 1, refusing := putBits k.refusing stream stream 0 }
      (if stream.val = 0 then u.setFld (F.LINK_STATUS_IDE_SECURE (l / 4) (l % 4)) 1 else u).spdm l 0x1FF [])

end Sys2Proof.Machine
end

