-- ==== Sys2Proof/Machine/Governor.lean ====
section
/-! DEFINITION. The governor commands (17_governor): readings, regulators, pumps and fans, the control law, the shared cap,
emergency thermal stop, and group 0x05 of the Cykai protocol. -/

namespace Sys2Proof.Machine

/-! ## Emergency thermal stop (R620 to R622) -/

/-- STOP_CAUSE (R625). -/
def STOP_TEMP : Nat := 1
def STOP_COMMAND : Nat := 2
def STOP_VFAB : Nat := 3
def STOP_HBM : Nat := 4
def STOP_REGULATOR : Nat := 5
def STOP_SENSOR : Nat := 6
def STOP_OTHER : Nat := 7

/-- The loads of half h's scheduler and agent pan that wait for an island floor end under R36; a PAN_LOAD command ends by itself. -/
def State.dropFloorWaits (s : State) (h : Nat) : State :=
  s.each [1, 2] fun m t => match t.load (loadKey h m) with
    | some j => if j.waitFloor && !t.atFloor h j.floor then t.dropLoad h m 15 else t
    | none => t

/-- The effects of a stop on work in progress (R35, R37, R514): LONG commands of every controller that half h reaches, the image
load, waits for floors, and self-test slices. -/
def State.stopEnds (s : State) (h : Nat) : State :=
  let t := s.abortAll (fun j => j.half == h || s.causewayUp h) ABORT_THERMAL
  let t := (t.dropFloorWaits h).abortImage
  let t := t.each (pansOf h) fun n u => u.setHold n (F.PAN_SLUICE_STATUS_HOLD_THERMAL n)
  t.each (pansOf h) fun n u => u.abandonSlice n true

/-- Emergency thermal stop starts in half h with this cause, unless one is in force (R620, R621). -/
def State.thermalStop (s : State) (h cause : Nat) : State :=
  if s.stopped h then s
  else
    let t := s.setFlds [(F.GOV_STATUS_STOP h, 1), (F.GOV_STATUS_STOP_CAUSE h, cause), (F.GOV_STATUS_VFAB_MV h, 550),
      (F.GOV_STATUS_LIMITER h, 6), (F.GOV_STATUS_SLICES h, 0)]
    let t := (t.stopEnds h).setDuty h 100
    let t := t.each ((List.range 8).map (h * 8 + ·)) fun l u => u.mbxEvent l 0
    (((t.govRaise h ERROR 8 0).assertErr h).setStanding h 0 true).settle

/-- A VFAB slot of half h is in FAULT (R604, R622). -/
def State.fabFault (s : State) (h : Nat) : Bool := (List.range 8).any fun r => s.fabSlot h r && s.fld (F.GOV_REG_STATUS_STATE h r) == 3

/-- The stop condition of half h holds (R622). -/
def State.stopCondition (s : State) (h : Nat) : Bool :=
  (s.gov h).hot || (s.gov h).windowBad || decide (105 ≤ s.fld (F.MEM_HBM_STATUS_TEMP h)) || s.fabFault h || decide (4 < s.failedSensors h)

/-- The stop of half h clears (R622). -/
def State.clearStop (s : State) (h : Nat) : State :=
  if !s.stopped h then s
  else
    let t := (s.setFld (F.GOV_STATUS_STOP h) 0).setStanding h 0 false
    let t := t.each (pansOf h) fun n u => u.clearHold n (F.PAN_SLUICE_STATUS_HOLD_THERMAL n)
    let t := t.each ((List.range 8).map (h * 8 + ·)) fun l u => u.mbxEvent l 0
    (t.testPump h).settle

/-- The halves that an action on the device reaches from half h (R620, R622). -/
def State.reached (s : State) (h : Nat) : List Nat := if s.causewayUp h then [0, 1] else [h]

/-! ## Readings (R599 to R604) -/

/-- Sensor k of half h fails (R602). -/
def State.sensorFails (s : State) (h k : Nat) : State :=
  if !s.sensorValid h k then s
  else ((s.setFld (F.GOV_TSENSE_FAILED h k) 1).govRaise h ERROR 1 k).showTj h

/-- More than 4 failed sensors start a stop (R602). -/
def State.sensorStop (s : State) (h : Nat) : State := if 4 < s.failedSensors h then s.thermalStop h STOP_SENSOR else s

/-- A valid sensor at TSTOP starts a stop, and the temperature stands until every valid sensor is 10 °C lower (R620, R622). -/
def State.tempStop (s : State) (h : Nat) : State :=
  let l := s.validTemps h
  let stop : Int := 8 * s.fld (F.GOV_LIMITS_TSTOP h)
  if l.any fun t => decide (stop ≤ t) then (s.modGov h fun g => { g with hot := true }).thermalStop h STOP_TEMP
  else if l.all fun t => decide (t ≤ stop - 80) then s.modGov h fun g => { g with hot := false }
  else s

/-- The readings of one sample, from sensor k on. -/
def State.takeTemps (s : State) (h k : Nat) : List (BitVec 16) → State
  | [] => s
  | v :: r => if k < 64 then (s.setFld (F.GOV_TSENSE_TEMP h k) v.toNat).takeTemps h (k + 1) r else s

/-- GOV_TSENSE_SAMPLE (R599, R602, R603, R620). -/
def execGovTsenseSample (h : Fin 2) (temps : List (BitVec 16)) (s : State) : Out :=
  .next (
    let t := s.takeTemps h 0 temps
    let t := t.each (List.range 64) fun k u => if u.sensorTemp h k < -480 || 1280 < u.sensorTemp h k then u.sensorFails h k else u
    ((t.showTj h).tempStop h).sensorStop h)

/-- SENSOR_DISAGREE_EXPIRY (R602): the sensor differs from each of its neighbours by more than 40 °C. -/
def execSensorDisagreeExpiry (h : Fin 2) (k : Fin 64) (s : State) : Out :=
  .next (
    let near := (if k.val = 0 then [] else [k.val - 1]) ++ (if k.val = 63 then [] else [k.val + 1])
    let far (j : Nat) : Bool := decide (320 < (s.sensorTemp h k - s.sensorTemp h j).natAbs)
    if near.all far then (s.sensorFails h k).sensorStop h else s)

/-- RATE_MONITOR_WINDOW (R599): a gated pan's monitor reads 0. -/
def execRateMonitorWindow (n : Fin 256) (rate : BitVec 12) (s : State) : Out :=
  .next (s.modGov (halfOfPan n) fun g => { g with monitors := Bank.set (fun _ => 0) g.monitors (n.val % 128) (if s.power n = 2 then 0 else rate.toNat) })

/-- TOKEN_RATE_PUBLISH (R27, R162): every pan's figure is published and accepted by the scheduler; a gated pan's is 0. -/
def execTokenRatePublish (h : Fin 2) (s : State) : Out :=
  .next (s.each (pansOf h) fun n t =>
    let v := if t.power n = 2 then 0 else Bank.get (fun _ => 0) (t.gov h).monitors (n % 128)
    (t.setFld (F.GOV_RATE_RATE h (n % 128)) v).modSched h fun c => { c with rates := Bank.set (fun _ => 0) c.rates n (v + 1) })

/-- An external input takes a conversion (R600, R601); a value outside its field is a free value. -/
def State.takeCode (s : State) (h i code : Nat) : State :=
  let v : Int := sgn 16 (s.fld (F.GOV_AIN_CAL_OFFSET h i)) + sgn 16 (s.fld (F.GOV_AIN_CAL_GAIN h i)) * code / 4096
  let t := s.setFld (F.GOV_AIN_VAL_CODE h i) code
  if -32768 ≤ v && v ≤ 32767 then t.setFld (F.GOV_AIN_VAL_VALUE h i) (uns 16 v) else t.useFree.setFld (F.GOV_AIN_VAL_VALUE h i) t.freeVal

/-- ADC_CONVERSION (R600): channels 13 to 15 read 0, and so does an external input with no pin; a sensed VFAB back inside the window
of R606 ends that condition. -/
def execAdcConversion (h : Fin 2) (c : Fin 24) (code : BitVec 12) (s : State) : Out :=
  .next (
    let none' := (13 ≤ c.val && c.val < 16) || (16 ≤ c.val && (s.signalPin h 8 (c.val - 16)).isNone)
    let v := if none' then 0 else code.toNat
    let t := s.setFld (F.GOV_ADC_CODE h c) v
    if 16 ≤ c.val then t.takeCode h (c.val - 16) v
    else if c.val = 0 && 1060 ≤ v && v ≤ 1940 then t.modGov h fun g => { g with windowBad := false }
    else t)

/-- HBM_TEMPERATURE_READ (R369, R620). -/
def execHbmTemperatureRead (h : Fin 2) (temp : Byte) (s : State) : Out :=
  .next (
    let t := s.setFld (F.MEM_HBM_STATUS_TEMP h) temp.toNat
    if 105 ≤ temp.toNat then t.thermalStop h STOP_HBM else t)

/-! ## Regulators (R604 to R607) -/

/-- The state a polled STATUS_WORD gives (PRESUMED bits of the PMBus standard): OFF and the over-voltage, over-current and
under-voltage faults are faults; any other bit but BUSY is a warning. -/
def polledState (w : Nat) : Nat :=
  if bitsOf w 6 3 ≠ 0 then 3 else if putBits w 7 7 0 ≠ 0 then 2 else 1

/-- Slot r of half h takes a state: a WARN or a FAULT newly entered is reported, and a FAULT on VFAB starts a stop (R604). -/
def State.setSlotState (s : State) (h r st : Nat) : State :=
  let was := s.fld (F.GOV_REG_STATUS_STATE h r)
  let t := s.setFld (F.GOV_REG_STATUS_STATE h r) st
  let t := if st = was then t else if st = 2 then t.govRaise h NOTICE 4 r else if st = 3 then t.govRaise h ERROR 4 r else t
  if st = 3 && t.fabSlot h r then t.thermalStop h STOP_REGULATOR else t

/-- REGULATOR_POLL (R604). A bus whose clock or data no pin carries, or several do, acknowledges nothing (R640, R649). -/
def execRegulatorPoll (h : Fin 2) (r : Fin 8) (acked : Bool) (status : BitVec 16) (iout : BitVec 12) (pout : BitVec 16) (s : State) : Out :=
  .next (
    if !s.on (F.GOV_REG_CFG_EN h r) then s
    else if acked && (s.signalPin h 7 6).isSome && (s.signalPin h 7 7).isSome then
      let t := s.setFlds [(F.GOV_REG_STATUS_STATUS_WORD h r, status.toNat), (F.GOV_REG_STATUS_IOUT h r, iout.toNat)]
      let t := t.modSlot h r fun x => { x with pout := pout.toNat, naks := 0 }
      (t.setSlotState h r (polledState status.toNat)).showPower h
    else
      let t := s.modSlot h r fun x => { x with naks := min 3 (x.naks + 1) }
      if 3 ≤ (t.slot h r).naks then t.setSlotState h r 3 else t)

/-- The AVSBus writes that slot r of half h still needs to reach the target (R605, R607). -/
def State.writesDue (s : State) (h r : Nat) : Nat :=
  let d := ((s.fld (F.GOV_STATUS_VFAB_MV h) : Int) - (s.gov h).rail).natAbs
  if s.avsSlot h r then (d + 9) / 10 else 0

/-- EN of slot r of half h is written 0 (R607): none where the write is refused, else whether the slot drains. -/
def State.disableSlot (s : State) (h r : Nat) : Option State :=
  if s.avsSlot h r && !((List.range 8).any fun k => k != r && s.avsSlot h k) then none
  else if !s.on (F.GOV_REG_CFG_EN h r) then some s
  else
    let n := s.writesDue h r
    let t := (s.setFld (F.GOV_REG_CFG_EN h r) 0).modSlot h r fun x => { x with queued := n, drain := some n, naks := 0, pout := 0 }
    let t := t.showPower h
    some (if n = 0 || t.fld (F.GOV_DRAIN_DRAIN_US h) = 0 then t.endSlot h r else t)

/-- REG_SLOT_DISABLE (R607). -/
def execRegSlotDisable (h : Fin 2) (r : Fin 8) (s : State) : Out := .next ((s.disableSlot h r).getD (s.reply .refused))

/-- REG_SLOT_DRAIN_TIMEOUT (R607, R33). -/
def execRegSlotDrainTimeout (h : Fin 2) (r : Fin 8) (s : State) : Out := .next (s.endSlot h r)

/-- A write leaves on the AVSBus interface of slot r with its rail select, where pins carry its clock and its data (R604, R638). -/
def State.avsSend (s : State) (h r mv : Nat) : State :=
  let bus := s.fld (F.GOV_REG_CFG_AVS_BUS h r)
  if (s.signalPins h 7 (3 * bus)).isEmpty || (s.signalPins h 7 (3 * bus + 1)).isEmpty then s
  else s.send (.line 0x200 [h, bus, s.fld (F.GOV_REG_CFG_AVS_RAIL h r), mv])

/-- Slot r of half h is written over AVSBus: the write leaves the part, and a slot that drains has one transaction fewer. -/
def State.avsWrite (s : State) (h r mv : Nat) : State :=
  if s.avsSlot h r then s.avsSend h r mv
  else match (s.slot h r).drain with
    | some _ =>
      let t := (s.avsSend h r mv).modSlot h r fun x => { x with queued := x.queued - 1 }
      if (t.slot h r).queued = 0 then t.endSlot h r else t
    | none => s

/-- Where the AVSBus writes of half h take the rail: the target, and never below a loaded island floor except in emergency thermal
stop (R113). -/
def State.vfabGoal (s : State) (h : Nat) : Nat :=
  if s.stopped h then s.fld (F.GOV_STATUS_VFAB_MV h) else max (s.fld (F.GOV_STATUS_VFAB_MV h)) (s.islandFloor h)

/-- VFAB_STEP (R605): one AVSBus write of at most 10 mV toward the target. -/
def execVfabStep (h : Fin 2) (s : State) : Out :=
  .next (
    let now := (s.gov h).rail
    let goal := s.vfabGoal h
    let mv := if now < goal then min (now + 10) goal else max (now - 10) goal
    if now = goal then s
    else (List.range 8).foldl (fun t r => t.avsWrite h r mv) (s.modGov h fun g => { g with rail := mv }))

/-- VFAB_TRACK_FAULT (R605): the sensed rail stays more than 25 mV from the target reached. -/
def execVfabTrackFault (h : Fin 2) (r : Fin 8) (s : State) : Out :=
  .next (
    let goal := s.fld (F.GOV_STATUS_VFAB_MV h)
    let off := ((s.fld (F.GOV_ADC_CODE h 0) : Int) - 2 * goal).natAbs
    if s.avsSlot h r && (s.gov h).rail == goal && decide (50 < off) then s.setSlotState h r 3 else s)

/-- VFAB_OUT_OF_RANGE (R606). -/
def execVfabOutOfRange (h : Fin 2) (s : State) : Out :=
  .next (((s.modGov h fun g => { g with windowBad := true }).govRaise h FATAL 5 0).thermalStop h STOP_VFAB)

/-! ## Pumps and fans (R608, R609, R613) -/

/-- Channel j of half h has a tachometer (R609, R631). -/
def State.hasTach (s : State) (h j : Nat) : Bool := decide (1 ≤ s.fld (F.GOV_FAN_PPR h j)) && decide (s.fld (F.GOV_FAN_PPR h j) ≤ 4)

/-- A pump loss begins in half h, at channel k where one began it (R613). -/
def State.pumpLoss (s : State) (h k : Nat) : State :=
  if s.on (F.GOV_STATUS_PUMP_LOSS h) then s
  else
    let t := ((s.setFld (F.GOV_STATUS_PUMP_LOSS h) 1).govRaise h ERROR 3 k).setDuty h 100
    t.setShare h (t.fld (F.GOV_CAP_SHARE_W h))

/-- TACH_MEASURE (R609): a speed of 300 rpm or more ends a stall. A tachometer that no pin carries, or several do, gives no pulses
(R649). -/
def execTachMeasure (h : Fin 2) (j : Fin 4) (rpm : Word) (s : State) : Out :=
  .next (
    if !s.hasTach h j then s
    else
      let v := if (s.signalPin h 6 j).isSome then rpm.toNat else 0
      let t := s.setFld (F.GOV_FAN_RPM h j) (min 65535 v)
      if 300 ≤ v then t.modGov h fun g => { g with stalled := g.stalled.filter (· != j.val) } else t)

/-- FAN_STALL (R609). -/
def execFanStall (h : Fin 2) (j : Fin 4) (s : State) : Out :=
  .next (
    let least := min 100 (s.fld (F.GOV_COOL_DUTY_MIN h))
    if !s.hasTach h j || s.fld (F.GOV_FAN_ROLE h j) = 0 || 300 ≤ s.fld (F.GOV_FAN_RPM h j) || s.fld (F.GOV_FAN_DUTY h j) < least ||
      (s.gov h).stalled.contains j.val then s
    else
      let t := (s.modGov h fun g => { g with stalled := g.stalled ++ [j.val] }).setFld (F.GOV_FAN_STALL h j) 1
      let t := t.govRaise h ERROR 2 j
      if t.fld (F.GOV_FAN_ROLE h j) = 2 then t.pumpLoss h j else t)

/-- A FLOW input of half h is below its LOW_CODE (R613). -/
def State.flowLow (s : State) (h i : Nat) : Bool :=
  s.fld (F.GOV_AIN_CFG_ROLE h i) == 3 && decide (s.fld (F.GOV_AIN_VAL_CODE h i) < s.fld (F.GOV_AIN_CFG_LOW_CODE h i))

/-- FLOW_LOW_EXPIRY (R613): the spec names no channel for its report. -/
def execFlowLowExpiry (h : Fin 2) (i : Fin 8) (s : State) : Out :=
  .next (if s.flowLow h i then s.useFree.pumpLoss h (s.freeVal % 64) else s)

/-- PUMP_LOSS_END (R613). -/
def execPumpLossEnd (h : Fin 2) (s : State) : Out :=
  .next (
    let stalls := (s.gov h).stalled.any fun j => s.fld (F.GOV_FAN_ROLE h j) == 2
    if stalls || (List.range 8).any (s.flowLow h) then s else s.setFld (F.GOV_STATUS_PUMP_LOSS h) 0)

/-! ## The control law (R610 to R614, R618, R619) -/

/-- THERMAL_MODEL_UPDATE (R610, R611). -/
def execThermalModelUpdate (h : Fin 2) (s : State) : Out := .next (s.modelUpdate h)

/-- VFAB_TARGET_UPDATE (R608, R611, R612, R614). -/
def execVfabTargetUpdate (h : Fin 2) (s : State) : Out := .next (s.targetUpdate h)

/-- CAP_SHARE_UPDATE (R618, R619): the halves exchange demand and shares while a causeway group is UP; without the exchange each half
keeps its share, and half the cap once 10 ms have passed. -/
def execCapShareUpdate (s : State) : Out :=
  .next (
    if s.causewayUp 0 && s.causewayUp 1 then
      let w := s.shares
      (([0, 1].foldl (fun t h => t.modGov h fun g => { g with noExchange := false }) s).setShare 0 w.1).setShare 1 w.2
    else [0, 1].foldl (fun t h => t.setShare h (if (t.gov h).noExchange then t.halfCap h else t.fld (F.GOV_CAP_SHARE_W h))) s)

/-- CAP_EXCHANGE_LOST (R618). -/
def execCapExchangeLost (h : Fin 2) (s : State) : Out :=
  .next ((s.modGov h fun g => { g with noExchange := true }).setShare h (s.halfCap h))

/-- THERMAL_AUTO_CLEAR (R622). -/
def execThermalAutoClear (s : State) : Out :=
  .next (if !s.stopCondition 0 && !s.stopCondition 1 then
    [0, 1].foldl (fun t h => if t.on (F.GOV_CTL_AUTO_CLEAR h) then t.clearStop h else t) s else s)

/-- What INJECT raises for a kind (R633): its class, its code and its units. -/
def govKind (k : Nat) : Option (Nat × Nat × Nat) :=
  match k with
  | 0 => some (ERROR, 1, 64)
  | 1 => some (ERROR, 2, 4)
  | 2 => some (ERROR, 3, 4)
  | 3 => some (ERROR, 4, 8)
  | 4 => some (FATAL, 5, 1)
  | 5 => some (NOTICE, 6, 1)
  | _ => none

/-- GOV_INJECT of half h takes a kind and a unit with INJECT (R633). -/
def State.govInjectWrite (s : State) (h kind unit : Nat) : State :=
  let t := s.setFlds [(F.GOV_INJECT_INJ_KIND h, kind), (F.GOV_INJECT_INJ_UNIT h, unit)]
  match govKind kind with
  | some (cls, code, n) => if unit < n then t.govRaise h cls code unit true else t.setFld (F.GOV_INJECT_INJ_REFUSED h) 1
  | none => t.setFld (F.GOV_INJECT_INJ_REFUSED h) 1

/-- GOV_INJECT (R633). -/
def execGovInject (h : Fin 2) (kind : Fin 8) (unit : Fin 64) (s : State) : Out := .next (s.govInjectWrite h kind unit)

/-! ## Group 0x05 (R525) -/

/-- Write a device-wide governor field from half h (R616, the paragraph before R624). -/
def State.govWide (s : State) (h : Nat) (f : Nat → Fld) (v : Nat) : State := (s.reached h).foldl (fun t k => t.setFld (f k) v) s

/-- The checks of GOV_PROFILE (R32, R617). -/
def State.profileRefused (s : State) (p : Nat) : Option Nat :=
  if s.on F.SEC_STATUS_APPROVED && p ≠ 4 then some S_APPROVED
  else if p = 4 && (s.fld (F.GOV_FIXED_VFAB_MV 0) < s.loadedFloor || s.fld (F.GOV_FIXED_VFAB_MV 1) < s.loadedFloor) then some S_STATE
  else none

def cmdGovProfile : Cmd where
  opcode := 0x0500
  cls := .short
  scopes := [0]
  size := fun _ => 4
  fields := [rangeField 0 1 0 4, zeroField 1 3]
  check := fun s r => (s.profileRefused (r.p.u8 0)).bind fun st => refusal st
  run := fun s r => ok (s.govWide r.half F.GOV_CTL_PROFILE (r.p.u8 0))

/-- GOV_PROFILE (R616). -/
def execGovProfile (p : Packet) (s : State) : Out := .next (s.deliver cmdGovProfile p)

def cmdGovCap : Cmd where
  opcode := 0x0501
  cls := .short
  scopes := [0]
  size := fun _ => 4
  fields := [rangeField 0 2 60 400, zeroField 2 2]
  run := fun s r => ok (s.govWide r.half F.GOV_CAP_CAP_W (r.p.u16 0))

/-- GOV_CAP (R525). -/
def execGovCap (p : Packet) (s : State) : Out := .next (s.deliver cmdGovCap p)

/-- VFAB_MV of FIXED: 550 to 950 in steps of 10 (R627). -/
def fixedMvOk (v : Nat) : Bool := decide (550 ≤ v) && decide (v ≤ 950) && v % 10 == 0

def cmdGovFixed : Cmd where
  opcode := 0x0502
  cls := .short
  scopes := [0]
  size := fun _ => 4
  fields := [{ off := 0, len := 2, ok := fun _ r => fixedMvOk (r.p.u16 0) }, rangeField 2 1 0 100, zeroField 3 1]
  check := fun s r => if r.p.u16 0 < s.loadedFloor then refusal S_STATE else none
  run := fun s r => ok ((s.govWide r.half F.GOV_FIXED_VFAB_MV (r.p.u16 0)).govWide r.half F.GOV_FIXED_DUTY (r.p.u8 2))

/-- GOV_FIXED (R617). -/
def execGovFixed (p : Packet) (s : State) : Out := .next (s.deliver cmdGovFixed p)

def cmdGovTarget : Cmd where
  opcode := 0x0503
  cls := .short
  scopes := [1]
  size := fun _ => 4
  fields := [rangeField 0 4 660 2500]
  run := fun s r => ok (s.setFld (F.GOV_TARGET_RATE r.idx) (r.p.u32 0))

/-- GOV_TARGET (R525). -/
def execGovTarget (p : Packet) (s : State) : Out := .next (s.deliver cmdGovTarget p)

/-- The result of GOV_STATUS (R525). The rates of a half with no rated pan are free values. -/
def State.govStatusResult (s : State) (h : Nat) : List Byte :=
  let whole (v d : Int) : Int := qdiv v d
  leBytes 2 (s.fld (F.GOV_STATUS_VFAB_MV h)) ++ leBytes 2 (uns 16 (whole (sgn 16 (s.fld (F.GOV_POWER_TJ h))) 8)) ++
    leBytes 2 (whole (s.fld (F.GOV_POWER_POWER_DW h)) 10).toNat ++ leBytes 1 (s.fld (F.GOV_CTL_PROFILE h)) ++
    leBytes 1 (s.fld (F.GOV_STATUS_STOP h) + 2 * s.fld (F.GOV_STATUS_AT_CAP h)) ++
    leBytes 4 ((s.rateMin h).getD s.freeVal) ++ leBytes 4 ((s.rateMax h).getD s.freeVal)

def cmdGovStatus : Cmd where
  opcode := 0x0504
  cls := .read
  scopes := [1]
  size := fun _ => 0
  run := fun s r => ok (if (s.ratedPans r.idx).isEmpty then s.useFree else s) (s.govStatusResult r.idx)

/-- GOV_STATUS (R525). -/
def execGovStatus (p : Packet) (s : State) : Out := .next (s.deliver cmdGovStatus p)

def cmdThermalStop : Cmd where
  opcode := 0x0505
  cls := .urgent
  scopes := [0]
  size := fun _ => 0
  check := fun s r => if (s.reached r.half).all s.stopped then already else none
  run := fun s r => ok ((s.reached r.half).foldl (fun t h => t.thermalStop h STOP_COMMAND) s)

/-- THERMAL_STOP (R620). -/
def execThermalStop (p : Packet) (s : State) : Out := .next (s.deliver cmdThermalStop p)

def cmdThermalClear : Cmd where
  opcode := 0x0506
  cls := .short
  scopes := [0]
  size := fun _ => 0
  check := fun s r => if !(s.reached r.half).any s.stopped then already
    else if (s.reached r.half).any s.stopCondition then refusal S_STATE else none
  run := fun s r => ok ((s.reached r.half).foldl (fun t h => t.clearStop h) s)

/-- THERMAL_CLEAR (R622). -/
def execThermalClear (p : Packet) (s : State) : Out := .next (s.deliver cmdThermalClear p)

end Sys2Proof.Machine
end

