-- ==== Sys2Proof/Machine/Causeway.lean ====
section
/-! DEFINITION. The causeway commands (13_causeway_and_split): flits and link groups, retirement and reset, the heartbeat, the split
and the rejoin, injections, and group 0x0B of the Cykai protocol. -/

namespace Sys2Proof.Machine

/-! ## Reports -/

/-- A causeway report of half h; where R660 states no context it is a free value. -/
def State.cswReport (s : State) (h cls code : Nat) (inj : Bool := false) : State :=
  s.useFree.raise { half := h, cls := cls, src := 13, code := code, unit := h, ctx := s.freeVal, inj := inj }

/-! ## Link groups (R472 to R477) -/

/-- A CRC failure of a flit that half h receives on group g (R472, R475). -/
def State.crcFails (s : State) (h g : Nat) (inj : Bool) : State :=
  let now := s.ns.toNat
  let w := now :: ((s.cswGroup g).crcAt.filter fun x => decide (now < x + 1000000))
  let t := s.each [0, 1] fun k u => u.count (F.CSW_GROUP_STATUS_CRC k g) none
  let t := t.modCswGroup (4 * h + g) fun k => { k with replay := min 256 (k.replay + 1) }
  let t := t.modCswGroup g fun k => { k with crcAt := if 64 < w.length then [] else w }
  if 64 < w.length then t.retireByRate g inj else t

/-- CSW_FLIT_RECEIVE (R472). -/
def execCswFlitReceive (h : Fin 2) (g : Fin 4) (good : Bool) (s : State) : Out :=
  .next (
    let arm := (s.cswGroup g).armCrc
    if !s.groupUp g then s
    else if arm || !good then
      (if arm then (s.modCswGroup g fun k => { k with armCrc := false }).cswSet h F.CSW_INJECT_INJECT 0 else s).crcFails h g arm
    else (s.modCswGroup (4 * h.val + g.val) fun k => { k with replay := k.replay - 1 }).retireIfDrained)

/-- Group g loses lock (R473 to R475): its flits are resent, and the fourth entry into TRAINING within 1 s retires it. -/
def State.loseLock (s : State) (g : Nat) (inj : Bool) : State :=
  let now := s.ns.toNat
  let w := now :: ((s.cswGroup g).lossAt.filter fun x => decide (now < x + 1000000000))
  let t := (s.modCswGroup g fun k => { k with lossAt := if 4 ≤ w.length then [] else w }).dropFlits g
  let only := s.onlyUp g
  let t := t.groupTrains g
  (if w.length < 4 then t else if only then t.reportRetired g 1 inj else t.retireGroup g 1 inj).retireIfDrained

/-- CSW_GROUP_LOCK_LOSS (R473). -/
def execCswGroupLockLoss (g : Fin 4) (s : State) : Out := .next (if s.groupUp g then s.loseLock g false else s)

/-- A causeway reset runs (R477). -/
def State.restoring (s : State) : Bool := s.fld (F.CSW_STATUS_STATE 0) == 5 || s.fld (F.CSW_STATUS_STATE 1) == 5

/-- What waited for a group crosses (R474, R477). -/
def State.crossSettle (s : State) : State := ((s.pumpAll).cohSettle 0).cohSettle 1

/-- CSW_TRAINING_END (R473); the groups of a causeway reset end with it (R477). -/
def execCswTrainingEnd (g : Fin 4) (trained : Bool) (s : State) : Out :=
  .next (if s.groupState g = G_TRAINING && !s.restoring then (s.setGroup g (if trained then G_UP else G_DOWN)).settle.crossSettle else s)

/-- CSW_GROUP_RETRY (R473). -/
def execCswGroupRetry (g : Fin 4) (s : State) : Out := .next (if s.groupState g = G_DOWN then s.groupTrains g else s)

/-- CSW_RETIRE_TIMEOUT (R476). -/
def execCswRetireTimeout (h : Fin 2) (s : State) : Out := .next (s.endRetire h)

/-- CSW_RESTORE_DONE (R477): groups that have not trained take DOWN, and a split stands as before. -/
def execCswRestoreDone (mask : BitVec 4) (s : State) : Out :=
  .next (
    if !s.restoring then s
    else
      let t := s.each [0, 1] fun h u => if u.fld (F.CSW_STATUS_STATE h) = 5 then u.setFlds [(F.CSW_STATUS_STATE h, (u.cswHalf h).was), (F.CSW_CTL_RESTORE h, 0)] else u
      let t := t.each [0, 1, 2, 3] fun g u => u.setGroup g (if mask.getLsbD g then G_UP else G_DOWN)
      (t.endJobs (fun j => j.opcode == 0x0B03) OK 0 (leBytes 1 t.groupsUp ++ leBytes 3 0)).settle.crossSettle)

/-- CSW_XHOME_TIMEOUT (R530). -/
def execCswXhomeTimeout (h : Fin 2) (s : State) : Out := .next (s.endJobs (fun j => j.opcode == 0x0B01 && j.half == h.val) S_STATE 0 [])

/-! ## The records of R483 -/

/-- A queue block is bound to a core or a host port of the other half (R157). -/
def State.bindsAcross (s : State) : Bool :=
  s.queues.any fun p => (p.2.kind == 1 && p.2.index / 8 != halfOfQueue p.1) || (p.2.kind == 3 && p.2.index / 2 != halfOfQueue p.1)

/-- The conditions 3 to 7 of R483 that fail in half h's records, as XDEP shows them (R492). -/
def State.xdep (s : State) (h : Nat) : Nat :=
  bnat (s.links.any fun l => s.home l.srcGraph != s.home l.dstGraph) +
    2 * bnat ((List.range 16).any fun l => (s.hostLink l).extents.any fun e => e.half != l / 8) +
    4 * bnat ([0, 1].any fun k => s.on (F.PORT_ROUTE_EN k) && s.fld (F.PORT_ROUTE_PORT k) / 2 != k) +
    8 * bnat s.bindsAcross + 16 * bnat (!s.on (F.CSW_CTL_XHOME_BLOCK h))

/-! ## The heartbeat (R480, R481) -/

/-- HEARTBEAT_SEND (R480). -/
def execHeartbeatSend (h : Fin 2) (s : State) : Out :=
  .next (
    let ok := s.xdep h == 0
    let b : Beat := { policy := s.on (F.CSW_CTL_POLICY h), bothOk := ok, thermal := s.stopped h, zeroize := s.sec.zeroizing != 0 }
    s.modCswHalf h fun k => { k with wire := some b, sentOk := ok })

/-- A valid heartbeat word reaches half h (R480, R481). -/
def State.hear (s : State) (h : Nat) (b : Beat) : State :=
  let t := (s.modCswHalf h fun k => { k with policy := b.policy, bothOk := b.bothOk, drop := 0 }).setFld (F.CSW_STATUS_HB_OK h) 1
  let t := if b.zeroize && t.sec.zeroizing = 0 then t.startZeroize 0 else t
  if b.thermal then t.thermalStop h STOP_OTHER else t

/-- HEARTBEAT_RECEIVE (R481): the other half's word arrives, unless the injection of R495 drops it. -/
def execHeartbeatReceive (h : Fin 2) (s : State) : Out :=
  .next (match (s.cswHalf (1 - h.val)).wire with
    | none => s
    | some b =>
      let t := s.modCswHalf (1 - h.val) fun k => { k with wire := none }
      if 1 < (t.cswHalf h).drop then t.modCswHalf h fun k => { k with drop := k.drop - 1 } else t.hear h b)

/-- HEARTBEAT_LOSS (R480): with a group UP the heartbeat also travels there, and only a NOTICE follows. -/
def execHeartbeatLoss (h : Fin 2) (s : State) : Out :=
  .next (
    let inj := (s.cswHalf h).drop != 0
    let t := s.modCswHalf h fun k => { k with drop := 0 }
    if s.groupsUp ≠ 0 then t.cswReport h NOTICE 2 inj else t.setFld (F.CSW_STATUS_HB_OK h) 0)

/-! ## The split (R482 to R487) -/

/-- Half h takes BOTH_CONTINUE (R483). -/
def State.bothContinue (s : State) (h : Nat) : Bool :=
  let k := s.cswHalf h
  s.on (F.CSW_CTL_POLICY h) && k.policy && k.sentOk && k.bothOk && s.xdep h == 0

/-- The cores of the other half, as a mask (R437). -/
def farCores (h : Nat) : Nat := if h = 0 then 0xFF00 else 0x00FF

/-- Lines of half h's stack that cores of the other half hold. -/
def State.farHeld (s : State) (h : Nat) : List Nat :=
  (s.coreFilter.filter fun p => p.1 / 2 ^ 58 == h && p.2 &&& farCores h != 0 && s.homeOf (p.1 % 2 ^ 58) == some h).map fun p => p.1 % 2 ^ 58

/-- A core of the other half holds the line exclusive or modified. -/
def State.farOwned (s : State) (h line : Nat) : Bool :=
  (bitsIn (s.holders h line &&& farCores h)).any fun c => decide (2 ≤ (s.core c).holds line)

/-- Lines of half h that wait for the other half: a snoop of its cores outstanding, or a request of theirs held or active. -/
def State.farWaits (s : State) (h : Nat) : List Nat :=
  let far (w : Nat) : Bool := decide (w < 16) && w / 8 != h
  (s.cohLines.filter fun p => p.1 / 2 ^ 58 == 2 * h && (p.2.snoops &&& farCores h != 0 || p.2.held.any (fun q => far q.who) || (p.2.who.map far).getD false)).map fun p => p.1 % 2 ^ 58

/-- Requests of the other half's cores end as unmapped, and the snoops that they owe are ended (R485 item 1). -/
def State.cutLine (s : State) (h line : Nat) : State :=
  let far (w : Nat) : Bool := decide (w < 16) && w / 8 != h
  let x := s.lineOf h 0 line
  let lost := (x.held.filter fun q => far q.who).map (·.who) ++ (match x.who with | some w => if far w then [w] else [] | none => [])
  let t := s.modLine h 0 line fun y => { y with held := y.held.filter fun q => !far q.who, who := y.who.bind fun w => if far w then none else some w }
  let t := lost.foldl (fun u c => u.unmappedNotice (.core (Fin.ofNat 16 c)) (lineAddr line)) t
  (bitsIn (x.snoops &&& farCores h)).foldl (fun u c => u.snoopAnswered h 0 c line none) t

/-- Half h's lines across the cut (R485 items 1 and 2); how many are poisoned comes beside. -/
def State.cutLines (s : State) (h : Nat) : State × Nat :=
  let owned := (s.farHeld h).filter (s.farOwned h)
  let held := s.farHeld h
  let t := s.each (s.farWaits h) fun line u => u.cutLine h line
  let t := t.each owned fun line u => match u.memKey (lineAddr line) with
    | some k => u.poisonWords k 64
    | none => u
  (t.each held fun line u => u.setHolders h line (u.holders h line &&& (0xFFFF - farCores h)), owned.length)

/-- The memory of a load stands in the other half. -/
def State.loadCrosses (s : State) (h m : Nat) : Bool :=
  match s.load (loadKey h m) with
  | some j => match s.region j.src with
    | .scratch g _ => decide (m < 2) && !j.embedded && g != h
    | .hbm g _ => decide (m < 2) && !j.embedded && g != h
    | _ => false
  | none => false

/-- A LONG command's work crosses the causeway (R514). -/
def State.jobCrosses (s : State) (h : Nat) (j : Job) : Bool :=
  j.half == h && (j.opcode == 0x0B01 || j.opcode == 0x0B02 || (j.opcode == 0x0100 && s.loadCrosses h 0))

/-- Loads and LONG commands that cross end (R485 item 3, R514), and commands forwarded to the other half are answered (R514). -/
def State.cutWork (s : State) (h : Nat) : State :=
  let crosses := s.loadCrosses h 1
  let t := s.abortAll (s.jobCrosses h) ABORT_CAUSEWAY
  let t := if crosses then t.dropLoad h 1 15 else t
  t.endJobs (fun j => receivingHalf j.via == h && j.half != h) S_HW_FAULT D_CAUSEWAY []

/-- Tokens on their way across stay in their producers' holds (R306, R485 item 4). -/
def State.holdTokens (s : State) : State :=
  { s with links := s.links.map fun l => if s.home l.srcGraph = s.home l.dstGraph then l else { l with hold := l.transit ++ l.hold, transit := [] } }

/-- The south half fences the links of ports 2 and 3 (R424, R486). -/
def State.fenceSouth (s : State) : State :=
  s.each ((List.range 8).map (8 + ·)) fun l t => (t.setFld (F.LINK_STATUS_FENCED (l / 4) (l % 4)) 1).mbxEvent l 5

/-- The split taken by half h (R485 to R487): state 2 CUT_HOLD, 3 CUT_BOTH or 4 HALF_LOST. -/
def State.takeSplit (s : State) (h st : Nat) : State :=
  let t := s.setFlds [(F.CSW_STATUS_STATE h, st), (F.CSW_STATUS_CUTS h, s.fld (F.CSW_STATUS_CUTS h) + 1)]
  let (t, n) := (t.cutCrossing h).cutLines h
  let t := ((t.cutWork h).holdTokens.modGov h fun g => { g with noExchange := true }).setShare h (t.halfCap h)
  let t := t.raise { half := h, cls := ERROR, src := 13, code := 3, unit := h, ctx := bnat (st == 3) + 2 * n }
  let t := (t.assertErr h).setStanding h 1 true
  let t := t.each ((List.range 8).map (h * 8 + ·)) fun l u => u.mbxEvent l 4
  let t := if h = 1 && st ≠ 3 then t.fenceSouth else t
  (if st = 4 then (t.cswReport h FATAL 4).setStanding h 3 true else t).settle

/-- CAUSEWAY_SPLIT (R482). -/
def execCausewaySplit (h : Fin 2) (s : State) : Out :=
  .next (
    if s.groupsUp ≠ 0 || s.isSplit h || s.fld (F.CSW_STATUS_STATE h) = 5 then s
    else s.takeSplit h (if !s.on (F.CSW_STATUS_HB_OK h) then 4 else if s.bothContinue h then 3 else 2))

/-! ## The rejoin (R488, R489) -/

/-- A rejoin is possible: both halves are split, neither is lost, and a group is UP. -/
def State.mayRejoin (s : State) : Bool :=
  s.groupsUp != 0 && !s.restoring && [0, 1].all fun h => decide (s.fld (F.CSW_STATUS_STATE h) ≤ 3)

/-- Device-wide settings follow the north half's copy (R489 items 1 and 5). -/
def State.mergeCopies (s : State) : State :=
  s.setFlds [(F.CSW_CTL_POLICY 1, s.fld (F.CSW_CTL_POLICY 0)), (F.CSW_CTL_AUTO_REJOIN 1, s.fld (F.CSW_CTL_AUTO_REJOIN 0)),
    (F.CSW_CTL_XHOME_BLOCK 1, s.fld (F.CSW_CTL_XHOME_BLOCK 0)), (F.CSW_DRAIN_DRAIN_US 1, s.fld (F.CSW_DRAIN_DRAIN_US 0)),
    (F.GOV_CTL_PROFILE 1, s.fld (F.GOV_CTL_PROFILE 0)), (F.GOV_CTL_AUTO_CLEAR 1, s.fld (F.GOV_CTL_AUTO_CLEAR 0)),
    (F.GOV_CAP_CAP_W 1, s.fld (F.GOV_CAP_CAP_W 0)), (F.GOV_FIXED_VFAB_MV 1, s.fld (F.GOV_FIXED_VFAB_MV 0)), (F.GOV_FIXED_DUTY 1, s.fld (F.GOV_FIXED_DUTY 0))]

/-- The rejoin (R489). -/
def State.rejoin (s : State) : State :=
  let t := s.mergeCopies.each [0, 1] fun h u =>
    (u.setFlds [(F.CSW_STATUS_STATE h, 0), (F.CSW_STATUS_REJOIN_READY h, 0), (F.CSW_CTL_REJOIN h, 0)]).setStanding h 1 false
  let t := t.showGroups.each ((List.range 8).map (8 + ·)) fun l u =>
    if u.on (F.LINK_STATUS_FENCED (l / 4) (l % 4)) then (u.setFld (F.LINK_STATUS_FENCED (l / 4) (l % 4)) 0).mbxEvent l 5 else u
  let t := t.each [0, 1] fun h u => u.modGov h fun g => { g with noExchange := false }
  let t := t.each [0, 1] fun h u => u.cswReport h NOTICE 5
  (t.schedSettle 0).schedSettle 1

/-- CAUSEWAY_REJOIN_READY (R488). -/
def execCausewayRejoinReady (h : Fin 2) (s : State) : Out :=
  .next (
    if s.groupsUp = 0 || !s.isSplit h then s
    else
      let t := s.setFld (F.CSW_STATUS_REJOIN_READY h) 1
      if t.on (F.CSW_CTL_AUTO_REJOIN h) && t.fld (F.CSW_STATUS_STATE h) = 2 && t.mayRejoin then t.rejoin else t)

/-- LAND_CLEAR (R494), of the landing buffer of half h. -/
def execLandClear (h : Fin 2) (s : State) : Out :=
  .next (s.each [0, 1] fun k t => t.setFld (F.CSW_LAND_HIGH k h) (t.fld (F.CSW_LAND_USED k h)))

/-! ## Injection (R495) -/

/-- INJECT of half h's copy: a kind and a group. -/
def State.cswInjectWrite (s : State) (h kind g : Nat) : State :=
  let t := (s.cswSet h F.CSW_INJECT_INJ_KIND kind).cswSet h F.CSW_INJECT_INJ_GROUP g
  if !t.groupUp g || kind = 3 || (kind = 1 && t.onlyUp g) then t.cswSet h F.CSW_INJECT_INJ_REFUSED 1
  else if kind = 0 then (t.cswSet h F.CSW_INJECT_INJECT 1).modCswGroup g fun k => { k with armCrc := true }
  else if kind = 1 then t.loseLock g true
  else t.modCswHalf h fun k => { k with drop := 17 }

/-- CSW_INJECT_CRC (R495). -/
def execCswInjectCrc (g : Fin 4) (s : State) : Out := .next (s.cswInjectWrite 0 0 g)

/-- CSW_INJECT_LOCK_LOSS (R495). -/
def execCswInjectLockLoss (g : Fin 4) (s : State) : Out := .next (s.cswInjectWrite 0 1 g)

/-- CSW_INJECT_HEARTBEAT_DROP (R495). -/
def execCswInjectHeartbeatDrop (h : Fin 2) (g : Fin 4) (s : State) : Out := .next (s.cswInjectWrite h 2 g)

/-! ## Group 0x0B (R530) -/

def cmdCswPolicy : Cmd where
  opcode := 0x0B00
  cls := .short
  scopes := [0]
  size := fun _ => 4
  fields := [rangeField 0 1 0 1, rangeField 1 1 0 1, zeroField 2 2]
  run := fun s r => ok ((s.cswSet r.half F.CSW_CTL_POLICY (r.p.u8 0)).cswSet r.half F.CSW_CTL_AUTO_REJOIN (r.p.u8 1))

/-- CSW_POLICY (R530). -/
def execCswPolicy (p : Packet) (s : State) : Out := .next (s.deliver cmdCswPolicy p)

def cmdCswXhome : Cmd where
  opcode := 0x0B01
  cls := .long
  scopes := [0]
  size := fun _ => 4
  fields := [rangeField 0 1 0 1, zeroField 1 3]
  run := fun s r =>
    if r.p.u8 0 = 0 || s.crossLines = 0 then ok (s.cswSet r.half F.CSW_CTL_XHOME_BLOCK (r.p.u8 0))
    else if s.fld (F.CSW_DRAIN_DRAIN_US r.half) = 0 then .done s S_STATE 0 []
    else .job s (longJob r s.crossLines [r.p.target.toNat])

/-- CSW_XHOME (R484). -/
def execCswXhome (p : Packet) (s : State) : Out := .next (s.deliver cmdCswXhome p)

def cmdCswRetire : Cmd where
  opcode := 0x0B02
  cls := .long
  scopes := [7]
  size := fun _ => 0
  check := fun s r => if s.groupState r.idx = G_RETIRED then already (drainRecord 0 0)
    else if s.onlyUp r.idx then refusal S_STATE
    else if (s.cswHalf r.half).retiring.isSome then refusal S_BUSY D_HELD else none
  run := fun s r =>
    let n := s.groupFlits r.idx
    let t := (s.cswSet r.half F.CSW_CTL_RET_GROUP r.idx).cswSet r.half F.CSW_CTL_RETIRE 1
    let t := t.modCswHalf r.half fun k => { k with retiring := some (r.idx, n) }
    if n = 0 then ok (t.endRetire r.half) (drainRecord 0 0)
    else if s.fld (F.CSW_DRAIN_DRAIN_US r.half) = 0 then ok (t.endRetire r.half) (drainRecord 0 n)
    else .job t (longJob r n [r.p.target.toNat] r.idx)

/-- CSW_RETIRE (R476). -/
def execCswRetire (p : Packet) (s : State) : Out := .next (s.deliver cmdCswRetire p)

/-- A causeway reset starts (R477). -/
def State.startRestore (s : State) : State :=
  let t := (s.each [0, 1, 2, 3] fun g u => u.dropFlits g).retireIfDrained
  let t := t.each [0, 1, 2, 3] fun g u => (u.cswShow (fun h => F.CSW_GROUP_STATUS_CAUSE h g) 0).groupTrains g
  let t := t.each [0, 1] fun h u => u.modCswHalf h fun k => { k with was := s.fld (F.CSW_STATUS_STATE h) }
  t.setFlds [(F.CSW_STATUS_STATE 0, 5), (F.CSW_STATUS_STATE 1, 5), (F.CSW_CTL_RESTORE 0, 1), (F.CSW_CTL_RESTORE 1, 1)]

def cmdCswRestore : Cmd where
  opcode := 0x0B03
  cls := .long
  scopes := [0]
  size := fun _ => 0
  check := fun s _ => if s.restoring then refusal S_BUSY D_HELD else none
  run := fun s r => if s.warm.isSome then ok s else .job s.startRestore (longJob r 4 [r.p.target.toNat])

/-- CSW_RESTORE (R477); one that arrives during a warm reset is absorbed into it (R712). -/
def execCswRestore (p : Packet) (s : State) : Out := .next (s.deliver cmdCswRestore p)

def cmdCswRejoin : Cmd where
  opcode := 0x0B04
  cls := .long
  scopes := [0]
  size := fun _ => 0
  check := fun s _ => if s.joined then already else if s.mayRejoin then none else refusal S_STATE
  run := fun s _ => ok s.rejoin

/-- CSW_REJOIN (R489). -/
def execCswRejoin (p : Packet) (s : State) : Out := .next (s.deliver cmdCswRejoin p)

end Sys2Proof.Machine
end

