-- ==== Sys2Proof/Machine/LogTime.lean ====
section
/-! DEFINITION. The log, the error lines and the clock (19_errors_log_time): the log writer and its banks, the last-resort file,
injections, the real-time clock, and group 0x07 of the Cykai protocol. -/

namespace Sys2Proof.Machine

/-! ## The clock (R684 to R688) -/

/-- A year of 366 days (R684). -/
def leapYear (y : Nat) : Bool := (y % 4 == 0 && y % 100 != 0) || y % 400 == 0

/-- The length of month m of year y. -/
def monthDays (y m : Nat) : Nat :=
  if m = 2 then (if leapYear y then 29 else 28) else if m = 4 || m = 6 || m = 9 || m = 11 then 30 else 31

/-- Days from 2000-01-01 to the start of year y, and of month m of year y. -/
def yearStart (y : Nat) : Nat := (y - 2000) * 365 + (y - 2000 + 3) / 4 - (y - 2000 + 99) / 100 + (y - 2000 + 399) / 400
def monthStart (y : Nat) : Nat → Nat
  | 0 => yearStart y
  | 1 => yearStart y
  | m + 2 => monthStart y (m + 1) + monthDays y (m + 1)

/-- A date and time of the clock. -/
structure Clock where
  year : Nat
  month : Nat
  day : Nat
  hour : Nat
  minute : Nat
  second : Nat
deriving DecidableEq, Repr

/-- Seconds from 2000-01-01 00:00:00 (R693). -/
def Clock.seconds (c : Clock) : Nat := (((monthStart c.year c.month + c.day - 1) * 24 + c.hour) * 60 + c.minute) * 60 + c.second

/-- The conditions of R685. -/
def Clock.valid (c : Clock) : Bool :=
  decide (2000 ≤ c.year) && decide (c.year ≤ 2399) && decide (1 ≤ c.month) && decide (c.month ≤ 12) && decide (1 ≤ c.day) &&
    decide (c.day ≤ monthDays c.year c.month) && decide (c.hour ≤ 23) && decide (c.minute ≤ 59) && decide (c.second ≤ 59)

/-- The last second of the range (R684). -/
def Clock.last : Clock := ⟨2399, 12, 31, 23, 59, 59⟩

/-- One second later. -/
def Clock.next (c : Clock) : Clock :=
  if c.second < 59 then { c with second := c.second + 1 }
  else if c.minute < 59 then { c with minute := c.minute + 1, second := 0 }
  else if c.hour < 23 then { c with hour := c.hour + 1, minute := 0, second := 0 }
  else if c.day < monthDays c.year c.month then { c with day := c.day + 1, hour := 0, minute := 0, second := 0 }
  else if c.month < 12 then ⟨c.year, c.month + 1, 1, 0, 0, 0⟩
  else ⟨c.year + 1, 1, 1, 0, 0, 0⟩

/-- What the clock registers hold. -/
def State.clock (s : State) : Clock :=
  ⟨s.fld F.RTC_DATE_YEAR, s.fld F.RTC_DATE_MONTH, s.fld F.RTC_DATE_DAY, s.fld F.RTC_TIME_HOUR, s.fld F.RTC_TIME_MINUTE, s.fld F.RTC_TIME_SECOND⟩

/-- The clock takes a date and time. -/
def State.setClock (s : State) (c : Clock) : State :=
  s.setFlds [(F.RTC_DATE_YEAR, c.year), (F.RTC_DATE_MONTH, c.month), (F.RTC_DATE_DAY, c.day), (F.RTC_TIME_HOUR, c.hour),
    (F.RTC_TIME_MINUTE, c.minute), (F.RTC_TIME_SECOND, c.second), (F.RTC_SECONDS_SECONDS 0, c.seconds), (F.RTC_SECONDS_SECONDS 1, c.seconds / 2 ^ 32)]

/-- RTC_SECONDS as one number. -/
def State.rtcSeconds (s : State) : Nat := s.fld (F.RTC_SECONDS_SECONDS 0) + 2 ^ 32 * s.fld (F.RTC_SECONDS_SECONDS 1)

/-- The seconds that half h stamps (R688): the south half's copy advances on its NS count. -/
def State.stamp (s : State) (h : Nat) : Nat :=
  if h = 0 then s.rtcSeconds
  else min Clock.last.seconds (s.rtc.southSeconds + (s.ns.toNat - s.rtc.southNs.toNat) / 1000000000)

/-- RTC_TICK (R684, R686, R687): one edge of the crystal. -/
def execRtcTick (s : State) : Out :=
  .next (
    let t := { s with rtc := { s.rtc with stopped := false } }
    if t.on F.RTC_STATUS_EXHAUSTED then t
    else if t.fld F.RTC_STATUS_SUBSEC < 32767 then t.setFld F.RTC_STATUS_SUBSEC (t.fld F.RTC_STATUS_SUBSEC + 1)
    else
      let c := t.clock.next
      ((t.setFld F.RTC_STATUS_SUBSEC 0).setClock c).put F.RTC_STATUS_EXHAUSTED (c == Clock.last))

/-- RTC_CRYSTAL_STOPPED (R687). -/
def execRtcCrystalStopped (s : State) : Out :=
  .next (
    if s.rtc.stopped || s.supplyLow then s
    else
      let t := ({ s with rtc := { s.rtc with stopped := true } }).setFlds [(F.RTC_STATUS_STOPPED, 1), (F.RTC_STATUS_NOT_SET, 1)]
      t.useFree.raise { half := 0, cls := ERROR, src := 0, code := 6, unit := 0, ctx := t.freeVal })

/-- RTC_COPY_UPDATE (R688): over the causeway, so not while nothing crosses. -/
def execRtcCopyUpdate (s : State) : Out :=
  .next (if s.causewayUp 1 && s.joined then { s with rtc := { s.rtc with southSeconds := s.rtcSeconds, southNs := s.ns } } else s)

/-- RTC_DATE_READ (R693). -/
def execRtcDateRead (_a : Agent) (s : State) : Out :=
  .next (({ s with rtc := { s.rtc with latchTime := some (s.reg R.RTC_TIME), latchLow := some (s.reg (R.RTC_SECONDS 0)), latchHigh := some (s.reg (R.RTC_SECONDS 1)) } }).reply
    (.word (s.reg R.RTC_DATE)))

/-! ## The log writer (R667 to R669, R675 to R677) -/

/-- The next sequence number of half h. -/
def State.nextSeq (s : State) (h : Nat) : Nat := (s.reg (R.ERR_NEXT_SEQ h 0)).toNat + 2 ^ 32 * bitsOf (s.reg (R.ERR_NEXT_SEQ h 1)).toNat 15 0
def State.setNextSeq (s : State) (h n : Nat) : State :=
  (s.setReg (R.ERR_NEXT_SEQ h 0) (BitVec.ofNat 32 n)).setReg (R.ERR_NEXT_SEQ h 1) (BitVec.ofNat 32 (n / 2 ^ 32 % 2 ^ 16))

/-- Bank b of half h is in service. -/
def State.bankServes (s : State) (h b : Nat) : Bool := s.fld (if b = 0 then F.ERR_LOG_BANK0 h else F.ERR_LOG_BANK1 h) == 0

/-- The slot that follows slot k in the ring of the banks in service (R675). -/
def State.slotAfter (s : State) (h k : Nat) : Nat :=
  if k % 4096 = 4095 then (if s.bankServes h (1 - k / 4096) then (1 - k / 4096) * 4096 else k / 4096 * 4096) else k + 1

/-- FLAGS of an entry (R676). -/
def State.entryFlags (s : State) (h : Nat) : Byte :=
  BitVec.ofNat 8 (h + 2 * s.fld F.RTC_STATUS_NOT_SET + 4 * s.fld F.RTC_STATUS_EXHAUSTED)

/-- The 32 bytes of an entry (R676). -/
def LogEntry.bytes (e : LogEntry) : List Byte :=
  leBytes 6 e.seq.toNat ++ [e.flags, 0] ++ leBytes 8 e.ns.toNat ++ leBytes 5 e.seconds.toNat ++ [0, 0, 0] ++ leBytes 4 e.report.toNat ++ leBytes 4 e.ctx.toNat

/-- The report of a log bank event: its code, its class, bank and slot. -/
def bankReport (h b slot cls code : Nat) (inj : Bool) : Raise :=
  { half := h, cls := cls, src := 0, code := code, unit := 2 * h + b, ctx := slot, inj := inj }

/-- Bank b of half h fails at a slot (R681). -/
def State.bankFails (s : State) (h b slot : Nat) (inj : Bool) : State :=
  let r := bankReport h b slot ERROR 4 inj
  let t := s.setFld (if b = 0 then F.ERR_LOG_BANK0 h else F.ERR_LOG_BANK1 h) 1
  let t := t.modLog h fun l => { l with entries := Bank.drop (fun k => k / 4096 == b) l.entries, next := if l.next / 4096 = b then (1 - b) * 4096 else l.next }
  let t := t.lrRecord h { word := r.word, ctx := BitVec.ofNat 32 slot, ns := t.ns }
  let t := (t.assertErr h).raise r
  if t.noLogBank h then t.setStanding h 2 true else t

/-- A single-bit error of bank b is corrected (R681): more than 16 within 1 s fail the bank. -/
def State.bankCorrects (s : State) (h b slot : Nat) (inj : Bool) : State :=
  let now := s.ns.toNat
  let l := s.log h
  let w := now :: ((if b = 0 then l.corrected0 else l.corrected1).filter fun x => decide (now < x + 1000000000))
  let t := (s.modLog h fun x => if b = 0 then { x with corrected0 := w } else { x with corrected1 := w }).raise (bankReport h b slot NOTICE 3 inj)
  if 16 < w.length then t.bankFails h b slot inj else t

/-- The entry for a report, with sequence number n. -/
def State.entryOf (s : State) (h n : Nat) (r : Report) : LogEntry :=
  { seq := BitVec.ofNat 48 n, flags := s.entryFlags h, ns := r.ns, seconds := BitVec.ofNat 40 (s.stamp h), report := r.word, ctx := r.ctx }

/-- Store an entry in the slot that the ring has reached. -/
def State.storeEntry (s : State) (h : Nat) (e : LogEntry) : State :=
  let k := (s.log h).next
  let n := s.slotAfter h k
  s.modLog h fun l => { l with entries := Bank.set (fun _ => {}) l.entries k e, next := n }

/-- With no bank in service (R682): the last-resort file takes FATAL and ERROR, and a NOTICE counts as lost. -/
def State.recordNowhere (s : State) (h cls : Nat) (r : Report) (summary : Bool) : State :=
  if cls ≠ 0 then s.lrRecord h r else if summary then s else s.countLost h 0

/-- Write a report as the next entry, and read it back (R681). -/
def State.writeEntry (s : State) (h cls : Nat) (r : Report) (summary good : Bool) : State :=
  if s.noLogBank h then s.recordNowhere h cls r summary
  else
    let n := s.nextSeq h
    let k := (s.log h).next
    let b := k / 4096
    let inj := if b = 0 then (s.log h).inject0 else (s.log h).inject1
    let e := s.entryOf h n r
    let t := (s.storeEntry h e).setNextSeq h (if n = 2 ^ 48 - 1 then 1 else n + 1)
    let t := t.modLog h fun l => { l with wrapDue := l.wrapDue || n == 2 ^ 48 - 1, inject0 := if b = 0 then 0 else l.inject0, inject1 := if b = 0 then l.inject1 else 0 }
    let t := if inj = 0 then t else t.setFld (F.ERR_INJECT_INJECT h) 0
    if inj = 2 || !good then
      let u := t.bankFails h b (k % 4096) (inj == 2)
      if u.noLogBank h then u.recordNowhere h cls r summary else u.storeEntry h e
    else if inj = 1 then t.bankCorrects h b (k % 4096) true
    else t

/-- A SUMMARY report of a class (R660, R669). -/
def State.summary (s : State) (h cls n : Nat) : Report :=
  { word := Raise.word { half := h, cls := cls, src := 0, code := 1, unit := n }, ctx := BitVec.ofNat 32 h, ns := s.ns }

/-- The lost counter of a class in half h, and its saturation flag. -/
def lostFld (h cls : Nat) : Fld := if cls = 2 then F.ERR_LOG_FATAL h else if cls = 1 then F.ERR_LOST_ERROR h else F.ERR_LOST_NOTICE h
def lostSat (h cls : Nat) : Fld := ⟨R.ERR_LOG h, 9 + cls, 9 + cls⟩

/-- A class's oldest report waiting, or its SUMMARY once the segment is empty: the class, the report, whether it is a SUMMARY, and
the state with it taken. -/
def State.takeClass (s : State) (h cls : Nat) : Option (Nat × Report × Bool × State) :=
  let l := s.log h
  match (if cls = 2 then l.fatals else if cls = 1 then l.errors else l.notices) with
  | r :: rest => some (cls, r, false, s.setLog h (if cls = 2 then { l with fatals := rest } else if cls = 1 then { l with errors := rest } else { l with notices := rest }))
  | [] =>
    let n := s.fld (lostFld h cls)
    if n = 0 then none else some (cls, s.summary h cls n, true, (s.setFld (lostFld h cls) 0).setFld (lostSat h cls) 0)

/-- What the writer takes in a slot: a SUMMARY owed since a warm reset (R678), then FATAL, ERROR and NOTICE (R667, R669). -/
def State.takeReport (s : State) (h : Nat) : Option (Nat × Report × Bool × State) :=
  match (s.log h).owed with
  | (cls, n) :: rest => some (cls, s.summary h cls n, true, s.modLog h fun l => { l with owed := rest })
  | [] => ((s.takeClass h 2).orElse fun _ => s.takeClass h 1).orElse fun _ => s.takeClass h 0

/-- One slot of the log writer of half h. A wrapped sequence first writes SEQ_WRAP (R677). -/
def State.logSlot (s : State) (h : Nat) (good : Bool) : State :=
  match s.takeReport h with
  | none => s
  | some (cls, r, sum, t) =>
    if (s.log h).wrapDue then
      let u := (s.modLog h fun l => { l with wrapDue := false }).useFree
      u.writeEntry h NOTICE { word := Raise.word { half := h, cls := NOTICE, src := 0, code := 2, unit := h }, ctx := BitVec.ofNat 32 s.freeVal, ns := s.ns } false good
    else t.writeEntry h cls r sum good

/-- LOG_WRITER_SLOT (R667). -/
def execLogWriterSlot (h : Fin 2) (good : Bool) (s : State) : Out := .next (s.logSlot h good)

/-! ## Injection and the last-resort file (R690, R692) -/

/-- A word that WORD and STORM refuse (R692). -/
def wordRefused (w : Nat) : Bool :=
  bitsOf w 31 30 == 3 || bitsOf w 28 24 == 15 || decide (0x13 ≤ bitsOf w 28 24) || (bitsOf w 28 24 == 10 && bitsOf w 23 16 == 5)

/-- The report that WORD and STORM raise in half h. -/
def injectedWord (h w ctx : Nat) : Raise :=
  { half := h, cls := bitsOf w 31 30, src := bitsOf w 28 24, code := bitsOf w 23 16, unit := bitsOf w 15 0, ctx := ctx, inj := true }

/-- ERR_INJECT of half h takes a kind, a bank and a count with INJECT; WORD and STORM raise what INJ_WORD and INJ_CTX hold. -/
def State.errInjectWrite (s : State) (h kind bank count : Nat) : State :=
  let t := s.setFlds [(F.ERR_INJECT_INJ_KIND h, kind), (F.ERR_INJECT_BANK h, bank), (F.ERR_INJECT_COUNT h, count)]
  let refuse := t.setFld (F.ERR_INJECT_INJ_REFUSED h) 1
  let w := (t.reg (R.ERR_INJ_WORD h)).toNat
  let r := injectedWord h w (t.reg (R.ERR_INJ_CTX h)).toNat
  match kind with
  | 0 => if t.bankServes h bank then (t.setFld (F.ERR_INJECT_INJECT h) 1).modLog h fun l => if bank = 0 then { l with inject0 := 1 } else { l with inject1 := 1 } else refuse
  | 1 => if t.bankServes h bank then (t.setFld (F.ERR_INJECT_INJECT h) 1).modLog h fun l => if bank = 0 then { l with inject0 := 2 } else { l with inject1 := 2 } else refuse
  | 2 => if wordRefused w then refuse else t.raise r
  | 3 => if wordRefused w then refuse else t.each (List.range (t.fld (F.ERR_INJECT_COUNT h))) fun _ u => u.raise r
  | _ => refuse

/-- ERR_INJECT_LOG_CE (R692). -/
def execErrInjectLogCe (h b : Fin 2) (s : State) : Out := .next (s.errInjectWrite h 0 b 0)

/-- ERR_INJECT_LOG_UE (R692). -/
def execErrInjectLogUe (h b : Fin 2) (s : State) : Out := .next (s.errInjectWrite h 1 b 0)

/-- ERR_INJECT_WORD (R692). -/
def execErrInjectWord (h : Fin 2) (word ctx : Word) (s : State) : Out :=
  .next (((s.setReg (R.ERR_INJ_WORD h) word).setReg (R.ERR_INJ_CTX h) ctx).errInjectWrite h 2 0 0)

/-- ERR_INJECT_STORM (R692). -/
def execErrInjectStorm (h : Fin 2) (word ctx : Word) (n : BitVec 16) (s : State) : Out :=
  .next (((s.setReg (R.ERR_INJ_WORD h) word).setReg (R.ERR_INJ_CTX h) ctx).errInjectWrite h 3 0 n.toNat)

/-- The last-resort file of half h is emptied (R682, R690). -/
def State.clearFile (s : State) (h : Nat) : State :=
  (s.each (List.range 64) fun i t => t.setReg (R.ERR_LR h i) 0).setFlds [(F.ERR_STATUS_LR_COUNT h, 0), (F.ERR_STATUS_LR_DROP h, 0)]

/-- LR_CLR (R690). -/
def execLrClr (h : Fin 2) (s : State) : Out := .next (s.clearFile h)

/-! ## Group 0x07 (R527, R679, R680, R674, R685) -/

/-- The entries half h holds, in the order written. -/
def State.heldEntries (s : State) (h : Nat) : List LogEntry :=
  let l := s.log h
  ((l.entries.filter fun p => decide (l.next ≤ p.1)) ++ (l.entries.filter fun p => decide (p.1 < l.next))).map Prod.snd

/-- Entries from the one with sequence number n, or from the oldest. -/
def entriesFrom (n : Nat) (l : List LogEntry) : List LogEntry :=
  if n ≠ 0 && l.any (fun e => e.seq.toNat == n) then l.dropWhile fun e => e.seq.toNat != n else l

/-- What LOG_READ returns: the entries, and NEXT. -/
def State.logRead (s : State) (first count : Nat) : List LogEntry × Nat :=
  let h := first / 2 ^ 48 % 2
  let l := entriesFrom (first % 2 ^ 48) (s.heldEntries h)
  let next := match l.drop count with
    | e :: _ => if count = 0 then s.nextSeq h else e.seq.toNat
    | [] => s.nextSeq h
  (l.take count, next + h * 2 ^ 48)

def cmdLogRead : Cmd where
  opcode := 0x0700
  cls := .read
  scopes := [0]
  size := fun _ => 24
  fields := [{ off := 0, len := 8, ok := fun _ r => decide (r.p.u64 0 < 2 ^ 49) }, zeroField 12 4,
    { off := 16, len := 8, ok := fun _ r => r.p.u64 16 != 0 || decide (r.p.u32 8 ≤ 127) },
    addrOrNone 16 2 fun r => 32 * r.p.u32 8]
  check := fun s r =>
    let h := r.p.u64 0 / 2 ^ 48 % 2
    if h ≠ r.half && s.isSplit r.half then refusal S_HW_FAULT D_CAUSEWAY
    else if r.p.u32 8 = 0 then already (leBytes 8 0 ++ leBytes 8 (s.logRead (r.p.u64 0) 0).2) else none
  run := fun s r =>
    let x := s.logRead (r.p.u64 0) (r.p.u32 8)
    let body := x.1.flatMap LogEntry.bytes
    let head := leBytes 4 x.1.length ++ leBytes 4 0 ++ leBytes 8 x.2
    if r.p.u64 16 = 0 then ok s (head ++ body) else ok (s.storeBytes (r.p.u64 16) body) head

/-- LOG_READ (R679). -/
def execLogRead (p : Packet) (s : State) : Out := .next (s.deliver cmdLogRead p)

/-- A half's block of LOG_STATUS (R680). -/
def State.logBlock (s : State) (h : Nat) : List Byte :=
  let oldest := match s.heldEntries h with
    | e :: _ => e.seq.toNat
    | [] => 0
  leBytes 8 oldest ++ leBytes 8 (s.nextSeq h) ++ leBytes 2 (s.fld (lostFld h 2)) ++ leBytes 2 (s.fld (lostFld h 1)) ++ leBytes 2 (s.fld (lostFld h 0)) ++
    leBytes 1 (s.fld (F.ERR_LOG_BANK0 h) + 4 * s.fld (F.ERR_LOG_BANK1 h)) ++
    leBytes 1 (s.fld (lostSat h 2) + 2 * s.fld (lostSat h 1) + 4 * s.fld (lostSat h 0)) ++
    leBytes 1 (s.fld (F.ERR_STATUS_LR_COUNT h)) ++ leBytes 1 (s.fld (F.ERR_STATUS_LR_DROP h)) ++ leBytes 1 1 ++ leBytes 5 0

/-- A half's last-resort file: 16 records of 16 bytes. -/
def State.fileBytes (s : State) (h : Nat) : List Byte := (List.range 64).flatMap fun i => leBytes 4 (s.reg (R.ERR_LR h i)).toNat

def cmdLogStatus : Cmd where
  opcode := 0x0701
  cls := .read
  scopes := [0]
  size := fun _ => 0
  run := fun s r =>
    let reach (h : Nat) : Bool := h == r.half || !s.isSplit r.half
    let block (h : Nat) : List Byte := if reach h then s.logBlock h else leBytes 32 0
    let file (h : Nat) : List Byte := if reach h then s.fileBytes h else leBytes 256 0
    ok s (block 0 ++ block 1 ++ file 0 ++ file 1)

/-- LOG_STATUS (R680). -/
def execLogStatus (p : Packet) (s : State) : Out := .next (s.deliver cmdLogStatus p)

/-- The halves whose latches a command of half h clears (R674). -/
def State.clears (s : State) (h : Nat) : List Nat := if s.isSplit h then [h] else [0, 1]

/-- A standing cause of ERRn, or of ERR_FATALn, in the part (R672, R673). -/
def State.standing (s : State) (fatal : Bool) : Bool :=
  if fatal then bitOf (s.fld (F.ERR_STATUS_STANDING 0)) 3 || bitOf (s.fld (F.ERR_STATUS_STANDING 1)) 3
  else s.standingErr 0 || s.standingErr 1

def cmdErrClear : Cmd where
  opcode := 0x0702
  cls := .short
  scopes := [0]
  size := fun _ => 4
  fields := [rangeField 0 1 0 3, zeroField 1 3]
  check := fun s r => if r.p.u8 0 = 0 then already
    else if (bitOf (r.p.u8 0) 0 && s.standing false) || (bitOf (r.p.u8 0) 1 && s.standing true) then refusal S_STATE else none
  run := fun s r => ok (s.each (s.clears r.half) fun h t =>
    let u := if bitOf (r.p.u8 0) 0 then t.setFld (F.ERR_STATUS_ERR_LATCH h) 0 else t
    if bitOf (r.p.u8 0) 1 then u.setFld (F.ERR_STATUS_FATAL_LATCH h) 0 else u)

/-- ERR_CLEAR (R674). -/
def execErrClear (p : Packet) (s : State) : Out := .next (s.deliver cmdErrClear p)

/-- ARG is in the range of its DETECTOR (R591). -/
def secureArg (d a : Nat) : Bool :=
  match d with
  | 1 => decide (a ≤ 6)
  | 2 => decide (1 ≤ a) && decide (a ≤ 9)
  | 3 => decide (a < 16)
  | 4 => a == 0
  | 5 => a == 0
  | _ => true

/-- The injected detection of a security-classed detector (R591); the stream of an IDE_FAIL is not named. -/
def State.secureInject (s : State) (d a : Nat) : State :=
  match d with
  | 1 => s.secReport FATAL 1 a (s.fld F.SEC_TAMPER_LATCH_LATCH) true
  | 2 => s.secReport FATAL 2 a 0 true
  | 3 => s.useFree.ideFail a (s.freeVal % 6) true
  | 4 => s.secReport NOTICE 4 a 0 true
  | _ => s.secReport NOTICE 5 a 0 true

def cmdErrInjectSecure : Cmd where
  opcode := 0x0703
  cls := .short
  scopes := [0]
  size := fun _ => 4
  fields := [rangeField 0 2 1 5, { off := 2, len := 2, ok := fun _ r => secureArg (r.p.u16 0) (r.p.u16 2) }]
  check := fun s _ => if s.approved then refusal S_APPROVED else none
  run := fun s r => ok (s.secureInject (r.p.u16 0) (r.p.u16 2))

/-- ERR_INJECT_SECURE (R591). -/
def execErrInjectSecure (p : Packet) (s : State) : Out := .next (s.deliver cmdErrInjectSecure p)

/-- The date and time that TIME_SET gives. -/
def clockOf (p : Packet) : Clock := ⟨p.u16 0, p.u8 2, p.u8 3, p.u8 4, p.u8 5, p.u8 6⟩

def cmdTimeSet : Cmd where
  opcode := 0x0704
  cls := .short
  scopes := [0]
  size := fun _ => 8
  fields := [zeroField 7 1]
  check := fun s r => if !(clockOf r.p).valid then refusal S_INVALID_DATE
    else if r.half = 1 && s.isSplit 1 then refusal S_HW_FAULT D_CAUSEWAY else none
  run := fun s r =>
    let t := (s.setClock (clockOf r.p)).setFlds [(F.RTC_STATUS_SUBSEC, 0), (F.RTC_STATUS_NOT_SET, 0), (F.RTC_STATUS_STOPPED, 0),
      (F.RTC_STATUS_EXHAUSTED, bnat (clockOf r.p == Clock.last))]
    ok (t.raise { half := 0, cls := NOTICE, src := 0, code := 5, unit := 0, ctx := s.rtcSeconds % 2 ^ 32 })

/-- TIME_SET (R685). -/
def execTimeSet (p : Packet) (s : State) : Out := .next (s.deliver cmdTimeSet p)

def cmdTimeGet : Cmd where
  opcode := 0x0705
  cls := .read
  scopes := [0]
  size := fun _ => 0
  check := fun s r => if r.half = 1 && s.isSplit 1 then refusal S_HW_FAULT D_CAUSEWAY else none
  run := fun s _ =>
    let c := s.clock
    ok s (leBytes 2 c.year ++ leBytes 1 c.month ++ leBytes 1 c.day ++ leBytes 1 c.hour ++ leBytes 1 c.minute ++ leBytes 1 c.second ++
      leBytes 1 (s.fld F.RTC_STATUS_EXHAUSTED) ++ leBytes 8 s.ns.toNat)

/-- TIME_GET (R527, R686). -/
def execTimeGet (p : Packet) (s : State) : Out := .next (s.deliver cmdTimeGet p)

end Sys2Proof.Machine
end

