-- ==== Sys2Proof/Machine/Pins.lean ====
section
/-! DEFINITION. The pin commands and events (18_pins), and the pin and serial CSRs of the tender cores (R346, R653). -/

namespace Sys2Proof.Machine

/-- PIN_INPUT_EDGE (R651): the synchronised level at pin i follows what the board puts there, or what the pin drives. -/
def execPinInputEdge (i : Fin 384) (level : Bool) (s : State) : Out := .next (s.pinEdge i (s.drivenLevel i level))

/-- A write of a bank register by an agent: a host link's comes through the mirror and acts while HOST_EN is set (R656); no
core and no debugger has a path to it (R31), and theirs is a host write outside the host-writable set (R10, R324, R738). -/
def State.bankAccess (s : State) (b : Nat) (a : Agent) (kind : Nat) (mask : Word) : State :=
  match a with
  | .link _ => if s.on (F.PIN_BANK_CTL_HOST_EN b) then s.bankWrite b kind mask.toNat else s
  | .mgmt _ => s.bankWrite b kind mask.toNat
  | .core _ => s.misuse a 3 (0x00300800 + 32 * b + 4 * kind)
  | .debug => s.misuse a 3 (0x00300800 + 32 * b + 4 * kind)
  | _ => s

/-- PIN_BANK_SET (R656). -/
def execPinBankSet (b : Fin 12) (a : Agent) (mask : Word) (s : State) : Out := .next (s.fromAgent a (s.bankAccess b a 0 mask))

/-- PIN_BANK_CLR (R656). -/
def execPinBankClr (b : Fin 12) (a : Agent) (mask : Word) (s : State) : Out := .next (s.fromAgent a (s.bankAccess b a 1 mask))

/-- PIN_BANK_TGL (R656). -/
def execPinBankTgl (b : Fin 12) (a : Agent) (mask : Word) (s : State) : Out := .next (s.fromAgent a (s.bankAccess b a 2 mask))

/-- An offset of the pin mirror region of BAR0 that mirrors a bank register (R656). -/
def mirrorOffset (off : Nat) : Bool := decide (off < 12 * 32) && decide (off % 32 ≤ 0x10) && off % 4 == 0

/-- PIN_MIRROR_MISUSE (R656): an access to another offset of the mirror region. -/
def execPinMirrorMisuse (l : Fin 16) (off : BitVec 16) (write : Bool) (s : State) : Out :=
  .next (s.fromAgent (.link l) (if mirrorOffset off.toNat then s
    else (s.misuse (.link l) 6 (0x50000 + off.toNat)).reply (if write then .none else .word 0)))

/-- PIN_INJECT (R658): the report of INJ_KIND; its unit and, for a conflict, its context are stated nowhere and are free
(Assumption 3). -/
def execPinInject (kind : Fin 4) (s : State) : Out :=
  let t := s.setFlds [(F.PIN_INJECT_INJECT, 0), (F.PIN_INJECT_INJ_KIND, kind)]
  .next (if kind.val = 0 then
      t.useFree.raise { half := t.freeVal % 2, cls := NOTICE, src := 17, code := 1, unit := t.freeVal % 2, ctx := t.freeVal, inj := true }
    else if kind.val = 1 then
      t.useFree.raise { half := t.freeVal % 12 / 6, cls := NOTICE, src := 17, code := 2, unit := t.freeVal % 12, inj := true }
    else t.setFld F.PIN_INJECT_INJ_REFUSED 1)

/-- BANK_VIO_CHANGE (R634). -/
def execBankVioChange (b : Fin 12) (low : Bool) (s : State) : Out :=
  .next ((s.setBankDown b low).each ((List.range 32).map (32 * b.val + ·)) fun i t => t.noteEdge s i)

/-! ## Serial engines -/

/-- SERIAL_PUSH (R655). -/
def execSerialPush (c : Fin 16) (v : Dword) (s : State) : Out :=
  .next (s.mModeCsr c fun t => match t.serialOf c with
    | some e => t.modSerial e (·.push v.toNat)
    | none => t)

/-- A SERDATA read by core c. -/
def State.serialRead (s : State) (c : Nat) : State :=
  match s.serialOf c with
  | some e => (s.setSerial e (s.serial e).pop.2).reply (.num (s.serial e).pop.1)
  | none => s.reply (.num 0)

/-- SERIAL_POP (R653). -/
def execSerialPop (c : Fin 16) (s : State) : Out := .next (s.mModeCsr c (·.serialRead c))

/-- SERIAL_CONFIG (R655). -/
def execSerialConfig (c : Fin 16) (v : Dword) (s : State) : Out :=
  .next (s.mModeCsr c fun t => match t.serialOf c with
    | some e => t.modSerial e (·.config v.toNat)
    | none => t)

/-- SERSTAT_CLEAR (R653). -/
def execSerstatClear (c : Fin 16) (v : Dword) (s : State) : Out :=
  .next (s.mModeCsr c fun t => match t.serialOf c with
    | some e => t.modSerial e (·.clear v.toNat)
    | none => t)

/-- The byte an engine records: DATA with ERR, at the default where its signal has no single pin (R649, R654). -/
def State.serialByte (s : State) (e : Nat) (data : Byte) (err : Bool) : Nat :=
  let x := serialInput e
  let carried := (s.signalPin (e / 6) x.1 x.2).isSome
  match serialKind e with
  | 0 => if carried then data.toNat else 0
  | 1 => if carried then data.toNat + 256 * bnat err else 255 + 256
  | _ => data.toNat + 256 * bnat err

/-- SERIAL_BYTE_DONE (R654): a byte ends on engine e; a UART receives by itself. -/
def execSerialByteDone (e : Fin 12) (receive : Bool) (data : Byte) (err lost : Bool) (s : State) : Out :=
  .next (let x := s.serial e
    let out (t : State) : State := match x.current with
      | some w => if t.serial e = x then t else t.send (.line (0x100 + e.val) [w])
      | none => t
    if serialKind e = 2 then
      if receive then (if (s.signalPin (e / 6) 4 (serialInput e).2).isSome then s.setSerial e (x.received (s.serialByte e data err)) else s)
      else match x.current with
        | some _ => out (s.setSerial e x.sent)
        | none => s
    else out (s.setSerial e (x.clocked (s.serialByte e data err) (lost && serialKind e == 1))))

/-! ## The private pin port -/

/-- PINSET (R346). -/
def execPinset (c : Fin 16) (v : Dword) (s : State) : Out := .next (s.mModeCsr c (·.pinPort c 0 v.toNat))

/-- PINCLR (R346). -/
def execPinclr (c : Fin 16) (v : Dword) (s : State) : Out := .next (s.mModeCsr c (·.pinPort c 1 v.toNat))

/-- PINTGL (R346). -/
def execPintgl (c : Fin 16) (v : Dword) (s : State) : Out := .next (s.mModeCsr c (·.pinPort c 2 v.toNat))

/-! ## Commands (R526) -/

/-- The transport is a tender core's mailbox submission or the debug port (R642). -/
def State.fromCoreOrDebug (s : State) : Transport → Bool
  | .mailbox l sl => s.coreSlot (l.val * 32 + sl.val)
  | .debug => true
  | _ => false

/-- PIN_CONFIG (R639). -/
def cmdPinConfig : Cmd where
  opcode := 0x0600
  cls := .short
  scopes := [8]
  size := fun _ => 4
  fields := [{ off := 0, len := 4, ok := fun _ r => wordFields r.idx (r.p.u32 0) }]
  check := fun s r =>
    let o := s.pinOwner r.idx
    if !funcOwner (wordFunc (r.p.u32 0)) o || o == OWN_SECURE || ((o == OWN_TENDER || o == OWN_FABRIC) && !s.fromCoreOrDebug r.p.via) then
      refusal S_AUTHORITY
    else none
  run := fun s r => ok (s.setPinWord r.idx (putBits (r.p.u32 0) 31 30 (s.pinOwner r.idx)))

/-- PIN_CONFIG (R639). -/
def execPinConfig (p : Packet) (s : State) : Out := .next (s.deliver cmdPinConfig p)

/-- PIN_OWNER (R643). -/
def cmdPinOwner : Cmd where
  opcode := 0x0601
  cls := .short
  scopes := [8]
  size := fun _ => 4
  fields := [rangeField 0 1 0 3, zeroField 1 3]
  check := fun s r =>
    let o := s.pinOwner r.idx
    if r.p.u8 0 = o then already
    else if (r.p.u8 0 ≠ OWN_SECURE && !funcOwner (s.pinFunc r.idx) (r.p.u8 0)) || (o == OWN_SECURE && s.on F.SEC_STATUS_APPROVED) then
      refusal S_AUTHORITY
    else none
  run := fun s r => ok (s.setFld (F.PIN_CFG_OWNER r.idx) (r.p.u8 0))

/-- PIN_OWNER (R643). -/
def execPinOwner (p : Packet) (s : State) : Out := .next (s.deliver cmdPinOwner p)

/-- PIN_WRITE: SET, CLEAR and TOGGLE in that order on the MGMT GPIO pins of the bank. -/
def State.pinWrite (s : State) (b set clr tgl : Nat) : State :=
  ((s.writeLatch b OWN_MGMT 0 set).writeLatch b OWN_MGMT 1 clr).writeLatch b OWN_MGMT 2 tgl

/-- PIN_WRITE (R526). -/
def cmdPinWrite : Cmd where
  opcode := 0x0602
  cls := .short
  scopes := [8]
  size := fun _ => 12
  check := fun s r =>
    if r.p.u32 0 = 0 && r.p.u32 4 = 0 && r.p.u32 8 = 0 then already (leBytes 4 (s.fld (F.PIN_BANK_LAT_LATCH (bankOf r.idx))) ++ leBytes 4 0) else none
  run := fun s r =>
    let b := bankOf r.idx
    let t := s.pinWrite b (r.p.u32 0) (r.p.u32 4) (r.p.u32 8)
    ok t (leBytes 4 (t.fld (F.PIN_BANK_LAT_LATCH b)) ++ leBytes 4 (s.deniedPins b OWN_MGMT (r.p.u32 0 ||| r.p.u32 4 ||| r.p.u32 8)))

/-- PIN_WRITE (R526). -/
def execPinWrite (p : Packet) (s : State) : Out := .next (s.deliver cmdPinWrite p)

/-- PIN_READ (R526). -/
def cmdPinRead : Cmd where
  opcode := 0x0603
  cls := .read
  scopes := [8]
  size := fun _ => 0
  run := fun s r => ok s (leBytes 4 (s.fld (F.PIN_BANK_LAT_LATCH (bankOf r.idx))) ++ leBytes 4 (s.bankIn (bankOf r.idx)))

/-- PIN_READ (R526). -/
def execPinRead (p : Packet) (s : State) : Out := .next (s.deliver cmdPinRead p)

/-- PIN_IRQ: a change of BANK or DEST clears PEND (R652). -/
def State.setLine (s : State) (k bank dest : Nat) : State :=
  let t := s.setFlds [(F.PIN_IRQ_CFG_BANK k, bank), (F.PIN_IRQ_CFG_DEST k, dest)]
  if s.fld (F.PIN_IRQ_CFG_BANK k) = bank && s.fld (F.PIN_IRQ_CFG_DEST k) = dest then t else t.setPend k false

/-- PIN_IRQ (R650). -/
def cmdPinIrq : Cmd where
  opcode := 0x0604
  cls := .short
  scopes := [0]
  size := fun _ => 4
  fields := [rangeField 0 1 0 31, rangeField 1 1 0 11, zeroField 3 1]
  run := fun s r => ok (s.setLine (r.p.u8 0) (r.p.u8 1) (r.p.u8 2))

/-- PIN_IRQ (R650). -/
def execPinIrq (p : Packet) (s : State) : Out := .next (s.deliver cmdPinIrq p)

end Sys2Proof.Machine
end

