-- ==== Sys2Proof/Machine/RakeDebug.lean ====
section
/-! DEFINITION. Rakes and the trace under the debug port (22_debug_port, R732 to R734, R740 to R743). -/

namespace Sys2Proof.Machine

/-- The rake that DBG_RAKE_CTL selects, as a device number (R742). -/
def State.dbgRake (s : State) : Nat := s.fld F.DBG_RAKE_CTL_PAN * 16 + s.fld F.DBG_RAKE_CTL_RAKE

/-- The rakes that HALTREQ and RESUMEREQ act on: the selected one, or all of its pan (R742). -/
def State.dbgRakes (s : State) : List Nat :=
  if s.on F.DBG_RAKE_CTL_ALL then (List.range 16).map (s.fld F.DBG_RAKE_CTL_PAN * 16 + ·) else [s.dbgRake]

/-- A halt is requested of rake r: it halts at the boundary where it stands, waits for the actions due there, or the request is
dropped (R732, R742). -/
def State.haltRequest (s : State) (r : Nat) : State :=
  let k := s.rake r
  if !(s.on (runBit r) && s.on (activeBit r)) || k.stopping.isSome || k.halt != 0 then s
  else if k.sq.segDue ≠ 0 || k.sq.noteDue.isSome then s.setRake r { k with halt := 5 }
  else s.debugStop r 1

/-- A halted rake issues one instruction or iteration, and halts again (R733); an event pending at an attention point is taken in
its place. -/
def State.stepRake (s : State) (r : Nat) : State :=
  let k := s.rake r
  if !k.isHalted || !s.panRuns (panOfRake r) then s
  else
    let t := s.setRake r { k with halt := 4 }
    if k.takes || k.commits then t.debugStop r 3 else t.issue r

/-- A request needs HALT in the effective scope; else it has no effect and REFUSED sets (R736). -/
def State.needsHalt (s : State) (f : State → State) : State :=
  if bitOf s.dbgScope 2 then f s else s.setFld F.DBG_STATUS_REFUSED 1

/-- A write to DBG_RAKE_CTL (R742): the selection, then the requests. -/
def State.writeRakeCtl (s : State) (halt resume step all : Bool) (n k : Nat) : State :=
  let t := s.setFlds [(F.DBG_RAKE_CTL_ALL, bnat all), (F.DBG_RAKE_CTL_PAN, n), (F.DBG_RAKE_CTL_RAKE, k)]
  if !(halt || resume || step) then t
  else t.needsHalt fun u =>
    let u := if halt then u.each u.dbgRakes fun r x => x.haltRequest r else u
    let u := if resume then u.each u.dbgRakes fun r x => x.resumeRake r else u
    if step then u.stepRake u.dbgRake else u

/-- RAKE_DEBUG_HALTREQ (R732). -/
def execRakeDebugHaltreq (n : Fin 256) (k : Fin 16) (all : Bool) (s : State) : Out := .next (s.writeRakeCtl true false false all n k)

/-- RAKE_DEBUG_RESUMEREQ (R734). -/
def execRakeDebugResumereq (n : Fin 256) (k : Fin 16) (all : Bool) (s : State) : Out := .next (s.writeRakeCtl false true false all n k)

/-- RAKE_DEBUG_STEP (R733). -/
def execRakeDebugStep (n : Fin 256) (k : Fin 16) (s : State) : Out :=
  .next (s.writeRakeCtl false false true (s.on F.DBG_RAKE_CTL_ALL) n k)

/-- RAKE_BREAKPOINT_HIT (R733): the selected rake stands before an armed address that it has not passed, with no event to take
first and nothing due. -/
def execRakeBreakpointHit (s : State) : Out :=
  .next (
    let k := s.rake s.dbgRake
    if s.executes s.dbgRake && s.breaks s.dbgRake && !k.takes && !k.commits && k.sq.segDue == 0 && k.sq.noteDue.isNone && !k.sq.inWait then
      s.debugStop s.dbgRake 2
    else s)

/-- DBG_RAKE_CTL as read: HALTREQ and STEP stay set while their request waits (R742). -/
def State.showRakeCtl (s : State) : State :=
  s.setFlds [(F.DBG_RAKE_CTL_HALTREQ, bnat (s.rakes.any fun e => e.2.halt == 5)), (F.DBG_RAKE_CTL_STEP, bnat (s.rakes.any fun e => e.2.halt == 4))]

/-- DBG_RAKE_STATUS follows the selected rake (R742). -/
def State.showRake (s : State) : State :=
  let k := s.rake s.dbgRake
  s.setFlds [(F.DBG_RAKE_STATUS_HALTED, bnat k.isHalted), (F.DBG_RAKE_STATUS_CAUSE, if k.isHalted then k.halt else 0), (F.DBG_RAKE_STATUS_PC, k.sq.pc)]

/-- Words 36 and 37 of R743. -/
def Rake.word36 (k : Rake) : Nat :=
  k.sq.ra + k.sq.ieSaved * 2 ^ 8 + bnat k.sq.atomicSaved * 2 ^ 11 + bnat k.sq.atomic * 2 ^ 12 + bnat k.sq.inWait * 2 ^ 13 +
    k.inBuf.length * 2 ^ 14 + k.resBuf.length * 2 ^ 16 + bnat k.latch.isSome * 2 ^ 18 + k.extQ.length * 2 ^ 19
def Rake.word37 (k : Rake) : Nat := k.sq.rep + bnat (decide (0 < k.sq.rep)) * 2 ^ 10 + k.sq.slot * 2 ^ 11

/-- DBG_RAKE_STATE[w] (R743): 0 while the selected rake is not halted. -/
def State.rakeStateWord (s : State) (w : Nat) : Nat :=
  let k := s.rake s.dbgRake
  if !k.isHalted then 0
  else nth (k.words (bnat k.sq.handler * 2 ^ 31 + k.sq.ie * 2 ^ 28 + k.sq.asrc * 2 ^ 26 + k.sq.pc * 2 ^ 16 + k.sq.acode * 2 ^ 8 + k.saves) ++
    k.save ++ [k.word36, k.word37]) w 0

/-- TRACE_RECORD_EMIT (R740): the oldest record of the buffer is sent on the trace pins, while trace runs (R736, R741). -/
def execTraceRecordEmit (s : State) : Out :=
  .next (match (if s.on F.DBG_TRACE_CTL_EN && bitOf s.dbgScope 0 then s.dbg.trace else []) with
    | [] => s
    | x :: rest =>
      let t : State := { s with dbg := { s.dbg with trace := rest } }
      t.reply (.bytes x false))

/-- TRACE_DROPS_CLEAR (R741). -/
def execTraceDropsClear (s : State) : Out := .next (s.setFld F.DBG_TRACE_CTL_DROPS 0)

end Sys2Proof.Machine
end

