-- ==== Sys2Proof/Machine/StartUp.lean ====
section
/-! DEFINITION. Resets and start-up (21_clocks_reset_startup): the cold reset, POWER_UP and SECURE_BOOT, the clock loops, and the
warm reset. -/

namespace Sys2Proof.Machine

/-! ## The cold reset (R711, R713) -/

/-- The device accepts no image: a reserved CFG_MODE (R532). -/
def State.modeInvalid (s : State) : Bool := decide (4 ≤ s.fld F.CFG_STATUS_MODE)

/-- A cold reset for a COLD_CAUSE (R721): the whole part except the battery domain (R16), the fuses, which are sensed again, and
the straps sampled at the release of PORESETn (R531). LEAVE_PENDING makes R582 run (R588). The pins, the supplies, host memory
and what has left the part are no part of it. -/
def State.coldReset (s : State) (cause : Nat) : State :=
  let leave := s.on F.SEC_STATUS_LEAVE_PENDING
  let s := if leave then s.clearKb else s
  let k := (s.clearMem 0 HOST_BASE).resetRegs (fun _ => true) fun d => d != .kept
  let fresh : State := {
    regs := k.regs, mem := k.mem, poison := k.poison, answer := s.answer, fresh := s.fresh, sent := s.sent, pads := s.pads, banksDown := s.banksDown, rtc := s.rtc,
    sec := { k0 := s.sec.k0, k1 := s.sec.k1, pkh := s.sec.pkh, kb := s.sec.kb, owedTamper := s.sec.owedTamper, seeded := s.sec.seeded,
             canaryLost := s.sec.canaryLost },
    poresetLow := s.poresetLow, supplyLow := s.supplyLow,
    coldCause := if s.phase = 0 then min s.coldCause cause else cause,
    pending := s.pending }
  fresh.setFlds [(F.CFG_STATUS_MODE, s.fld F.CFG_STATUS_MODE), (F.SEC_KEYS_CTRL, s.fld F.SEC_KEYS_CTRL),
    (F.SEC_COUNTS_ZCOUNT, bnat leave)]

/-- PORESETN_ASSERT (R713, R753). -/
def execPoresetnAssert (s : State) : Out := .next { s.coldReset 1 with poresetLow := true }

/-- PORESETN_RELEASE (R713, R531): CFG_MODE is sampled, and the monotonic count starts at zero (R683). -/
def execPoresetnRelease (mode : Fin 8) (s : State) : Out :=
  .next (if s.poresetLow then { s.setFld F.CFG_STATUS_MODE mode with poresetLow := false, ns := 0 } else s)

/-- SUPPLY_DETECTOR_LOW (R713): the part enters POWER_UP with cause SUPPLY. -/
def execSupplyDetectorLow (s : State) : Out := .next { s.coldReset 2 with supplyLow := true }

/-- POWER_ON_DETECTOR_RELEASE (R713). -/
def execPowerOnDetectorRelease (s : State) : Out := .next { s with supplyLow := false }

/-- VBAT_LOSS (R16): every supply is gone, and the battery domain has lost its content. -/
def execVbatLoss (s : State) : Out :=
  .next (
    let u : State := { s with supplyLow := true }
    let t := (u.coldReset 2).resetRegs (fun _ => true) fun d => d == Dom.kept
    { t with rtc := {}, sec := { t.sec with kb := 0, owedTamper := [], canaryLost := true } })

/-! ## POWER_UP ends (R713, R580) -/

/-- The canary does not hold (R580, R687): KB is empty, TAMPER_CFG and the clock are at their defaults, the latch reads BATTERY. -/
def State.freshBattery (s : State) : State :=
  let t := s.resetRegs (fun _ => true) fun d => d == .kept
  let t := { t with rtc := {}, sec := { t.sec with kb := 0, owedTamper := [], canaryLost := false } }
  (t.setFlds [(F.SEC_TAMPER_LATCH_LATCH, 0x80), (F.SEC_STATUS_LATCHED, 1), (F.RST_STATUS_COLD_CAUSE, 0)]).secReport NOTICE 5 0 0

/-- What SECURE_BOOT begins with on the ports: port 0 trains as one x16 link under CFG_MODE 0b010 (R392). -/
def State.bootPorts (s : State) : State :=
  if s.fld F.CFG_STATUS_MODE = 2 then { s.setLinkState 0 L_TRAINING with image := { s.image with port0Due := true } } else s

/-- FORCE_APPROVED (R570, R587): the part enters the approved mode at a cold reset, with the governor's profile FIXED. -/
def State.forceApproved (s : State) : State :=
  if s.fuseBit 5 then s.setFlds [(F.SEC_STATUS_APPROVED, 1), (F.SEC_STATUS_FORCED, 1), (F.GOV_CTL_PROFILE 0, 4), (F.GOV_CTL_PROFILE 1, 4)] else s

/-- TAMPER reports owed for detections on VBAT alone (R579). -/
def State.oweTamper (s : State) : State :=
  let t := s.sec.owedTamper.foldl (fun u src => u.secReport FATAL 1 src (u.fld F.SEC_TAMPER_LATCH_LATCH)) s
  t.modSec fun m => { m with owedTamper := [] }

/-- POWER_UP_END (R713): the root loop has locked, the fuses are sensed and the canary is checked; SECURE_BOOT begins. -/
def execPowerUpEnd (s : State) : Out :=
  .next (
    if s.phase ≠ 0 || s.poresetLow || s.supplyLow then s
    else
      let t := s.setFld F.RST_STATUS_COLD_CAUSE s.coldCause
      let t := if t.sec.canaryLost then t.freshBattery else t
      ((t.setFld F.CLK_STATUS_ROOT_LOCK 1).oweTamper.forceApproved.bootPorts).setPhase 1)

/-! ## SECURE_BOOT ends (R714, R718) -/

/-- SECURE_BOOT may end (R714). -/
def State.bootDone (s : State) : Bool :=
  s.phase == 1 && s.secState != SELFTEST && s.sec.zeroizing == 0 && !s.isRestarting 0 && !s.isRestarting 1 &&
    s.fld (F.MEM_HBM_STATUS_STATE 0) != 0 && s.fld (F.MEM_HBM_STATUS_STATE 1) != 0

/-- SECURE_BOOT_END (R714, R718, R532). -/
def execSecureBootEnd (s : State) : Out :=
  .next (
    if !s.bootDone then s
    else
      let t := { s with afterBoot := 2 }
      if s.afterBoot = 5 then ({ t with cfgDoneLow := false }).setPhase DONE_WAIT
      else if t.modeInvalid then (({ t with cfgErr := true }).setPhase CONFIG_WAIT).setFld F.CFG_STATUS_CAUSE 1
      else t.setPhase CONFIG_WAIT)

/-- BOOT_TIMEOUT (R714): SECURE_BOOT has not ended within 50 ms of a cold reset. -/
def execBootTimeout (s : State) : Out := .next (if s.phase = 1 && !s.bootDone then s.coldReset 4 else s)

/-! ## The clock loops (R710, R722) -/

/-- PLL_LOCK_LOSS (R710): of the root, a stack or a port; for 10 µs, or for less. -/
def execPllLockLoss (loop : Fin 7) (long : Bool) (s : State) : Out :=
  .next (
    if s.phase = 0 then s
    else if !long then s.setFld ⟨R.CLK_STATUS, 11 + loop, 11 + loop⟩ 1
    else if loop.val ≤ 2 then s.coldReset 3
    else
      let t := s.setFld F.CLK_STATUS_SERDES_LOCK (putBits (s.fld F.CLK_STATUS_SERDES_LOCK) (loop - 3) (loop - 3) 0)
      (s.linksOf (loop - 3)).foldl (fun u l => if u.linkUp l then (u.loseLink l).retrain l else u) t)

/-! ## The warm reset: its start (R717) -/

/-- The halves a warm reset executed by half h reaches: during a split, that half alone (R712). -/
def State.warmHalves (s : State) (h : Nat) : List Nat := if s.isSplit h then [h] else [0, 1]

/-- Every outstanding command that the halves execute ends with ABORT_RESET (R514). -/
def State.abortOutstanding (s : State) (halves : List Nat) : State :=
  let t := s.abortAll (fun j => halves.contains j.half) ABORT_RESET
  let t := t.abortJobs (fun j => halves.contains j.half) ABORT_RESET fun _ => []
  let mine (w : Waiting) : Bool := halves.contains w.half
  let u := (t.waiting.filter mine).foldl (fun v w => v.sendReply w.packet.via w.packet.seq.toNat w.opcode S_ABORTED ABORT_RESET
    (leBytes 16 0)) { t with waiting := [] }
  { u with waiting := t.waiting.filter fun w => !mine w }

/-- Steps 1 to 4 of R717 begin: replies, the log flush, the core resets with their write-backs, and the engines' flush (R466). -/
def State.beginWarm (s : State) (h : Nat) : State :=
  let hs := s.warmHalves h
  let began := match s.warm with
    | some w => w.began
    | none => s.phase
  let t := s.abortOutstanding hs
  let t := { t with warm := some { began := began, keep := s.on F.RST_CTL_WARM_KEEP, halves := hs }, cfgDoneLow := true }
  let t := t.each ((List.range 16).filter fun c => hs.contains (halfOfCore c)) fun c u => if (u.core c).live then u.resetCore c else u
  t.each hs fun k u =>
    let v := (u.cohWarmStart k).cohSettle k
    if v.fld (F.COH_DRAIN_DRAIN_US k) = 0 && v.cohWarmRuns k then v.cohWarmEnd k else v

/-- WARM_RESET of R519. -/
def cmdWarmReset : Cmd where
  opcode := 0x0005
  cls := .urgent
  scopes := [0]
  size := fun _ => 0
  touches := fun _ _ => []
  run := fun s r => ok (s.beginWarm r.half)

/-- WARM_RESET (R717). -/
def execWarmReset (p : Packet) (s : State) : Out := .next (s.deliver cmdWarmReset p)

/-- The reports of half h that wait. -/
def State.logWaits (s : State) (h : Nat) : Bool := !((s.log h).fatals.isEmpty && (s.log h).errors.isEmpty && (s.log h).notices.isEmpty)

/-- The flush of half h's log has ended. -/
def WarmRun.logOver (w : WarmRun) (s : State) (h : Nat) : Bool := w.logDone.contains h || !s.logWaits h

/-- WARM_LOG_FLUSH_TIMEOUT (R678): the reports left are discarded, and one SUMMARY per class is owed. -/
def execWarmLogFlushTimeout (h : Fin 2) (s : State) : Out :=
  .next (match s.warm with
    | none => s
    | some w =>
      if !w.halves.contains h.val || w.logDone.contains h.val then s
      else
        let l := s.log h
        let owe := [(2, l.fatals.length), (1, l.errors.length), (0, l.notices.length)].filter fun p => p.2 != 0
        { s.setLog h { l with fatals := [], errors := [], notices := [], owed := l.owed ++ owe } with
          warm := some { w with logDone := w.logDone ++ [h.val] } })

/-! ## The warm reset: the warm domain (R717 steps 5 and 6) -/

/-- The half whose copy of a block holds the register at address a; the blocks of which the part has one belong to the north half. -/
def regHalf (a : Nat) : Nat :=
  let one := decide (a < 0x200000) || (decide (0x300A00 ≤ a) && decide (a < 0x400000)) || (decide (0x480000 ≤ a) && decide (a < 0x700000)) ||
    (decide (0xE00000 ≤ a) && decide (a < 0x1000000))
  match findReg a with
  | some d => match d.dims with
    | [] => 0
    | (st, n) :: _ => if one then 0 else (a - d.base) / st * 2 / n
  | none => 0

/-- The graphs of half h, their links and its engine are lost. -/
def State.resetSched (s : State) (h : Nat) : State :=
  let t := s.each ((List.map Prod.fst s.graphs).filter fun g => s.home g == h) fun g u => u.dropGraph g
  { t.setSched h {} with windows := Bank.drop (fun k => k / 16384 / 8 == h) t.windows }

/-- Links rest, but for port 0 under CFG_MODE 0b010; a host that owes an answer is still signalled Viral when its link trains (R466). -/
def State.resetHostLinks (s : State) (h : Nat) : State :=
  s.each ((List.range 8).map (h * 8 + ·)) fun l t =>
    t.modHostLink l fun k => { ({} : HostLink) with viral := k.viral }

/-- TOKEN, DIR and CACHE of half h read zero; scratch stays (R372). -/
def State.clearPartitions (s : State) (h : Nat) : State :=
  s.clearMem (SCRATCH_BASE h) (0x01000000 - s.scratchBytes h)

/-- The security module starts afresh (R712, R568, R588): volatile keys go, and LEAVE_PENDING ends the approved mode. -/
def State.resetModule (s : State) : State :=
  let t := s.modSec fun m => { m with challenge := none, fuse := none, zeroizing := 0, sessions := [], ideKeys := [], generated := [], wrapKey := [] }
  let t := if s.fld (F.CSW_STATUS_STATE 0) = 4 then t else t.setStanding 0 3 false
  if s.on F.SEC_STATUS_LEAVE_PENDING then
    (t.clearKb).setFlds [(F.SEC_STATUS_APPROVED, 0), (F.SEC_STATUS_LEAVE_PENDING, 0), (F.SEC_COUNTS_ZCOUNT, t.fld F.SEC_COUNTS_ZCOUNT + 1)]
  else t

/-- What half h holds beyond its registers and pans starts afresh. -/
def State.resetHalf (s : State) (h : Nat) : State :=
  let t := ((s.resetSched h).resetHostLinks h).clearPartitions h
  let t := t.each ((List.range 8).map (h * 8 + ·)) fun c u => u.setCore c {}
  let t := ((t.setPartJob h none).setSweep h {}).setIsRestarting h false
  let t := (t.setAgentFrame h []).setAgentResult h []
  let t := t.each [0, 1] fun g u => u.modCswHalf g fun k =>
    { k with reqOut := [], reqCredit := 64, reqLand := [], snpOut := [], snpCredit := 32, snpLand := [] }
  let t := (t.modCswHalf h fun k => { k with retiring := none }).each (List.range 4) fun g u => u.modCswGroup (4 * h + g) fun k => { k with armCrc := false }
  let t := t.modLog h fun l => { l with inject0 := 0, inject1 := 0 }
  { t with
    lastGrant := Bank.erase t.lastGrant h
    serials := Bank.drop (fun e => e / 6 == h) t.serials
    patches := Bank.drop (fun k => k / 2 == h) t.patches
    patchHashes := Bank.drop (fun k => k / 2 == h) t.patchHashes
    coreSlots := Bank.drop (fun k => k / 256 == h) t.coreSlots
    inverted := Bank.drop (fun n => halfOfPan n == h) t.inverted }

/-- The pans of half h after the reset of the warm domain (R717, R718): kept with their images, or INVALID; with WARM_KEEP 0 in WAKE
or USER gated. A quarantined pan stays so, and is gated where the image goes. -/
def State.warmPans (s : State) (h : Nat) (keepImage gate : Bool) : State :=
  s.each (pansOf h) fun n t =>
    let q := t.sluice n == QUARANTINED
    let u := (if keepImage then t else (t.endClose n false).blankPan n).resetPan n false true
    if keepImage then u
    else
      if (q || gate) && u.power n ≠ 2 then (u.setFld (F.PAN_IMAGE_ID_VALID n) 0).gated n else u

/-- The registers show the image in force, which a warm reset keeps with its verification (R718, R586; Assumption 57). -/
def State.showImage (s : State) : State :=
  s.setFlds [(F.CFG_IMAGE_TAG_TAG, s.image.tag), (F.CFG_STATUS_ENCRYPTED, bnat s.image.encrypted),
    (F.CFG_STATUS_SIGNED, bnat (s.image.signed && s.image.sigOk == some true)), (F.CFG_STATUS_PANS, s.image.done.length)]

/-- The warm domain of the halves resets, and SECURE_BOOT begins (R717, R718). -/
def State.warmDomain (s : State) (w : WarmRun) : State :=
  let used := decide (w.began = WAKE) || decide (w.began = USER)
  let keep := used && w.keep
  let t := { s with
    warm := none
    jobs := s.jobs.filter fun j => !w.halves.contains j.half
    waiting := s.waiting.filter fun x => !w.halves.contains x.half }
  let t := if w.halves.contains 0 then t.endGrant else t
  let t := t.each w.halves fun h u => (u.warmPans h keep (used && !w.keep)).dropHardChans fun n => halfOfPan n == h
  let t := { t with treeHighs := Bank.drop (fun i => w.halves.contains (i / 16)) t.treeHighs }
  let t := t.resetRegs (fun a => w.halves.contains (regHalf a)) fun d => d == .warm || d == .pan
  let t := t.each w.halves fun h u => (u.resetHalf h).each ((List.range 6).map (6 * h + ·)) fun b v => v.resetPins b
  let t := t.each w.halves fun h u => if u.stopped h then u.each (pansOf h) fun n v => v.setFld (F.PAN_SLUICE_STATUS_HOLD_THERMAL n) 1 else u
  let t := if w.halves.contains 0 then
      let u := t.resetModule.bootPorts
      let u := { u with
        cfgErr := u.modeInvalid && s.cfgErr
        image := if keep then u.image else { ({} : ImageRun) with port0Due := u.image.port0Due }
        rtc := { u.rtc with latchTime := none, latchLow := none, latchHigh := none } }
      let u := if u.cfgErr then u.setFld F.CFG_STATUS_CAUSE 1 else u
      if keep then u.showImage else u
    else t
  let t := t.setFld F.RST_STATUS_WARM_COUNT (t.fld F.RST_STATUS_WARM_COUNT + 1)
  (({ t with afterBoot := if keep then 5 else 2, cfgDoneLow := true }.countUnsigned).settle).setPhase 1

/-- WARM_RESET_BEGIN (R717): the log, coherence and core flushes have ended. -/
def execWarmResetBegin (s : State) : Out :=
  .next (match s.warm with
    | none => s
    | some w => if w.halves.all fun h => w.logOver s h && w.cohDone.contains h then s.warmDomain w else s)

end Sys2Proof.Machine
end

