-- ==== Sys2Proof/Machine/RegRead.lean ====
section
/-! DEFINITION. Reads of the control address space (R7 to R9, R25, R26): the registers whose fields show what the part holds
elsewhere, the debug module's words, and the latching reads of the clock. -/

namespace Sys2Proof.Machine

/-- The bank key of a control address for an access through half h: each half has its copy of the causeway block (R491). -/
def regKey (h a : Nat) : Nat := if 0x00700000 ≤ a && a < 0x00800000 then a + h * 2 ^ 32 else a

/-- The link whose registers stand at address a, if any (R426). -/
def linkOfAddr (a : Nat) : Option Nat :=
  if 0x00900000 ≤ a && a < 0x00A00000 then
    let p := (a - 0x00900000) / 0x40000
    let o := a % 0x40000
    if 0x10 ≤ o && o < 0x40 then some (4 * p + o % 0x10 / 4)
    else if 0x10000 ≤ o && o < 0x18000 then some (4 * p + (o - 0x10000) / 0x2000)
    else none
  else none

/-- A register is documented at address a and present (R9, R426). -/
def State.documented (s : State) (h a : Nat) : Bool :=
  (findReg (regKey h a)).isSome && match linkOfAddr a with
    | some l => s.linkExists l
    | none => true

/-! ## What a read shows -/

/-- Registers of pan n by offset. -/
def State.viewPan (s : State) (n off w : Nat) : Nat :=
  match off with
  | 0x0004 => putBits (putBits w 31 29 (s.shownSluice n)) 25 25 (bnat (s.discarding n))
  | 0x0010 => (List.range 4).foldl (fun v q => if (s.queue (4 * n + q)).kind = 2 then putBits v (8 * q + 3) (8 * q + 3) 0 else v) w
  | 0x0014 =>
    (List.range 4).foldl (fun v q =>
      let k := s.queue (4 * n + q)
      let e := k.seg0.words.isEmpty && k.seg1.words.isEmpty
      let f := (k.size true != 0 && k.seg1.full (k.size true)) || (k.size false != 0 && k.seg0.full (k.size false))
      putBits (putBits (putBits v (8 * q + 7) (8 * q + 7) (bnat e)) (8 * q + 6) (8 * q + 6) (bnat f)) (8 * q) (8 * q) (bnat (s.qbService (4 * n + q)))) w
  | _ => w

/-- The interrupt lines of core c (R329). -/
def State.coreLines (s : State) (c : Nat) : Nat :=
  bnat (s.coreRecord c).isSome + bnat ((s.core c).preempt || (s.core c).abort) * 2 + bnat (s.on (F.TCORE_COP_STATUS_EVENT c)) * 4 +
    bnat (s.queueLine c) * 8 + bnat (s.pinLine c) * 16

/-- Registers of the scheduler of half h by offset. -/
def State.viewSched (s : State) (h off w : Nat) : Nat :=
  match off with
  | 0x0004 => putBits (putBits w 27 27 (bnat (s.load (loadKey h 1)).isSome)) 8 0 (s.sched h).records.length
  | 0x0008 => putBits (putBits w 31 16 (s.nodesUsed h)) 12 0 (s.sched h).ready.length
  | _ => w

/-- PAR of a scrubber's control word (R381). -/
def State.scrubPar (s : State) (h sel w : Nat) : Nat :=
  putBits w 31 31 ((bitsOf w 30 30 + popcount 16 (bitsOf w 15 0) + bnat (s.scrubber (scrubKey h sel)).badPar) % 2)

/-- CLK_STATUS (R722). -/
def State.viewClk (s : State) (w : Nat) : Nat :=
  let w := putBits w 31 31 (bnat (s.phase != 0))
  let w := putBits w 30 29 (bnat (s.fld (F.MEM_HBM_STATUS_STATE 0) != 0) + 2 * bnat (s.fld (F.MEM_HBM_STATUS_STATE 1) != 0))
  putBits w 28 25 (((List.range 4).map fun p => bnat ((s.linksOf p).any s.linkUp) * 2 ^ p).foldl (· + ·) 0)

/-- The word a read of a documented register shows, from the stored word w. -/
def State.view (s : State) (h a w : Nat) : Nat :=
  if 0x01000000 ≤ a then s.viewPan ((a - 0x01000000) / 0x10000) (a % 0x10000) w
  else if 0x00E00000 ≤ a then
    match a with
    | 0x00E01000 => putBits (putBits w 31 29 s.dbgScope) 5 0 s.dbg.replies.length
    | 0x00E01010 => (s.showRakeCtl.reg a).toNat
    | 0x00E01018 => (s.showRake.reg a).toNat
    | _ => w
  else if 0x00C00000 ≤ a && a < 0x00D00000 then (if a % 0x100 = 0x10 then s.coreLines ((a - 0x00C00000) / 0x100) else w)
  else if 0x00B00000 ≤ a && a < 0x00C00000 then
    (if a % 0x10000 = 0x14 then s.scrubPar ((a - 0x00B00000) / 0x10000) 0 w
     else if a % 0x10000 = 0x18 then s.scrubPar ((a - 0x00B00000) / 0x10000) 1 w else w)
  else if 0x00A00000 ≤ a && a < 0x00B00000 then
    (if a % 0x80000 = 0x8 then
      putBits (putBits w 31 31 (bnat (s.anyHdmD ((a - 0x00A00000) / 0x80000)))) 20 0 (s.trackedLines ((a - 0x00A00000) / 0x80000)).length
     else w)
  else if 0x00800000 ≤ a && a < 0x00900000 then s.viewSched ((a - 0x00800000) / 0x80000) (a % 0x80000) w
  else if a = 0x00700004 then putBits (putBits w 26 26 (bnat (s.xdep h == 0))) 25 21 (s.xdep h)
  else if 0x00300000 ≤ a && a < 0x00400000 then
    (if 0x00300800 ≤ a && a < 0x00300980 && a % 0x20 = 0x10 then s.bankIn ((a - 0x00300800) / 0x20)
     else if a = 0x00300A84 then s.activeLines else w)
  else if 0x00100200 ≤ a && a < 0x00100280 then
    putBits (putBits w 29 29 (bnat (s.treeRunning ((a - 0x00100200) / 4)))) 28 28 (bnat (s.treeBad ((a - 0x00100200) / 4)))
  else if a = 0x00100008 then s.viewClk w
  else w

/-! ## The debug module's words (R729, R730; formats of the RISC-V External Debug Support specification: Assumption 13) -/

/-- The harts in a state, as a mask by core: halted, and unavailable. -/
def State.haltedMask (s : State) : Nat := ((List.range 16).map fun c => bnat (s.isHalted c) * 2 ^ c).foldl (· + ·) 0

/-- A core with its RUN bit clear is unavailable (R731). -/
def State.unavailable (s : State) (c : Nat) : Bool := !s.on (F.TCORE_CTL_RUN c)

/-- dmstatus for the selected hart. -/
def State.dmstatus (s : State) : Nat :=
  let c := s.dbg.hartsel
  let pair (b : Bool) (lo : Nat) : Nat := bnat b * 3 * 2 ^ lo
  let there := decide (c < 16)
  3 + 0x80 + pair (there && s.isHalted c) 8 + pair (there && !s.isHalted c && !s.unavailable c) 10 + pair (there && s.unavailable c) 12 +
    pair (!there) 14 + pair (there && (s.hart c).resumeack) 16 + pair (there && (s.hart c).havereset) 18

/-- The word at DMI address a below 0x80. -/
def State.dmWord (s : State) (a : Nat) : Nat :=
  let d := s.dbg
  if a = 0x04 || a = 0x05 then (Bank.get (fun _ => (0 : Word)) d.data (a - 4)).toNat
  else if 0x20 ≤ a && a < 0x28 then (Bank.get (fun _ => (0 : Word)) d.progbuf (a - 0x20)).toNat
  else match a with
    | 0x10 => d.hartsel % 1024 * 2 ^ 16 + d.hartsel / 1024 * 2 ^ 6 + bnat d.ndmreset * 2 + bnat d.dmactive
    | 0x11 => s.dmstatus
    | 0x13 => bnat (s.haltedMask != 0)
    | 0x16 => 8 * 2 ^ 24 + d.cmderr * 2 ^ 8 + 2
    | 0x38 => 2 ^ 29 + bnat d.sbReadOnAddr * 2 ^ 20 + d.sbaccess * 2 ^ 17 + bnat d.sbIncrement * 2 ^ 16 + bnat d.sbReadOnData * 2 ^ 15 +
        d.sberror * 2 ^ 12 + 64 * 2 ^ 5 + 15
    | 0x39 => d.sbaddr % 2 ^ 32
    | 0x3A => d.sbaddr / 2 ^ 32
    | 0x3C => d.sbdata % 2 ^ 32
    | 0x3D => d.sbdata / 2 ^ 32
    | 0x40 => s.haltedMask
    | _ => 0

/-- The memory-access words of the debug module (R595). -/
def memoryAccessWord (a : Nat) : Bool := decide (0x00E000E0 ≤ a) && decide (a < 0x00E00100)

/-! ## Reads -/

/-- What a read of control address a through half h returns, without the effects of a latching read. -/
def State.peek (s : State) (h a : Nat) : Nat :=
  if 0x00E00000 ≤ a && a < 0x00E00200 then s.dmWord ((a - 0x00E00000) / 4)
  else if 0x00E01100 ≤ a && a < 0x00E01198 then s.rakeStateWord ((a - 0x00E01100) / 4)
  else if 0x00900000 ≤ a && a < 0x00A00000 && 0x10000 ≤ a % 0x40000 && a % 0x40000 < 0x18000 && a % 0x2000 < 0x1000 then
    (match linkOfAddr a with
     | some l => if s.linkExists l then s.slotNum l (a % 0x1000 / 128) (a % 128) 4 else 0
     | none => 0)
  else if !s.documented h a then 0
  else s.view h a (s.reg (regKey h a)).toNat % 2 ^ 32

/-- A read of an aligned control address: DATE latches TIME and SECONDS, whose next reads return what was latched (R693). -/
def State.readReg (s : State) (h a : Nat) : State × Nat :=
  let setRtc (f : Rtc → Rtc) : State := { s with rtc := f s.rtc }
  if a = R.RTC_DATE then
    (setRtc fun r => { r with latchTime := some (s.reg R.RTC_TIME), latchLow := some (s.reg (R.RTC_SECONDS 0)), latchHigh := some (s.reg (R.RTC_SECONDS 1)) },
      (s.reg R.RTC_DATE).toNat)
  else if a = R.RTC_TIME then (setRtc fun r => { r with latchTime := none }, (s.rtc.latchTime.getD (s.reg a)).toNat)
  else if a = R.RTC_SECONDS 0 then (setRtc fun r => { r with latchLow := none }, (s.rtc.latchLow.getD (s.reg a)).toNat)
  else if a = R.RTC_SECONDS 1 then (setRtc fun r => { r with latchHigh := none }, (s.rtc.latchHigh.getD (s.reg a)).toNat)
  else (s, s.peek h a)

end Sys2Proof.Machine
end

