-- ==== Sys2Proof/Machine/Sluices.lean ====
section
/-! DEFINITION. The sluice commands (07_sluices_and_reconfiguration) and the power and pan commands of R521. -/

namespace Sys2Proof.Machine

/-- SLUICE_CLOSE_COMPLETE (R244): every item is drained and the sluice seals. -/
def execSluiceCloseComplete (n : Fin 256) (s : State) : Out := .next (s.closeIfDrained n)

/-- SLUICE_DRAIN_TIMEOUT (R245): the sluice seals and what is left is aborted. -/
def execSluiceDrainTimeout (n : Fin 256) (s : State) : Out := .next (s.endClose n false)

/-- SLUICE_DEBUG_HOLD (R239): DEBUG is set or cleared. -/
def execSluiceDebugHold (n : Fin 256) (b : Bool) (s : State) : Out := .next (s.writeDebug n b)

/-- A write of DISCARD (R237, R238). -/
def State.writeDiscard (s : State) (n : Nat) (b : Bool) : State := (s.put (F.PAN_SLUICE_CTL_DISCARD n) b).dropStages n

/-- SLUICE_DISCARD_SET (R237). -/
def execSluiceDiscardSet (n : Fin 256) (b : Bool) (s : State) : Out := .next (s.writeDiscard n b)

/-- The sluice of pan n passes tokens out (R235). -/
def State.passesOut (s : State) (n : Nat) : Bool := s.power n == 0 && (s.sluice n == OPEN || s.sluice n == CLOSING)

/-- A token that pan m sends on lane j of a side enters the stage of inbound lane k of pan n, or is dropped and counted there while
DISCARD is effective; none while no token waits or the stage is not idle: it stays with its producer (R85, R238). -/
def State.sendLane (s : State) (m sd j n side k word : Nat) : Option State :=
  let out := chanOfPoint m (sd * 64 + j)
  match s.portToken out word with
  | none => none
  | some w =>
    if s.discarding n then some ((s.takeToken out).countDrop n)
    else if (s.chan (laneStage n side k)).idle then
      some ((s.takeToken out).modChan (laneStage n side k) (·.offer (railsOf 16 w)))
    else none

/-- A token offered on an inbound lane by the pan at its far end, whose sluice passes it (R235, R238). -/
def State.offerLane (s : State) (n side k word : Nat) : State :=
  match farLane n side k with
  | none => s.reply .stalled
  | some (m, sd, j) =>
    if !laneInbound side k || !s.awake || !s.passesOut m then s.reply .stalled
    else match s.sendLane m sd j n side k word with
      | some t => t.reply .done
      | none => s.reply .stalled

/-- SLUICE_TOKEN_DROP (R237): a token is offered on an inbound border lane, that of the grains that drive the lane, or `word`. -/
def execSluiceTokenDrop (n : Fin 256) (side : Fin 4) (k : Fin 64) (word : BitVec 16) (s : State) : Out :=
  .next (s.offerLane n side k word.toNat)

/-- A write of 1 to STEP with a side and a lane: armed, or refused (R246). -/
def State.writeStep (s : State) (n side k : Nat) : State :=
  let t := s.setFlds [(F.PAN_SLUICE_CTL_STEP_SIDE n, side), (F.PAN_SLUICE_CTL_STEP_LANE n, k)]
  if s.sluice n = SEALED && s.on (F.PAN_SLUICE_STATUS_HOLD_DEBUG n) && (farLane n side k).isSome then
    (t.modPan n fun p => { p with armed := some (side, k) }).setFld (F.PAN_SLUICE_CTL_STEP n) 1
  else (t.modPan n fun p => { p with armed := none }).setFlds [(F.PAN_SLUICE_CTL_STEP n, 0), (F.PAN_SLUICE_STATUS_STEP_REFUSED n, 1)]

/-- SLUICE_STEP (R246). -/
def execSluiceStep (n : Fin 256) (side : Fin 4) (k : Fin 64) (s : State) : Out := .next (s.writeStep n side k)

/-- The armed token has passed, and STEP clears. -/
def State.stepEnds (s : State) (n : Nat) : State := (s.modPan n fun p => { p with armed := none }).setFld (F.PAN_SLUICE_CTL_STEP n) 0

/-- The token of the armed lane passes, if one waits: on an inbound lane the one in the stage goes to the grains of the pan; on an
outbound lane the next one from inside enters the stage (R246). -/
def State.stepToken (s : State) (n side k word : Nat) : Option State :=
  if laneInbound side k then
    let c := s.chan (laneStage n side k)
    if c.complete && !c.passed then some (s.modChan (laneStage n side k) fun x => { x with passed := true }) else none
  else match farLane n side k with
    | some (m, sd, j) => s.sendLane n side k m sd j word
    | none => none

/-- SLUICE_STEP_DONE (R246): the armed token passes; on an outbound lane it is that of the grains that drive the lane, or `word`. -/
def execSluiceStepDone (n : Fin 256) (word : BitVec 16) (s : State) : Out :=
  .next (match (s.pan n).armed with
    | none => s
    | some (side, k) => match s.stepToken n side k word.toNat with
      | some t => t.stepEnds n
      | none => s)

/-- SLUICE_DISCARD_CLEAR (R268): SAT, TOKENS and REFUSED take 0. -/
def execSluiceDiscardClear (n : Fin 256) (s : State) : Out :=
  .next (s.setFlds [(F.PAN_SLUICE_DISCARD_SAT n, 0), (F.PAN_SLUICE_DISCARD_TOKENS n, 0), (F.PAN_SLUICE_DISCARD_REFUSED n, 0)])

/-! ## Power (R115 to R118) -/

/-- PAN_GATING_DONE (R115). -/
def execPanGatingDone (n : Fin 256) (s : State) : Out := .next (if s.power n = 1 then s.gated n else s)

/-- PAN_AUTO_GATE (R128): with AUTO set and the conditions of R115 met, and no load or reload that claims the pan (R117). -/
def execPanAutoGate (n : Fin 256) (s : State) : Out :=
  .next (if s.on (F.PAN_PWR_CTL_AUTO n) && s.power n = 0 && (s.gateRefusal n).isNone then s.beginGating n else s)

/-- PAN_WAKE_START (R116): the oldest waiting wake request of half h reaches its turn. -/
def execPanWakeStart (h : Fin 2) (s : State) : Out := .next (s.startWake h)

/-- PAN_WAKE_DONE (R116). -/
def execPanWakeDone (n : Fin 256) (s : State) : Out := .next (if s.power n = 3 then s.woken n else s)

/-! ## Pan commands of R521 -/

/-- PAN_OPEN of R521. -/
def cmdPanOpen : Cmd where
  opcode := 0x0101
  cls := .short
  scopes := [2]
  size := fun _ => 0
  check := fun s r => match (s.writeOpen r.idx).2 with
    | .refused => refusal S_STATE
    | .nothing => already
    | _ => none
  run := fun s r => ok (s.writeOpen r.idx).1

/-- PAN_OPEN (R241). -/
def execPanOpen (p : Packet) (s : State) : Out := .next (s.deliver cmdPanOpen p)

/-- PAN_CLOSE of R521. -/
def cmdPanClose : Cmd where
  opcode := 0x0102
  cls := .long
  scopes := [2]
  size := fun _ => 0
  check := fun s r => match (s.writeShut r.idx).2 with
    | .nothing => already (drainRecord 0 0)
    | _ => none
  run := fun s r =>
    let items := s.panItems r.idx
    match s.writeShut r.idx with
    | (t, .closing) =>
      if (t.pan r.idx).close.isSome then .job t (longJob r items [r.p.target.toNat] r.idx)
      else ok t (drainRecord 0 items)
    | (t, _) => ok t (drainRecord 0 0)

/-- PAN_CLOSE (R243). -/
def execPanClose (p : Packet) (s : State) : Out := .next (s.deliver cmdPanClose p)

/-- PAN_POWER of R521: 0 gate, 1 wake, 2 AUTO on with HOLD_US, 3 AUTO off. -/
def cmdPanPower : Cmd where
  opcode := 0x0103
  cls := .short
  scopes := [2]
  size := fun _ => 8
  fields := [rangeField 0 1 0 3, zeroField 1 3, { off := 4, len := 4, ok := fun _ r => r.p.u8 0 != 2 || decide (r.p.u32 4 < 2 ^ 20) }]
  check := fun s r =>
    if r.p.u8 0 = 0 then (if s.power r.idx = 2 then already else none)
    else if r.p.u8 0 = 1 then (if s.power r.idx = 0 then already else none)
    else none
  run := fun s r =>
    match r.p.u8 0 with
    | 0 => match s.requestGate r.idx with
      | (t, some c) => .done t S_STATE (0x0300 + c) []
      | (t, none) => ok t
    | 1 =>
      if s.stopped (halfOfPan r.idx) && s.power r.idx = 2 then
        .done (s.refusePower r.idx CAUSE_THERMAL) S_STATE (0x0300 + CAUSE_THERMAL) []
      else ok (s.requestWake r.idx)
    | 2 => ok (s.setFlds [(F.PAN_PWR_CTL_AUTO r.idx, 1), (F.PAN_PWR_CTL_HOLD_US r.idx, r.p.u32 4)])
    | _ => ok (s.setFld (F.PAN_PWR_CTL_AUTO r.idx) 0)

/-- PAN_POWER (R115). -/
def execPanPower (p : Packet) (s : State) : Out := .next (s.deliver cmdPanPower p)

end Sys2Proof.Machine
end

