-- ==== Sys2Proof/Machine/RegWrite.lean ====
section
/-! DEFINITION. Writes of the control address space (R10 to R14, R26, R31): each field by its access type, and the actions that the
registers' tables name. -/

namespace Sys2Proof.Machine

/-! ## Access types (R11, R13) -/

/-- The fields of a word under a write: RW takes the value, W1C clears where 1 is written, the others keep theirs. -/
def writeFields : List RegField → Nat → Nat → Nat
  | [], w, _ => w
  | f :: r, w, v =>
    writeFields r (match f.acc with
      | .rw => putBits w f.hi f.lo (bitsOf v f.hi f.lo)
      | .w1c => putBits w f.hi f.lo (bitsOf w f.hi f.lo - (bitsOf w f.hi f.lo &&& bitsOf v f.hi f.lo))
      | _ => w) v

/-- Write v to the register at bank key k by its fields' access types alone. -/
def State.plain (s : State) (k v : Nat) : State :=
  match findReg k with
  | some d => s.setReg k (BitVec.ofNat 32 (writeFields d.fields (s.reg k).toNat v))
  | none => s

/-! ## Pans -/

/-- SLUICE_CTL of pan n (R265), in the order of R242: a hold that sets, DISCARD, OPEN; a hold that clears comes last. -/
def State.writeSluiceCtl (s : State) (n v : Nat) : State :=
  let t := if bitOf v 29 && !s.on (F.PAN_SLUICE_CTL_DEBUG n) then s.writeDebug n true else s
  let t := if bitOf v 30 = t.on (F.PAN_SLUICE_CTL_DISCARD n) then t else t.writeDiscard n (bitOf v 30)
  let t := if bitOf v 31 = t.on (F.PAN_SLUICE_CTL_OPEN n) then t else if bitOf v 31 then (t.writeOpen n).1 else (t.writeShut n).1
  let t := if !bitOf v 29 && t.on (F.PAN_SLUICE_CTL_DEBUG n) then t.writeDebug n false else t
  if bitOf v 28 then t.writeStep n (bitsOf v 27 26) (bitsOf v 25 20)
  else t.setFlds [(F.PAN_SLUICE_CTL_STEP_SIDE n, bitsOf v 27 26), (F.PAN_SLUICE_CTL_STEP_LANE n, bitsOf v 25 20)]

/-- QB_CTL of queue d: GUARD, MODE but while the scheduler is bound (R146), WIDTH but for 0b11, then the flushes (R154, R155). -/
def State.writeQbCtl (s : State) (d v : Nat) : State :=
  let p := panOfQueue d
  let q := qOf d
  let b := v / 2 ^ (8 * q)
  let t := s.setFld (F.PAN_QB_CTL_GUARD p q) (bitsOf b 4 4)
  let t := if (s.queue d).kind = 2 then t else t.setFld (F.PAN_QB_CTL_MODE p q) (bitsOf b 3 3)
  let t := (if bitsOf b 2 1 = 3 then t else t.setFld (F.PAN_QB_CTL_WIDTH p q) (bitsOf b 2 1)).settingsIfOutside d
  let t := if bitOf b 7 then t.flushesDone (t.requestFlush d) d else t
  let t := if bitOf b 6 then t.flushesDone (t.requestSegFlush d true) d else t
  if bitOf b 5 then t.flushesDone (t.requestSegFlush d false) d else t

/-- QB_WINDOW of queue d (R157, R158). -/
def State.writeQbWindow (s : State) (d v : Nat) : State :=
  let p := panOfQueue d
  let b := v / 2 ^ (8 * qOf d)
  if s.fld (F.PAN_QB_WINDOW_KIND p (qOf d)) = bitsOf b 7 5 && s.fld (F.PAN_QB_WINDOW_INDEX p (qOf d)) = bitsOf b 3 0 then s
  else s.changeBinding d (bitsOf b 7 5) (bitsOf b 3 0) 0 0 false

/-- RAKE_CTL of pan n (R231): the RUN bits that change, then an injection. -/
def State.writeRakeRun (s : State) (n v : Nat) : State :=
  let old := bitsOf (s.reg (R.PAN_RAKE_CTL n)).toNat 31 16
  let new := bitsOf v 31 16
  let t := s.runRakes n (new - (new &&& old)) (old - (new &&& old))
  let t := if t.fld (F.PAN_SLUICE_DRAIN_DRAIN_US n) = 0 then
      t.each (rakesIn n (old - (new &&& old))) fun i u => if (u.rake i).stopping.isSome then u.endStop i else u
    else t
  let t := if bitOf v 7 then t.setFld (F.PAN_RAKE_CTL_INJ_REFUSED n) 0 else t
  let t := t.injFields (16 * n + bitsOf v 14 11) (bitsOf v 10 8)
  if bitOf v 15 then t.rakeInject (16 * n + bitsOf v 14 11) (bitsOf v 10 8) else t

/-- PWR_CTL of pan n (R128, R129). -/
def State.writePwr (s : State) (n v : Nat) : State :=
  let t := s.setFlds [(F.PAN_PWR_CTL_AUTO n, bitsOf v 29 29), (F.PAN_PWR_CTL_HOLD_US n, bitsOf v 19 0)]
  if bitOf v 31 && bitOf v 30 then t.refusePower n CONFLICT
  else if bitOf v 31 then (t.requestGate n).1
  else if bitOf v 30 then t.requestWake n
  else t

/-- The registers of pan n by offset. -/
def State.writePan (s : State) (n off v : Nat) : State :=
  let t := s.plain (0x01000000 + n * 0x10000 + off) v
  match off with
  | 0x0000 => s.writeSluiceCtl n v
  | 0x000C => if bitOf v 31 then t.setFlds [(F.PAN_SLUICE_DISCARD_TOKENS n, 0), (F.PAN_SLUICE_DISCARD_REFUSED n, 0)] else t
  | 0x0010 => s.each [0, 1, 2, 3] fun q u => u.writeQbCtl (4 * n + q) v
  | 0x0018 => s.each [0, 1, 2, 3] fun q u => u.writeQbWindow (4 * n + q) v
  | 0x001C => s.writeRakeRun n v
  | 0x0028 => if bitOf v 30 then t.setFld (F.PAN_BMEM_ECC_STATUS_CE_COUNT n) 0 else t
  | 0x002C => if bitOf v 31 then t.bmemInjectWrite n (bitsOf v 29 25) (bitsOf v 23 11) (bitsOf v 6 0) (bitOf v 30) else t
  | 0x0030 => if bitOf v 31 then t.clearLate n else t
  | 0x0034 => s.writePwr n v
  | 0x0040 => if bitOf v 30 then t.stallInjectWrite n (bitsOf v 29 21) else t
  | 0x0044 => if bitOf v 31 then t.clearStalled n else t
  | _ => t

/-! ## Schedulers, cores, memory -/

/-- The registers of the scheduler of half h by offset. -/
def State.writeSched (s : State) (h off v : Nat) : State :=
  let t := s.plain (0x00800000 + h * 0x80000 + off) v
  match off with
  | 0x0000 =>
    let u := s.setFlds [(F.SCHED_CTL_HALT h, bitsOf v 30 30), (F.SCHED_CTL_TEST_PRIO h, bitsOf v 28 26)]
    let u := if bitOf v 31 = s.on (F.SCHED_CTL_EN h) then u else if bitOf v 31 then u.enableSched h else ((u.disableSched h).beginStop' h {}).1.settle
    if bitOf v 29 then u.schedStepWrite h else u
  | 0x0010 =>
    let busy := s.busyCores h (s.fld (F.SCHED_CORES_MANAGED h) &&& (bitsOf v 7 0 ^^^ 0xFF))
    if busy = 0 then t.settle else (t.beginStop' h { cores := busy }).1.settle
  | 0x0020 => t.settle
  | 0x0024 => t.settle
  | 0x0028 => t.settle
  | 0x002C => t.settle
  | 0x0038 => if bitOf v 31 then t.setFlds [(F.SCHED_COUNTS_READY_WAITS h, 0), (F.SCHED_COUNTS_DISPATCH_WAITS h, 0), (F.SCHED_COUNTS_NOTES_DROPPED h, 0)] else t
  | 0x003C => if bitOf v 31 then t.schedInjectWrite h (bitsOf v 30 28) else t
  | _ => t

/-- The registers of core c by offset. -/
def State.writeCore (s : State) (c off v : Nat) : State :=
  let t := s.plain (0x00C00000 + c * 0x100 + off) v
  match off with
  | 0x00 => if bitOf v 31 = s.on (F.TCORE_CTL_RUN c) then s
      else if bitOf v 31 then (s.setFld (F.TCORE_CTL_RUN c) 1).releaseCore c else s.stopCore c
  | 0x0C => if bitOf v 29 then t.setFld (F.TCORE_STATUS_CE_COUNT c) 0 else t
  | 0x14 => s.writeMsip c (bitOf v 0)
  | 0x18 => s.writeMtimecmp c false v
  | 0x1C => s.writeMtimecmp c true v
  | 0x2C => if bitOf v 27 then t.setFld (F.TCORE_COP_STATUS_STRAY_COUNT c) 0 else t
  | 0x30 => if bitOf v 31 then t.coreInjectWrite c (bitsOf v 30 29) (bitOf v 28) else t
  | _ => t

/-- A scrubber's control register (R381, R382, R387). -/
def State.writeScrub (s : State) (h sel v : Nat) : State :=
  let t := (s.setFld (fInterval h sel) (bitsOf v 15 0)).repairPar h sel
  let t := t.enableScrub h sel (bitOf v 30)
  if bitOf v 29 then t.restartScrub h sel else t

/-- The registers of the lagoon and stack controllers of half h by offset. -/
def State.writeMemCtl (s : State) (h off v : Nat) : State :=
  let t := s.plain (0x00B00000 + h * 0x10000 + off) v
  match off with
  | 0x0C => if bitOf v 30 then t.setFld (F.MEM_ECC_STATUS_CE_COUNT h) 0 else t
  | 0x14 => s.writeScrub h 0 v
  | 0x18 => s.writeScrub h 1 v
  | 0x20 => if bitOf v 31 then t.memInject h (bitsOf v 28 28) (bitsOf v 30 29) (s.reg (R.MEM_INJ_ADDR h)).toNat (bitsOf v 6 0) else t
  | _ => t

/-! ## Ports, coherence, causeway -/

/-- The registers of port p by offset (R426): a slot number written to SUBMIT waits for the command to end, whose delivery then
submits it (Assumption 18). -/
def State.writePort (s : State) (p off v : Nat) : State :=
  let t := s.plain (0x00900000 + p * 0x40000 + off) v
  if 0x10000 ≤ off && off < 0x18000 && off % 0x2000 = 0x1000 then { s with submits := s.submits ++ [(4 * p + (off - 0x10000) / 0x2000, v % 64)] }
  else if off = 0 then
    if bitOf v 31 = s.on (F.PORT_CTL_EN p) then t
    else if bitOf v 31 then (t.enablePort p).portSettle else (t.stopPort p).1
  else if off = 8 then (if bitOf v 31 then t.portInject p (bitsOf v 27 26) (bitsOf v 30 28) else t)
  else if 0x20 ≤ off && off < 0x30 then (if bitOf v 31 then s.errcntClear (4 * p + (off - 0x20) / 4) else s)
  else if off = 0x100 then
    if p % 2 = 1 then s
    else
      let h := p / 2
      if s.routeIs h (bitOf v 31) (bitsOf v 3 2) (bitsOf v 1 0) then s
      else if (s.coh h).flush.isSome then s
      else if (s.hostLines h).isEmpty then t
      else s.changeRoute h (bitOf v 31) (bitsOf v 3 2) (bitsOf v 1 0)
  else t

/-- The registers of the coherence engine of half h by offset. -/
def State.writeCohCtl (s : State) (h off v : Nat) : State :=
  let t := s.plain (0x00A00000 + h * 0x80000 + off) v
  match off with
  | 0x10 => if bitOf v 31 then t.setFlds [(F.COH_EVICTS_DIR_EVICT h, 0), (F.COH_EVICTS_FILTER_EVICT h, 0)] else t
  | 0x14 => if bitOf v 31 then t.setFld (F.COH_FLIPS_FLIPS h) 0 else t
  | 0x18 => if bitOf v 31 then t.cohInject h (bitsOf v 30 29) else t
  | _ => t

/-- A write of CSW_CTL through half h (R491): the settings, then the requests that may run now. -/
def State.writeCswCtl (s : State) (h v : Nat) : State :=
  let t := ((s.cswSet h F.CSW_CTL_POLICY (bitsOf v 31 31)).cswSet h F.CSW_CTL_AUTO_REJOIN (bitsOf v 30 30)).cswSet h F.CSW_CTL_RET_GROUP (bitsOf v 25 24)
  let t := if !bitOf v 29 || t.crossLines = 0 then t.cswSet h F.CSW_CTL_XHOME_BLOCK (bitsOf v 29 29) else t
  let g := bitsOf v 25 24
  let t := if bitOf v 27 && t.groupState g != G_RETIRED && !t.onlyUp g && (t.cswHalf h).retiring.isNone then
      let u := (t.cswSet h F.CSW_CTL_RETIRE 1).modCswHalf h fun k => { k with retiring := some (g, t.groupFlits g) }
      if t.groupFlits g = 0 || t.fld (F.CSW_DRAIN_DRAIN_US h) = 0 then u.endRetire h else u
    else t
  let t := if bitOf v 26 && !t.restoring then t.startRestore else t
  if bitOf v 28 && !t.joined && t.mayRejoin then t.rejoin else t

/-- The registers of the causeway block by offset, through half h. -/
def State.writeCsw (s : State) (h off v : Nat) : State :=
  let both (k : Nat) : List Nat := if s.joined then [0, 1] else [k]
  let t := (both h).foldl (fun u k => u.plain (0x00700000 + off + k * 2 ^ 32) v) s
  match off with
  | 0x00 => s.writeCswCtl h v
  | 0x20 => if bitOf v 31 then s.each [0, 1] fun k u => u.setFld (F.CSW_LAND_HIGH k 0) (u.fld (F.CSW_LAND_USED k 0)) else s
  | 0x24 => if bitOf v 31 then s.each [0, 1] fun k u => u.setFld (F.CSW_LAND_HIGH k 1) (u.fld (F.CSW_LAND_USED k 1)) else s
  | 0x30 => if bitOf v 31 then t.cswInjectWrite h (bitsOf v 30 29) (bitsOf v 28 27) else t
  | _ => t

/-! ## Governor, pins, errors, self-test -/

/-- The registers of the governor of half h by offset: values outside a field's range leave it unchanged (R625 to R633). -/
def State.writeGov (s : State) (h off v : Nat) : State :=
  let t := s.plain (0x00200000 + h * 0x80000 + off) v
  match off with
  | 0x0000 => (if bitsOf v 31 29 ≤ 4 then s.govWide h F.GOV_CTL_PROFILE (bitsOf v 31 29) else s).govWide h F.GOV_CTL_AUTO_CLEAR (bitsOf v 28 28)
  | 0x0008 =>
    let u := s.setFlds [(F.GOV_CAP_SLICE_W h, bitsOf v 13 8), (F.GOV_CAP_OTHER_W h, bitsOf v 7 0)]
    (if 60 ≤ bitsOf v 31 23 && bitsOf v 31 23 ≤ 400 then u.govWide h F.GOV_CAP_CAP_W (bitsOf v 31 23) else u).showPower h
  | 0x0010 =>
    let u := if fixedMvOk (bitsOf v 31 22) then s.govWide h F.GOV_FIXED_VFAB_MV (bitsOf v 31 22) else s
    if bitsOf v 21 15 ≤ 100 then u.govWide h F.GOV_FIXED_DUTY (bitsOf v 21 15) else u
  | 0x0014 => if 660 ≤ bitsOf v 11 0 && bitsOf v 11 0 ≤ 2500 then t else s
  | 0x0018 => if Config.gradeMaxTj < bitsOf v 23 16 then t.setFld (F.GOV_LIMITS_TSTOP h) (s.fld (F.GOV_LIMITS_TSTOP h)) else t
  | 0x0028 => if bitOf v 31 then t.govInjectWrite h (bitsOf v 30 28) (bitsOf v 27 22) else t
  | _ =>
    if 0x260 ≤ off && off < 0x270 then
      (if bitsOf v 31 30 = 3 then t.setFld (F.GOV_FAN_ROLE h ((off - 0x260) / 4)) (s.fld (F.GOV_FAN_ROLE h ((off - 0x260) / 4))) else t)
    else if 0x280 ≤ off && off < 0x2A0 then
      let r := (off - 0x280) / 4
      let u := if 6 ≤ bitsOf v 30 28 then t.setFld (F.GOV_REG_CFG_RAIL h r) (s.fld (F.GOV_REG_CFG_RAIL h r)) else t
      if s.on (F.GOV_REG_CFG_EN h r) && !bitOf v 31 then ((s.disableSlot h r).getD s) else u.showPower h
    else t

/-- The registers of the pin block by offset. -/
def State.writePins (s : State) (off v : Nat) : State :=
  let t := s.plain (0x00300000 + off) v
  if off < 0x600 then (if wordFields (off / 4) v then s.setPinWord (off / 4) (v % 2 ^ 32) else s)
  else if 0x800 ≤ off && off < 0x980 then
    (if off % 0x20 < 0x0C then s.bankWrite ((off - 0x800) / 0x20) (off % 0x20 / 4) v else t)
  else if 0xA00 ≤ off && off < 0xA80 then s.setLine ((off - 0xA00) / 4) (bitsOf v 11 8) (bitsOf v 7 0)
  else if off = 0xAA0 then
    (if bitOf v 31 then (match execPinInject ⟨bitsOf v 30 29 % 4, Nat.mod_lt _ (by decide)⟩ t with
      | .next u => u
      | _ => t) else t)
  else t

/-- The registers of the error block of half h by offset. -/
def State.writeErr (s : State) (h off v : Nat) : State :=
  let t := s.plain (0x00400000 + h * 0x10000 + off) v
  match off with
  | 0x00 => if bitOf v 28 then t.clearFile h else t
  | 0x18 => if bitOf v 31 then t.errInjectWrite h (bitsOf v 30 28) (bitsOf v 26 26) (bitsOf v 25 16) else t
  | _ => t

/-- The registers of the self-test of half h by offset. -/
def State.writeTest (s : State) (h off v : Nat) : State :=
  let t := s.plain (0x00D00000 + h * 0x10000 + off) v
  match off with
  | 0x00 => s.writeTestCtl h (bitOf v 31) (bitsOf v 11 0)
  | 0x08 => if bitOf v 31 then t.setFlds [(F.ST_COUNTS_PASSED h, 0), (F.ST_COUNTS_FAILED h, 0), (F.ST_COUNTS_ABANDONED h, 0)] else t
  | 0x10 => if bitOf v 31 then t.stInjectWrite h (bitsOf v 30 29) (bitsOf v 7 0) else t
  | _ => t

/-- The registers of the debug block (R741, R742), which only the DMI writes. -/
def State.writeDebugReg (s : State) (a v : Nat) : State :=
  let t := s.plain a v
  match a with
  | 0x00E01004 => if bitsOf v 15 0 = 0 then t else t.setFld F.DBG_TRACE_CTL_DROPS 0
  | 0x00E01010 => s.writeRakeCtl (bitOf v 31) (bitOf v 30) (bitOf v 29) (bitOf v 28) (bitsOf v 11 4) (bitsOf v 3 0)
  | _ => t

/-! ## The whole space -/

/-- Management firmware writes v at control address a, through half h; the configuration and security blocks, the bindings and the
clock are read-only. -/
def State.writeReg (s : State) (h a v : Nat) : State :=
  match s.slotWord a with
  | some (l, off) => s.slotStore l off (.mgmt (Fin.ofNat 2 h)) v
  | none =>
  if !s.documented h a then s
  else if 0x01000000 ≤ a then s.writePan ((a - 0x01000000) / 0x10000) (a % 0x10000) v
  else if 0x00E00000 ≤ a then s.writeDebugReg a v
  else if 0x00D00000 ≤ a then s.writeTest ((a - 0x00D00000) / 0x10000) (a % 0x10000) v
  else if 0x00C00000 ≤ a then s.writeCore ((a - 0x00C00000) / 0x100) (a % 0x100) v
  else if 0x00B00000 ≤ a then s.writeMemCtl ((a - 0x00B00000) / 0x10000) (a % 0x10000) v
  else if 0x00A00000 ≤ a then s.writeCohCtl ((a - 0x00A00000) / 0x80000) (a % 0x80000) v
  else if 0x00900000 ≤ a then s.writePort ((a - 0x00900000) / 0x40000) (a % 0x40000) v
  else if 0x00800000 ≤ a then s.writeSched ((a - 0x00800000) / 0x80000) (a % 0x80000) v
  else if 0x00700000 ≤ a then s.writeCsw h (a % 0x100000) v
  else if 0x00500000 ≤ a then s
  else if 0x00480000 ≤ a then s
  else if 0x00400000 ≤ a then s.writeErr ((a - 0x00400000) / 0x10000) (a % 0x10000) v
  else if 0x00300000 ≤ a then s.writePins (a % 0x100000) v
  else if 0x00200000 ≤ a then s.writeGov ((a - 0x00200000) / 0x80000) (a % 0x80000) v
  else s.plain a v

end Sys2Proof.Machine
end

