-- ==== Sys2Proof/Machine/RegCommands.lean ====
section
/-! DEFINITION. Group 0x00 of the catalogue (R519, R520) but for the core and reset commands: NOP, IDENTIFY, DEVICE_STATUS, REG_READ,
REG_WRITE and ABORT. -/

namespace Sys2Proof.Machine

/-! ## NOP, IDENTIFY, DEVICE_STATUS -/

/-- NOP of R519. -/
def cmdNop : Cmd where
  opcode := 0x0000
  cls := .read
  scopes := [0]
  size := fun _ => 0
  run := fun s _ => ok s

/-- NOP (R519). -/
def execNopCommand (p : Packet) (s : State) : Out := .next (s.deliver cmdNop p)

/-- IDCODE (R726). -/
def IDCODE : Nat := 0x07256C4F

/-- The result of IDENTIFY, answered by half h. -/
def State.identity (s : State) (h : Nat) : List Byte :=
  leBytes 4 IDCODE ++ leBytes 1 (bnat (decide (Config.gradeMaxTj = 100))) ++ leBytes 1 (s.fld (F.CSW_STATUS_STATE h)) ++ leBytes 1 h ++ leBytes 1 0 ++
    leBytes 8 Config.serial ++ leBytes 4 (Config.romVersion 0) ++ leBytes 4 (Config.romVersion 1) ++ leBytes 4 (s.patchVersion 0) ++
    leBytes 4 (s.patchVersion 1) ++ leBytes 2 Config.vendor ++ leBytes 6 0

/-- IDENTIFY of R519. -/
def cmdIdentify : Cmd where
  opcode := 0x0001
  cls := .read
  scopes := [0]
  size := fun _ => 0
  run := fun s r => ok s (s.identity r.half)

/-- IDENTIFY (R519). -/
def execIdentify (p : Packet) (s : State) : Out := .next (s.deliver cmdIdentify p)

/-- The result of DEVICE_STATUS, answered by half h. -/
def State.deviceStatus (s : State) (h : Nat) : List Byte :=
  leBytes 1 s.phase ++ leBytes 1 (bnat s.errLow + 2 * bnat s.errFatalLow) ++ leBytes 1 (s.fld (F.GOV_CTL_PROFILE h)) ++
    leBytes 1 (bnat (s.on F.SEC_STATUS_APPROVED)) ++ leBytes 1 (s.fld (F.CSW_STATUS_STATE h)) ++ leBytes 1 (bnat ((s.reached h).any s.stopped)) ++ leBytes 2 0

/-- DEVICE_STATUS of R519. -/
def cmdDeviceStatus : Cmd where
  opcode := 0x0002
  cls := .read
  scopes := [0]
  size := fun _ => 0
  run := fun s r => ok s (s.deviceStatus r.half)

/-- DEVICE_STATUS (R519). -/
def execDeviceStatus (p : Packet) (s : State) : Out := .next (s.deliver cmdDeviceStatus p)

/-! ## REG_READ -/

/-- The addresses that a REG_READ names. -/
def readAddrs (r : Req) : List Nat := (List.range (r.p.u32 4)).map fun i => r.p.u32 0 + 4 * i

/-- Some address is a register of the other half, which half h does not reach (R492). -/
def State.regCutOff (s : State) (h a : Nat) : Bool := s.isSplit h && (findReg a).isSome && regHalf a != h && !decide (0x00700000 ≤ a ∧ a < 0x00800000)

/-- Read registers in order, through half h. -/
def State.readRegs (s : State) (h : Nat) : List Nat → State × List Byte
  | [] => (s, [])
  | a :: l =>
    let x := s.readReg h a
    let y := x.1.readRegs h l
    (y.1, leBytes 4 x.2 ++ y.2)

/-- REG_READ of R519. -/
def cmdRegRead : Cmd where
  opcode := 0x0003
  cls := .read
  scopes := [0]
  size := fun _ => 8
  fields := [{ off := 0, len := 4, ok := fun _ r => r.p.u32 0 % 4 == 0 },
    { off := 4, len := 4, ok := fun _ r => decide (r.p.u32 4 ≤ 1020) && (r.p.u32 4 == 0 || decide (r.p.u32 0 + 4 * r.p.u32 4 ≤ 0x02000000)) }]
  check := fun s r =>
    if r.p.u32 4 = 0 then already
    else if s.on F.SEC_STATUS_APPROVED && !bitOf s.dbgScope 1 && (readAddrs r).any memoryAccessWord then refusal S_AUTHORITY
    else if (readAddrs r).any (s.regCutOff r.half) then refusal S_HW_FAULT D_CAUSEWAY
    else none
  run := fun s r => let x := s.readRegs r.half (readAddrs r); ok x.1 x.2

/-- REG_READ (R519). -/
def execRegRead (p : Packet) (s : State) : Out := .next (s.deliver cmdRegRead p)

/-! ## REG_WRITE (R520) -/

/-- What a write of governed fields acts as: a command, its TARGET and parameters, and whether the write is a disable (R33). -/
structure Part where
  cmd : Cmd
  target : Nat
  params : List Byte
  disable : Bool := false

/-- The bits of the fields with the access types named. -/
def fieldMask (p : Acc → Bool) : List RegField → Nat
  | [] => 0
  | f :: r => fieldMask p r ||| (if p f.acc then bitsOf (2 ^ 32 - 1) f.hi f.lo * 2 ^ f.lo else 0)

/-- The word that a REG_WRITE writes: the bits of MASK from VALUE, the other bits as they are, but 0 for W1C, W1S and WO. -/
def mergeWord (d : RegDef) (old mask value : Nat) : Nat :=
  (old &&& fieldMask (· == Acc.rw) d.fields &&& (mask ^^^ (2 ^ 32 - 1))) ||| (value &&& mask)

/-- A register's governed bits: those that hold a state, and those where a 1 asks for something. -/
structure Governed where
  level : Nat := 0
  strobe : Nat := 0

/-- The bits of the fields governed by commands, by register. A field whose command checks nothing beyond its range is not here:
its write has the same effect either way. -/
def governed (a : Nat) : Governed :=
  if 0x01000000 ≤ a then match a % 0x10000 with
    | 0x00 => { level := 0x80000000 }
    | 0x10 => { strobe := 0xE0E0E0E0 }
    | 0x18 => { level := 0xEFEFEFEF }
    | 0x1C => { level := 0xFFFF0000 }
    | 0x34 => { strobe := 0xC0000000 }
    | _ => {}
  else if 0x00C00000 ≤ a && a < 0x00D00000 then (if a % 0x100 = 0 then { level := 0x80000000 } else {})
  else if 0x00900000 ≤ a && a < 0x00A00000 then match a % 0x40000 with
    | 0x000 => { level := 0x80000000 }
    | 0x100 => { level := 0x8000000F }
    | _ => {}
  else if 0x00800000 ≤ a && a < 0x00900000 then match a % 0x80000 with
    | 0x00 => { level := 0x9C000000 }
    | 0x0C => { level := 0x000FFFFF }
    | 0x10 => { level := 0x000000FF }
    | 0x20 => { level := 0xFFFFFFFF }
    | 0x24 => { level := 0xFFFFFFFF }
    | 0x28 => { level := 0xFFFFFFFF }
    | 0x2C => { level := 0xFFFFFFFF }
    | 0x30 => { level := 0x0000FFFF }
    | 0x34 => { level := 0x0000FFFF }
    | _ => {}
  else if a = 0x00700000 then { level := 0x20000000, strobe := 0x1C000000 }
  else if 0x00300000 ≤ a && a < 0x00300600 then { level := 0xFFFFFFFF }
  else if 0x00300A00 ≤ a && a < 0x00300A80 then { level := 0xFFFFFFFF }
  else if 0x00200000 ≤ a && a < 0x00300000 then
    (if a % 0x80000 = 0x00 then { level := 0xE0000000 }
     else if a % 0x80000 = 0x10 then { level := 0xFFC00000 }
     else if 0x280 ≤ a % 0x80000 && a % 0x80000 < 0x2A0 then { level := 0x80000000 }
     else {})
  else {}

/-- A part, if its condition holds. -/
def partIf (b : Bool) (p : Part) : List Part := if b then [p] else []

/-- The disable of regulator slot r of half h: the write of EN that no command governs and that drains (R607). -/
def cmdSlotDisable (h r : Nat) : Cmd where
  opcode := 0x0004
  cls := .long
  scopes := [0]
  size := fun _ => 0
  check := fun s _ => if (s.disableSlot h r).isSome then none else refusal S_STATE
  run := fun s q =>
    let n := s.writesDue h r
    let t := (s.disableSlot h r).getD s
    if (t.slot h r).drain.isSome then .job t { longJob q n [] (8 * h + r) 1 with opcode := 0x0004 } else ok t (drainRecord n 0)

/-- GATE and UNGATE in one write (R129). -/
def cmdGateConflict : Cmd where
  opcode := 0x0103
  cls := .short
  scopes := [2]
  size := fun _ => 0
  run := fun s r => .done (s.refusePower r.idx CONFLICT) S_STATE (0x0300 + CONFLICT) []

/-- The parts of a write of old to new in pan n's block; a write of OPEN acts though it holds that value (R241). -/
def panParts (n off old new mask : Nat) : List Part :=
  let bit (i : Nat) : Bool := bitOf new i
  let qs := [0, 1, 2, 3]
  match off with
  | 0x00 => partIf (bitOf mask 31) (if bit 31 then { cmd := cmdPanOpen, target := 0x2000 + n, params := [] }
      else { cmd := cmdPanClose, target := 0x2000 + n, params := [], disable := true })
  | 0x10 => qs.flatMap fun q => [(7, 0), (6, 1), (5, 2)].flatMap fun x =>
      partIf (bit (8 * q + x.1)) { cmd := cmdQueueFlush, target := 0x3000 + 4 * n + q, params := leBytes 4 x.2 }
  | 0x18 => qs.flatMap fun q =>
      let b (w : Nat) : Nat × Nat := (bitsOf w (8 * q + 7) (8 * q + 5), bitsOf w (8 * q + 3) (8 * q))
      let binding := leBytes 1 (b new).1 ++ leBytes 1 (b new).2 ++ leBytes 22 0
      partIf (decide (b new ≠ b old)) { cmd := cmdQueueBind, target := 0x3000 + 4 * n + q, params := binding, disable := true }
  | 0x1C =>
      let o := bitsOf old 31 16
      let w := bitsOf new 31 16
      let stop := o - (w &&& o)
      partIf (decide (w ≠ o)) { cmd := cmdRakeRun, target := 0x2000 + n, params := leBytes 2 (w - (w &&& o)) ++ leBytes 2 stop, disable := stop != 0 }
  | 0x34 =>
      if bit 31 && bit 30 then [{ cmd := cmdGateConflict, target := 0x2000 + n, params := [] }]
      else partIf (bit 31) { cmd := cmdPanPower, target := 0x2000 + n, params := leBytes 8 0 } ++
        partIf (bit 30) { cmd := cmdPanPower, target := 0x2000 + n, params := leBytes 8 1 }
  | _ => []

/-- The parts of a write in the scheduler block of half h. -/
def State.schedParts (s : State) (h off old new : Nat) : List Part :=
  let word (o w : Nat) : Nat := if off = o then new else w
  let enable (en prio : Nat) (disable : Bool) : Part :=
    { cmd := cmdSchedEnable, target := 0x1000 + h, disable := disable,
      params := leBytes 1 en ++ leBytes 1 prio ++ leBytes 2 0 ++ leBytes 2 (word 0x30 (s.fld (F.SCHED_COST_EVICT_US h))) ++
        leBytes 2 (word 0x34 (s.fld (F.SCHED_PREEMPT_LIMIT_US h))) ++ leBytes 4 (bitsOf (word 0x0C (s.fld (F.SCHED_DRAIN_DRAIN_US h))) 19 0) }
  let resources : Part :=
    { cmd := cmdSchedResources, target := 0x1000 + h,
      disable := off == 0x10 && (bitsOf old 7 0 &&& (bitsOf new 7 0 ^^^ 0xFF)) != 0,
      params := leBytes 1 (word 0x10 (s.fld (F.SCHED_CORES_MANAGED h))) ++ leBytes 3 0 ++
        ([0, 1, 2, 3].flatMap fun k => leBytes 4 (word (0x20 + 4 * k) (s.fld (F.SCHED_PANS_MANAGED h k)))) }
  if off = 0 then
    partIf (bitsOf old 28 26 != bitsOf new 28 26 || bitOf old 31 != bitOf new 31)
      (enable (bitsOf new 31 31) (bitsOf new 28 26) (bitOf old 31 && !bitOf new 31))
  else if old = new then []
  else if off = 0x0C || off = 0x30 || off = 0x34 then [enable (s.fld (F.SCHED_CTL_EN h)) (s.fld (F.SCHED_CTL_TEST_PRIO h)) false]
  else if off = 0x10 || (0x20 ≤ off && off < 0x30) then [resources]
  else []

/-- The parts of a write of the causeway's control word: the reset before a retirement, whose drain it would end. -/
def cswParts (old new : Nat) : List Part :=
  partIf (bitOf old 29 != bitOf new 29) { cmd := cmdCswXhome, target := 0, params := leBytes 4 (bitsOf new 29 29) } ++
    partIf (bitOf new 26) { cmd := cmdCswRestore, target := 0, params := [] } ++
    partIf (bitOf new 27) { cmd := cmdCswRetire, target := 0x7000 + bitsOf new 25 24, params := [], disable := true } ++
    partIf (bitOf new 28) { cmd := cmdCswRejoin, target := 0, params := [] }

/-- The parts of a write in the governor block of half h; a value out of its range changes nothing. -/
def govParts (h off old new : Nat) : List Part :=
  if off = 0 then
    partIf (bitsOf old 31 29 != bitsOf new 31 29 && decide (bitsOf new 31 29 ≤ 4)) { cmd := cmdGovProfile, target := 0, params := leBytes 4 (bitsOf new 31 29) }
  else if off = 0x10 then
    partIf (bitsOf old 31 22 != bitsOf new 31 22 && fixedMvOk (bitsOf new 31 22))
      { cmd := cmdGovFixed, target := 0, params := leBytes 2 (bitsOf new 31 22) ++ leBytes 1 (min 100 (bitsOf old 21 15)) ++ leBytes 1 0 }
  else if 0x280 ≤ off && off < 0x2A0 then
    partIf (bitOf old 31 && !bitOf new 31) { cmd := cmdSlotDisable h ((off - 0x280) / 4), target := 0, params := [], disable := true }
  else []

/-- The commands that a write of control address a, from the word old to the word new, acts as. -/
def State.parts (s : State) (a old new mask : Nat) : List Part :=
  if 0x01000000 ≤ a then panParts ((a - 0x01000000) / 0x10000) (a % 0x10000) old new mask
  else if 0x00C00000 ≤ a && a < 0x00D00000 then
    let c := (a - 0x00C00000) / 0x100
    (if a % 0x100 = 0 && bitOf old 31 != bitOf new 31 then
      [if bitOf new 31 then { cmd := cmdCoreStart, target := 0x4000 + c, params := leBytes 8 (s.resetVec c) }
       else { cmd := cmdCoreStop, target := 0x4000 + c, params := [] }]
     else [])
  else if 0x00900000 ≤ a && a < 0x00A00000 then
    let p := (a - 0x00900000) / 0x40000
    if a % 0x40000 = 0 then
      partIf (bitOf old 31 != bitOf new 31) { cmd := cmdPortEnable, target := 0x5000 + 4 * p, params := leBytes 4 (bitsOf new 31 31), disable := bitOf old 31 }
    else if a % 0x40000 = 0x100 then
      partIf (bitOf old 31 != bitOf new 31 || bitsOf old 3 0 != bitsOf new 3 0)
        { cmd := cmdPortRoute, target := 0x1000 + p / 2, disable := true,
          params := leBytes 1 (bitsOf new 31 31) ++ leBytes 1 (bitsOf new 3 2) ++ leBytes 1 (bitsOf new 1 0) ++ leBytes 1 0 }
    else []
  else if 0x00800000 ≤ a && a < 0x00900000 then s.schedParts ((a - 0x00800000) / 0x80000) (a % 0x80000) old new
  else if a = 0x00700000 then cswParts old new
  else if 0x00300000 ≤ a && a < 0x00300600 then
    let i := (a - 0x00300000) / 4
    partIf (bitsOf old 31 30 != bitsOf new 31 30) { cmd := cmdPinOwner, target := 0x8000 + i, params := leBytes 4 (bitsOf new 31 30) } ++
      partIf (bitsOf old 29 0 != bitsOf new 29 0) { cmd := cmdPinConfig, target := 0x8000 + i, params := leBytes 4 new }
  else if 0x00300A00 ≤ a && a < 0x00300A80 then
    let line := leBytes 1 ((a - 0x00300A00) / 4) ++ leBytes 1 (bitsOf new 11 8) ++ leBytes 1 (bitsOf new 7 0) ++ leBytes 1 0
    partIf (decide (old ≠ new)) { cmd := cmdPinIrq, target := 0, params := line }
  else if 0x00200000 ≤ a && a < 0x00300000 then govParts ((a - 0x00200000) / 0x80000) (a % 0x80000) old new
  else []

/-- What a REG_WRITE does: the word before, the word it writes, and the commands it acts as. -/
structure WritePlan where
  addr : Nat
  old : Nat
  new : Nat
  parts : List Part

/-- The register cannot be written by a command (R520). -/
def State.notWritable (s : State) (h a : Nat) : Bool :=
  (!s.documented h a && (s.slotWord a).isNone) || decide (0x00500000 ≤ a ∧ a < 0x00700000) || decide (0x00E00000 ≤ a ∧ a < 0x01000000) ||
    (List.range 16).any fun c => a == R.TCORE_COP_BIND c

/-- The plan of a REG_WRITE through half h. -/
def State.writePlan (s : State) (h : Nat) (p : Packet) : WritePlan :=
  let a := p.u32 0
  let old := s.peek h a
  match findReg (regKey h a) with
  | none => ⟨a, old, (old &&& (p.u32 4 ^^^ (2 ^ 32 - 1))) ||| (p.u32 8 &&& p.u32 4), []⟩
  | some d =>
    let new := mergeWord d old (p.u32 4) (p.u32 8)
    ⟨a, old, new, s.parts a old new (p.u32 4)⟩

/-- The request of a part. -/
def Part.req (x : Part) (p : Packet) (half : Nat) : Req :=
  ⟨{ p with target := BitVec.ofNat 16 x.target, plen := BitVec.ofNat 32 x.params.length, params := x.params }, half, indexOf x.target⟩

/-- The half that executes a part. -/
def State.partHalf (s : State) (x : Part) (p : Packet) : Nat := (s.execHalf (receivingHalf p.via) x.target).getD 0

/-- Why a part is refused, if it is; a field of the part is the VALUE of the REG_WRITE. -/
def State.partRefused (s : State) (x : Part) (p : Packet) : Option (Nat × Nat × List Byte) :=
  let half := s.partHalf x p
  let r := x.req p half
  match s.refused513 x.cmd.opcode x.cmd.cls p.via (receivingHalf p.via) half with
  | some (st, d) => refusal st d
  | none => match badField s r x.cmd.fields with
    | some f => refusal f.status 0x8008
    | none => match x.cmd.check s r with
      | some (st, d, _) => if st = OK then none else refusal st d
      | none => none

/-- A part has nothing to do (R509). -/
def State.partIdle (s : State) (x : Part) (p : Packet) : Bool :=
  match x.cmd.check s (x.req p (s.partHalf x p)) with
  | some (st, _, _) => st == OK
  | none => false

/-- What the parts have done: the state, the jobs that go on, oldest first, the drained and aborted items, and a failure. -/
structure Progress where
  s : State
  jobs : List Job := []
  drained : Nat := 0
  aborted : Nat := 0
  failed : Option (Nat × Nat × List Byte) := none

/-- One part acts. -/
def Progress.act (g : Progress) (x : Part) (p : Packet) (w : Written) : Progress :=
  let half := g.s.partHalf x p
  if g.failed.isSome || g.s.partIdle x p then g
  else match x.cmd.run g.s (x.req p half) with
    | .done u st d res =>
      if st ≠ OK then { g with s := u, failed := some (st, d, res) }
      else if drains x.cmd.opcode then { g with s := u, drained := g.drained + leNat (res.take 4), aborted := g.aborted + leNat ((res.drop 4).take 4) }
      else { g with s := u }
    | .job u j => { g with s := u, jobs := g.jobs ++ [{ j with
        opcode := x.cmd.opcode, via := p.via, seq := p.seq.toNat, half := half, write := some { w with disable := x.disable } }] }
    | .later u => { g with s := u }

/-- The effect of a REG_WRITE: the fields no command governs as management firmware writes them, then its parts. -/
def State.regWriteRun (s : State) (r : Req) : Run :=
  let w := s.writePlan r.half r.p
  let g := governed w.addr
  let rest := (w.new &&& ((g.level ||| g.strobe) ^^^ (2 ^ 32 - 1))) ||| (w.old &&& g.level)
  let t := s.writeReg r.half w.addr rest
  let written : Written := { old := w.old, key := regKey r.half w.addr, disable := false }
  let e := w.parts.foldl (fun g x => g.act x r.p written) ({ s := t } : Progress)
  match e.failed, e.jobs.reverse with
  | some (st, d, res), _ => .done e.s st d res
  | none, [] =>
    let drain := if w.parts.any (·.disable) then drainRecord e.drained e.aborted else []
    .done e.s OK (if !w.parts.isEmpty && w.parts.all (fun x => s.partIdle x r.p) && rest = w.old then NOTHING_DONE else 0)
      (leBytes 4 w.old ++ leBytes 4 (e.s.peek r.half w.addr) ++ drain)
  | none, j :: more =>
    .job { e.s with jobs := e.s.jobs ++ more.reverse }
      { j with write := j.write.map fun x => { x with disable := w.parts.any (·.disable), drained := e.drained, aborted := e.aborted } }

/-- The units that a write of address a would change (R511), beside those of its parts. -/
def unitsOf (a : Nat) : List Nat :=
  if 0x01000000 ≤ a then
    let n := (a - 0x01000000) / 0x10000
    (0x2000 + n) :: (if a % 0x10000 = 0x10 || a % 0x10000 = 0x18 then (List.range 4).map (0x3000 + 4 * n + ·) else [])
  else if 0x00C00000 ≤ a && a < 0x00D00000 then [0x4000 + (a - 0x00C00000) / 0x100]
  else if 0x00900000 ≤ a && a < 0x00A00000 then
    (match linkOfAddr a with
     | some l => [0x5000 + l]
     | none => (List.range 4).map (0x5000 + 4 * ((a - 0x00900000) / 0x40000) + ·))
  else if 0x00800000 ≤ a && a < 0x00900000 then [0x1000 + (a - 0x00800000) / 0x80000]
  else if 0x00300000 ≤ a && a < 0x00300600 then [0x8000 + (a - 0x00300000) / 4]
  else []

/-- REG_WRITE of R519, of class S, or L where a LONG command governs what it changes. -/
def cmdRegWrite (long : Bool) : Cmd where
  opcode := 0x0004
  cls := if long then .long else .short
  scopes := [0]
  size := fun _ => 12
  check := fun s r =>
    let a := r.p.u32 0
    if s.notWritable r.half a then refusal S_NOT_WRITABLE
    else if r.p.u32 4 = 0 then already (leBytes 4 (s.peek r.half a) ++ leBytes 4 (s.peek r.half a))
    else if s.regCutOff r.half a then refusal S_HW_FAULT D_CAUSEWAY
    else ((s.writePlan r.half r.p).parts.findSome? fun x => s.partRefused x r.p)
  touches := fun s r => unitsOf (r.p.u32 0) ++ (s.writePlan r.half r.p).parts.flatMap fun x => x.cmd.touches s (x.req r.p (s.partHalf x r.p))
  run := fun s r => s.regWriteRun r

/-- The class of a REG_WRITE in this state. -/
def State.regWriteLong (s : State) (p : Packet) : Bool :=
  let h := (s.execHalf (receivingHalf p.via) p.target.toNat).getD 0
  (s.writePlan h p).parts.any fun x => x.cmd.cls == .long

/-! ## ABORT (R514, R519) -/

/-- The transport that a code of ABORT names; the slot or requester of the answer does not matter. -/
def abortTransport (code : Nat) : Option Transport :=
  if code = 0 then some .debug
  else if code = 1 then some .sideband
  else if code = 2 then some .slave
  else if 0x10 ≤ code && code < 0x20 then some (.mailbox (Fin.ofNat 16 (code - 0x10)) 0)
  else if 0x20 ≤ code && code < 0x30 then some (.message (Fin.ofNat 16 (code - 0x20)) 0)
  else none

/-- A LONG command with this SEQ is outstanding on this transport. -/
def abortNames (v : Transport) (seq : Nat) (j : Job) : Bool := j.isLong && sameTransport j.via v && j.seq == seq

/-- ABORT of R519. -/
def cmdAbort : Cmd where
  opcode := 0x0006
  cls := .urgent
  scopes := [0]
  size := fun _ => 4
  fields := [{ off := 0, len := 1, ok := fun _ r => (abortTransport (r.p.u8 0)).isSome }, zeroField 1 1]
  check := fun s r => match abortTransport (r.p.u8 0) with
    | none => none
    | some v => if s.jobs.any (abortNames v (r.p.u16 2)) then none else already
  touches := fun _ _ => []
  run := fun s r => match abortTransport (r.p.u8 0) with
    | none => ok s
    | some v => ok (s.abortAll (abortNames v (r.p.u16 2)) ABORT_COMMAND)

/-- ABORT (R519). -/
def execAbort (p : Packet) (s : State) : Out := .next (s.deliver cmdAbort p)

end Sys2Proof.Machine
end

