-- ==== Sys2Proof/Machine/Delivery.lean ====
section
/-! DEFINITION. The catalogue of commands (R518), and how a packet reaches a controller: mailbox slots, messages, the side-band bus,
command frames and the debug transport (R414, R420, R496, R497, R537, R727, R728). -/

namespace Sys2Proof.Machine

/-! ## The catalogue -/

/-- Group 0x00: device. -/
def group00 : List Cmd := [cmdNop, cmdIdentify, cmdDeviceStatus, cmdRegRead, cmdWarmReset, cmdAbort, cmdCoreStart, cmdCoreStop, cmdCopBind, cmdCopUnbind]
/-- Group 0x01: configuration and pans. -/
def group01 : List Cmd := [cmdPanLoad, cmdPanOpen, cmdPanClose, cmdPanPower, cmdPanReset, cmdQueueFlush, cmdQueueBind, cmdRakeRun, cmdCfgLoad]
/-- Group 0x02: scheduler and graphs. -/
def group02 : List Cmd := [cmdKernelRegister, cmdKernelUnregister, cmdGraphLoad, cmdGraphStart, cmdGraphStop, cmdGraphUnload, cmdGraphStatus, cmdGraphLink, cmdGraphUnlink, cmdTokenInject, cmdTokenDrain, cmdNodeFire, cmdNodeClear, cmdSchedResources, cmdSchedEnable]
/-- Group 0x03: memory. -/
def group03 : List Cmd := [cmdLagoonPartition, cmdMemClear, cmdMemRead, cmdMemWrite, cmdMemCopy]
/-- Group 0x04: ports and coherence. -/
def group04 : List Cmd := [cmdPortEnable, cmdMemExpose, cmdPortRoute, cmdBiasToDevice, cmdCohTableRead, cmdCohTableLoad, cmdCohTableRestore]
/-- Group 0x05: governor. -/
def group05 : List Cmd := [cmdGovProfile, cmdGovCap, cmdGovFixed, cmdGovTarget, cmdGovStatus, cmdThermalStop, cmdThermalClear]
/-- Group 0x06: pins. -/
def group06 : List Cmd := [cmdPinConfig, cmdPinOwner, cmdPinWrite, cmdPinRead, cmdPinIrq]
/-- Group 0x07: errors, log and time. -/
def group07 : List Cmd := [cmdLogRead, cmdLogStatus, cmdErrClear, cmdErrInjectSecure, cmdTimeSet, cmdTimeGet]
/-- Group 0x08: self-test. -/
def group08 : List Cmd := [cmdTestConfig, cmdTestRun, cmdTestStatus, cmdQuarantineRelease]
/-- Group 0x09: security. -/
def group09 : List Cmd := [cmdSecStatus, cmdApprovedEnter, cmdApprovedLeave, cmdKeyLoad, cmdFuseProgram, cmdZeroize, cmdPatchLoad, cmdTamperConfig]
/-- Group 0x0A: debug authorisation. -/
def group0A : List Cmd := [cmdDbgChallenge, cmdDbgResponse, cmdDbgRevoke]
/-- Group 0x0B: causeway. -/
def group0B : List Cmd := [cmdCswPolicy, cmdCswXhome, cmdCswRetire, cmdCswRestore, cmdCswRejoin]

/-- Every command but REG_WRITE, whose class depends on what it writes. No patch assigns an opcode (R518: what one would hold is given
nowhere). -/
def catalogue : List Cmd :=
  group00 ++ group01 ++ group02 ++ group03 ++ group04 ++ group05 ++ group06 ++ group07 ++ group08 ++ group09 ++ group0A ++ group0B

/-- The command that an opcode names. -/
def State.cmdOf (s : State) (op : Nat) (p : Packet) : Option Cmd :=
  if op = 0x0004 then some (cmdRegWrite (s.regWriteLong p)) else catalogue.find? fun c => c.opcode == op

/-! ## Delivery of an opcode -/

/-- A self-test command starts slices that the budget allows (R703). -/
def State.afterStart (s : State) (op : Nat) : State := if op = 0x0801 then (s.testPump 0).testPump 1 else s

/-- A packet with its opcode is delivered: an opcode of no command is refused after the checks that come before it (R508, R518). -/
def State.deliverOne (s : State) (op : Nat) (p : Packet) : State :=
  match s.cmdOf op p with
  | some c => (s.deliver c p).afterStart op
  | none =>
    let refuse (st d : Nat) := s.sendReply p.via p.seq.toNat op st d []
    if !s.accepts p.via then s
    else if (match p.via with
      | .mailbox _ _ => false
      | .message _ _ => decide (32 ≤ s.outstanding p.via)
      | .slave => decide (32 ≤ s.outstanding p.via)
      | _ => decide (31 ≤ s.outstanding p.via)) then refuse S_BUSY D_OUTSTANDING
    else if badLength p then refuse S_LENGTH 0
    else if p.version ≠ 1 then refuse S_VERSION 0
    else refuse S_OPCODE 0

/-- The packet that bytes spell, with its opcode (R500); the header must be whole. -/
def packetOf (via : Transport) (b : List Byte) : Nat × Packet :=
  let n (o k : Nat) : Nat := leNat ((b.drop o).take k)
  (n 2 2,
   { version := BitVec.ofNat 8 (n 0 1), flags := BitVec.ofNat 8 (n 1 1), seq := BitVec.ofNat 16 (n 4 2), target := BitVec.ofNat 16 (n 6 2),
     plen := BitVec.ofNat 32 (n 8 4), zeros := BitVec.ofNat 160 (n 12 20), params := b.drop 32, via := via })

/-! ## Mailbox slots that are submitted (R413 to R416, R498) -/

/-- A slot completes without its command being executed, with a bit of SFLAGS (R415). -/
def State.slotFails (s : State) (l sl flag : Nat) : State :=
  (s.setSlot l sl 24 (leBytes 4 0 ++ [BitVec.ofNat 8 (2 ^ flag)])).slotDone l sl

/-- The bytes of the packet at REQ_ADDR: a device address for a core, else a host physical address (R414, R498); none where the read
fails. -/
def State.slotFetch (s : State) (l : Nat) (core : Option Nat) (addr n : Nat) : State × Option (List Byte) :=
  let a := match core with
    | some _ => addr
    | none => HOST_BASE + addr
  let there := match core with
    | some c => s.reaches (halfOfCore c) a n && !s.xhomeBlocked (halfOfCore c) a
    | none => s.linkUp l && s.mapped a n
  if !there then (s, none)
  else match s.loadBytes a n with
    | some (t, b, bad) => (t, if bad then none else some b)
    | none => (s, none)

/-- The core behind an access. -/
def coreOf : Agent → Option Nat
  | .core c => some c.val
  | _ => none

/-- An agent submits a slot of link l (R414 to R416). -/
def State.submitOne (s : State) (l sl : Nat) (a : Agent) : State :=
  let p := l / 4
  let k := l % 4
  if 32 ≤ sl || bitOf (s.reg (R.MBX_BUSY p k)).toNat sl then s.setFld (F.MBX_STATUS_SUBMIT_REFUSED p k) 1
  else
    let via : Transport := .mailbox (Fin.ofNat 16 l) (Fin.ofNat 32 sl)
    let t := s.setCoreSlot (l * 32 + sl) (coreOf a).isSome
    if !t.accepts via then s
    else
      let t := (t.setFld ⟨R.MBX_BUSY p k, sl, sl⟩ 1).setFld ⟨R.MBX_DONE p k, sl, sl⟩ 0
      let t := t.setFld (F.MBX_STATUS_INFLIGHT p k) (popcount 32 (t.reg (R.MBX_BUSY p k)).toNat)
      let n := t.slotNum l sl 0 4
      let addr := t.slotNum l sl 8 8
      if n < 32 || (addr = 0 && 96 < n) then t.slotFails l sl 2
      else if addr = 0 then
        let x := packetOf via ((List.range n).map fun i => t.slotByte (l * 4096 + sl * 128 + 32 + i))
        t.deliverOne x.1 x.2
      else match t.slotFetch l (coreOf a) addr (min n 4104) with
        | (u, none) => u.slotFails l sl 1
        | (u, some b) => let x := packetOf via b; u.deliverOne x.1 x.2

/-- The slots that REG_WRITE commands have submitted are delivered, oldest first; n bounds the chain of submissions in one step, and
what is left of a longer one stays for the next delivery (Assumption 18). -/
def State.submitAll : Nat → State → State
  | 0, s => s
  | n + 1, s => match s.submits with
    | [] => s
    | (l, sl) :: r => (({ s with submits := r }).submitOne l sl (.mgmt (Fin.ofNat 2 (l / 8)))).submitAll n

/-- The submissions due are delivered. -/
def State.submitDue (s : State) : State := s.submitAll 64

/-- A packet is delivered, and the slots it submits by REG_WRITE after it. -/
def State.deliverOp (s : State) (op : Nat) (p : Packet) : State := (s.deliverOne op p).submitDue

/-- An agent submits a slot of link l. -/
def State.submit (s : State) (l sl : Nat) (a : Agent) : State := (s.submitOne l sl a).submitDue

/-- UNASSIGNED_OPCODE (R518). -/
def execUnassignedOpcode (opcode : BitVec 16) (p : Packet) (s : State) : Out := .next (s.deliverOp opcode.toNat p)

/-- REG_WRITE (R520). -/
def execRegWrite (p : Packet) (s : State) : Out := .next ((s.deliver (cmdRegWrite (s.regWriteLong p)) p).submitDue)

/-- Bytes are delivered on a transport other than a mailbox; without a whole header the answer is LENGTH (R501). -/
def State.deliverBytes (s : State) (via : Transport) (b : List Byte) : State :=
  let x := packetOf via b
  if b.length < 32 then (if s.accepts via then s.sendReply via x.2.seq.toNat x.1 S_LENGTH 0 [] else s) else s.deliverOp x.1 x.2

/-! ## Commands that wait (R512) -/

/-- The waiting command at the head of `rest`, behind `before`, may start: its controllers run, ORDERED finds nothing earlier on its
transport, a LONG place is free, the pan load before it has ended (R247), and the module it needs is there (R585). -/
def State.mayStart (s : State) (before : List Waiting) (w : Waiting) : Bool :=
  let p := w.packet
  let cls (o : Nat) (q : Packet) : Class := ((s.cmdOf o q).map (·.cls)).getD .read
  let long (o : Nat) (q : Packet) : Bool := cls o q == .long
  !s.isRestarting w.half && !s.isRestarting (receivingHalf p.via) &&
    !(p.flags.getLsbD 0 && cls w.opcode p != .urgent && (s.jobs.any (fun j => sameTransport j.via p.via) || before.any fun x => sameTransport x.packet.via p.via)) &&
    !(long w.opcode p && (decide (8 ≤ (s.jobs.filter fun j => j.half == w.half && j.opcode != 0x0905).length) ||
      before.any fun x => x.half == w.half && long x.opcode x.packet && !x.packet.flags.getLsbD 0)) &&
    !(w.opcode == 0x0100 && (s.load (loadKey w.half 0)).isSome) &&
    !(s.fld F.SEC_STATUS_STATE == 3 && needsModule w.opcode) && !((s.cmdOf w.opcode p).map fun c => s.scratchWait c p).getD false &&
    !(w.half != receivingHalf p.via && !s.isSplit (receivingHalf p.via) && !s.causewayUp (receivingHalf p.via))

/-- The first waiting command that may start, with those around it. -/
def State.firstStart (s : State) : List Waiting → List Waiting → Option (Waiting × List Waiting)
  | _, [] => none
  | before, w :: r => if s.mayStart before w then some (w, before ++ r) else s.firstStart (before ++ [w]) r

/-- COMMAND_DEFERRED_START (R512): the first waiting command that may start does. -/
def execCommandDeferredStart (s : State) : Out :=
  .next (match s.firstStart [] s.waiting with
    | none => s
    | some (w, rest) => match s.cmdOf w.opcode w.packet with
      | some c => (({ s with waiting := rest }).startCmd c w.packet).afterStart w.opcode |>.submitDue
      | none => s)

/-! ## Mailboxes (R414, R416) -/

/-- MAILBOX_SUBMIT (R414). -/
def execMailboxSubmit (l : Fin 16) (a : Agent) (slot : BitVec 6) (s : State) : Out :=
  .next (s.fromAgent a (if !s.linkExists l then s
    else if !reachesMailbox l a then s.misuse a 3 (R.MBX_SUBMIT (l / 4) (l % 4))
    else s.submit l slot.toNat a))

/-- An aligned write of v into link l's mailbox registers or slots, by an agent that reaches them. -/
def State.mailboxWrite (s : State) (l off : Nat) (a : Agent) (v : Nat) : State :=
  if !s.linkExists l then s
  else if off < 0x1000 then s.slotStore l off a v
  else if off = 0x1000 then s.submit l (v % 64) a
  else s.plain (R.MBX_SUBMIT (l / 4) (l % 4) + (off - 0x1000)) v

/-! ## Vendor-defined messages (R419 to R421) -/

/-- The fragments of one transfer. -/
def Assembly.key (x : Assembly) (rq xid : Nat) : Bool := x.requester == rq && x.xid == xid

/-- The bytes of fragments that follow one another from offset 0; none where they leave a gap or overlap. -/
def wholeBytes : Nat → List (Nat × List Byte) → Option (List Byte)
  | _, [] => some []
  | n, (o, b) :: r => if o = n then (wholeBytes (n + b.length) r).map (b ++ ·) else none

/-- A fragment of link l arrives (R420). A transfer whose fragments leave a gap or overlap is discarded with a NOTICE. -/
def State.fragment (s : State) (l rq xid offset : Nat) (first last : Bool) (b : List Byte) : State :=
  let have' := ((s.hostLink l).assemblies.find? (·.key rq xid)).map (·.parts)
  let t := s.modHostLink l fun k => { k with assemblies := k.assemblies.filter fun x => !x.key rq xid }
  let parts := have'.getD [] ++ [(offset, b)]
  match (if first == have'.isSome then none else wholeBytes 0 parts) with
  | none => t.portReport l NOTICE 8 0
  | some bytes =>
    if last then
      let via : Transport := .message (Fin.ofNat 16 l) (BitVec.ofNat 16 rq)
      let x := packetOf via bytes
      let dup := t.seqTaken via x.2.seq.toNat
      (t.modHostLink l fun k => { k with xids := if dup then (rq, x.2.seq.toNat, xid) :: k.xids else k.xids ++ [(rq, x.2.seq.toNat, xid)] }).deliverBytes via bytes
    else if 4096 < bytes.length then t.portReport l NOTICE 8 0
    else t.modHostLink l fun k => { k with assemblies := k.assemblies ++ [{ requester := rq, xid := xid, parts := parts }] }

/-- VDM_FRAGMENT (R420): a message of another type than COMMAND is discarded with a NOTICE (R419). -/
def execVdmFragment (l : Fin 16) (requester xid : BitVec 16) (mtype mflags : Byte) (offset : Word) (bytes : List Byte) (s : State) : Out :=
  .next (s.fromAgent (.link l) (if !s.linkUp l then s
    else if mtype ≠ 1 then s.portReport l NOTICE 8 0
    else if !s.accepts (.message l requester) then s
    else s.fragment l requester.toNat xid.toNat offset.toNat (mflags.getLsbD 0) (mflags.getLsbD 1) bytes))

/-! ## The side-band bus and the slave port (R496, R537) -/

/-- SIDEBAND_MESSAGE (R496): two bytes of vendor identifier, then the packet; another vendor's message is not the part's. -/
def execSidebandMessage (m : List Byte) (s : State) : Out :=
  .next (if leNat (m.take 2) = Config.vendor % 65536 && 2 ≤ m.length then s.deliverBytes .sideband (m.drop 2) else s)

/-- The packet that a COMMAND frame carries: its own length where LEN is that length rounded up, else all of the payload. -/
def framePacket (p : List Byte) : List Byte :=
  let n := 32 + (leNat ((p.drop 8).take 4) + 7) / 8 * 8
  if (n + 31) / 32 * 32 = p.length then p.take n else p

/-- CFG_COMMAND_FRAME (R537): a frame that breaks its rules fails an image that loads, and is dropped elsewhere. -/
def execCfgCommandFrame (f : List Byte) (s : State) : Out :=
  .next (
    if s.phase < CONFIG_WAIT || fType f ≠ 0x20 then s
    else if !fCrc f then (if s.phase = LOADING then s.cfgFail 0x02 s.image.index else s)
    else if !(fFormed f && fPan f == 0xFFFF && fSeq f == 0 && fAddr f == 0 && fFlags f == 0) then
      (if s.phase = LOADING then s.cfgFail 0x03 s.image.index else s)
    else s.deliverBytes .slave (framePacket (fPayload f)))

/-! ## The debug transport (R724, R727, R728) -/

/-- Change the debug port. -/
def State.modDbg (s : State) (f : DebugPort → DebugPort) : State := { s with dbg := f s.dbg }

/-- The TAP runs: not in POWER_UP (R724). -/
def State.tapRuns (s : State) : Bool := s.phase != 0

/-- The inbound packet, as far as it came, leaves the buffer. -/
def DebugPort.emptied (d : DebugPort) : DebugPort := { d with inbound := [], overlong := false }

/-- A PUSH. A whole packet is delivered at once, so the buffer never holds one that keeps a PUSH out. -/
def State.dxPushWord (s : State) (data : Dword) (last : Bool) : State :=
  let b := s.dbg.inbound ++ leBytes 8 data.toNat
  if s.dbg.overlong then (if last then s.modDbg fun d => { d.emptied with busy := false } else s.modDbg fun d => { d with busy := false })
  else if 4096 < b.length then
    let x := packetOf .debug b
    (s.modDbg fun d => { d with inbound := [], overlong := !last, busy := false }).sendReply .debug x.2.seq.toNat x.1 S_LENGTH 0 []
  else if last then (s.modDbg fun d => { d.emptied with busy := false }).deliverBytes .debug b
  else s.modDbg fun d => { d with inbound := b, busy := false }

/-- An operation of the DXPORT data register, whose instruction is then the one selected (R725, R727). -/
def State.dxport (s : State) (f : State → State) : State := if s.tapRuns then f (s.modDbg fun d => { d with ir := 0x11 }) else s

/-- DX_PUSH (R728). -/
def execDxPush (data : Dword) (last : Bool) (s : State) : Out := .next (s.dxport (·.dxPushWord data last))

/-- The next word of the oldest waiting reply: LAST, VALID and DATA as they are captured (R727, R728). -/
def State.dxPopWord (s : State) : State :=
  match s.dbg.replies with
  | [] => s.reply (.num (bnat s.dbg.busy * 2 ^ 64))
  | r :: rest =>
    let last := decide (r.length ≤ 8)
    (s.modDbg fun d => { d with replies := if last then rest else r.drop 8 :: rest }).reply
      (.num (bnat last * 2 ^ 66 + 2 ^ 65 + bnat s.dbg.busy * 2 ^ 64 + leNat (r.take 8)))

/-- DX_POP (R728). -/
def execDxPop (s : State) : Out := .next (s.dxport (·.dxPopWord))

/-- DX_ABANDON (R728). -/
def execDxAbandon (s : State) : Out := .next (s.dxport (·.modDbg (·.emptied)))

/-- DX_NOP (R727). -/
def execDxNop (s : State) : Out := .next (s.dxport id)

end Sys2Proof.Machine
end

