-- ==== Sys2Proof/Machine/Accesses.lean ====
section
/-! DEFINITION. Accesses of the agents to the control address space (R8 to R11, R26, R31, R324) and, for the debug module and the
single step, to the rest of the device address space (R361). -/

namespace Sys2Proof.Machine

/-! ## The control address space -/

/-- What an access came to. -/
inductive Fate where
  | ok
  /-- Unmapped (R362). -/
  | unmapped
  /-- The data read is poisoned (R377). -/
  | poison
  /-- The write had no effect and a report was raised. -/
  | refused
  /-- A core in S or U mode stored to the core-writable set (R326). -/
  | denied
  /-- It waits for a partition command (R367) or to cross the causeway (R479). -/
  | held
deriving DecidableEq, Repr

/-- The core-writable register at address a (R326): its core, and 0 MSIP, 1 the low and 2 the high word of MTIMECMP. -/
def coreWritable (a : Nat) : Option (Nat × Nat) :=
  if 0x00C00000 ≤ a && a < 0x00C01000 then
    match a % 0x100 with
    | 0x14 => some ((a - 0x00C00000) / 0x100, 0)
    | 0x18 => some ((a - 0x00C00000) / 0x100, 1)
    | 0x1C => some ((a - 0x00C00000) / 0x100, 2)
    | _ => none
  else none

/-- An aligned 32-bit write by a host, a core or the debugger's bus: mailboxes it reaches, and for a core the core-writable set;
elsewhere no effect and a NOTICE (R10, R324, R326, R499). -/
def State.outerWrite (s : State) (a : Agent) (addr v : Nat) : State × Fate :=
  match mailboxAt addr with
  | some (l, off) => if reachesMailbox l a then (s.mailboxWrite l off a v, .ok) else (s.misuse a 3 addr, .refused)
  | none => match a, coreWritable addr with
    | .core c, some (k, w) =>
      if (s.core c).prv ≠ 3 then (s, .denied)
      else (if w = 0 then s.writeMsip k (bitOf v 0) else s.writeMtimecmp k (w == 2) v, .ok)
    | _, _ => (s.misuse a 3 addr, .refused)

/-- An aligned 32-bit write of agent a to control address addr (R31): a controller writes registers, the debug module writes the
debug block, the schedulers and engines have no path. -/
def State.controlWrite (s : State) (a : Agent) (addr v : Nat) : State :=
  match a with
  | .mgmt h => if s.regCutOff h addr then s else match mailboxAt addr with
    | some (l, off) => s.mailboxWrite l off a v
    | none => s.writeReg h addr v
  | .sched _ => s
  | .coh _ => s
  | .debug => if 0x00E01000 ≤ addr && addr < 0x00F00000 then s.writeDebugReg addr v else (s.outerWrite a addr v).1
  | .link _ => (s.outerWrite a addr v).1
  | .core c =>
    if !(s.core c).live || s.isHalted c then s
    else match s.outerWrite a addr v with
      | (t, .denied) => t.coreTrap c 7 addr (t.core c).pc
      | (t, _) => t

/-- REGISTER_WRITE (R11). -/
def execRegisterWrite (a : Agent) (addr : BitVec 25) (v : Word) (s : State) : Out :=
  .next (s.fromAgent a (if addr.toNat % 4 ≠ 0 then s.misuse a 1 addr.toNat else s.controlWrite a addr.toNat v.toNat))

/-- MISALIGNED_ACCESS (R8): 2 ^ size bytes. -/
def execMisalignedAccess (a : Agent) (addr : BitVec 25) (size : Fin 4) (write : Bool) (s : State) : Out :=
  .next (s.fromAgent a (if size = 2 && addr.toNat % 4 = 0 then s
    else (s.misuse a 1 addr.toNat).reply (if write then .none else .word 0)))

/-- OUTSIDE_ACCESS (R26): exactly one report, whatever the form. -/
def execOutsideAccess (a : Agent) (addr : Word) (write : Bool) (s : State) : Out :=
  .next (s.fromAgent a (if addr.toNat < 0x02000000 then s else (s.misuse a 2 addr.toNat).reply (if write then .none else .word 0)))

/-- HOST_WRITE_REFUSED (R10, R8): an aligned write within the host-writable set is no such write. -/
def execHostWriteRefused (l : Fin 16) (addr : BitVec 25) (_v : Word) (s : State) : Out :=
  .next (s.fromAgent (.link l) (if addr.toNat % 4 ≠ 0 then s.misuse (.link l) 1 addr.toNat
    else match mailboxAt addr.toNat with
      | some (k, _) => if k = l.val then s else s.misuse (.link l) 3 addr.toNat
      | none => s.misuse (.link l) 3 addr.toNat))

/-! ## The I/O windows (R153, R211, R295) -/

/-- An aligned 64-bit read of queue d's window. -/
def State.queueWindowRead (s : State) (d : Nat) (a : Agent) (off : Nat) : State × Nat :=
  if !s.mayAccess d a false then (s.windowMisuse d a 5 off, 0) else s.readWindow d off

/-- An aligned 64-bit write of queue d's window. -/
def State.queueWindowWrite (s : State) (d : Nat) (a : Agent) (off v : Nat) : State :=
  if !s.mayAccess d a true then s.windowMisuse d a 5 off
  else match off with
    | 0x00 => if s.fabricEnd d == .writeEnd then s.windowMisuse d a 6 0 else s.pushClocked d (pushUnit (BitVec.ofNat 64 v) 0)
    | 0x18 => (s.modQueue d fun q => { q with lost0 := 0, lost1 := 0, discards := 0 }).setFld (F.PAN_QB_STATUS_SAT (panOfQueue d) (qOf d)) 0
    | 0x20 => s.modQueue d fun q => { q with idle := BitVec.ofNat 64 v }
    | _ => s

/-- Bytes stored into a dispatch window: the completion fields, and DONE (R295). -/
def State.schedWindowWrite (s : State) (c off : Nat) (b : List Byte) : State :=
  if 0x3FF8 ≤ off then s.coreDone c else s.applyStores c (((List.range b.length).map fun i => BitVec.ofNat 14 (off + i)).zip b)

/-! ## Memory through the caches (R738) -/

/-- A core may hold the line's newest value, or a host does, and that value stands in no field of the model (Assumption 21). -/
def State.heldElsewhere (s : State) (line : Nat) : Bool :=
  (List.range 16).any (fun c => decide (2 ≤ (s.core c).holds line)) ||
    [0, 1].any fun h => (s.trackedLines h).contains line

/-- A dirty device-cache line goes to memory, so that memory holds the newest value the model knows. -/
def State.settleLine (s : State) (line : Nat) : State :=
  let t := s.each [0, 1] fun h u => match u.cached h line with
    | some d => if d.dirty then (u.writeLine line d.data).putCached h line false d.data else u
    | none => u
  if t.heldElsewhere line then t.useFree.writeLine line (BitVec.ofNat 512 t.freeVal) else t

/-- Other copies of the line are invalidated. -/
def State.dropCopies (s : State) (line : Nat) : State :=
  (s.each (List.range 16) fun c t => if (t.core c).holds line = 0 then t else t.coreDrops c line).each [0, 1] fun h t =>
    (if (t.cached h line).isSome then t.dropCached h line else t).setHolders h line 0

/-! ## One access (R361, R362) -/

/-- The half in which an address other than a control address stands. -/
def State.placeOf (s : State) (addr : Nat) : Option Nat :=
  match s.region addr with
  | .queueWindow d _ => some (halfOfQueue d)
  | .doorbell r _ => some (halfOfRake r)
  | .schedWindow c _ => some (halfOfCore c)
  | .scratch g _ => some g
  | .hbm g _ => some g
  | _ => none

/-- An access of agent a passes the causeway where it must (R478, R479); none where it has to wait. -/
def State.crossGate (s : State) (a : Agent) (addr : Nat) : Option State :=
  match s.placeOf addr with
  | none => some s
  | some g => if g = agentHalf a || s.isSplit (agentHalf a) then some s else if s.crossFree (agentHalf a) then some (s.landMark g 1) else none

/-- Agent a's read of n bytes at a device address is served. -/
def State.readAt (s : State) (a : Agent) (addr n : Nat) : State × Nat × Fate :=
  let h := agentHalf a
  match s.region addr with
  | .control x =>
    if n ≠ 4 || x % 4 ≠ 0 then (s.misuse a 1 x, 0, .ok)
    else if s.regCutOff h x then (s.unmappedNotice a addr, 0, .unmapped)
    else let r := s.readReg h x; (r.1, r.2, .ok)
  | .queueWindow d off =>
    if n ≠ 8 || off % 8 ≠ 0 then (s.windowMisuse d a 6 off, 0, .ok)
    else if s.queueCutOff d a then (s.unmappedNotice a addr, 0, .unmapped)
    else let r := s.queueWindowRead d a off; (r.1, r.2, .ok)
  | .doorbell r off =>
    if n ≠ 8 || off ≠ 0 then (s.misuse a 6 addr, 0, .ok)
    else if !ringsPan (panOfRake r) a then (s.misuse a 5 addr, 0, .ok)
    else if halfOfRake r != h && s.isSplit h then (s.unmappedNotice a addr, 0, .unmapped)
    else (s, s.doorbellWord r, .ok)
  | .schedWindow c off =>
    if reachesWindow c a then (s, leNat (s.windowBytes c off n), .ok)
    else if halfOfCore c != h && s.isSplit h then (s.unmappedNotice a addr, 0, .unmapped)
    else (s.misuse a 5 addr, 0, .ok)
  | _ =>
    if s.scratchHeld addr then (s, 0, .held)
    else if !s.agentMapped a addr n then (s.unmappedNotice a addr, 0, .unmapped)
    else
      let t := s.settleLine (addr / 64)
      match t.loadBytes addr n with
      | some (u, b, bad) => (u, leNat b, if bad then .poison else .ok)
      | none => (s.unmappedNotice a addr, 0, .unmapped)

/-- Agent a reads n bytes at a device address. -/
def State.busRead (s : State) (a : Agent) (addr n : Nat) : State × Nat × Fate :=
  match s.crossGate a addr with
  | some t => t.readAt a addr n
  | none => (s, 0, .held)

/-- Agent a's write of n bytes at a device address is served. -/
def State.writeAt (s : State) (a : Agent) (addr n v : Nat) : State × Fate :=
  let h := agentHalf a
  match s.region addr with
  | .control x => if n ≠ 4 || x % 4 ≠ 0 then (s.misuse a 1 x, .refused) else s.outerWrite a x v
  | .queueWindow d off =>
    if n ≠ 8 || off % 8 ≠ 0 then (s.windowMisuse d a 6 off, .ok)
    else if s.queueCutOff d a then (s.unmappedNotice a addr, .unmapped)
    else (s.queueWindowWrite d a off v, .ok)
  | .doorbell r off =>
    if n ≠ 8 || off ≠ 0 then (s.misuse a 6 addr, .ok)
    else if !ringsPan (panOfRake r) a then (s.misuse a 5 addr, .ok)
    else if halfOfRake r != h && s.isSplit h then (s.unmappedNotice a addr, .unmapped)
    else (s.postExt r (v % 256), .ok)
  | .schedWindow c off =>
    if reachesWindow c a then (s.schedWindowWrite c off (leBytes n v), .ok)
    else if halfOfCore c != h && s.isSplit h then (s.unmappedNotice a addr, .unmapped)
    else (s.misuse a 5 addr, .ok)
  | _ =>
    if s.scratchHeld addr then (s, .held)
    else if !s.agentMapped a addr n then (s.unmappedNotice a addr, .unmapped)
    else (((s.settleLine (addr / 64)).dropCopies (addr / 64)).storeBytes addr (leBytes n v), .ok)

/-- Agent a writes n bytes at a device address. -/
def State.busWrite (s : State) (a : Agent) (addr n v : Nat) : State × Fate :=
  match s.crossGate a addr with
  | some t => t.writeAt a addr n v
  | none => (s, .held)

end Sys2Proof.Machine
end

