-- ==== Sys2Proof/Machine/Float.lean ====
section
/-! DEFINITION. Floating-point arithmetic of the F and D extensions (R321, by the standard; Assumption 8): every operation is computed
exactly on integers and rounded once. -/

namespace Sys2Proof.Machine

/-! ## Formats -/

/-- A binary format: exponent bits and fraction bits. -/
structure FpFmt where
  w : Nat
  m : Nat
deriving DecidableEq, Repr

def FP32 : FpFmt := ⟨8, 23⟩
def FP64 : FpFmt := ⟨11, 52⟩
def FpFmt.bias (f : FpFmt) : Int := 2 ^ (f.w - 1) - 1
/-- The exponent of the least normal number, and of the last place of a subnormal one. -/
def FpFmt.emin (f : FpFmt) : Int := 1 - f.bias
def FpFmt.qmin (f : FpFmt) : Int := f.emin - f.m
/-- The bit above exponent and fraction. -/
def FpFmt.signBit (f : FpFmt) : Nat := 2 ^ (f.w + f.m)
def FpFmt.inf (f : FpFmt) : Nat := (2 ^ f.w - 1) * 2 ^ f.m
/-- The canonical NaN. -/
def FpFmt.nan (f : FpFmt) : Nat := f.inf + 2 ^ (f.m - 1)

/-- A value: a NaN, signalling or not; an infinity; or m × 2 ^ e, with its sign. -/
inductive FpVal where
  | nan (signals : Bool)
  | inf (neg : Bool)
  | fin (neg : Bool) (m : Nat) (e : Int)
deriving DecidableEq, Repr

/-- The value of a word of a format. -/
def FpFmt.value (f : FpFmt) (x : Nat) : FpVal :=
  let neg := bitOf x (f.w + f.m)
  let ex := x / 2 ^ f.m % 2 ^ f.w
  let fr := x % 2 ^ f.m
  if ex = 2 ^ f.w - 1 then (if fr = 0 then .inf neg else .nan (decide (fr < 2 ^ (f.m - 1))))
  else if ex = 0 then .fin neg fr f.qmin
  else .fin neg (2 ^ f.m + fr) (ex - f.bias - f.m)

/-- Exception flags (fflags). -/
def FP_NV : Nat := 16
def FP_DZ : Nat := 8
def FP_OF : Nat := 4
def FP_UF : Nat := 2
def FP_NX : Nat := 1

/-! ## Rounding -/

/-- m × 2 ^ e as a multiple of 2 ^ q, rounded by mode rm (0 to nearest even, 1 to zero, 2 down, 3 up, 4 to nearest, away), and whether
it is inexact. -/
def fpAt (rm : Nat) (neg : Bool) (m : Nat) (e q : Int) : Nat × Bool :=
  if q ≤ e then (m * 2 ^ (e - q).toNat, false)
  else
    let d := 2 ^ (q - e).toNat
    let n := m / d
    let r := m % d
    let up := match rm with
      | 0 => decide (d < 2 * r) || (2 * r == d && n % 2 == 1)
      | 2 => neg && r != 0
      | 3 => !neg && r != 0
      | 4 => decide (d ≤ 2 * r)
      | _ => false
    (n + bnat up, r != 0)

/-- m × 2 ^ e, m positive, in a format: the word and the flags; tininess is found after rounding. -/
def FpFmt.round (f : FpFmt) (rm : Nat) (neg : Bool) (m : Nat) (e : Int) : Nat × Nat :=
  let sign := bnat neg * f.signBit
  if m = 0 then (sign, 0)
  else
    let top : Int := m.log2 + e
    let q := max (top - f.m) f.qmin
    let r := fpAt rm neg m e q
    let ex := if r.1 < 2 ^ f.m then 0 else (q + f.m + f.bias + (if r.1 = 2 ^ (f.m + 1) then 1 else 0)).toNat
    if 2 ^ f.w - 1 ≤ ex then
      (sign + (if rm = 1 || (rm = 2 && !neg) || (rm = 3 && neg) then f.inf - 1 else f.inf), FP_OF + FP_NX)
    else
      let tiny := decide (top < f.emin) && !(decide (top + 1 = f.emin) && (fpAt rm neg m e (top - f.m)).1 == 2 ^ (f.m + 1))
      (sign + ex * 2 ^ f.m + r.1 % 2 ^ f.m, (if r.2 then FP_NX + (if tiny then FP_UF else 0) else 0))

/-! ## Arithmetic -/

/-- A signed exact number in a format; an exact zero takes the sign given. -/
def FpFmt.exact (f : FpFmt) (rm : Nat) (zneg : Bool) (v e : Int) : Nat × Nat :=
  if v = 0 then (bnat zneg * f.signBit, 0) else f.round rm (decide (v < 0)) v.natAbs e

def FpVal.neg : FpVal → FpVal
  | .nan s => .nan s
  | .inf n => .inf (!n)
  | .fin n m e => .fin (!n) m e

def FpVal.signals : FpVal → Bool
  | .nan s => s
  | _ => false

def FpVal.isNan : FpVal → Bool
  | .nan _ => true
  | _ => false

def fpSigned (n : Bool) (m : Nat) : Int := if n then -(m : Int) else m

/-- An invalid operation. -/
def FpFmt.invalid (f : FpFmt) : Nat × Nat := (f.nan, FP_NV)

/-- The NaN result of operands of which one is a NaN. -/
def FpFmt.nanOf (f : FpFmt) (l : List FpVal) : Nat × Nat := (f.nan, if l.any FpVal.signals then FP_NV else 0)

def FpFmt.infinity (f : FpFmt) (n : Bool) : Nat × Nat := (bnat n * f.signBit + f.inf, 0)

/-- a + b. -/
def FpFmt.add (f : FpFmt) (rm : Nat) (a b : FpVal) : Nat × Nat :=
  match a, b with
  | .nan _, _ => f.nanOf [a, b]
  | _, .nan _ => f.nanOf [a, b]
  | .inf x, .inf y => if x = y then f.infinity x else f.invalid
  | .inf x, _ => f.infinity x
  | _, .inf y => f.infinity y
  | .fin x m e, .fin y n g =>
    let q := min e g
    f.exact rm (if x = y then x else rm == 2) (fpSigned x (m * 2 ^ (e - q).toNat) + fpSigned y (n * 2 ^ (g - q).toNat)) q

/-- a × b + c. -/
def FpFmt.fma (f : FpFmt) (rm : Nat) (a b c : FpVal) : Nat × Nat :=
  let clash := match a, b with
    | .inf _, .fin _ 0 _ => true
    | .fin _ 0 _, .inf _ => true
    | _, _ => false
  if clash then f.invalid
  else if a.isNan || b.isNan || c.isNan then f.nanOf [a, b, c]
  else match a, b with
    | .inf x, .inf y => f.add rm (.inf (x != y)) c
    | .inf x, .fin y _ _ => f.add rm (.inf (x != y)) c
    | .fin x _ _, .inf y => f.add rm (.inf (x != y)) c
    | .fin x m e, .fin y n g => f.add rm (.fin (x != y) (m * n) (e + g)) c
    | _, _ => f.invalid

/-- a × b. -/
def FpFmt.mul (f : FpFmt) (rm : Nat) (a b : FpVal) : Nat × Nat :=
  match a, b with
  | .fin x m e, .fin y n g => f.round rm (x != y) (m * n) (e + g)
  | _, _ => f.fma rm a b (.fin false 0 0)

/-- a ÷ b: a quotient of 200 further bits, and a bit for what is left. -/
def FpFmt.div (f : FpFmt) (rm : Nat) (a b : FpVal) : Nat × Nat :=
  match a, b with
  | .nan _, _ => f.nanOf [a, b]
  | _, .nan _ => f.nanOf [a, b]
  | .inf _, .inf _ => f.invalid
  | .inf x, .fin y _ _ => f.infinity (x != y)
  | .fin x _ _, .inf y => (bnat (x != y) * f.signBit, 0)
  | .fin x m e, .fin y n g =>
    if n = 0 then (if m = 0 then f.invalid else ((f.infinity (x != y)).1, FP_DZ))
    else f.round rm (x != y) (2 * (m * 2 ^ 200 / n) + bnat (m * 2 ^ 200 % n != 0)) (e - g - 201)

/-- The integer square root of n, by its bits from k - 1 down. -/
def isqrt (n r : Nat) : Nat → Nat
  | 0 => r
  | k + 1 => isqrt n (if (r + 2 ^ k) * (r + 2 ^ k) ≤ n then r + 2 ^ k else r) k

/-- √a. -/
def FpFmt.sqrt (f : FpFmt) (rm : Nat) (a : FpVal) : Nat × Nat :=
  match a with
  | .nan _ => f.nanOf [a]
  | .inf n => if n then f.invalid else f.infinity false
  | .fin n m e =>
    if m = 0 then (bnat n * f.signBit, 0)
    else if n then f.invalid
    else
      let odd := (e % 2).toNat
      let x := m * 2 ^ (200 + odd)
      let r := isqrt x 0 130
      f.round rm false (2 * r + bnat (r * r != x)) ((e - odd - 200) / 2 - 1)

/-! ## Comparisons and conversions -/

/-- a < b (or a ≤ b) of two numbers. -/
def fpLess (orEq : Bool) (a b : FpVal) : Bool :=
  match a, b with
  | .inf x, .inf y => if orEq then x || !y else x && !y
  | .inf x, .fin _ _ _ => x
  | .fin _ _ _, .inf y => !y
  | .fin x m e, .fin y n g =>
    let q := min e g
    let u := fpSigned x (m * 2 ^ (e - q).toNat)
    let v := fpSigned y (n * 2 ^ (g - q).toNat)
    if orEq then decide (u ≤ v) else decide (u < v)
  | _, _ => false

/-- feq (2), flt (1), fle (0). -/
def fpCompare (rm : Nat) (a b : FpVal) : Nat × Nat :=
  if a.isNan || b.isNan then (0, if rm = 2 then (if a.signals || b.signals then FP_NV else 0) else FP_NV)
  else (if rm = 2 then bnat (fpLess true a b && fpLess true b a) else bnat (fpLess (rm == 0) a b), 0)

/-- fmin and fmax: of two zeros, the negative one is less. -/
def FpFmt.minMax (f : FpFmt) (isMax : Bool) (x y : Nat) : Nat × Nat :=
  let a := f.value x
  let b := f.value y
  let fl := if a.signals || b.signals then FP_NV else 0
  if a.isNan && b.isNan then (f.nan, fl)
  else if a.isNan then (y, fl)
  else if b.isNan then (x, fl)
  else
    let less := fpLess false a b || (fpLess true a b && bitOf x (f.w + f.m))
    (if less != isMax then x else y, fl)

/-- fclass: one bit of ten. -/
def FpFmt.classOf (f : FpFmt) (x : Nat) : Nat :=
  match f.value x with
  | .nan s => if s then 2 ^ 8 else 2 ^ 9
  | .inf n => if n then 1 else 2 ^ 7
  | .fin n m _ =>
    let k := if m = 0 then 3 else if m < 2 ^ f.m then 2 else 1
    2 ^ (if n then k else 7 - k)

/-- A value as an integer from lo to hi; what does not fit takes the nearer end, with NV. -/
def fpToInt (rm : Nat) (lo hi : Int) (a : FpVal) : Int × Nat :=
  match a with
  | .nan _ => (hi, FP_NV)
  | .inf n => (if n then lo else hi, FP_NV)
  | .fin n m e =>
    let r := fpAt rm n m e 0
    let v := fpSigned n r.1
    if v < lo then (lo, FP_NV) else if hi < v then (hi, FP_NV) else (v, if r.2 then FP_NX else 0)

/-- A value in another format. -/
def FpFmt.convert (f : FpFmt) (rm : Nat) (a : FpVal) : Nat × Nat :=
  match a with
  | .nan _ => f.nanOf [a]
  | .inf n => f.infinity n
  | .fin n m e => f.round rm n m e

/-! ## Registers -/

/-- A single in a register: without its box it reads as the canonical NaN. -/
def unbox (f : FpFmt) (x : Nat) : Nat :=
  if f = FP64 then x else if x / 2 ^ 32 = 2 ^ 32 - 1 then x % 2 ^ 32 else FP32.nan
def box (f : FpFmt) (x : Nat) : Nat := if f = FP64 then x else (2 ^ 32 - 1) * 2 ^ 32 + x % 2 ^ 32

/-- The low 32 bits of x, sign-extended. -/
def sext32 (x : Nat) : Nat := uns 64 (sgn 32 x)

/-- What an instruction of opcode OP-FP or of a fused multiply gives: whether to an integer register, the value and the flags. Operands are
the f registers rs1, rs2, rs3 and the integer register rs1; rm is the rounding mode in force; none is an illegal instruction. -/
def fpExec (w a b c xi frm : Nat) : Option (Bool × Nat × Nat) :=
  let fmt := bitsOf w 26 25
  let f := if fmt = 0 then FP32 else FP64
  let g := if fmt = 0 then FP64 else FP32
  let mode := bitsOf w 14 12
  let rm := if mode = 7 then frm else mode
  let rs2 := bitsOf w 24 20
  let x := unbox f a
  let y := unbox f b
  let u := f.value x
  let v := f.value y
  let z := f.value (unbox f c)
  let rounded (r : Nat × Nat) : Option (Bool × Nat × Nat) := if rm < 5 then some (false, box f r.1, r.2) else none
  let plain (r : Nat) : Option (Bool × Nat × Nat) := some (false, box f r, 0)
  if 2 ≤ fmt then none
  else match bitsOf w 6 0 with
  | 0x43 => rounded (f.fma rm u v z)
  | 0x47 => rounded (f.fma rm u v z.neg)
  | 0x4B => rounded (f.fma rm u.neg v z)
  | 0x4F => rounded (f.fma rm u.neg v z.neg)
  | _ => match bitsOf w 31 27 with
    | 0x00 => rounded (f.add rm u v)
    | 0x01 => rounded (f.add rm u v.neg)
    | 0x02 => rounded (f.mul rm u v)
    | 0x03 => rounded (f.div rm u v)
    | 0x0B => if rs2 = 0 then rounded (f.sqrt rm u) else none
    | 0x04 =>
      let s := y / f.signBit % 2
      let t := x / f.signBit % 2
      let body := x % f.signBit
      if mode = 0 then plain (s * f.signBit + body)
      else if mode = 1 then plain ((1 - s) * f.signBit + body)
      else if mode = 2 then plain ((s + t) % 2 * f.signBit + body) else none
    | 0x05 => if mode < 2 then let r := f.minMax (mode == 1) x y; some (false, box f r.1, r.2) else none
    | 0x08 => if rs2 = 1 - fmt then rounded (f.convert rm (g.value (unbox g a))) else none
    | 0x14 => if mode < 3 then let r := fpCompare mode u v; some (true, r.1, r.2) else none
    | 0x18 =>
      let r := match rs2 with
        | 0 => fpToInt rm (-2 ^ 31) (2 ^ 31 - 1) u
        | 1 => fpToInt rm 0 (2 ^ 32 - 1) u
        | 2 => fpToInt rm (-2 ^ 63) (2 ^ 63 - 1) u
        | _ => fpToInt rm 0 (2 ^ 64 - 1) u
      if rs2 < 4 && rm < 5 then some (true, if rs2 < 2 then sext32 (uns 64 r.1) else uns 64 r.1, r.2) else none
    | 0x1A =>
      let n : Int := match rs2 with
        | 0 => sgn 32 xi
        | 1 => (xi % 2 ^ 32 : Nat)
        | 2 => sgn 64 xi
        | _ => (xi : Nat)
      if rs2 < 4 then rounded (f.exact rm false n 0) else none
    | 0x1C =>
      if rs2 ≠ 0 then none
      else if mode = 0 then some (true, if fmt = 0 then sext32 a else a, 0)
      else if mode = 1 then some (true, f.classOf x, 0) else none
    | 0x1E => if rs2 = 0 && mode = 0 then plain (if fmt = 0 then xi % 2 ^ 32 else xi) else none
    | _ => none

end Sys2Proof.Machine
end

