-- ==== Sys2Proof/Machine/Rvc.lean ====
section
/-! DEFINITION. Integer arithmetic of the standard's RV64IM, and its compressed instructions as the 32-bit ones they stand for (R321;
Assumption 8). -/

namespace Sys2Proof.Machine

/-! ## Arithmetic of n bits -/

/-- The operations of OP and OP-IMM by funct3; alt is bit 30 of the instruction. -/
def aluBase (n f3 : Nat) (alt : Bool) (a b : Nat) : Nat :=
  (match f3 with
  | 0 => if alt then a + 2 ^ n - b else a + b
  | 1 => a * 2 ^ (b % n)
  | 2 => bnat (decide (sgn n a < sgn n b))
  | 3 => bnat (decide (a < b))
  | 4 => a ^^^ b
  | 5 => if alt then uns n (sgn n a / 2 ^ (b % n)) else a / 2 ^ (b % n)
  | 6 => a ||| b
  | _ => a &&& b) % 2 ^ n

/-- The operations of the M extension by funct3. -/
def aluMul (n f3 : Nat) (a b : Nat) : Nat :=
  match f3 with
  | 0 => a * b % 2 ^ n
  | 1 => uns n (sgn n a * sgn n b / 2 ^ n)
  | 2 => uns n (sgn n a * b / 2 ^ n)
  | 3 => a * b / 2 ^ n
  | 4 => if b = 0 then 2 ^ n - 1 else uns n ((sgn n a).tdiv (sgn n b))
  | 5 => if b = 0 then 2 ^ n - 1 else a / b
  | 6 => if b = 0 then a else uns n ((sgn n a).tmod (sgn n b))
  | _ => if b = 0 then a else a % b

/-- The condition of a branch by funct3; none is no branch. -/
def branchTaken (f3 a b : Nat) : Option Bool :=
  match f3 with
  | 0 => some (a == b)
  | 1 => some (a != b)
  | 4 => some (decide (sgn 64 a < sgn 64 b))
  | 5 => some (decide (sgn 64 b ≤ sgn 64 a))
  | 6 => some (decide (a < b))
  | 7 => some (decide (b ≤ a))
  | _ => none

/-- The new value of memory under an AMO of n bits by funct5; none is no AMO. -/
def amoValue (n f5 old x : Nat) : Option Nat :=
  match f5 with
  | 0x00 => some ((old + x) % 2 ^ n)
  | 0x01 => some x
  | 0x04 => some (old ^^^ x)
  | 0x08 => some (old ||| x)
  | 0x0C => some (old &&& x)
  | 0x10 => some (if sgn n x < sgn n old then x else old)
  | 0x14 => some (if sgn n old < sgn n x then x else old)
  | 0x18 => some (min old x)
  | 0x1C => some (max old x)
  | _ => none

/-! ## Immediates of the 32-bit formats, sign-extended to 64 bits -/

def sext (n x : Nat) : Nat := uns 64 (sgn n x)
def immI (w : Nat) : Nat := sext 12 (bitsOf w 31 20)
def immS (w : Nat) : Nat := sext 12 (bitsOf w 31 25 * 32 + bitsOf w 11 7)
def immB (w : Nat) : Nat := sext 13 (bitsOf w 31 31 * 4096 + bitsOf w 7 7 * 2048 + bitsOf w 30 25 * 32 + bitsOf w 11 8 * 2)
def immU (w : Nat) : Nat := sext 32 (bitsOf w 31 12 * 4096)
def immJ (w : Nat) : Nat := sext 21 (bitsOf w 31 31 * 2 ^ 20 + bitsOf w 19 12 * 4096 + bitsOf w 20 20 * 2048 + bitsOf w 30 21 * 2)

/-! ## Compressed instructions -/

/-- The 32-bit formats; immediates are taken in their low bits. -/
def encR (f7 rs2 rs1 f3 rd op : Nat) : Nat := f7 * 2 ^ 25 + rs2 * 2 ^ 20 + rs1 * 2 ^ 15 + f3 * 2 ^ 12 + rd * 2 ^ 7 + op
def encI (imm rs1 f3 rd op : Nat) : Nat := imm % 4096 * 2 ^ 20 + rs1 * 2 ^ 15 + f3 * 2 ^ 12 + rd * 2 ^ 7 + op
def encS (imm rs2 rs1 f3 op : Nat) : Nat := encR (bitsOf imm 11 5) rs2 rs1 f3 (bitsOf imm 4 0) op
def encB (imm rs1 f3 : Nat) : Nat :=
  encR (bitsOf imm 12 12 * 64 + bitsOf imm 10 5) 0 rs1 f3 (bitsOf imm 4 1 * 2 + bitsOf imm 11 11) 0x63
def encJ (imm rd : Nat) : Nat :=
  (bitsOf imm 20 20 * 2 ^ 19 + bitsOf imm 10 1 * 2 ^ 9 + bitsOf imm 11 11 * 2 ^ 8 + bitsOf imm 19 12) * 2 ^ 12 + rd * 2 ^ 7 + 0x6F

/-- The 6-bit immediate of a compressed instruction, and its register fields: full, and the two short ones. -/
def cImm (h : Nat) : Nat := bitsOf h 12 12 * 32 + bitsOf h 6 2
def cRd (h : Nat) : Nat := bitsOf h 11 7
def cRs2 (h : Nat) : Nat := bitsOf h 6 2
def cS1 (h : Nat) : Nat := 8 + bitsOf h 9 7
def cS2 (h : Nat) : Nat := 8 + bitsOf h 4 2

/-- Offsets of the loads and stores of words and doublewords. -/
def cOffW (h : Nat) : Nat := bitsOf h 12 10 * 8 + bitsOf h 6 6 * 4 + bitsOf h 5 5 * 64
def cOffD (h : Nat) : Nat := bitsOf h 12 10 * 8 + bitsOf h 6 5 * 64

/-- Quadrant 0. -/
def expand0 (h : Nat) : Option Nat :=
  let n := bitsOf h 12 11 * 16 + bitsOf h 10 7 * 64 + bitsOf h 6 6 * 4 + bitsOf h 5 5 * 8
  match bitsOf h 15 13 with
  | 0 => if n = 0 then none else some (encI n 2 0 (cS2 h) 0x13)
  | 1 => some (encI (cOffD h) (cS1 h) 3 (cS2 h) 0x07)
  | 2 => some (encI (cOffW h) (cS1 h) 2 (cS2 h) 0x03)
  | 3 => some (encI (cOffD h) (cS1 h) 3 (cS2 h) 0x03)
  | 5 => some (encS (cOffD h) (cS2 h) (cS1 h) 3 0x27)
  | 6 => some (encS (cOffW h) (cS2 h) (cS1 h) 2 0x23)
  | 7 => some (encS (cOffD h) (cS2 h) (cS1 h) 3 0x23)
  | _ => none

/-- The arithmetic of quadrant 1. -/
def expandAlu (h : Nat) : Option Nat :=
  let r := cS1 h
  match bitsOf h 11 10 with
  | 0 => some (encI (cImm h) r 5 r 0x13)
  | 1 => some (encI (1024 + cImm h) r 5 r 0x13)
  | 2 => some (encI (sext 6 (cImm h)) r 7 r 0x13)
  | _ => match bitsOf h 12 12 * 4 + bitsOf h 6 5 with
    | 0 => some (encR 32 (cS2 h) r 0 r 0x33)
    | 1 => some (encR 0 (cS2 h) r 4 r 0x33)
    | 2 => some (encR 0 (cS2 h) r 6 r 0x33)
    | 3 => some (encR 0 (cS2 h) r 7 r 0x33)
    | 4 => some (encR 32 (cS2 h) r 0 r 0x3B)
    | 5 => some (encR 0 (cS2 h) r 0 r 0x3B)
    | _ => none

/-- Quadrant 1. -/
def expand1 (h : Nat) : Option Nat :=
  let rd := cRd h
  let imm := sext 6 (cImm h)
  let sp := bitsOf h 12 12 * 512 + bitsOf h 6 6 * 16 + bitsOf h 5 5 * 64 + bitsOf h 4 3 * 128 + bitsOf h 2 2 * 32
  let j := bitsOf h 12 12 * 2048 + bitsOf h 11 11 * 16 + bitsOf h 10 9 * 256 + bitsOf h 8 8 * 1024 + bitsOf h 7 7 * 64 + bitsOf h 6 6 * 128 +
    bitsOf h 5 3 * 2 + bitsOf h 2 2 * 32
  let b := sext 9 (bitsOf h 12 12 * 256 + bitsOf h 11 10 * 8 + bitsOf h 6 5 * 64 + bitsOf h 4 3 * 2 + bitsOf h 2 2 * 32)
  match bitsOf h 15 13 with
  | 0 => some (encI imm rd 0 rd 0x13)
  | 1 => if rd = 0 then none else some (encI imm rd 0 rd 0x1B)
  | 2 => some (encI imm 0 0 rd 0x13)
  | 3 => if rd = 2 then (if sp = 0 then none else some (encI (sext 10 sp) 2 0 2 0x13))
      else if cImm h = 0 then none else some (imm % 2 ^ 20 * 4096 + rd * 128 + 0x37)
  | 4 => expandAlu h
  | 5 => some (encJ (sext 12 j) 0)
  | 6 => some (encB b (cS1 h) 0)
  | _ => some (encB b (cS1 h) 1)

/-- Quadrant 2. -/
def expand2 (h : Nat) : Option Nat :=
  let rd := cRd h
  let r2 := cRs2 h
  let d := bitsOf h 12 12 * 32 + bitsOf h 6 5 * 8 + bitsOf h 4 2 * 64
  let sd := bitsOf h 12 10 * 8 + bitsOf h 9 7 * 64
  match bitsOf h 15 13 with
  | 0 => some (encI (cImm h) rd 1 rd 0x13)
  | 1 => some (encI d 2 3 rd 0x07)
  | 2 => if rd = 0 then none else some (encI (bitsOf h 12 12 * 32 + bitsOf h 6 4 * 4 + bitsOf h 3 2 * 64) 2 2 rd 0x03)
  | 3 => if rd = 0 then none else some (encI d 2 3 rd 0x03)
  | 4 =>
    if bitsOf h 12 12 = 0 then
      (if r2 = 0 then (if rd = 0 then none else some (encI 0 rd 0 0 0x67)) else some (encR 0 r2 0 0 rd 0x33))
    else if r2 = 0 then (if rd = 0 then some 0x00100073 else some (encI 0 rd 0 1 0x67))
    else some (encR 0 r2 rd 0 rd 0x33)
  | 5 => some (encS sd r2 2 3 0x27)
  | 6 => some (encS (bitsOf h 12 9 * 4 + bitsOf h 8 7 * 64) r2 2 2 0x23)
  | _ => some (encS sd r2 2 3 0x23)

/-- The 32-bit instruction that a compressed one stands for; none is an illegal instruction. -/
def expandC (h : Nat) : Option Nat :=
  match h % 4 with
  | 0 => expand0 h
  | 1 => expand1 h
  | _ => expand2 h

end Sys2Proof.Machine
end

