-- ==== Sys2Proof/Machine/Hart.lean ====
section
/-! DEFINITION. A tender core as a hart of the standard (R321; Assumption 8): its CSRs, physical memory protection, address translation,
accesses, and the interrupts it takes (R329, R330, R335). -/

namespace Sys2Proof.Machine

/-! ## Status -/

/-- mstatus as software reads it: the bits held, UXL and SXL of 64 bits, SD where FS is dirty. -/
def State.mstatus (s : State) (c : Nat) : Nat :=
  let v := (s.csr c 0x300).toNat
  v + 0xA00000000 + (if bitsOf v 14 13 = 3 then 2 ^ 63 else 0)

/-- mip (R326, R329): the bits software holds, the software and timer interrupts of the core's registers, and the part's lines. -/
def State.mip (s : State) (c : Nat) : Nat :=
  ((s.csr c 0x344).toNat &&& 0x222) + bnat (s.on (F.TCORE_MSIP_MSIP c)) * 8 + bnat (decide (s.mtimecmp c ≤ s.mtime)) * 128 +
    s.coreLines c * 2 ^ 16

/-- dcsr.stopcount holds the counters of a halted core (R730). -/
def State.countersStop (s : State) (c : Nat) : Bool := s.isHalted c && bitOf (s.hart c).dcsr 10

/-- CLK_CPU cycles (R321): two a nanosecond, and the offset that a write of mcycle set. -/
def State.cycles (s : State) (c : Nat) : Nat := 2 * (if s.countersStop c then (s.hart c).haltedAt else s.ns.toNat)

/-! ## CSRs -/

/-- Bits of mstatus, and of its view sstatus, that software writes; those of mie, mideleg and medeleg. -/
def MSTATUS_BITS : Nat := 0x7E79AA
def SSTATUS_BITS : Nat := 0xC6122
def MIE_BITS : Nat := 0x1F0AAA
def MIDELEG_BITS : Nat := 0x1F0222
def MEDELEG_BITS : Nat := 0x108B3FF
/-- RV64 with A, C, D, F, I, M, S and U. -/
def MISA : Nat := 2 ^ 63 + 0x14112D

/-- A CSR of the core, by number. -/
def csrExists (n : Nat) : Bool :=
  [1, 2, 3, 0x100, 0x104, 0x105, 0x106, 0x10A, 0x140, 0x141, 0x142, 0x143, 0x144, 0x180, 0x300, 0x301, 0x302, 0x303, 0x304, 0x305, 0x306,
    0x30A, 0x320, 0x340, 0x341, 0x342, 0x343, 0x344, 0x3A0, 0x3A2, 0x7A0, 0x7A1, 0x7A2, 0x7A4, 0x7B0, 0x7B1].contains n ||
  (decide (0x323 ≤ n) && decide (n < 0x340)) || (decide (0x3B0 ≤ n) && decide (n < 0x3C0)) ||
  (decide (0x7C0 ≤ n) && decide (n < 0x7CB)) || n == 0xB00 || (decide (0xB02 ≤ n) && decide (n < 0xB20)) ||
  (decide (0xC00 ≤ n) && decide (n < 0xC20)) || (decide (0xF11 ≤ n) && decide (n < 0xF16))

/-- Bits of v where the mask has them, and of w elsewhere. -/
def merge (mask v w : Nat) : Nat := (v &&& mask) + (w - (w &&& mask))

/-- tdata1 of trigger t of core c: a trigger never written is disabled, type 15. -/
def State.tdata1 (s : State) (c t : Nat) : Nat :=
  let v := Bank.get (fun _ => (0 : Nat)) (s.hart c).triggers (2 * t)
  if v = 0 then 0xF * 2 ^ 60 else v

/-- A write of tdata1 keeps type mcontrol6 or disabled. -/
def tdata1Word (v : Nat) : Nat := if bitsOf v 63 60 = 15 then 0 else putBits v 63 60 6

/-- dcsr of core c. -/
def State.dcsrWord (s : State) (c : Nat) : Nat :=
  let h := s.hart c
  4 * 2 ^ 28 + h.dcsr + h.cause * 64 + bnat h.step * 4 + h.prv

/-- The bytes of pmpcfg register r (0 or 2) as entries 4r to 4r + 7. -/
def State.pmpCfg (s : State) (c i : Nat) : Nat := (s.csr c (0x3A0 + i / 8 * 2)).toNat / 2 ^ (8 * (i % 8)) % 256

/-- pmpaddr of entry i as software reads it: with a granularity of 64 bytes its low bits read ones under NAPOT, else zeros. -/
def State.pmpAddr (s : State) (c i : Nat) : Nat :=
  let a := (s.csr c (0x3B0 + i)).toNat
  if 2 ≤ bitsOf (s.pmpCfg c i) 4 3 then a ||| 7 else a / 16 * 16

/-- The value of a CSR, and the state after the read; the serial engine's data pops (R653). -/
def State.csrRead (s : State) (c n : Nat) : State × Nat :=
  let bank := halfOfCore c * 6 + (s.csr c 0x7C3).toNat % 8
  let e := s.serialOf c
  let own := (s.csr c n).toNat
  let fcsr := (s.csr c 3).toNat
  match n with
  | 1 => (s, fcsr % 32)
  | 2 => (s, fcsr / 32)
  | 0x100 => (s, (s.mstatus c &&& (SSTATUS_BITS + 2 ^ 63)) + 0x200000000)
  | 0x104 => (s, (s.csr c 0x304).toNat &&& (s.csr c 0x303).toNat)
  | 0x144 => (s, s.mip c &&& (s.csr c 0x303).toNat)
  | 0x300 => (s, s.mstatus c)
  | 0x301 => (s, MISA)
  | 0x344 => (s, s.mip c)
  | 0x7A1 => (s, s.tdata1 c ((s.csr c 0x7A0).toNat % 4))
  | 0x7A2 => (s, Bank.get (fun _ => (0 : Nat)) (s.hart c).triggers (2 * ((s.csr c 0x7A0).toNat % 4) + 1))
  | 0x7A4 => (s, 0x40)
  | 0x7B0 => (s, s.dcsrWord c)
  | 0x7B1 => (s, (s.hart c).dpc.toNat)
  | 0x7C4 => (s, if (s.csr c 0x7C3).toNat % 8 < 6 then s.fld (F.PIN_BANK_LAT_LATCH bank) else 0)
  | 0x7C6 => (s, if (s.csr c 0x7C3).toNat % 8 < 6 then s.bankIn bank else 0)
  | 0x7C8 => (s, (e.map fun i => (s.serial i).cfgWord).getD 0)
  | 0x7C9 => match e with
    | some i => (s.setSerial i (s.serial i).pop.2, (s.serial i).pop.1)
    | none => (s, 0)
  | 0x7CA => (s, (e.map fun i => (s.serial i).statWord).getD 0)
  | 0xB00 => (s, (own + s.cycles c) % 2 ^ 64)
  | 0xC00 => (s, ((s.csr c 0xB00).toNat + s.cycles c) % 2 ^ 64)
  | 0xC01 => (s, s.mtime)
  | 0xC02 => (s, (s.csr c 0xB02).toNat)
  | 0xF14 => (s, c)
  | _ =>
    if 0x3B0 ≤ n && n < 0x3C0 then (s, s.pmpAddr c (n - 0x3B0))
    else if 0xF11 ≤ n && n < 0xF14 then (s, Config.coreId n % 2 ^ 64)
    else (s, own)

/-- A byte of a pmpcfg register takes a value: a locked entry keeps its own, and the entry size of 4 bytes is none. -/
def pmpCfgByte (old v : Nat) : Nat :=
  if bitOf old 7 then old
  else putBits (putBits v 6 5 0) 4 3 (if bitsOf v 4 3 = 2 then bitsOf old 4 3 else bitsOf v 4 3)

/-- The entry's address register takes no write while it or, as the base of a range, its successor is locked. -/
def State.pmpLocked (s : State) (c i : Nat) : Bool :=
  bitOf (s.pmpCfg c i) 7 || (decide (i < 15) && bitOf (s.pmpCfg c (i + 1)) 7 && bitsOf (s.pmpCfg c (i + 1)) 4 3 == 1)

/-- A trigger register of the one selected takes a value; one that only debug mode may write keeps its own outside it. -/
def State.writeTrigger (s : State) (c i v : Nat) : State :=
  let t := (s.csr c 0x7A0).toNat % 4
  if bitOf (s.tdata1 c t) 59 && bitsOf (s.tdata1 c t) 63 60 = 6 && !s.isHalted c then s
  else s.modHart c fun h => { h with triggers := Bank.set (fun _ => 0) h.triggers (2 * t + i) v }

/-- A CSR takes a value, within what it can hold; the pin port performs no write while the core is halted (R731), and read-only numbers
keep their values. -/
def State.csrWrite (s : State) (c n v : Nat) : State :=
  let port (kind : Nat) : State := if s.isHalted c then s else s.pinPort c kind v
  let serial (f : Serial → Serial) : State := match s.serialOf c with
    | some i => s.modSerial i f
    | none => s
  let own := (s.csr c n).toNat
  let set (n w : Nat) : State := s.setCsr c n (BitVec.ofNat 64 w)
  let fp (w : Nat) : State := (set 3 w).setCsr c 0x300 (BitVec.ofNat 64 ((s.csr c 0x300).toNat ||| 0x6000))
  let mst := (s.csr c 0x300).toNat
  let mpp (w : Nat) : Nat := if bitsOf w 12 11 = 2 then putBits w 12 11 (bitsOf mst 12 11) else w
  match n with
  | 1 => fp ((s.csr c 3).toNat / 32 * 32 + v % 32)
  | 2 => fp ((s.csr c 3).toNat % 32 + v % 8 * 32)
  | 3 => fp (v % 256)
  | 0x100 => set 0x300 (merge SSTATUS_BITS v mst)
  | 0x104 => set 0x304 (merge ((s.csr c 0x303).toNat &&& MIE_BITS) v (s.csr c 0x304).toNat)
  | 0x105 => set n (v - (v &&& 2))
  | 0x106 => set n (v % 2 ^ 32)
  | 0x10A => s
  | 0x141 => set n (v / 2 * 2)
  | 0x144 => set 0x344 (merge ((s.csr c 0x303).toNat &&& 2) v (s.csr c 0x344).toNat)
  | 0x180 => if v / 2 ^ 60 = 0 || v / 2 ^ 60 = 8 || v / 2 ^ 60 = 9 then set n v else s
  | 0x300 => set n (mpp v &&& MSTATUS_BITS)
  | 0x301 => s
  | 0x302 => set n (v &&& MEDELEG_BITS)
  | 0x303 => set n (v &&& MIDELEG_BITS)
  | 0x304 => set n (v &&& MIE_BITS)
  | 0x305 => set n (v - (v &&& 2))
  | 0x306 => set n (v % 2 ^ 32)
  | 0x30A => s
  | 0x320 => s
  | 0x341 => set n (v / 2 * 2)
  | 0x344 => set n (v &&& 0x222)
  | 0x3A0 => set n ((List.range 8).foldl (fun w i => w + pmpCfgByte (own / 2 ^ (8 * i) % 256) (v / 2 ^ (8 * i) % 256) * 2 ^ (8 * i)) 0)
  | 0x3A2 => set n ((List.range 8).foldl (fun w i => w + pmpCfgByte (own / 2 ^ (8 * i) % 256) (v / 2 ^ (8 * i) % 256) * 2 ^ (8 * i)) 0)
  | 0x7A0 => set n (v % 4)
  | 0x7A1 => s.writeTrigger c 0 (tdata1Word v)
  | 0x7A2 => s.writeTrigger c 1 v
  | 0x7A4 => s
  | 0x7B0 => s.modHart c fun h => { h with step := bitOf v 2, prv := (if bitsOf v 1 0 = 2 then h.prv else bitsOf v 1 0), dcsr := v &&& 0xB400 }
  | 0x7B1 => s.modHart c fun h => { h with dpc := BitVec.ofNat 64 (v / 2 * 2) }
  | 0x7C0 => port 0
  | 0x7C1 => port 1
  | 0x7C2 => port 2
  | 0x7C3 => set n (v % 8)
  | 0x7C4 => s
  | 0x7C5 => set n (v % 4)
  | 0x7C6 => s
  | 0x7C7 => set n (v % 8)
  | 0x7C8 => serial (·.config v)
  | 0x7C9 => serial (·.push v)
  | 0x7CA => serial (·.clear v)
  | 0xB00 => set n ((v + 2 ^ 64 - s.cycles c % 2 ^ 64) % 2 ^ 64)
  | 0xB02 => set n v
  | _ =>
    if 0x3B0 ≤ n && n < 0x3C0 then (if s.pmpLocked c (n - 0x3B0) then s else set n (v % 2 ^ 54))
    else if n = 0x140 || n = 0x142 || n = 0x143 || n = 0x340 || n = 0x342 || n = 0x343 then set n v
    else s

/-- A CSR instruction of the core may access CSR n, to write it too: privilege and read-only numbers by the standard, debug registers
in debug mode alone, and the enables of counters, floating point and address translation. -/
def State.csrAllowed (s : State) (c n : Nat) (write : Bool) : Bool :=
  let prv := (s.core c).prv
  let st := (s.csr c 0x300).toNat
  let counter (r : Nat) : Bool := bitOf (s.csr c r).toNat (n - 0xC00)
  csrExists n && decide (n / 256 % 4 ≤ prv) && !(write && n / 1024 == 3) && (n / 16 != 0x7B || s.isHalted c) &&
    !(n == 0x180 && prv == 1 && bitOf st 20) && !(decide (1 ≤ n) && decide (n ≤ 3) && bitsOf st 14 13 == 0) &&
    (!(decide (0xC00 ≤ n) && decide (n < 0xC20)) || prv == 3 || (counter 0x306 && (prv == 1 || counter 0x106)))

/-! ## Physical memory protection (16 entries of 64 bytes) -/

/-- The number of one bits at the low end of x, at most n. -/
def lowOnes (x : Nat) : Nat → Nat
  | 0 => 0
  | n + 1 => if x % 2 = 1 then 1 + lowOnes (x / 2) n else 0

/-- The range of entry i: its first address and the one behind its last. -/
def State.pmpRange (s : State) (c i : Nat) : Option (Nat × Nat) :=
  let a := (s.csr c (0x3B0 + i)).toNat
  match bitsOf (s.pmpCfg c i) 4 3 with
  | 1 => some (if i = 0 then 0 else (s.csr c (0x3B0 + i - 1)).toNat / 16 * 64, a / 16 * 64)
  | 3 =>
    let k := lowOnes (a ||| 7) 54
    let size := 2 ^ (k + 3)
    some (a * 4 / size * size, a * 4 / size * size + size)
  | _ => none

/-- An access of kind 0 fetch, 1 load, 2 store to n bytes at a, with privilege prv: the first entry that matches a byte decides. -/
def State.pmpOk (s : State) (c kind prv a n : Nat) : Bool :=
  match (List.range 16).find? fun i => match s.pmpRange c i with
    | some (lo, hi) => decide (lo < a + n) && decide (a < hi)
    | none => false with
  | none => prv == 3
  | some i => match s.pmpRange c i with
    | some (lo, hi) => decide (lo ≤ a) && decide (a + n ≤ hi) &&
        (bitOf (s.pmpCfg c i) (if kind = 0 then 2 else kind - 1) || (prv == 3 && !bitOf (s.pmpCfg c i) 7))
    | none => false

/-! ## Address translation (Sv39 and Sv48) -/

/-- The causes of an access fault and of a page fault, by kind. -/
def accessCause (kind : Nat) : Nat := if kind = 0 then 1 else if kind = 1 then 5 else 7
def pageCause (kind : Nat) : Nat := if kind = 0 then 12 else if kind = 1 then 13 else 15
/-- In place of a cause: the access waits for a partition command (R367). -/
def ON_HOLD : Nat := 2 ^ 32

/-- What an access comes to that an exception cuts short: its cause and trap value. -/
abbrev Faulted := Except (Nat × Nat)

/-- The privilege of an access: mstatus.MPRV gives loads and stores that of MPP, outside debug mode. -/
def State.accessPrv (s : State) (c kind : Nat) : Nat :=
  let st := (s.csr c 0x300).toNat
  if kind ≠ 0 && bitOf st 17 && !s.isHalted c then bitsOf st 12 11 else (s.core c).prv

/-- A leaf entry of level lv permits the access; a clear A bit, or D bit of a store, faults. -/
def State.leafOk (s : State) (c kind prv lv pte : Nat) : Bool :=
  let st := (s.csr c 0x300).toNat
  let perm := if kind = 0 then bitOf pte 3 else if kind = 1 then bitOf pte 1 || (bitOf st 19 && bitOf pte 3) else bitOf pte 2
  let user := bitOf pte 4
  perm && (if prv = 0 then user else !user || (bitOf st 18 && kind != 0)) && bitOf pte 6 && (kind != 2 || bitOf pte 7) &&
    pte / 1024 % 2 ^ (9 * lv) == 0

/-- The walk of the page tables from the table at page p, levels below n left: the physical address. -/
def State.walk (s : State) (c kind prv va p : Nat) : Nat → State × Faulted Nat
  | 0 => (s, .error (pageCause kind, va))
  | lv + 1 =>
    let a := p * 4096 + va / 2 ^ (12 + 9 * lv) % 512 * 8
    if !s.pmpOk c 1 1 a 8 || !s.mapped a 8 then (s, .error (accessCause kind, va))
    else match s.busRead (.core (Fin.ofNat 16 c)) a 8 with
      | (t, pte, .ok) =>
        if !bitOf pte 0 || (!bitOf pte 1 && bitOf pte 2) || pte / 2 ^ 54 ≠ 0 then (t, .error (pageCause kind, va))
        else if bitOf pte 1 || bitOf pte 3 then
          (if t.leafOk c kind prv lv pte then (t, .ok (pte / 1024 * 4096 + va % 2 ^ (12 + 9 * lv))) else (t, .error (pageCause kind, va)))
        else if pte / 16 % 16 ≠ 0 && (bitOf pte 4 || bitOf pte 6 || bitOf pte 7) then (t, .error (pageCause kind, va))
        else State.walk t c kind prv va (pte / 1024) lv
      | (t, _, .poison) => (t.coreReport c ERROR 5 (a / 64) false, .error (19, a))
      | (t, _, .held) => (t, .error (ON_HOLD, va))
      | (t, _, _) => (t, .error (accessCause kind, va))

/-- The physical address of an access of n bytes, which protection permits. -/
def State.translate (s : State) (c kind va n : Nat) : State × Faulted Nat :=
  let prv := s.accessPrv c kind
  let satp := (s.csr c 0x180).toNat
  let levels := if satp / 2 ^ 60 = 8 then 3 else 4
  let r :=
    if prv = 3 || satp / 2 ^ 60 = 0 then (s, .ok va)
    else if sext (12 + 9 * levels) va ≠ va then (s, .error (pageCause kind, va))
    else s.walk c kind prv va (satp % 2 ^ 44) levels
  match r with
  | (t, .ok pa) => if t.pmpOk c kind prv pa n then (t, .ok pa) else (t, .error (accessCause kind, va))
  | r => r

/-! ## Accesses -/

/-- An I/O region for core c (R324, R405): control space, windows, doorbells, and host memory that no coherence engine caches. -/
def State.ioRegion (s : State) (c a : Nat) : Bool :=
  match s.region a with
  | .scratch _ _ => false
  | .hbm _ _ => false
  | .host _ => !s.cachingNow (halfOfCore c)
  | .unmapped => false
  | _ => true

/-- The core's caches see an access to memory: a line its L2 holds is filled into the L1 cache, and meets its check there (R322, R325). -/
def State.cacheTouch (s : State) (c kind a : Nat) : State :=
  let t := if kind = 0 then 0 else 1
  let line := a / 64
  if (s.core c).holds line = 0 then s else ((s.fillL1 c t line).cacheEvent c t line).cacheEvent c 2 line

/-- A read of n bytes at a physical address, for an access at va. -/
def State.coreRead (s : State) (c kind va a n : Nat) : State × Faulted Nat :=
  match (s.cacheTouch c kind a).busRead (.core (Fin.ofNat 16 c)) a n with
  | (t, v, .ok) => (t, .ok v)
  | (t, _, .poison) => (t.coreReport c ERROR 5 (a / 64) false, .error (19, a))
  | (t, _, .held) => (t, .error (ON_HOLD, va))
  | (t, _, _) => (t, .error (accessCause kind, va))

/-- A write of n bytes at a physical address, for an access at va. -/
def State.coreWrite (s : State) (c va a n v : Nat) : State × Faulted Unit :=
  match (s.cacheTouch c 2 a).busWrite (.core (Fin.ofNat 16 c)) a n v with
  | (t, .unmapped) => (t, .error (7, va))
  | (t, .denied) => (t, .error (7, va))
  | (t, .held) => (t, .error (ON_HOLD, va))
  | (t, _) => (t, .ok ())

/-- The bytes of an access that lie in the line of its first one. -/
def firstPart (va n : Nat) : Nat := min n (64 - va % 64)

/-- A load of n bytes at va: one access, or two where it crosses a line. -/
def State.coreLoad (s : State) (c kind va n : Nat) : State × Faulted Nat :=
  let k := firstPart va n
  match s.translate c kind va k with
  | (t, .error e) => (t, .error e)
  | (t, .ok a) =>
    if k = n then t.coreRead c kind va a n
    else match t.translate c kind ((va + k) % 2 ^ 64) (n - k) with
      | (u, .error e) => (u, .error e)
      | (u, .ok b) => match u.coreRead c kind va a k with
        | (w, .error e) => (w, .error e)
        | (w, .ok lo) => match w.coreRead c kind ((va + k) % 2 ^ 64) b (n - k) with
          | (x, .error e) => (x, .error e)
          | (x, .ok hi) => (x, .ok (lo + hi * 2 ^ (8 * k)))

/-- A store of n bytes at va: both parts are translated before either is written. -/
def State.coreSave (s : State) (c va n v : Nat) : State × Faulted Unit :=
  let k := firstPart va n
  match s.translate c 2 va k with
  | (t, .error e) => (t, .error e)
  | (t, .ok a) =>
    if k = n then t.coreWrite c va a n v
    else match t.translate c 2 ((va + k) % 2 ^ 64) (n - k) with
      | (u, .error e) => (u, .error e)
      | (u, .ok b) => match u.coreWrite c va a k (v % 2 ^ (8 * k)) with
        | (w, .error e) => (w, .error e)
        | (w, .ok _) => w.coreWrite c ((va + k) % 2 ^ 64) b (n - k) (v / 2 ^ (8 * k))

/-! ## Interrupts (R329, R330, R335) -/

/-- The bits of mip in the order in which a core takes them (R330): PREEMPT, DISPATCH, COP, QUEUE, PIN, then the standard's: machine
external, software, timer, supervisor external, software, timer. -/
def IRQ_ORDER : List Nat := [17, 16, 18, 19, 20, 11, 3, 7, 9, 1, 5]

/-- Interrupt i is enabled for core c in its mode, by the standard. -/
def State.irqEnabled (s : State) (c i : Nat) : Bool :=
  let prv := (s.core c).prv
  let st := (s.csr c 0x300).toNat
  if bitOf (s.csr c 0x303).toNat i then prv == 0 || (prv == 1 && bitOf st 1) else decide (prv < 3) || bitOf st 3

/-- Bits pending and set in mie. -/
def State.irqPending (s : State) (c : Nat) : Nat := s.mip c &&& (s.csr c 0x304).toNat

/-- The interrupt that core c takes now: none while it is held, halted, stepping, or an effecting operation is outstanding (R335, R731). -/
def State.irqDue (s : State) (c : Nat) : Option Nat :=
  if !(s.core c).live || s.isHalted c || (s.hart c).step || (s.core c).effects then none
  else IRQ_ORDER.find? fun i => bitOf (s.irqPending c) i && s.irqEnabled c i

/-- Core c takes interrupt i: operations that have not retired are squashed, and the first of them is where it returns to (R342). -/
def State.takeIrq (s : State) (c i : Nat) : State :=
  let pc := match (s.core c).ops with
    | o :: _ => o.pc
    | [] => (s.core c).pc
  (((s.squashFrom c 0).setFld (F.TCORE_CTL_WFI c) 0).takeTrap c i 0 pc true).copSettle c

/-- A core in WFI goes on once an interrupt that mie enables is pending. -/
def State.wake' (s : State) (c : Nat) : State :=
  if s.on (F.TCORE_CTL_WFI c) && s.irqPending c ≠ 0 then s.setFld (F.TCORE_CTL_WFI c) 0 else s

/-- Core c attends to its interrupts. -/
def State.attend (s : State) (c : Nat) : State :=
  match s.irqDue c with
  | some i => s.takeIrq c i
  | none => s.wake' c

/-- MACHINE_TIMER_EXPIRY (R326): mtime is at or above the compare, and the core takes the interrupt where it may. -/
def execMachineTimerExpiry (c : Fin 16) (s : State) : Out := .next (if s.mtimecmp c ≤ s.mtime then s.attend c else s)

end Sys2Proof.Machine
end

