-- ==== Sys2Proof/Machine/HartRun.lean ====
section
/-! DEFINITION. One instruction of a tender core (R321, by the standard; Assumption 8), and what the cores do on an idle step
(Assumption 58). -/

namespace Sys2Proof.Machine

/-- How an instruction ends. -/
inductive CoreEnd where
  /-- It retires, and the next one is at pc. -/
  | goes (pc : Nat)
  /-- It has issued to the coprocessor port, which moves the pc. -/
  | issued
  | trap (cause tval : Nat)
  | illegal
  | brk
  /-- A trigger fires before it, for an address (R730). -/
  | hit (trigger addr : Nat)
  /-- It waits for the operations issued before it (R334), or for a partition command (R367). -/
  | waits
deriving DecidableEq, Repr

/-- An exception of an access. -/
def faulted (e : Nat × Nat) : CoreEnd := if e.1 = ON_HOLD then .waits else .trap e.1 e.2

/-! ## Registers -/

/-- f register n. -/
def State.freg (s : State) (c n : Nat) : Nat := (Bank.get (fun _ => (0 : Dword)) (s.core c).f n).toNat

/-- An f register takes a value, and FS turns dirty. -/
def State.setFreg (s : State) (c n v : Nat) : State :=
  (s.modCore c fun k => { k with f := Bank.set (fun _ => (0 : Dword)) k.f n (BitVec.ofNat 64 v) }).setCsr c 0x300 (s.csr c 0x300 ||| 0x6000)

/-- fflags accrue, and FS turns dirty. -/
def State.accrue (s : State) (c fl : Nat) : State :=
  (s.setCsr c 3 (s.csr c 3 ||| BitVec.ofNat 64 fl)).setCsr c 0x300 (s.csr c 0x300 ||| 0x6000)

/-- Integer register n as a number, and its writing. -/
def State.xval (s : State) (c n : Nat) : Nat := (s.xreg c n).toNat
def State.setX (s : State) (c n v : Nat) : State := s.setXreg c n (BitVec.ofNat 64 v)

/-! ## Loads, stores, atomics -/

/-- What a load of funct3 gives for the bytes read. -/
def loadValue (f3 v : Nat) : Nat :=
  match f3 with
  | 0 => sext 8 v
  | 1 => sext 16 v
  | 2 => sext 32 v
  | _ => v

/-- A load into x register rd. -/
def State.runLoad (s : State) (c f3 va rd next : Nat) : State × CoreEnd :=
  match s.coreLoad c 1 va (2 ^ (f3 % 4)) with
  | (t, .ok v) => (t.setX c rd (loadValue f3 v), .goes next)
  | (t, .error e) => (t, faulted e)

/-- A store. -/
def State.runStore (s : State) (c f3 va v next : Nat) : State × CoreEnd :=
  match s.coreSave c va (2 ^ f3) (v % 2 ^ (8 * 2 ^ f3)) with
  | (t, .ok _) => (t, .goes next)
  | (t, .error e) => (t, faulted e)

/-- A load of an f register. -/
def State.runFload (s : State) (c f3 va rd next : Nat) : State × CoreEnd :=
  match s.coreLoad c 1 va (2 ^ f3) with
  | (t, .ok v) => (t.setFreg c rd (if f3 = 2 then box FP32 v else v), .goes next)
  | (t, .error e) => (t, faulted e)

/-- LR, SC and the AMOs on n bytes at va (R323, R324): aligned, and never on an I/O region. -/
def State.runAtomic (s : State) (c w va next : Nat) : State × CoreEnd :=
  let f5 := bitsOf w 31 27
  let n := if bitsOf w 14 12 = 2 then 4 else 8
  let rd := bitsOf w 11 7
  let src := s.xval c (bitsOf w 24 20)
  let ext (v : Nat) : Nat := if n = 4 then sext 32 v else v
  if va % n ≠ 0 then (s, .trap (if f5 = 2 then 4 else 6) va)
  else match s.translate c (if f5 = 2 then 1 else 2) va n with
    | (t, .error e) => (t, faulted e)
    | (t, .ok a) =>
      if t.ioRegion c a then (t, .trap 7 va)
      else if f5 = 2 then
        match t.coreRead c 1 va a n with
        | (u, .ok v) => ((u.setX c rd (ext v)).modCore c fun k => { k with resv := a / 64 + 1 }, .goes next)
        | (u, .error e) => (u, faulted e)
      else if f5 = 3 then
        (if (t.core c).resv = a / 64 + 1 then
          match t.coreWrite c va a n (src % 2 ^ (8 * n)) with
          | (u, .ok _) => ((u.setX c rd 0).modCore c fun k => { k with resv := 0 }, .goes next)
          | (u, .error e) => (u, faulted e)
        else ((t.setX c rd 1).modCore c fun k => { k with resv := 0 }, .goes next))
      else match t.coreRead c 2 va a n with
        | (u, .error e) => (u, faulted e)
        | (u, .ok v) => match amoValue (8 * n) f5 v (src % 2 ^ (8 * n)) with
          | none => (s, .illegal)
          | some x => match u.coreWrite c va a n x with
            | (y, .ok _) => (y.setX c rd (ext v), .goes next)
            | (y, .error e) => (y, faulted e)

/-- The encoding is one of an atomic instruction. -/
def atomicOk (w : Nat) : Bool :=
  let f5 := bitsOf w 31 27
  (bitsOf w 14 12 == 2 || bitsOf w 14 12 == 3) && ((f5 == 2 && bitsOf w 24 20 == 0) || f5 == 3 || (amoValue 32 f5 0 0).isSome)

/-! ## Arithmetic -/

/-- OP-IMM and OP-IMM-32 of n bits; none is illegal. -/
def opImm (n w a : Nat) : Option Nat :=
  let f3 := bitsOf w 14 12
  let top := if n = 64 then bitsOf w 31 26 * 2 else bitsOf w 31 25
  let sh := bitsOf w 24 20 + (if n = 64 then bitsOf w 25 25 * 32 else 0)
  if n = 32 && f3 ≠ 0 && f3 ≠ 1 && f3 ≠ 5 then none
  else if f3 = 1 then (if top = 0 then some (aluBase n 1 false a sh) else none)
  else if f3 = 5 then (if top = 0 || top = 32 then some (aluBase n 5 (top == 32) a sh) else none)
  else some (aluBase n f3 false a (immI w % 2 ^ n))

/-- OP and OP-32 of n bits; none is illegal. -/
def opReg (n w a b : Nat) : Option Nat :=
  let f3 := bitsOf w 14 12
  match bitsOf w 31 25 with
  | 0 => if n = 32 && f3 ≠ 0 && f3 ≠ 1 && f3 ≠ 5 then none else some (aluBase n f3 false a b)
  | 32 => if f3 = 0 || f3 = 5 then some (aluBase n f3 true a b) else none
  | 1 => if n = 32 && 1 ≤ f3 && f3 ≤ 3 then none else some (aluMul n f3 a b)
  | _ => none

/-! ## System -/

/-- mret and sret: privilege and interrupt enable return. -/
def State.runReturn (s : State) (c : Nat) (machine : Bool) : State × CoreEnd :=
  let st := (s.csr c 0x300).toNat
  if machine then
    let mpp := bitsOf st 12 11
    let st' := putBits (putBits (putBits st 3 3 (bitsOf st 7 7)) 7 7 1) 12 11 0
    let st' := if mpp = 3 then st' else putBits st' 17 17 0
    ((s.setCsr c 0x300 (BitVec.ofNat 64 st')).modCore c fun k => { k with prv := mpp }, .goes (s.csr c 0x341).toNat)
  else
    let st' := putBits (putBits (putBits (putBits st 1 1 (bitsOf st 5 5)) 5 5 1) 8 8 0) 17 17 0
    ((s.setCsr c 0x300 (BitVec.ofNat 64 st')).modCore c fun k => { k with prv := bitsOf st 8 8 }, .goes (s.csr c 0x141).toNat)

/-- A CSR instruction; one of csrrs and csrrc with rs1 = x0 does not write, and csrrw to x0 does not read (R346). -/
def State.runCsr (s : State) (c w next : Nat) : State × CoreEnd :=
  let n := bitsOf w 31 20
  let kind := bitsOf w 13 12
  let r1 := bitsOf w 19 15
  let rd := bitsOf w 11 7
  let src := if bitOf w 14 then r1 else s.xval c r1
  let write := kind = 1 || r1 ≠ 0
  if !s.csrAllowed c n write then (s, .illegal)
  else
    let r := if kind = 1 && rd = 0 then (s, 0) else s.csrRead c n
    let old := r.2
    let new := if kind = 1 then src else if kind = 2 then old ||| src else old - (old &&& src)
    let t := if write then r.1.csrWrite c n new else r.1
    (t.setX c rd old, .goes next)

/-- The instructions of SYSTEM. -/
def State.runSystem (s : State) (c w next : Nat) : State × CoreEnd :=
  let prv := (s.core c).prv
  let st := (s.csr c 0x300).toNat
  if bitsOf w 14 12 = 4 then (s, .illegal)
  else if bitsOf w 14 12 ≠ 0 then s.runCsr c w next
  else if w = 0x00000073 then (s, .trap (if prv = 3 then 11 else 8 + prv) 0)
  else if w = 0x00100073 then (s, .brk)
  else if w = 0x30200073 then (if prv = 3 then s.runReturn c true else (s, .illegal))
  else if w = 0x10200073 then (if prv = 3 || (prv = 1 && !bitOf st 22) then s.runReturn c false else (s, .illegal))
  else if w = 0x10500073 then
    (if prv = 0 || (prv = 1 && bitOf st 21) then (s, .illegal)
     else (if s.isHalted c || s.irqPending c ≠ 0 then s else s.setFld (F.TCORE_CTL_WFI c) 1, .goes next))
  else if bitsOf w 31 25 = 9 && bitsOf w 11 7 = 0 then
    (if prv = 3 || (prv = 1 && !bitOf st 20) then (s, .goes next) else (s, .illegal))
  else (s, .illegal)

/-! ## Triggers (R730) -/

/-- The comparison that the match field of mcontrol6 names: equal, a range of a power of two, at least, less; others never match. -/
def addrMatches (m d va : Nat) : Bool :=
  match m with
  | 0 => va == d
  | 1 => va / 2 ^ (lowOnes d 64 + 1) == d / 2 ^ (lowOnes d 64 + 1)
  | 2 => decide (d ≤ va)
  | 3 => decide (va < d)
  | _ => false

/-- Trigger t of core c matches an access of a kind (0 load, 1 store, 2 execute) at va, in the core's privilege mode. -/
def State.trigMatches (s : State) (c kind va t : Nat) : Bool :=
  let w := s.tdata1 c t
  bitsOf w 63 60 == 6 && bitOf w kind && !bitOf w 21 && bitOf w (3 + (s.core c).prv) &&
    addrMatches (bitsOf w 10 7) (Bank.get (fun _ => (0 : Nat)) (s.hart c).triggers (2 * t + 1)) va

/-- The last trigger of the first chain all of whose triggers match; `ok`: the chain's earlier ones have matched. -/
def chainHit (on chained : Nat → Bool) (ok : Bool) : List Nat → Option Nat
  | [] => none
  | t :: r => if chained t then chainHit on chained (ok && on t) r else if ok && on t then some t else chainHit on chained true r

/-- The trigger that fires for an access of core c outside debug mode. -/
def State.trigFires (s : State) (c kind va : Nat) : Option Nat :=
  if s.isHalted c then none else chainHit (s.trigMatches c kind va) (fun t => bitOf (s.tdata1 c t) 11) true [0, 1, 2, 3]

/-- The data address of instruction w of core c, and whether it loads and stores there. -/
def State.dataAccess (s : State) (c w : Nat) : Option (Nat × Bool × Bool) :=
  let a := s.xval c (bitsOf w 19 15)
  match bitsOf w 6 0 with
  | 0x03 => some ((a + immI w) % 2 ^ 64, true, false)
  | 0x07 => some ((a + immI w) % 2 ^ 64, true, false)
  | 0x23 => some ((a + immS w) % 2 ^ 64, false, true)
  | 0x27 => some ((a + immS w) % 2 ^ 64, false, true)
  | 0x2F => some (a, bitsOf w 31 27 != 3, bitsOf w 31 27 != 2)
  | _ => none

/-- The trigger that fires for the access of instruction w, with its address. -/
def State.dataHit (s : State) (c w : Nat) : Option (Nat × Nat) :=
  match s.dataAccess c w with
  | none => none
  | some (va, ld, st) => (((if ld then s.trigFires c 0 va else none).orElse fun _ => if st then s.trigFires c 1 va else none).map fun t => (t, va))

/-- Trigger t of core c fires for an address: the core halts, or takes a breakpoint exception, as its action says. -/
def State.fireTrigger (s : State) (c t addr : Nat) : State :=
  let w := s.tdata1 c t
  let u := s.modHart c fun h => { h with triggers := Bank.set (fun _ => (0 : Nat)) h.triggers (2 * t) (putBits w 22 22 1) }
  if bitsOf w 15 12 = 1 then u.enterDebug c 2
  else if bitsOf w 15 12 = 0 then u.coreTrap c 3 addr (u.core c).pc
  else s

/-! ## One instruction -/

/-- The result of an operation goes to x register rd. -/
def State.retireX (s : State) (c rd next : Nat) : Option Nat → State × CoreEnd
  | some v => (s.setX c rd v, .goes next)
  | none => (s, .illegal)

/-- Floating-point arithmetic. -/
def State.runFp (s : State) (c w next : Nat) : State × CoreEnd :=
  let rd := bitsOf w 11 7
  match fpExec w (s.freg c (bitsOf w 19 15)) (s.freg c (bitsOf w 24 20)) (s.freg c (bitsOf w 31 27)) (s.xval c (bitsOf w 19 15))
      ((s.csr c 3).toNat / 32 % 8) with
  | none => (s, .illegal)
  | some (toX, v, fl) => ((if toX then s.setX c rd v else s.setFreg c rd v).accrue c fl, .goes next)

/-- The 32-bit instruction w of core c, at its pc, runs; the one behind it is at next. -/
def State.coreExec (s : State) (c w next : Nat) : State × CoreEnd :=
  let pc := (s.core c).pc.toNat
  let f3 := bitsOf w 14 12
  let rd := bitsOf w 11 7
  let a := s.xval c (bitsOf w 19 15)
  let b := s.xval c (bitsOf w 24 20)
  let fpOff := bitsOf (s.csr c 0x300).toNat 14 13 = 0
  let at' (imm : Nat) : Nat := (a + imm) % 2 ^ 64
  match bitsOf w 6 0 with
  | 0x37 => (s.setX c rd (immU w), .goes next)
  | 0x17 => (s.setX c rd ((pc + immU w) % 2 ^ 64), .goes next)
  | 0x6F => (s.setX c rd next, .goes ((pc + immJ w) % 2 ^ 64))
  | 0x67 => if f3 = 0 then (s.setX c rd next, .goes (at' (immI w) / 2 * 2)) else (s, .illegal)
  | 0x63 => match branchTaken f3 a b with
    | some t => (s, .goes (if t then (pc + immB w) % 2 ^ 64 else next))
    | none => (s, .illegal)
  | 0x03 => if f3 = 7 then (s, .illegal) else s.runLoad c f3 (at' (immI w)) rd next
  | 0x23 => if 4 ≤ f3 then (s, .illegal) else s.runStore c f3 (at' (immS w)) b next
  | 0x13 => s.retireX c rd next (opImm 64 w a)
  | 0x1B => s.retireX c rd next ((opImm 32 w (a % 2 ^ 32)).map (sext 32))
  | 0x33 => s.retireX c rd next (opReg 64 w a b)
  | 0x3B => s.retireX c rd next ((opReg 32 w (a % 2 ^ 32) (b % 2 ^ 32)).map (sext 32))
  | 0x0F => if f3 < 2 then (s, .goes next) else (s, .illegal)
  | 0x73 => s.runSystem c w next
  | 0x2F => if atomicOk w then s.runAtomic c w a next else (s, .illegal)
  | 0x07 => if fpOff || !(f3 == 2 || f3 == 3) then (s, .illegal) else s.runFload c f3 (at' (immI w)) rd next
  | 0x27 => if fpOff || !(f3 == 2 || f3 == 3) then (s, .illegal) else s.runStore c f3 (at' (immS w)) (s.freg c (bitsOf w 24 20)) next
  | 0x43 => if fpOff then (s, .illegal) else s.runFp c w next
  | 0x47 => if fpOff then (s, .illegal) else s.runFp c w next
  | 0x4B => if fpOff then (s, .illegal) else s.runFp c w next
  | 0x4F => if fpOff then (s, .illegal) else s.runFp c w next
  | 0x53 => if fpOff then (s, .illegal) else s.runFp c w next
  | _ => (s, .illegal)

/-- The instruction at the pc, as a 32-bit one, and its length; fetched in aligned words. None is an illegal one. -/
def State.coreFetchWord (s : State) (c : Nat) : State × Faulted (Option Nat × Nat) :=
  let pc := (s.core c).pc.toNat
  match s.coreLoad c 0 (pc / 4 * 4) 4 with
  | (t, .error (cause, tval)) => (t, .error (cause, if cause = 19 then tval else pc))
  | (t, .ok w) =>
    let h := if pc % 4 = 0 then w % 2 ^ 16 else w / 2 ^ 16
    if h % 4 ≠ 3 then (t, .ok (expandC h, 2))
    else if pc % 4 = 0 then (t, .ok (some w, 4))
    else match t.coreLoad c 0 ((pc + 2) % 2 ^ 64) 4 with
      | (u, .error e) => (u, .error e)
      | (u, .ok v) => (u, .ok (some (h + v % 2 ^ 16 * 2 ^ 16), 4))

/-- The instruction at the pc of core c runs, up to its end; one that is no coprocessor instruction waits until those issued before it have
retired. -/
def State.coreRun (s : State) (c : Nat) : State × CoreEnd :=
  let busy := !(s.core c).ops.isEmpty
  match s.trigFires c 2 (s.core c).pc.toNat with
  | some t => if busy then (s, .waits) else (s, .hit t (s.core c).pc.toNat)
  | none =>
  match s.coreFetchWord c with
  | (t, .error e) => if busy then (s, .waits) else (t, faulted e)
  | (t, .ok (none, _)) => if busy then (s, .waits) else (t, .illegal)
  | (t, .ok (some w, len)) =>
    if isCustom01 w || isCustom23 w then
      let u := t.issueWord c w
      (u, if u.answer = .stalled then .waits else .issued)
    else if busy then (s, .waits)
    else match t.dataHit c w with
      | some (n, va) => (t, .hit n va)
      | none => t.coreExec c w (((s.core c).pc.toNat + len) % 2 ^ 64)

/-- An instruction's end takes effect: the pc, the count of retired instructions, or the exception. -/
def State.coreFinish (s : State) (c : Nat) : CoreEnd → State
  | .goes pc =>
    let t := s.modCore c fun k => { k with pc := BitVec.ofNat 64 pc }
    if t.countersStop c then t else t.setCsr c 0xB02 (t.csr c 0xB02 + 1)
  | .trap cause tval => s.coreTrap c cause tval (s.core c).pc
  | .illegal => s.useFree.coreTrap c 2 s.freeVal (s.core c).pc
  | .brk =>
    let k := s.core c
    if bitOf (s.hart c).dcsr (12 + k.prv) then s.enterDebug c 1 else s.coreTrap c 3 k.pc.toNat k.pc
  | .hit t addr => s.fireTrigger c t addr
  | .issued => s
  | .waits => s

/-- One instruction of core c; one that waits leaves the state as it was; under dcsr.step the core then halts again (R730). -/
def State.coreInstr (s : State) (c : Nat) : State :=
  let r := ({ s with answer := .none } : State).coreRun c
  let t := r.1.coreFinish c r.2
  if r.2 = .waits then s
  else if (s.hart c).step then (t.modHart c fun h => { h with stepping := !t.isHalted c }).haltDue c else t

/-! ## The idle step (Assumption 58) -/

/-- A core that is released and not halted takes an interrupt, waits in WFI, or runs one instruction; its port pushes what it has. -/
def State.coreTick (s : State) (c : Nat) : State :=
  if !(s.core c).live then s
  else
    let t := if s.on (F.TCORE_COP_BIND_EN c) then s.copSettle c else s
    if t.isHalted c then t
    else match t.irqDue c with
      | some i => t.takeIrq c i
      | none =>
        let u := t.wake' c
        if u.on (F.TCORE_CTL_WFI c) then u else u.coreInstr c

/-- An idle step: the monotonic count counts a nanosecond, and every core goes on (R321, R683). -/
def State.tick (s : State) : State := ({ s with ns := s.ns + 1 } : State).hostChooses.each (List.range 16) fun c t => t.coreTick c

end Sys2Proof.Machine
end

