-- ==== Sys2Proof/Machine/Debug.lean ====
section
/-! DEFINITION. The debug port (22_debug_port): the test access port, the debug module, and system bus access. Formats of the debug
module's registers are those of the RISC-V External Debug Support specification (Assumption 13). -/

namespace Sys2Proof.Machine

/-! ## The test access port (R724 to R726) -/

/-- An instruction is selected. -/
def State.selectIr (s : State) (code : Nat) : State := if s.tapRuns then s.modDbg fun d => { d with ir := code } else s

/-- A boundary instruction is selected; without COMMANDS it acts as BYPASS, and INSTR_REFUSED sets (R726). -/
def State.selectBoundary (s : State) (code : Nat) : State :=
  if !s.tapRuns then s
  else if bitOf s.dbgScope 0 then s.selectIr code
  else (s.selectIr 0xFF).setFld F.DBG_STATUS_INSTR_REFUSED 1

/-- TAP_RESET (R724): Test-Logic-Reset. -/
def execTapReset (s : State) : Out := .next (s.modDbg fun d => { d.emptied with ir := 1 })

/-- IDCODE (R725). -/
def execIdcode (s : State) : Out := .next (if s.tapRuns then (s.selectIr 1).reply (.num IDCODE) else s)

/-- The boundary cells take the values shifted in, from cell 0 up. -/
def State.loadCells (s : State) (cells : List Bool) : State :=
  s.modDbg fun d => { d with boundary := ((List.range cells.length).zip cells).foldl (fun b x => Bank.set (fun _ => false) b x.1 x.2) d.boundary }

/-- The levels at the 384 pins, cell i for pin i, as words; the last word has what the part puts on CFG_DONE, CFG_ERRn, ERRn and
ERR_FATALn (R726; the order is Assumption 57's). -/
def State.captureCells (s : State) : List Word :=
  ((List.range 12).map fun b => BitVec.ofNat 32 ((List.range 32).foldl (fun v k => v + bnat (s.pad (32 * b + k)) * 2 ^ k) 0)) ++
    [BitVec.ofNat 32 (bnat (!s.cfgDoneLow) + 2 * bnat (!s.cfgErr) + 4 * bnat (!s.errLow) + 8 * bnat (!s.errFatalLow))]

/-- SAMPLE/PRELOAD (R725): captures every cell, then takes the values shifted in; the pins are unaffected. -/
def execSamplePreload (cells : List Bool) (s : State) : Out :=
  .next (if s.tapRuns then ((s.selectIr 2).reply (.words s.captureCells)).loadCells cells else s)

/-- EXTEST (R725, R726): the cells drive outputs and capture inputs. -/
def execExtest (cells : List Bool) (s : State) : Out :=
  .next (
    let t := s.selectBoundary 3
    if t.dbg.ir = 3 then (t.reply (.words t.captureCells)).loadCells cells else t)

/-- CLAMP (R725): outputs held at the preloaded values. -/
def execClamp (s : State) : Out := .next (s.selectBoundary 4)

/-- HIGHZ (R725): every boundary output high impedance. -/
def execHighz (s : State) : Out := .next (s.selectBoundary 5)

/-- BYPASS (R725). -/
def execBypass (s : State) : Out := .next (s.selectIr 0xFF)

/-! ## Halting and resuming cores (R730, R731) -/

/-- HALT is in the effective scope (R736). -/
def State.mayHalt (s : State) : Bool := bitOf s.dbgScope 2

/-- A request without HALT has no effect and sets REFUSED (R736). -/
def State.needHalt (s : State) (f : State → State) : State := if s.mayHalt then f s else s.setFld F.DBG_STATUS_REFUSED 1

/-- haltreq of core c takes a value. -/
def State.setHaltreq (s : State) (c : Nat) (b : Bool) : State := (s.modHart c fun h => { h with haltReq := b }).haltDue c

/-- One instruction of a core that was halted runs, and the core halts again. -/
def State.singleStep (s : State) (c : Nat) : State := if s.isHalted c then (s.leaveDebug c).coreInstr c else s

/-- resumereq of core c: it goes on, or runs one instruction under dcsr.step. -/
def State.resumeCore (s : State) (c : Nat) : State :=
  if (s.hart c).step then (s.singleStep c).modHart c fun h => { h with resumeack := true } else s.leaveDebug c

/-- hartreset of core c. -/
def State.hartReset (s : State) (c : Nat) : State := if s.on (F.TCORE_CTL_RUN c) then (s.resetCore c).releaseCore c else s

/-- DM_HALTREQ (R730). -/
def execDmHaltreq (c : Fin 16) (s : State) : Out := .next (s.needHalt (·.setHaltreq c true))

/-- DM_RESUMEREQ (R730): resumereq with haltreq 0. -/
def execDmResumereq (c : Fin 16) (s : State) : Out := .next (s.needHalt fun t => (t.setHaltreq c false).resumeCore c)

/-- DM_HARTRESET (R730). -/
def execDmHartreset (c : Fin 16) (s : State) : Out := .next (s.needHalt (·.hartReset c))

/-- ndmreset: every core whose RUN bit is set resets, and is released again at its RESET_VEC (R730). -/
def State.ndmReset (s : State) : State := s.each (List.range 16) fun c t => t.hartReset c

/-- DM_NDMRESET (R730). -/
def execDmNdmreset (s : State) : Out := .next (s.needHalt (·.ndmReset))

/-- DM_SINGLE_STEP (R730): dcsr.step is set, and the core resumes. -/
def execDmSingleStep (c : Fin 16) (s : State) : Out :=
  .next (s.needHalt fun t => ((t.setHaltreq c false).modHart c fun h => { h with step := true }).resumeCore c)

/-! ## Triggers (R730) -/

/-- DM_TRIGGER_FIRE (R730): an armed trigger that chains to no other halts its core, or raises a breakpoint exception, as its action
says. -/
def execDmTriggerFire (c : Fin 16) (t : Fin 4) (s : State) : Out :=
  .next (
    let w := s.tdata1 c t
    if !(s.core c).live || s.isHalted c || bitsOf w 63 60 ≠ 6 || bitsOf w 2 0 = 0 || bitOf w 11 then s
    else s.useFree.fireTrigger c t s.freeVal)

/-! ## Abstract commands (R730) -/

/-- cmderr keeps the first error. -/
def State.cmdError (s : State) (e : Nat) : State := if s.dbg.cmderr = 0 then s.modDbg fun d => { d with cmderr := e } else s

/-- Register regno of a halted core: a CSR, x or f register. -/
def State.hartRead (s : State) (c regno : Nat) : State × Option Nat :=
  if regno < 0x1000 then (if csrExists regno then let r := s.csrRead c regno; (r.1, some r.2) else (s, none))
  else if regno < 0x1020 then (s, some (s.xval c (regno - 0x1000)))
  else if regno < 0x1040 then (s, some (s.freg c (regno - 0x1020)))
  else (s, none)

/-- A register of a halted core takes a value; in dcsr, the ebreak bits, stopcount, step and prv, and stoptime stays 0. -/
def State.hartWrite (s : State) (c regno v : Nat) : Option State :=
  if regno < 0x1000 then (if csrExists regno then some (s.csrWrite c regno v) else none)
  else if regno < 0x1020 then some (s.setX c (regno - 0x1000) v)
  else if regno < 0x1040 then some (s.setFreg c (regno - 0x1020) v)
  else none

/-- data0 and data1 take a value. -/
def State.setDmData (s : State) (v : Nat) : State :=
  s.modDbg fun d => { d with data := Bank.set (fun _ => (0 : Word)) (Bank.set (fun _ => (0 : Word)) d.data 0 (BitVec.ofNat 32 v)) 1 (BitVec.ofNat 32 (v / 2 ^ 32)) }

/-- What an Access Register command meets before its transfer: no HALT, an earlier error, a core that runs (R730, R736). -/
def State.abstractGate (s : State) (c : Nat) (f : State → State) : State :=
  if !s.mayHalt then (s.setFld F.DBG_STATUS_REFUSED 1).cmdError 2
  else if s.dbg.cmderr ≠ 0 then s
  else if 16 ≤ c || !s.isHalted c then s.cmdError 4
  else f s

/-- The transfer of an Access Register command. -/
def State.transfer (s : State) (c regno : Nat) (write : Bool) (v : Nat) : State :=
  if write then (s.hartWrite c regno v).getD (s.cmdError 3)
  else match s.hartRead c regno with
    | (t, some w) => (t.setDmData w).reply (.num w)
    | (t, none) => t.cmdError 3

/-- DM_ACCESS_REGISTER (R730). -/
def execDmAccessRegister (c : Fin 16) (regno : BitVec 16) (write : Bool) (v : Dword) (s : State) : Out :=
  .next (s.abstractGate c fun t => t.transfer c regno.toNat write v.toNat)

/-- The control address of the program buffer, where a core in debug mode fetches it (R729). -/
def PROGBUF : Nat := 0x00E00080

/-- The program buffer runs on core c: up to ebreak; an exception, or running past the buffer, gives cmderr 3. -/
def State.runBuffer (s : State) (c : Nat) : Nat → State
  | 0 => s.cmdError 3
  | n + 1 =>
    let pc := (s.core c).pc.toNat
    if pc < PROGBUF || PROGBUF + 32 ≤ pc then s.cmdError 3
    else match s.coreRun c with
      | (t, .goes next) => State.runBuffer (t.coreFinish c (.goes next)) c n
      | (t, .brk) => t
      | (t, _) => t.cmdError 3

/-- Access Register, by its command word: transfer, then the program buffer. -/
def State.abstractCommand (s : State) (w : Nat) : State :=
  let c := s.dbg.hartsel
  s.abstractGate c fun t =>
    let size := bitsOf w 22 20
    if bitsOf w 31 24 ≠ 0 || bitOf w 19 || (bitOf w 17 && size ≠ 2 && size ≠ 3) then t.cmdError 2
    else
      let v := (t.dmWord 4) + (if size = 3 then t.dmWord 5 * 2 ^ 32 else 0)
      let u := if bitOf w 17 then t.transfer c (bitsOf w 15 0) (bitOf w 16) v else t
      if bitOf w 18 && u.dbg.cmderr = 0 then (u.modCore c fun k => { k with pc := BitVec.ofNat 64 PROGBUF, prv := 3 }).runBuffer c 64 else u

/-! ## System bus access (R738) -/

/-- sberror takes a code. -/
def State.sbError (s : State) (e : Nat) : State := s.modDbg fun d => { d with sberror := e }

/-- A refusal: a NOTICE of the debug transport, and sberror. -/
def State.sbRefuse (s : State) (code e addr : Nat) : State := (s.misuse .debug code (addr % 2 ^ 32)).sbError e

/-- An access of 2 ^ size bytes that the scope and the form allow. -/
def State.sbPermitted (s : State) (addr size : Nat) (f : State → State) : State :=
  if !bitOf s.dbgScope 1 then s.sbRefuse 5 7 addr
  else if 4 ≤ size then s.sbRefuse 1 4 addr
  else if addr % 2 ^ size ≠ 0 then s.sbRefuse 1 3 addr
  else f s

/-- A system bus read. -/
def State.sbRead (s : State) (addr size : Nat) : State :=
  s.sbPermitted addr size fun t => match t.busRead .debug addr (2 ^ size) with
    | (u, v, .ok) => (u.modDbg fun d => { d with sbdata := v }).reply (.num v)
    | (u, v, .poison) => ((u.modDbg fun d => { d with sbdata := v }).reply (.num v)).sbError 7
    | (u, _, .unmapped) => u.sbError (match s.region addr with | .control _ => 7 | _ => 2)
    | (u, _, .held) => u.access { agent := .debug, addr := addr, write := none, n := 2 ^ size }
    | (u, _, _) => u.sbError 7

/-- A system bus write. -/
def State.sbWrite (s : State) (addr size v : Nat) : State :=
  s.sbPermitted addr size fun t => match t.busWrite .debug addr (2 ^ size) v with
    | (u, .ok) => u
    | (u, .held) => u.access { agent := .debug, addr := addr, write := some (leBytes (2 ^ size) v) }
    | (u, .unmapped) => u.sbError 2
    | (u, _) => u.sbError 7

/-- SYSTEM_BUS_ACCESS (R738). -/
def execSystemBusAccess (addr : Dword) (size : Fin 8) (write : Bool) (v : Dword) (s : State) : Out :=
  .next (if write then s.sbWrite addr.toNat size v.toNat else s.sbRead addr.toNat size)

/-- The address moves on after an access, under autoincrement. -/
def State.sbNext (s : State) : State :=
  if s.dbg.sbIncrement && s.dbg.sberror = 0 then s.modDbg fun d => { d with sbaddr := (d.sbaddr + 2 ^ d.sbaccess) % 2 ^ 64 } else s

/-- A bus read or write that a register access starts; none starts while sberror holds a code. -/
def State.sbStart (s : State) (write : Bool) : State :=
  if s.dbg.sberror ≠ 0 then s
  else (if write then s.sbWrite s.dbg.sbaddr s.dbg.sbaccess s.dbg.sbdata else s.sbRead s.dbg.sbaddr s.dbg.sbaccess).sbNext

/-! ## DMI (R729) -/

/-- A write of dmcontrol (R730, R736). -/
def State.writeDmcontrol (s : State) (v : Nat) : State :=
  if !bitOf v 0 then s.modDbg fun d => { ir := d.ir, boundary := d.boundary, inbound := d.inbound, overlong := d.overlong, busy := d.busy, replies := d.replies, trace := d.trace }
  else
    let c := bitsOf v 25 16 + bitsOf v 15 6 * 1024
    let was := s.dbg.ndmreset
    let asks := bitOf v 31 || bitOf v 30 || bitOf v 29 || bitOf v 1
    let t := s.modDbg fun d => { d with dmactive := true, hartsel := c }
    if asks && !t.mayHalt then t.setFld F.DBG_STATUS_REFUSED 1
    else
      let t := if bitOf v 1 && !was then t.ndmReset else t
      let t := t.modDbg fun d => { d with ndmreset := bitOf v 1 }
      if 16 ≤ c then t
      else
        let t := if bitOf v 28 then t.modHart c fun h => { h with havereset := false } else t
        let t := if bitOf v 29 then t.hartReset c else t
        let t := t.setHaltreq c (bitOf v 31)
        if bitOf v 30 && !bitOf v 31 then (t.modHart c fun h => { h with resumeack := false }).resumeCore c else t

/-- A write of sbcs. -/
def State.writeSbcs (s : State) (v : Nat) : State :=
  s.modDbg fun d => { d with sbReadOnAddr := bitOf v 20, sbaccess := bitsOf v 19 17, sbIncrement := bitOf v 16, sbReadOnData := bitOf v 15
                             sberror := d.sberror - (d.sberror &&& bitsOf v 14 12) }

/-- A DMI write to word a of the debug block. -/
def State.dmiWrite (s : State) (a v : Nat) : State :=
  if a = 0x04 || a = 0x05 then s.modDbg fun d => { d with data := Bank.set (fun _ => (0 : Word)) d.data (a - 4) (BitVec.ofNat 32 v) }
  else if 0x20 ≤ a && a < 0x28 then s.modDbg fun d => { d with progbuf := Bank.set (fun _ => (0 : Word)) d.progbuf (a - 0x20) (BitVec.ofNat 32 v) }
  else if 0x400 ≤ a then s.writeDebugReg (0x00E00000 + 4 * a) v
  else match a with
    | 0x10 => s.writeDmcontrol v
    | 0x16 => s.modDbg fun d => { d with cmderr := d.cmderr - (d.cmderr &&& bitsOf v 10 8) }
    | 0x17 => s.abstractCommand v
    | 0x38 => s.writeSbcs v
    | 0x39 =>
      let t := s.modDbg fun d => { d with sbaddr := d.sbaddr / 2 ^ 32 * 2 ^ 32 + v }
      if t.dbg.sbReadOnAddr then t.sbStart false else t
    | 0x3A => s.modDbg fun d => { d with sbaddr := d.sbaddr % 2 ^ 32 + v * 2 ^ 32 }
    | 0x3C => (s.modDbg fun d => { d with sbdata := d.sbdata / 2 ^ 32 * 2 ^ 32 + v }).sbStart true
    | 0x3D => s.modDbg fun d => { d with sbdata := d.sbdata % 2 ^ 32 + v * 2 ^ 32 }
    | _ => s

/-- A DMI read of word a; reading sbdata0 may start the next bus read. -/
def State.dmiRead (s : State) (a : Nat) : State :=
  let t := s.reply (.num (s.peek 0 (0x00E00000 + 4 * a)))
  if a = 0x3C && t.dbg.sbReadOnData then (t.sbStart false).reply t.answer else t

/-- DMI (R729). -/
def execDmi (a : BitVec 12) (write : Bool) (v : Word) (s : State) : Out :=
  .next (if !s.tapRuns then s
    else
      let t := s.selectIr 0x10
      if write then t.dmiWrite a.toNat v.toNat else t.dmiRead a.toNat)

end Sys2Proof.Machine
end

