-- ==== Sys2Proof/Machine/Dispatch.lean ====
section
/-! DEFINITION. Dispatch: one arm per command, each one direct call of its meaning. -/

namespace Sys2Proof.Machine

/-- The effect of command i on everything but the queue. -/
def exec (i : Instr) (s : State) : Host.Outcome State Fault Refusal :=
  match i with
  | .registerWrite a addr v => Sys2Proof.Machine.execRegisterWrite a addr v s
  | .misalignedAccess a addr size write => Sys2Proof.Machine.execMisalignedAccess a addr size write s
  | .outsideAccess a addr write => Sys2Proof.Machine.execOutsideAccess a addr write s
  | .hostWriteRefused l addr v => Sys2Proof.Machine.execHostWriteRefused l addr v s
  | .grainEvaluate g => Sys2Proof.Machine.execGrainEvaluate g s
  | .mutexGrant g => Sys2Proof.Machine.execMutexGrant g s
  | .stallThresholdExpiry n wp same => Sys2Proof.Machine.execStallThresholdExpiry n wp same s
  | .stallInject n wp => Sys2Proof.Machine.execStallInject n wp s
  | .stallStatusClear n => Sys2Proof.Machine.execStallStatusClear n s
  | .pinChannelInput ix => Sys2Proof.Machine.execPinChannelInput ix s
  | .pinChannelOutput ix v => Sys2Proof.Machine.execPinChannelOutput ix v s
  | .bmemAccessCycle b opA opB takeA takeB late => Sys2Proof.Machine.execBmemAccessCycle b opA opB takeA takeB late s
  | .bmemScrubWord b waited => Sys2Proof.Machine.execBmemScrubWord b waited s
  | .bmemInject n m addr bit double => Sys2Proof.Machine.execBmemInject n m addr bit double s
  | .bmemCeClear n => Sys2Proof.Machine.execBmemCeClear n s
  | .clockTreeReconfigure ix en src div => Sys2Proof.Machine.execClockTreeReconfigure ix en src div s
  | .flopEdge ix rising => Sys2Proof.Machine.execFlopEdge ix rising s
  | .islandLateClear n => Sys2Proof.Machine.execIslandLateClear n s
  | .panGatingDone n => Sys2Proof.Machine.execPanGatingDone n s
  | .panAutoGate n => Sys2Proof.Machine.execPanAutoGate n s
  | .panWakeStart h => Sys2Proof.Machine.execPanWakeStart h s
  | .panWakeDone n => Sys2Proof.Machine.execPanWakeDone n s
  | .queueWriteUnit d data last cls null => Sys2Proof.Machine.execQueueWriteUnit d data last cls null s
  | .queueCreditAck d => Sys2Proof.Machine.execQueueCreditAck d s
  | .queueReadWord d => Sys2Proof.Machine.execQueueReadWord d s
  | .queueWindowPop d rd => Sys2Proof.Machine.execQueueWindowPop d rd s
  | .queueWindowPush d a v => Sys2Proof.Machine.execQueueWindowPush d a v s
  | .queuePushResume d => Sys2Proof.Machine.execQueuePushResume d s
  | .queuePushTimeout d => Sys2Proof.Machine.execQueuePushTimeout d s
  | .queueWindowMisuse d a off aligned push => Sys2Proof.Machine.execQueueWindowMisuse d a off aligned push s
  | .queueLostClear d a => Sys2Proof.Machine.execQueueLostClear d a s
  | .queueIdleSet d a v => Sys2Proof.Machine.execQueueIdleSet d a v s
  | .qbFlush d => Sys2Proof.Machine.execQbFlush d s
  | .qbFlushHi d => Sys2Proof.Machine.execQbFlushHi d s
  | .qbFlushLo d => Sys2Proof.Machine.execQbFlushLo d s
  | .segmentFlushEffect d cls => Sys2Proof.Machine.execSegmentFlushEffect d cls s
  | .queueSettingApply d => Sys2Proof.Machine.execQueueSettingApply d s
  | .queueResyncDone d => Sys2Proof.Machine.execQueueResyncDone d s
  | .queueRebindDrained d => Sys2Proof.Machine.execQueueRebindDrained d s
  | .queueRebindTimeout d => Sys2Proof.Machine.execQueueRebindTimeout d s
  | .step r => Sys2Proof.Machine.execStep r s
  | .nop r => Sys2Proof.Machine.execNop r s
  | .rep r => Sys2Proof.Machine.execRep r s
  | .br r => Sys2Proof.Machine.execBr r s
  | .dbnz r => Sys2Proof.Machine.execDbnz r s
  | .setr r => Sys2Proof.Machine.execSetr r s
  | .rescale r => Sys2Proof.Machine.execRescale r s
  | .clrf r => Sys2Proof.Machine.execClrf r s
  | .atom r => Sys2Proof.Machine.execAtom r s
  | .endatom r => Sys2Proof.Machine.execEndatom r s
  | .reta r => Sys2Proof.Machine.execReta r s
  | .resume r => Sys2Proof.Machine.execResume r s
  | .waitCmd r => Sys2Proof.Machine.execWaitCmd r s
  | .halt r => Sys2Proof.Machine.execHalt r s
  | .segend r => Sys2Proof.Machine.execSegend r s
  | .note r => Sys2Proof.Machine.execNote r s
  | .illegalInstruction r => Sys2Proof.Machine.execIllegalInstruction r s
  | .attentionEntry r => Sys2Proof.Machine.execAttentionEntry r s
  | .commitEntry r => Sys2Proof.Machine.execCommitEntry r s
  | .rakeInboundToken r data => Sys2Proof.Machine.execRakeInboundToken r data s
  | .rakeFabricAttention r data => Sys2Proof.Machine.execRakeFabricAttention r data s
  | .rakeResultTaken r => Sys2Proof.Machine.execRakeResultTaken r s
  | .rakeDoorbellPost r a write v => Sys2Proof.Machine.execRakeDoorbellPost r a write v s
  | .doorbellMisuse r a off aligned => Sys2Proof.Machine.execDoorbellMisuse r a off aligned s
  | .rakeInjectPar r => Sys2Proof.Machine.execRakeInjectPar r s
  | .rakeInjectOvf r => Sys2Proof.Machine.execRakeInjectOvf r s
  | .rakeInjectSat r => Sys2Proof.Machine.execRakeInjectSat r s
  | .rakeInjectExptSat r => Sys2Proof.Machine.execRakeInjectExptSat r s
  | .rakeInjectIllegal r => Sys2Proof.Machine.execRakeInjectIllegal r s
  | .rakeStopDrained r => Sys2Proof.Machine.execRakeStopDrained r s
  | .rakeStopTimeout r => Sys2Proof.Machine.execRakeStopTimeout r s
  | .sluiceCloseComplete n => Sys2Proof.Machine.execSluiceCloseComplete n s
  | .sluiceDrainTimeout n => Sys2Proof.Machine.execSluiceDrainTimeout n s
  | .sluiceDebugHold n b => Sys2Proof.Machine.execSluiceDebugHold n b s
  | .sluiceDiscardSet n b => Sys2Proof.Machine.execSluiceDiscardSet n b s
  | .sluiceTokenDrop n side k word => Sys2Proof.Machine.execSluiceTokenDrop n side k word s
  | .sluiceStep n side k => Sys2Proof.Machine.execSluiceStep n side k s
  | .sluiceStepDone n word => Sys2Proof.Machine.execSluiceStepDone n word s
  | .sluiceDiscardClear n => Sys2Proof.Machine.execSluiceDiscardClear n s
  | .reconfigGrant h agent => Sys2Proof.Machine.execReconfigGrant h agent s
  | .reconfigMasterStall h m => Sys2Proof.Machine.execReconfigMasterStall h m s
  | .panLoadHeader h => Sys2Proof.Machine.execPanLoadHeader h s
  | .panFrame h => Sys2Proof.Machine.execPanFrame h s
  | .panSignatureDone h m => Sys2Proof.Machine.execPanSignatureDone h m s
  | .panLoadEnd h => Sys2Proof.Machine.execPanLoadEnd h s
  | .panLoadFloorReached h m => Sys2Proof.Machine.execPanLoadFloorReached h m s
  | .dispatchRound h => Sys2Proof.Machine.execDispatchRound h s
  | .schedDispatchPush h number => Sys2Proof.Machine.execSchedDispatchPush h number s
  | .schedCompletionPop d => Sys2Proof.Machine.execSchedCompletionPop d s
  | .dispatchDoneWrite a c stores => Sys2Proof.Machine.execDispatchDoneWrite a c stores s
  | .dispatchWindowMisuse a c off write => Sys2Proof.Machine.execDispatchWindowMisuse a c off write s
  | .preemptLimitExpiry c => Sys2Proof.Machine.execPreemptLimitExpiry c s
  | .schedReloadComplete h => Sys2Proof.Machine.execSchedReloadComplete h s
  | .slicePromote n => Sys2Proof.Machine.execSlicePromote n s
  | .crossHalfTokenArrive id => Sys2Proof.Machine.execCrossHalfTokenArrive id s
  | .schedStep h => Sys2Proof.Machine.execSchedStep h s
  | .schedDrainTimeout h graph cores => Sys2Proof.Machine.execSchedDrainTimeout h graph cores s
  | .schedInject h kind => Sys2Proof.Machine.execSchedInject h kind s
  | .schedCountsClear h => Sys2Proof.Machine.execSchedCountsClear h s
  | .copIssue c w => Sys2Proof.Machine.execCopIssue c w s
  | .copResponse c => Sys2Proof.Machine.execCopResponse c s
  | .copTimeout c rid => Sys2Proof.Machine.execCopTimeout c rid s
  | .copSquash c k target => Sys2Proof.Machine.execCopSquash c k target s
  | .copUnbindTimeout c => Sys2Proof.Machine.execCopUnbindTimeout c s
  | .pinset c v => Sys2Proof.Machine.execPinset c v s
  | .pinclr c v => Sys2Proof.Machine.execPinclr c v s
  | .pintgl c v => Sys2Proof.Machine.execPintgl c v s
  | .mtimecmpWrite a c high v => Sys2Proof.Machine.execMtimecmpWrite a c high v s
  | .msipWrite a c v => Sys2Proof.Machine.execMsipWrite a c v s
  | .machineTimerExpiry c => Sys2Proof.Machine.execMachineTimerExpiry c s
  | .coreCacheCheck c target addr fill => Sys2Proof.Machine.execCoreCacheCheck c target addr fill s
  | .coreCeClear c => Sys2Proof.Machine.execCoreCeClear c s
  | .copStrayClear c => Sys2Proof.Machine.execCopStrayClear c s
  | .tcoreInject c target double => Sys2Proof.Machine.execTcoreInject c target double s
  | .mgmtLockstepMismatch h => Sys2Proof.Machine.execMgmtLockstepMismatch h s
  | .mgmtRestartDone h => Sys2Proof.Machine.execMgmtRestartDone h s
  | .unmappedAccess a addr kind => Sys2Proof.Machine.execUnmappedAccess a addr kind s
  | .memoryRead a addr n => Sys2Proof.Machine.execMemoryRead a addr n s
  | .memoryPartialWrite a addr data => Sys2Proof.Machine.execMemoryPartialWrite a addr data s
  | .scrubLine h sel stuck upset => Sys2Proof.Machine.execScrubLine h sel stuck upset s
  | .scrubParityCheck h sel => Sys2Proof.Machine.execScrubParityCheck h sel s
  | .scrubRestart h sel => Sys2Proof.Machine.execScrubRestart h sel s
  | .scrubEnable h sel en => Sys2Proof.Machine.execScrubEnable h sel en s
  | .memInjectFlip h sel word bit => Sys2Proof.Machine.execMemInjectFlip h sel word bit s
  | .memInjectFlipDouble h sel word bit => Sys2Proof.Machine.execMemInjectFlipDouble h sel word bit s
  | .memInjectSkipLine h sel => Sys2Proof.Machine.execMemInjectSkipLine h sel s
  | .memInjectParFlip h sel => Sys2Proof.Machine.execMemInjectParFlip h sel s
  | .memEccCeClear h => Sys2Proof.Machine.execMemEccCeClear h s
  | .hbmTrainingDone h good => Sys2Proof.Machine.execHbmTrainingDone h good s
  | .memoryFillDone h sel => Sys2Proof.Machine.execMemoryFillDone h sel s
  | .partitionDrainTimeout h => Sys2Proof.Machine.execPartitionDrainTimeout h s
  | .linkTrainingDone l rate width framing cxl => Sys2Proof.Machine.execLinkTrainingDone l rate width framing cxl s
  | .flitReceive l fec crc => Sys2Proof.Machine.execFlitReceive l fec crc s
  | .replayRollover l => Sys2Proof.Machine.execReplayRollover l s
  | .linkHoldEnd l => Sys2Proof.Machine.execLinkHoldEnd l s
  | .cxlMemRequest l dpa write poison => Sys2Proof.Machine.execCxlMemRequest l dpa write poison s
  | .bar2Access l off write n poison => Sys2Proof.Machine.execBar2Access l off write n poison s
  | .bar0Misuse l off write => Sys2Proof.Machine.execBar0Misuse l off write s
  | .completionTimeout l a addr => Sys2Proof.Machine.execCompletionTimeout l a addr s
  | .ideIntegrityFail l stream => Sys2Proof.Machine.execIdeIntegrityFail l stream s
  | .mailboxSubmit l a slot => Sys2Proof.Machine.execMailboxSubmit l a slot s
  | .mailboxSlotWrite l a slot off data => Sys2Proof.Machine.execMailboxSlotWrite l a slot off data s
  | .vdmFragment l requester xid mtype mflags offset bytes => Sys2Proof.Machine.execVdmFragment l requester xid mtype mflags offset bytes s
  | .vdmReassemblyTimeout l requester xid => Sys2Proof.Machine.execVdmReassemblyTimeout l requester xid s
  | .linkLoss l => Sys2Proof.Machine.execLinkLoss l s
  | .perPortReset l => Sys2Proof.Machine.execPerPortReset l s
  | .portDrainTimeout l => Sys2Proof.Machine.execPortDrainTimeout l s
  | .portInjectFec p l => Sys2Proof.Machine.execPortInjectFec p l s
  | .portInjectCrc p l => Sys2Proof.Machine.execPortInjectCrc p l s
  | .portInjectReplay p l => Sys2Proof.Machine.execPortInjectReplay p l s
  | .portInjectPoison p l => Sys2Proof.Machine.execPortInjectPoison p l s
  | .errcntClear l => Sys2Proof.Machine.execErrcntClear l s
  | .cxlIdentify l => Sys2Proof.Machine.execCxlIdentify l s
  | .cxlIdentifyMemoryDevice l => Sys2Proof.Machine.execCxlIdentifyMemoryDevice l s
  | .getSupportedLogs l => Sys2Proof.Machine.execGetSupportedLogs l s
  | .getLog l log offset len => Sys2Proof.Machine.execGetLog l log offset len s
  | .getEventRecords l log => Sys2Proof.Machine.execGetEventRecords l log s
  | .clearEventRecords l log n => Sys2Proof.Machine.execClearEventRecords l log n s
  | .getPoisonList l dpa len => Sys2Proof.Machine.execGetPoisonList l dpa len s
  | .getHealthInfo l => Sys2Proof.Machine.execGetHealthInfo l s
  | .getTimestamp l => Sys2Proof.Machine.execGetTimestamp l s
  | .setTimestamp l v => Sys2Proof.Machine.execSetTimestamp l v s
  | .cxlUnsupportedOpcode l opcode => Sys2Proof.Machine.execCxlUnsupportedOpcode l opcode s
  | .getVersion l => Sys2Proof.Machine.execGetVersion l s
  | .getCapabilities l => Sys2Proof.Machine.execGetCapabilities l s
  | .negotiateAlgorithms l => Sys2Proof.Machine.execNegotiateAlgorithms l s
  | .getDigests l => Sys2Proof.Machine.execGetDigests l s
  | .getCertificate l slot offset len => Sys2Proof.Machine.execGetCertificate l slot offset len s
  | .challenge l slot nonce => Sys2Proof.Machine.execChallenge l slot nonce s
  | .getMeasurements l index => Sys2Proof.Machine.execGetMeasurements l index s
  | .keyExchange l slot => Sys2Proof.Machine.execKeyExchange l slot s
  | .finish l => Sys2Proof.Machine.execFinish l s
  | .keyUpdate l => Sys2Proof.Machine.execKeyUpdate l s
  | .heartbeat l => Sys2Proof.Machine.execHeartbeat l s
  | .endSession l => Sys2Proof.Machine.execEndSession l s
  | .ideKeyRetrieve l stream => Sys2Proof.Machine.execIdeKeyRetrieve l stream s
  | .keyProg l stream key => Sys2Proof.Machine.execKeyProg l stream key s
  | .coreRd c line => Sys2Proof.Machine.execCoreRd c line s
  | .coreOwn c line => Sys2Proof.Machine.execCoreOwn c line s
  | .coreWb c line data => Sys2Proof.Machine.execCoreWb c line data s
  | .coreEvict c line => Sys2Proof.Machine.execCoreEvict c line s
  | .agentRd h mgmt line => Sys2Proof.Machine.execAgentRd h mgmt line s
  | .agentWr h mgmt line data => Sys2Proof.Machine.execAgentWr h mgmt line data s
  | .hostRd l line => Sys2Proof.Machine.execHostRd l line s
  | .hostOwn l line => Sys2Proof.Machine.execHostOwn l line s
  | .hostCur l line => Sys2Proof.Machine.execHostCur l line s
  | .hostWr l line data => Sys2Proof.Machine.execHostWr l line data s
  | .hostInv l line => Sys2Proof.Machine.execHostInv l line s
  | .biconflict l line => Sys2Proof.Machine.execBiconflict l line s
  | .coreSnprsp c line data => Sys2Proof.Machine.execCoreSnprsp c line data s
  | .birsp l line data => Sys2Proof.Machine.execBirsp l line data s
  | .hostSnprsp l line data => Sys2Proof.Machine.execHostSnprsp l line data s
  | .snpData h line => Sys2Proof.Machine.execSnpData h line s
  | .snpInv h line => Sys2Proof.Machine.execSnpInv h line s
  | .snpCur h line => Sys2Proof.Machine.execSnpCur h line s
  | .goI h line => Sys2Proof.Machine.execGoI h line s
  | .goS h line data => Sys2Proof.Machine.execGoS h line data s
  | .goE h line data => Sys2Proof.Machine.execGoE h line data s
  | .goM h line data => Sys2Proof.Machine.execGoM h line data s
  | .goErr h line => Sys2Proof.Machine.execGoErr h line s
  | .writepull h line => Sys2Proof.Machine.execWritepull h line s
  | .cohWaitRelease h role line => Sys2Proof.Machine.execCohWaitRelease h role line s
  | .cohFlushTimeout h => Sys2Proof.Machine.execCohFlushTimeout h s
  | .cohTableSwitch h => Sys2Proof.Machine.execCohTableSwitch h s
  | .cohTableQuiesceTimeout h => Sys2Proof.Machine.execCohTableQuiesceTimeout h s
  | .cohInject h kind => Sys2Proof.Machine.execCohInject h kind s
  | .evictsClear h => Sys2Proof.Machine.execEvictsClear h s
  | .flipsClear h => Sys2Proof.Machine.execFlipsClear h s
  | .warmCohDrainTimeout h => Sys2Proof.Machine.execWarmCohDrainTimeout h s
  | .cswFlitReceive h g good => Sys2Proof.Machine.execCswFlitReceive h g good s
  | .cswGroupLockLoss g => Sys2Proof.Machine.execCswGroupLockLoss g s
  | .cswTrainingEnd g trained => Sys2Proof.Machine.execCswTrainingEnd g trained s
  | .cswGroupRetry g => Sys2Proof.Machine.execCswGroupRetry g s
  | .cswRetireTimeout h => Sys2Proof.Machine.execCswRetireTimeout h s
  | .cswRestoreDone mask => Sys2Proof.Machine.execCswRestoreDone mask s
  | .cswXhomeTimeout h => Sys2Proof.Machine.execCswXhomeTimeout h s
  | .heartbeatSend h => Sys2Proof.Machine.execHeartbeatSend h s
  | .heartbeatReceive h => Sys2Proof.Machine.execHeartbeatReceive h s
  | .heartbeatLoss h => Sys2Proof.Machine.execHeartbeatLoss h s
  | .causewaySplit h => Sys2Proof.Machine.execCausewaySplit h s
  | .causewayRejoinReady h => Sys2Proof.Machine.execCausewayRejoinReady h s
  | .landClear h => Sys2Proof.Machine.execLandClear h s
  | .cswInjectCrc g => Sys2Proof.Machine.execCswInjectCrc g s
  | .cswInjectLockLoss g => Sys2Proof.Machine.execCswInjectLockLoss g s
  | .cswInjectHeartbeatDrop h g => Sys2Proof.Machine.execCswInjectHeartbeatDrop h g s
  | .unassignedOpcode opcode p => Sys2Proof.Machine.execUnassignedOpcode opcode p s
  | .commandDeferredStart => Sys2Proof.Machine.execCommandDeferredStart s
  | .nopCommand p => Sys2Proof.Machine.execNopCommand p s
  | .identify p => Sys2Proof.Machine.execIdentify p s
  | .deviceStatus p => Sys2Proof.Machine.execDeviceStatus p s
  | .regRead p => Sys2Proof.Machine.execRegRead p s
  | .regWrite p => Sys2Proof.Machine.execRegWrite p s
  | .warmReset p => Sys2Proof.Machine.execWarmReset p s
  | .warmResetBegin => Sys2Proof.Machine.execWarmResetBegin s
  | .warmLogFlushTimeout h => Sys2Proof.Machine.execWarmLogFlushTimeout h s
  | .abort p => Sys2Proof.Machine.execAbort p s
  | .coreStart p => Sys2Proof.Machine.execCoreStart p s
  | .coreStop p => Sys2Proof.Machine.execCoreStop p s
  | .copBind p => Sys2Proof.Machine.execCopBind p s
  | .copUnbind p => Sys2Proof.Machine.execCopUnbind p s
  | .panLoad p => Sys2Proof.Machine.execPanLoad p s
  | .panOpen p => Sys2Proof.Machine.execPanOpen p s
  | .panClose p => Sys2Proof.Machine.execPanClose p s
  | .panPower p => Sys2Proof.Machine.execPanPower p s
  | .panReset p => Sys2Proof.Machine.execPanReset p s
  | .queueFlush p => Sys2Proof.Machine.execQueueFlush p s
  | .queueBind p => Sys2Proof.Machine.execQueueBind p s
  | .rakeRun p => Sys2Proof.Machine.execRakeRun p s
  | .cfgLoad p => Sys2Proof.Machine.execCfgLoad p s
  | .kernelRegister p => Sys2Proof.Machine.execKernelRegister p s
  | .kernelUnregister p => Sys2Proof.Machine.execKernelUnregister p s
  | .graphLoad p => Sys2Proof.Machine.execGraphLoad p s
  | .graphStart p => Sys2Proof.Machine.execGraphStart p s
  | .graphStop p => Sys2Proof.Machine.execGraphStop p s
  | .graphUnload p => Sys2Proof.Machine.execGraphUnload p s
  | .graphStatus p => Sys2Proof.Machine.execGraphStatus p s
  | .graphLink p => Sys2Proof.Machine.execGraphLink p s
  | .graphUnlink p => Sys2Proof.Machine.execGraphUnlink p s
  | .tokenInject p => Sys2Proof.Machine.execTokenInject p s
  | .tokenDrain p => Sys2Proof.Machine.execTokenDrain p s
  | .nodeFire p => Sys2Proof.Machine.execNodeFire p s
  | .nodeClear p => Sys2Proof.Machine.execNodeClear p s
  | .schedResources p => Sys2Proof.Machine.execSchedResources p s
  | .schedEnable p => Sys2Proof.Machine.execSchedEnable p s
  | .lagoonPartition p => Sys2Proof.Machine.execLagoonPartition p s
  | .memClear p => Sys2Proof.Machine.execMemClear p s
  | .memRead p => Sys2Proof.Machine.execMemRead p s
  | .memWrite p => Sys2Proof.Machine.execMemWrite p s
  | .memCopy p => Sys2Proof.Machine.execMemCopy p s
  | .portEnable p => Sys2Proof.Machine.execPortEnable p s
  | .memExpose p => Sys2Proof.Machine.execMemExpose p s
  | .portRoute p => Sys2Proof.Machine.execPortRoute p s
  | .biasToDevice p => Sys2Proof.Machine.execBiasToDevice p s
  | .cohTableRead p => Sys2Proof.Machine.execCohTableRead p s
  | .cohTableLoad p => Sys2Proof.Machine.execCohTableLoad p s
  | .cohTableRestore p => Sys2Proof.Machine.execCohTableRestore p s
  | .govProfile p => Sys2Proof.Machine.execGovProfile p s
  | .govCap p => Sys2Proof.Machine.execGovCap p s
  | .govFixed p => Sys2Proof.Machine.execGovFixed p s
  | .govTarget p => Sys2Proof.Machine.execGovTarget p s
  | .govStatus p => Sys2Proof.Machine.execGovStatus p s
  | .thermalStop p => Sys2Proof.Machine.execThermalStop p s
  | .thermalClear p => Sys2Proof.Machine.execThermalClear p s
  | .pinConfig p => Sys2Proof.Machine.execPinConfig p s
  | .pinOwner p => Sys2Proof.Machine.execPinOwner p s
  | .pinWrite p => Sys2Proof.Machine.execPinWrite p s
  | .pinRead p => Sys2Proof.Machine.execPinRead p s
  | .pinIrq p => Sys2Proof.Machine.execPinIrq p s
  | .logRead p => Sys2Proof.Machine.execLogRead p s
  | .logStatus p => Sys2Proof.Machine.execLogStatus p s
  | .errClear p => Sys2Proof.Machine.execErrClear p s
  | .errInjectSecure p => Sys2Proof.Machine.execErrInjectSecure p s
  | .timeSet p => Sys2Proof.Machine.execTimeSet p s
  | .timeGet p => Sys2Proof.Machine.execTimeGet p s
  | .testConfig p => Sys2Proof.Machine.execTestConfig p s
  | .testRun p => Sys2Proof.Machine.execTestRun p s
  | .testStatus p => Sys2Proof.Machine.execTestStatus p s
  | .quarantineRelease p => Sys2Proof.Machine.execQuarantineRelease p s
  | .secStatus p => Sys2Proof.Machine.execSecStatus p s
  | .approvedEnter p => Sys2Proof.Machine.execApprovedEnter p s
  | .approvedLeave p => Sys2Proof.Machine.execApprovedLeave p s
  | .keyLoad p => Sys2Proof.Machine.execKeyLoad p s
  | .fuseProgram p => Sys2Proof.Machine.execFuseProgram p s
  | .zeroize p => Sys2Proof.Machine.execZeroize p s
  | .patchLoad p => Sys2Proof.Machine.execPatchLoad p s
  | .patchApply h => Sys2Proof.Machine.execPatchApply h s
  | .tamperConfig p => Sys2Proof.Machine.execTamperConfig p s
  | .dbgChallenge p => Sys2Proof.Machine.execDbgChallenge p s
  | .dbgResponse p => Sys2Proof.Machine.execDbgResponse p s
  | .dbgRevoke p => Sys2Proof.Machine.execDbgRevoke p s
  | .cswPolicy p => Sys2Proof.Machine.execCswPolicy p s
  | .cswXhome p => Sys2Proof.Machine.execCswXhome p s
  | .cswRetire p => Sys2Proof.Machine.execCswRetire p s
  | .cswRestore p => Sys2Proof.Machine.execCswRestore p s
  | .cswRejoin p => Sys2Proof.Machine.execCswRejoin p s
  | .cfgDeviceFrame f => Sys2Proof.Machine.execCfgDeviceFrame f s
  | .cfgGlobalFrame f => Sys2Proof.Machine.execCfgGlobalFrame f s
  | .cfgSegtagFrame f => Sys2Proof.Machine.execCfgSegtagFrame f s
  | .cfgPanFrame f => Sys2Proof.Machine.execCfgPanFrame f s
  | .cfgDeviceEnd f => Sys2Proof.Machine.execCfgDeviceEnd f s
  | .cfgCommandFrame f => Sys2Proof.Machine.execCfgCommandFrame f s
  | .cfgReplyRead => Sys2Proof.Machine.execCfgReplyRead s
  | .cfgSignatureChecked => Sys2Proof.Machine.execCfgSignatureChecked s
  | .cfgVerifyDone => Sys2Proof.Machine.execCfgVerifyDone s
  | .cfgDoneHigh => Sys2Proof.Machine.execCfgDoneHigh s
  | .cfgStreamStall => Sys2Proof.Machine.execCfgStreamStall s
  | .moduleSelftestDone cause => Sys2Proof.Machine.execModuleSelftestDone cause s
  | .entropyHealthFail cause => Sys2Proof.Machine.execEntropyHealthFail cause s
  | .drbgReseed => Sys2Proof.Machine.execDrbgReseed s
  | .tamperDetection src => Sys2Proof.Machine.execTamperDetection src s
  | .zeroizationComplete => Sys2Proof.Machine.execZeroizationComplete s
  | .dbgChallengeExpiry => Sys2Proof.Machine.execDbgChallengeExpiry s
  | .dbgGrantExpiry => Sys2Proof.Machine.execDbgGrantExpiry s
  | .govTsenseSample h temps => Sys2Proof.Machine.execGovTsenseSample h temps s
  | .sensorDisagreeExpiry h k => Sys2Proof.Machine.execSensorDisagreeExpiry h k s
  | .rateMonitorWindow n rate => Sys2Proof.Machine.execRateMonitorWindow n rate s
  | .tokenRatePublish h => Sys2Proof.Machine.execTokenRatePublish h s
  | .adcConversion h c code => Sys2Proof.Machine.execAdcConversion h c code s
  | .regulatorPoll h r acked status iout pout => Sys2Proof.Machine.execRegulatorPoll h r acked status iout pout s
  | .hbmTemperatureRead h temp => Sys2Proof.Machine.execHbmTemperatureRead h temp s
  | .tachMeasure h j rpm => Sys2Proof.Machine.execTachMeasure h j rpm s
  | .fanStall h j => Sys2Proof.Machine.execFanStall h j s
  | .flowLowExpiry h ix => Sys2Proof.Machine.execFlowLowExpiry h ix s
  | .pumpLossEnd h => Sys2Proof.Machine.execPumpLossEnd h s
  | .thermalModelUpdate h => Sys2Proof.Machine.execThermalModelUpdate h s
  | .vfabTargetUpdate h => Sys2Proof.Machine.execVfabTargetUpdate h s
  | .vfabStep h => Sys2Proof.Machine.execVfabStep h s
  | .vfabTrackFault h r => Sys2Proof.Machine.execVfabTrackFault h r s
  | .vfabOutOfRange h => Sys2Proof.Machine.execVfabOutOfRange h s
  | .capShareUpdate => Sys2Proof.Machine.execCapShareUpdate s
  | .capExchangeLost h => Sys2Proof.Machine.execCapExchangeLost h s
  | .thermalAutoClear => Sys2Proof.Machine.execThermalAutoClear s
  | .regSlotDisable h r => Sys2Proof.Machine.execRegSlotDisable h r s
  | .regSlotDrainTimeout h r => Sys2Proof.Machine.execRegSlotDrainTimeout h r s
  | .govInject h kind unit => Sys2Proof.Machine.execGovInject h kind unit s
  | .pinInputEdge ix level => Sys2Proof.Machine.execPinInputEdge ix level s
  | .pinBankSet b a mask => Sys2Proof.Machine.execPinBankSet b a mask s
  | .pinBankClr b a mask => Sys2Proof.Machine.execPinBankClr b a mask s
  | .pinBankTgl b a mask => Sys2Proof.Machine.execPinBankTgl b a mask s
  | .pinMirrorMisuse l off write => Sys2Proof.Machine.execPinMirrorMisuse l off write s
  | .pinInject kind => Sys2Proof.Machine.execPinInject kind s
  | .bankVioChange b low => Sys2Proof.Machine.execBankVioChange b low s
  | .serialPush c v => Sys2Proof.Machine.execSerialPush c v s
  | .serialPop c => Sys2Proof.Machine.execSerialPop c s
  | .serialConfig c v => Sys2Proof.Machine.execSerialConfig c v s
  | .serialByteDone e receive data err lost => Sys2Proof.Machine.execSerialByteDone e receive data err lost s
  | .logWriterSlot h good => Sys2Proof.Machine.execLogWriterSlot h good s
  | .errInjectLogCe h b => Sys2Proof.Machine.execErrInjectLogCe h b s
  | .errInjectLogUe h b => Sys2Proof.Machine.execErrInjectLogUe h b s
  | .errInjectWord h word ctx => Sys2Proof.Machine.execErrInjectWord h word ctx s
  | .errInjectStorm h word ctx n => Sys2Proof.Machine.execErrInjectStorm h word ctx n s
  | .lrClr h => Sys2Proof.Machine.execLrClr h s
  | .rtcTick => Sys2Proof.Machine.execRtcTick s
  | .rtcCrystalStopped => Sys2Proof.Machine.execRtcCrystalStopped s
  | .rtcCopyUpdate => Sys2Proof.Machine.execRtcCopyUpdate s
  | .rtcDateRead a => Sys2Proof.Machine.execRtcDateRead a s
  | .selftestSweepStart h => Sys2Proof.Machine.execSelftestSweepStart h s
  | .sliceSaveDone n => Sys2Proof.Machine.execSliceSaveDone n s
  | .slicePatternsDone n signature => Sys2Proof.Machine.execSlicePatternsDone n signature s
  | .sliceRestoreDone n lost => Sys2Proof.Machine.execSliceRestoreDone n lost s
  | .stInjectReport h pan => Sys2Proof.Machine.execStInjectReport h pan s
  | .stInjectFail h pan => Sys2Proof.Machine.execStInjectFail h pan s
  | .stCountsClear h => Sys2Proof.Machine.execStCountsClear h s
  | .poresetnAssert => Sys2Proof.Machine.execPoresetnAssert s
  | .poresetnRelease mode => Sys2Proof.Machine.execPoresetnRelease mode s
  | .powerUpEnd => Sys2Proof.Machine.execPowerUpEnd s
  | .supplyDetectorLow => Sys2Proof.Machine.execSupplyDetectorLow s
  | .secureBootEnd => Sys2Proof.Machine.execSecureBootEnd s
  | .bootTimeout => Sys2Proof.Machine.execBootTimeout s
  | .pllLockLoss loop long => Sys2Proof.Machine.execPllLockLoss loop long s
  | .tapReset => Sys2Proof.Machine.execTapReset s
  | .idcode => Sys2Proof.Machine.execIdcode s
  | .samplePreload cells => Sys2Proof.Machine.execSamplePreload cells s
  | .extest cells => Sys2Proof.Machine.execExtest cells s
  | .clamp => Sys2Proof.Machine.execClamp s
  | .highz => Sys2Proof.Machine.execHighz s
  | .bypass => Sys2Proof.Machine.execBypass s
  | .dmi a write v => Sys2Proof.Machine.execDmi a write v s
  | .dxPush data last => Sys2Proof.Machine.execDxPush data last s
  | .dxPop => Sys2Proof.Machine.execDxPop s
  | .dxAbandon => Sys2Proof.Machine.execDxAbandon s
  | .dxNop => Sys2Proof.Machine.execDxNop s
  | .dmHaltreq c => Sys2Proof.Machine.execDmHaltreq c s
  | .dmResumereq c => Sys2Proof.Machine.execDmResumereq c s
  | .dmHartreset c => Sys2Proof.Machine.execDmHartreset c s
  | .dmNdmreset => Sys2Proof.Machine.execDmNdmreset s
  | .dmSingleStep c => Sys2Proof.Machine.execDmSingleStep c s
  | .dmAccessRegister c regno write v => Sys2Proof.Machine.execDmAccessRegister c regno write v s
  | .dmTriggerFire c t => Sys2Proof.Machine.execDmTriggerFire c t s
  | .systemBusAccess addr size write v => Sys2Proof.Machine.execSystemBusAccess addr size write v s
  | .rakeDebugHaltreq n k all => Sys2Proof.Machine.execRakeDebugHaltreq n k all s
  | .rakeDebugResumereq n k all => Sys2Proof.Machine.execRakeDebugResumereq n k all s
  | .rakeDebugStep n k => Sys2Proof.Machine.execRakeDebugStep n k s
  | .rakeBreakpointHit => Sys2Proof.Machine.execRakeBreakpointHit s
  | .traceRecordEmit => Sys2Proof.Machine.execTraceRecordEmit s
  | .traceDropsClear => Sys2Proof.Machine.execTraceDropsClear s
  | .grainSpacerReturn g => Sys2Proof.Machine.execGrainSpacerReturn g s
  | .singleEventUpset u => Sys2Proof.Machine.execSingleEventUpset u s
  | .memoryFullWrite a addr data => Sys2Proof.Machine.execMemoryFullWrite a addr data s
  | .serstatClear c v => Sys2Proof.Machine.execSerstatClear c v s
  | .sidebandMessage m => Sys2Proof.Machine.execSidebandMessage m s
  | .vbatLoss => Sys2Proof.Machine.execVbatLoss s
  | .powerOnDetectorRelease => Sys2Proof.Machine.execPowerOnDetectorRelease s
  | .fuseWordProgrammed good => Sys2Proof.Machine.execFuseWordProgrammed good s

end Sys2Proof.Machine
end

