-- ==== Sys2Proof/Safety.lean ====
section
/-! DEFINITION. What a safe run is, in the terms the claims use: no step stops, and the sparse parts of the state stay in their one
canonical form, so that equal contents are equal data; and when a Cykai command's own effect is what happens. -/

namespace Sys2Proof.Machine

/-- The bytes of memory, their poison and their wrong bits are in canonical form (R361, R376, R377). -/
def State.memoryCanonical (s : State) : Prop :=
  Memory.wf s.mem = true ∧ Bank.wf (fun _ => false) s.poison = true ∧ Bank.wf (fun _ => 0) s.flips = true

/-- The registers are in canonical form: no entry at its reset word (R7). -/
def State.regsCanonical (s : State) : Prop := Bank.wf resetWord s.regs = true

/-- A step goes on. -/
def goesOn (o : Out) : Prop := ∃ t, o = .next t

/-! ## The causeway -/

/-- No request waits to cross the causeway or in a landing buffer (R478). -/
def State.crossQuiet (s : State) : Bool := (List.range 2).all fun g => (s.cswHalf g).reqOut.isEmpty && (s.cswHalf g).reqLand.isEmpty

/-- A request of half g reaches half h at once: it stays in its half, or nothing is ahead of it at a causeway that carries traffic. -/
def State.mayEnter (s : State) (g h : Nat) : Bool := g == h || (!s.isSplit g && s.crossFree g)

/-- The state in which such a request is served: across the causeway its entry of the landing buffer is marked in HIGH (R494). -/
def State.entering (s : State) (g h : Nat) : State := if g = h then s else s.landMark h 1

/-! ## The memory family -/

/-- The rows of memory: its accesses, scrubbers, injections and start (10_lagoon_and_hbm), and the commands MEM_CLEAR to MEM_COPY of
R523. -/
def memoryRow : Instr → Bool
  | .unmappedAccess _ _ _ | .memoryRead _ _ _ | .memoryPartialWrite _ _ _ | .memoryFullWrite _ _ _ => true
  | .scrubLine _ _ _ _ | .scrubParityCheck _ _ | .scrubRestart _ _ | .scrubEnable _ _ _ => true
  | .memInjectFlip _ _ _ _ | .memInjectFlipDouble _ _ _ _ | .memInjectSkipLine _ _ | .memInjectParFlip _ _ => true
  | .memEccCeClear _ | .hbmTrainingDone _ _ | .memoryFillDone _ _ => true
  | .memClear _ | .memRead _ | .memWrite _ | .memCopy _ => true
  | _ => false

/-! ## Commands that pass every check (R508) -/

/-- The request that a packet is in the half that executes it. -/
def reqOf (p : Packet) (half : Nat) : Req := ⟨p, half, indexOf p.target.toNat⟩

/-- Every check of R508 passes for a packet of command c that half h executes, nothing keeps it waiting (R512), and no LONG command
holds what it would change (R511): its effect is what happens. -/
def State.passes (s : State) (c : Cmd) (p : Packet) (half : Nat) : Bool :=
  s.accepts p.via && !s.noPlace c.cls p.via && !badLength p && p.version == 1 && !s.seqTaken p.via p.seq.toNat && !s.mustWait c p &&
    c.scopes.contains (scopeOf p.target.toNat) && s.execHalf (receivingHalf p.via) p.target.toNat == some half &&
    (s.refused513 c.opcode c.cls p.via (receivingHalf p.via) half).isNone && p.plen.toNat == c.size (reqOf p half) &&
    (c.opcode == 0x0905 || (badHeader p).isNone) && (badField s (reqOf p half) c.fields).isNone && (c.check s (reqOf p half)).isNone &&
    !((c.cls == .short || c.cls == .long) && s.heldUnit (c.touches s (reqOf p half)))

/-- What the effect of the command with this opcode leads to: its reply (R502), a LONG command that goes on (R510), or a wait. -/
def ends (op : Nat) (p : Packet) (half : Nat) : Run → State
  | .done u st d res => u.sendReply p.via p.seq.toNat op st d res
  | .job u j => { u with jobs := u.jobs ++ [{ j with
      opcode := if j.write.isSome then j.opcode else op, half := if j.write.isSome then j.half else half, via := p.via, seq := p.seq.toNat }] }
  | .later u => { u with waiting := u.waiting ++ [⟨op, p, half⟩] }

end Sys2Proof.Machine
end

