-- ==== Sys2Proof/Certificates/Slice0/Obligations.lean ====
section
/-! DEFINITION. The statements of this model for the provers: what every command of the table does where it has its effect, as equations of
whole next states; the checks of R508 in their order; frames; and the invariant of memory. -/

set_option maxRecDepth 20000

open Sys2Proof Sys2Proof.Machine

/-- R43, R45, R60, R61, R109: what a grain does with its inputs complete, and with its output acknowledged; what a clock edge reaches. The
value of a grant token is free (Assumption 3). -/
def Obligations.GrainPhases : Prop :=
  (∀ (g : Fin 8388608) (s : State), s.tokensMove (panOfGrain g) = true → (s.grain g).mode = .lut6 → s.mayEvaluate g (s.grain g) = true → exec (.grainEvaluate g) s = .next (((s.drive g 0 (bitOf (s.grain g).table (s.inputsValue (s.grain g)))).ackInputs g (s.grain g)).returnStages g)) ∧
  (∀ (g : Fin 8388608) (s : State), s.tokensMove (panOfGrain g) = true → (s.grain g).mode = .lut6 → s.outputsAcked g (s.grain g) = true → s.inputsEmpty (s.grain g) = true → exec (.grainSpacerReturn g) s = .next (((s.modChan (chanOfGrain g 0) (·.offer [])).freePorts (chanOfGrain g 0)).releaseInputs g (s.grain g))) ∧
  (∀ (g : Fin 4194304) (s : State), s.tokensMove (panOfGrain g) = true → (s.grain g).mode = .mutex → (s.heldOf g).grant = 0 → (s.heldOf g).owed = 0 → s.requested g 0 = true → s.requested g 1 = false → exec (.mutexGrant g) s = .next (s.grant g 0)) ∧
  (∀ (i : Fin 32) (s : State), s.treeRuns i = true → s.treeHigh i = false → exec (.flopEdge i true) s = .next ((s.setTreeHigh i true).treeEdge i true)) ∧
  (∀ (i : Fin 32) (s : State), s.awake = true → s.treeHigh i = true → exec (.flopEdge i false) s = .next ((s.setTreeHigh i false).treeEdge i false))

/-- R73, R74, R76, R77, R80, R89, R90, R106, R127: the events of the fabric around the grains. -/
def Obligations.FabricEvents : Prop :=
  (∀ (n : Fin 256) (wp : Fin 512) (k : Nat) (s : State), s.fld (F.PAN_STALL_CFG_THRESH_US n) ≠ 0 → s.suspended n wp = false → s.watched n wp = some k → s.pointPhase n wp k ≠ 0 → (s.chan k).told.contains (n.val * 512 + wp.val) = false → exec (.stallThresholdExpiry n wp ⟨[], false⟩) s = .next ((s.modChan k fun x => { x with told := (n.val * 512 + wp.val) :: x.told }).stall n wp (s.pointPhase n wp k) false)) ∧
  (∀ (n : Fin 256) (wp : Fin 512) (same : SameCycle) (s : State), same.clear = true → exec (.stallThresholdExpiry n wp same) s = .next (((List.range 512).filter fun w => w = wp.val || same.points.any (·.val = w)).foldl (fun u w => u.stallExpiry n w) (s.clearStalled n))) ∧
  (∀ (n : Fin 256) (wp : Fin 512) (same : SameCycle) (s : State), same.clear = false → exec (.stallThresholdExpiry n wp same) s = .next (((List.range 512).filter fun w => w = wp.val || same.points.any (·.val = w)).foldl (fun u w => u.stallExpiry n w) s)) ∧
  (∀ (n : Fin 256) (wp : Fin 512) (s : State), 424 ≤ wp.val → exec (.stallInject n wp) s = .next ((s.setFlds [(F.PAN_STALL_CFG_INJECT n, 0), (F.PAN_STALL_CFG_INJ_POINT n, wp)]).setFld (F.PAN_STALL_STATUS_INJ_REFUSED n) 1)) ∧
  (∀ (n : Fin 256) (wp : Fin 512) (k : Nat) (s : State), (s.setFlds [(F.PAN_STALL_CFG_INJECT n, 0), (F.PAN_STALL_CFG_INJ_POINT n, wp)]).watched n wp = some k → (s.setFlds [(F.PAN_STALL_CFG_INJECT n, 0), (F.PAN_STALL_CFG_INJ_POINT n, wp)]).pointPhase n wp k ≠ 0 → exec (.stallInject n wp) s = .next ((s.setFlds [(F.PAN_STALL_CFG_INJECT n, 0), (F.PAN_STALL_CFG_INJ_POINT n, wp)]).stall n wp ((s.setFlds [(F.PAN_STALL_CFG_INJECT n, 0), (F.PAN_STALL_CFG_INJ_POINT n, wp)]).pointPhase n wp k) true)) ∧
  (∀ (n : Fin 256) (wp : Fin 512) (k : Nat) (s : State), (s.setFlds [(F.PAN_STALL_CFG_INJECT n, 0), (F.PAN_STALL_CFG_INJ_POINT n, wp)]).watched n wp = some k → (s.setFlds [(F.PAN_STALL_CFG_INJECT n, 0), (F.PAN_STALL_CFG_INJ_POINT n, wp)]).pointPhase n wp k = 0 → exec (.stallInject n wp) s = .next ((s.setFlds [(F.PAN_STALL_CFG_INJECT n, 0), (F.PAN_STALL_CFG_INJ_POINT n, wp)]).useFree.stall n wp (1 + (s.setFlds [(F.PAN_STALL_CFG_INJECT n, 0), (F.PAN_STALL_CFG_INJ_POINT n, wp)]).freeVal % 5) true)) ∧
  (∀ (n : Fin 256) (s : State), exec (.stallStatusClear n) s = .next (s.setFlds [(F.PAN_STALL_STATUS_STALLED n, 0), (F.PAN_STALL_STATUS_PHASE n, 0), (F.PAN_STALL_STATUS_EPI_SAT n, 0), (F.PAN_STALL_STATUS_FIRST_POINT n, 0), (F.PAN_STALL_STATUS_EPISODES n, 0)])) ∧
  (∀ (i : Fin 384) (s : State), s.awake = true → s.fabricPin i = true → s.power (panOfPin i) = 0 → (s.pinChan i).kind = 1 → (s.chan (chanOfPin i false)).idle = true → exec (.pinChannelInput i) s = .next (s.offerPin i (s.pinLevel i))) ∧
  (∀ (i : Fin 384) (v : Bool) (s : State), (s.drivers (chanOfPin i true)) = [] → (s.pinChan i).kind = 3 → s.tokensMove (panOfPin i) = true → s.sluice (panOfPin i) = OPEN → s.fabricPin i = true → exec (.pinChannelOutput i v) s = .next (((s.takeToken (chanOfPin i true)).setLatch i v).reply .done)) ∧
  (∀ (g : Fin 8388608) (o : Fin 2) (s : State), s.power (panOfGrain g) = 0 → exec (.singleEventUpset (.grain g o 3)) s = .next (s.modChan (chanOfGrain g o) (·.offer [.both]))) ∧
  (∀ (i : Fin 32) (en src : Bool) (div : Byte) (s : State), exec (.clockTreeReconfigure i en src div) s = .next (s.setFlds [(F.CLK_FTREE_CFG_EN i, bnat en), (F.CLK_FTREE_CFG_SRC i, bnat src), (F.CLK_FTREE_CFG_DIV i, div.toNat)])) ∧
  (∀ (n : Fin 256) (s : State), exec (.islandLateClear n) s = .next (s.setFlds [(F.PAN_ISLAND_STATUS_LATE n, 0), (F.PAN_ISLAND_STATUS_LATE_COUNT n, 0), (F.PAN_ISLAND_STATUS_LATE_SAT n, 0)]))

/-- R96, R97, R99, R123, R125: the cycles of a block memory. -/
def Obligations.BlockMemories : Prop :=
  (∀ (b : Fin 8192) (a : BmemAccess) (s : State), s.tokensMove (b.val / 32) = true → (s.bmem b).reqA = [] → (s.bmem b).rspA = [] → (s.bmem b).reqB = [] → s.drivers (bmemPort b 0) = [] → (s.chan (bmemPort b 0)).complete = false → a.write = true → exec (.bmemAccessCycle b (some a) none false false false) s = .next (((s.setBmem b { (s.bmem b).setWord (a.addr.toNat % wordCount (s.bmem b).mode) { data := a.data.toNat % 2 ^ dataBits (s.bmem b).mode } with reqA := [], reqB := [], rspA := [⟨a.data.toNat % 2 ^ dataBits (s.bmem b).mode, 0⟩] }).portMoved (b / 32) (bmemPoint b 0)).reply .done)) ∧
  (∀ (b : Fin 8192) (waited : Bool) (s : State), (s.bmem b).mode = 10 → (s.bmem b).scrubOff = false → s.power (b.val / 32) = 0 → s.loadsPan (b.val / 32) = false → waited = true → exec (.bmemScrubWord b waited) s = .next (s.scrubWord b)) ∧
  (∀ (n : Fin 256) (m : Fin 32) (addr : BitVec 13) (bit : BitVec 7) (double : Bool) (s : State), (s.bmem (n.val * 32 + m.val)).mode = 0 → exec (.bmemInject n m addr bit double) s = .next ((s.setFlds [(F.PAN_BMEM_INJECT_INJECT n, 0), (F.PAN_BMEM_INJECT_DOUBLE n, bnat double), (F.PAN_BMEM_INJECT_MEM n, m), (F.PAN_BMEM_INJECT_ADDR n, addr.toNat), (F.PAN_BMEM_INJECT_BIT n, bit.toNat)]).setFld (F.PAN_BMEM_INJECT_INJ_REFUSED n) 1)) ∧
  (∀ (n : Fin 256) (m : Fin 32) (addr : BitVec 13) (bit : BitVec 7) (double : Bool) (s : State), (s.bmem (n.val * 32 + m.val)).mode = 10 → s.power n ≠ 2 → s.loadsPan n = false → addr.toNat < wordCount 10 → bit.toNat + bnat double < storedBits 10 → exec (.bmemInject n m addr bit double) s = .next ((s.setFlds [(F.PAN_BMEM_INJECT_INJECT n, 0), (F.PAN_BMEM_INJECT_DOUBLE n, bnat double), (F.PAN_BMEM_INJECT_MEM n, m), (F.PAN_BMEM_INJECT_ADDR n, addr.toNat), (F.PAN_BMEM_INJECT_BIT n, bit.toNat)]).modBmem (n.val * 32 + m.val) fun b => b.setWord addr.toNat { b.word addr.toNat with flips := (((b.word addr.toNat).flips % 2 ^ 72) ^^^ (2 ^ bit.toNat + (if double then 2 ^ (bit.toNat + 1) else 0))) + 2 ^ 72 })) ∧
  (∀ (n : Fin 256) (s : State), exec (.bmemCeClear n) s = .next (s.setFlds [(F.PAN_BMEM_ECC_STATUS_CE n, 0), (F.PAN_BMEM_ECC_STATUS_CE_COUNT n, 0)]))

/-- R139, R143, R145, R147, R149, R153. R134, R151 to R153, R155, R158, R165. The equations name the whole next state, so whatever they do
not name is as before. -/
def Obligations.QueueBlocks : Prop :=
  (∀ (d : Fin 1024) (data : Word) (last cls null : Bool) (u : QUnit) (t : State) (s : State), s.fabricEnd d = .writeEnd → (s.queue d).waiting = none → s.writeEndPasses d = true → s.offeredUnit d { data := data, last := last, cls := cls, null := null } = some u → s.writeUnit d u = (t, true) → exec (.queueWriteUnit d data last cls null) s = .next (((((t.modQueue d fun q => { q with waiting := none }).takeToken (queuePort d 0)).portMoved (panOfQueue d) (queuePoint d 0)).reply .done))) ∧
  (∀ (d : Fin 1024) (u : QUnit) (t : State) (s : State), (s.queue d).waiting = some u → s.writeEndPasses d = true → s.writeUnit d u = (t, true) → exec (.queueCreditAck d) s = .next (((((t.modQueue d fun q => { q with waiting := none }).takeToken (queuePort d 0)).portMoved (panOfQueue d) (queuePoint d 0)).reply .done))) ∧
  (∀ (d : Fin 1024) (cls : Bool) (w : QWord) (r : QBlock) (s : State), s.fabricEnd d = .readEnd → (s.queue d).sync = none → s.portFree (queuePort d 1) = true → s.sluice (panOfQueue d) = OPEN → (s.queue d).takeWord = some (cls, w, r) → exec (.queueReadWord d) s = .next (((s.setQueue d r).noteDrained d true cls w.last).giveItem d w.data w.vb w.last cls false (s.queue d).cut)) ∧
  (∀ (d : Fin 1024) (a : Agent) (cls : Bool) (w : QWord) (r : QBlock) (s : State), s.asleep (a) = false → s.mayEnter (agentHalf a) (halfOfQueue d) = true → (s.entering (agentHalf a) (halfOfQueue d)).queueCutOff d a = false → (s.entering (agentHalf a) (halfOfQueue d)).mayAccess d a false = true → (s.entering (agentHalf a) (halfOfQueue d)).fabricEnd d = .writeEnd → ((s.entering (agentHalf a) (halfOfQueue d)).queue d).sync = none → ((s.entering (agentHalf a) (halfOfQueue d)).queue d).takeWord = some (cls, w, r) → exec (.queueWindowPop d ⟨a, 0⟩) s = .next ((((s.entering (agentHalf a) (halfOfQueue d)).setQueue d { r with tag := tagWord ((s.entering (agentHalf a) (halfOfQueue d)).queue d).cut false false false cls w.last w.vb }).noteDrained d false cls w.last).reply (.tagged w.data (tagWord ((s.entering (agentHalf a) (halfOfQueue d)).queue d).cut false false false cls w.last w.vb)))) ∧
  (∀ (d : Fin 1024) (a : Agent) (s : State), s.asleep (a) = false → s.mayEnter (agentHalf a) (halfOfQueue d) = true → (s.entering (agentHalf a) (halfOfQueue d)).queueCutOff d a = false → (s.entering (agentHalf a) (halfOfQueue d)).mayAccess d a false = true → (s.entering (agentHalf a) (halfOfQueue d)).fabricEnd d = .writeEnd → ((s.entering (agentHalf a) (halfOfQueue d)).queue d).sync = none → ((s.entering (agentHalf a) (halfOfQueue d)).queue d).takeWord = none → (s.entering (agentHalf a) (halfOfQueue d)).qbService d = true → exec (.queueWindowPop d ⟨a, 0⟩) s = .next (((s.entering (agentHalf a) (halfOfQueue d)).setQueue d { (s.entering (agentHalf a) (halfOfQueue d)).queue d with cut := false, tag := tagWord ((s.entering (agentHalf a) (halfOfQueue d)).queue d).cut true false false (((s.entering (agentHalf a) (halfOfQueue d)).queue d).reading.getD false) false 0 }).reply (.tagged ((s.entering (agentHalf a) (halfOfQueue d)).queue d).idle (tagWord ((s.entering (agentHalf a) (halfOfQueue d)).queue d).cut true false false (((s.entering (agentHalf a) (halfOfQueue d)).queue d).reading.getD false) false 0)))) ∧
  (∀ (d : Fin 1024) (a : Agent) (off : Fin 8) (s : State), s.asleep (a) = false → s.mayEnter (agentHalf a) (halfOfQueue d) = true → (s.entering (agentHalf a) (halfOfQueue d)).queueCutOff d a = false → off.val ≠ 0 → (s.entering (agentHalf a) (halfOfQueue d)).mayAccess d a false = true → exec (.queueWindowPop d ⟨a, off⟩) s = .next ((s.entering (agentHalf a) (halfOfQueue d)).reply (.num ((s.entering (agentHalf a) (halfOfQueue d)).readWindow d (8 * off)).2))) ∧
  (∀ (d : Fin 1024) (rd : WindowRead) (s : State), s.asleep (rd.agent) = false → s.isSplit (agentHalf rd.agent) = true → s.queueCutOff d rd.agent = true → exec (.queueWindowPop d rd) s = .next (s.windowGone d rd.agent (8 * rd.off))) ∧
  (∀ (d : Fin 1024) (a : Agent) (v : Dword) (t : State) (s : State), s.asleep (a) = false → s.mayEnter (agentHalf a) (halfOfQueue d) = true → (s.entering (agentHalf a) (halfOfQueue d)).queueCutOff d a = false → (s.entering (agentHalf a) (halfOfQueue d)).mayAccess d a true = true → (s.entering (agentHalf a) (halfOfQueue d)).fabricEnd d = .readEnd → (s.entering (agentHalf a) (halfOfQueue d)).sluice (panOfQueue d) = OPEN → ((s.entering (agentHalf a) (halfOfQueue d)).queue d).pushes = [] → (s.entering (agentHalf a) (halfOfQueue d)).writeUnit d (pushUnit v 0) = (t, true) → exec (.queueWindowPush d a v) s = .next (t.reply .done)) ∧
  (∀ (d : Fin 1024) (u : QUnit) (r : List QUnit) (t : State) (s : State), s.sluice (panOfQueue d) = OPEN → (s.queue d).pushes = u :: r → s.writeUnit d u = (t, true) → exec (.queuePushResume d) s = .next ((t.modQueue d fun q => { q with pushes := r }).reply .done)) ∧
  (∀ (d : Fin 1024) (u : QUnit) (r : List QUnit) (s : State), (s.queue d).pushes = u :: r → exec (.queuePushTimeout d) s = .next (((((s.modQueue d fun q => { q with pushes := r }).setFld (F.PAN_QB_STATUS_OVERRUN (panOfQueue d) (qOf d)) 1).raise { half := halfOfQueue d, cls := NOTICE, src := 5, code := 3, unit := panOfQueue d, ctx := qOf d }).reply .refused))) ∧
  (∀ (d : Fin 1024) (a : Agent) (off : Fin 64) (push : Bool) (s : State), s.asleep a = false → exec (.queueWindowMisuse d a off false push) s = .next (s.windowMisuse d a 6 off)) ∧
  (∀ (d : Fin 1024) (a : Agent) (off : Fin 64) (push : Bool) (s : State), s.asleep a = false → s.mayAccess d a push = false → exec (.queueWindowMisuse d a off true push) s = .next (s.windowMisuse d a 5 off)) ∧
  (∀ (d : Fin 1024) (a : Agent) (s : State), s.asleep (a) = false → s.mayEnter (agentHalf a) (halfOfQueue d) = true → (s.entering (agentHalf a) (halfOfQueue d)).queueCutOff d a = false → (s.entering (agentHalf a) (halfOfQueue d)).mayAccess d a true = true → exec (.queueLostClear d a) s = .next ((((s.entering (agentHalf a) (halfOfQueue d)).modQueue d fun q => { q with lost0 := 0, lost1 := 0, discards := 0 }).setFld (F.PAN_QB_STATUS_SAT (panOfQueue d) (qOf d)) 0).reply .done)) ∧
  (∀ (d : Fin 1024) (a : Agent) (v : Dword) (s : State), s.asleep (a) = false → s.mayEnter (agentHalf a) (halfOfQueue d) = true → (s.entering (agentHalf a) (halfOfQueue d)).queueCutOff d a = false → (s.entering (agentHalf a) (halfOfQueue d)).mayAccess d a true = true → exec (.queueIdleSet d a v) s = .next (((s.entering (agentHalf a) (halfOfQueue d)).modQueue d fun q => { q with idle := v }).reply .done)) ∧
  (∀ (d : Fin 1024) (s : State), exec (.qbFlushHi d) s = .next (s.flushesDone (s.requestSegFlush d true) d)) ∧
  (∀ (d : Fin 1024) (s : State), exec (.qbFlushLo d) s = .next (s.flushesDone (s.requestSegFlush d false) d)) ∧
  (∀ (d : Fin 1024) (s : State), exec (.qbFlush d) s = .next (s.flushesDone (s.requestFlush d) d)) ∧
  (∀ (d : Fin 1024) (cls : Bool) (s : State), exec (.segmentFlushEffect d cls) s = .next (s.flushesDone (s.trySegFlush d cls) d)) ∧
  (∀ (d : Fin 1024) (s : State), exec (.queueSettingApply d) s = .next (s.settingsIfOutside d)) ∧
  (∀ (d : Fin 1024) (e : QEnd) (s : State), (s.queue d).sync = some e → exec (.queueResyncDone d) s = .next (((s.agreed d e).flushesDone ((s.agreed d e).dueFlushes d) d).copRoom d)) ∧
  (∀ (d : Fin 1024) (r x : Rebind) (s : State), (s.queue d).rebind = some x → ((s.saveWords d 1024).queue d).rebind = some r → r.left.total = 0 → exec (.queueRebindDrained d) s = .next ((s.saveWords d 1024).endRebind d r)) ∧
  (∀ (d : Fin 1024) (r x : Rebind) (s : State), (s.queue d).rebind = some x → ((s.saveWords d 1024).queue d).rebind = some r → s.fabricEnd d = .writeEnd → exec (.queueRebindTimeout d) s = .next (((s.saveWords d 1024).discardRest d).endRebind d r))

/-- R172, R193, R200, R202, R203, R204, R206; the equation names the whole next state, so whatever it does not name is as before. -/
def Obligations.RakeFlow : Prop :=
  (∀ (r : Fin 4096) (s : State), s.startsStep r = true → exec (.step r) s = .next (((s.modRake r (·.passBoundary)).doStep r).endStep r)) ∧
  (∀ (r : Fin 4096) (s : State), s.issuesOp r 0 = true → exec (.nop r) s = .next (((s.modRake r (·.passBoundary)).modRake r (·.advance)).endStep r)) ∧
  (∀ (r : Fin 4096) (s : State), s.issuesOp r 1 = true → exec (.rep r) s = .next (((s.modRake r (·.passBoundary)).modRake r (·.doRep)).endStep r)) ∧
  (∀ (r : Fin 4096) (s : State), s.issuesOp r 2 = true → exec (.br r) s = .next (((s.modRake r (·.passBoundary)).modRake r (·.doBr)).endStep r)) ∧
  (∀ (r : Fin 4096) (s : State), s.issuesOp r 3 = true → exec (.dbnz r) s = .next (((s.modRake r (·.passBoundary)).modRake r (·.doDbnz)).endStep r)) ∧
  (∀ (r : Fin 4096) (s : State), s.issuesOp r 4 = true → exec (.setr r) s = .next (((s.modRake r (·.passBoundary)).modRake r fun k => (k.setr (bitsOf ((s.modRake r (·.passBoundary)).rake r).next 33 28) (bitsOf ((s.modRake r (·.passBoundary)).rake r).next 23 0)).advance).endStep r)) ∧
  (∀ (r : Fin 4096) (s : State), s.issuesOp r 5 = true → exec (.rescale r) s = .next (((s.modRake r (·.passBoundary)).doRescale r).endStep r)) ∧
  (∀ (r : Fin 4096) (s : State), s.issuesOp r 6 = true → exec (.clrf r) s = .next (((s.modRake r (·.passBoundary)).modRake r fun k => { k with dp := k.dp.clrf (bitsOf ((s.modRake r (·.passBoundary)).rake r).next 6 0) }.advance).endStep r))

/-- R200, R207, R217, R218, R219, R221, R227; the equation names the whole next state, so whatever it does not name is as before. -/
def Obligations.RakeAtoms : Prop :=
  (∀ (r : Fin 4096) (s : State), s.issuesOp r 7 = true → exec (.atom r) s = .next (((s.modRake r (·.passBoundary)).modRake r fun k => { k with sq := { k.sq with atomic := true } }.advance).endStep r)) ∧
  (∀ (r : Fin 4096) (s : State), s.issuesOp r 8 = true → exec (.endatom r) s = .next (((s.modRake r (·.passBoundary)).modRake r fun k => { k with sq := { k.sq with atomic := false } }.advance).endStep r)) ∧
  (∀ (r : Fin 4096) (s : State), s.issuesOp r 9 = true → exec (.reta r) s = .next (((s.modRake r (·.passBoundary)).modRake r fun k => { k with passed := false, sq := k.sq.reta }).endStep r)) ∧
  (∀ (r : Fin 4096) (s : State), s.issuesOp r 10 = true → exec (.resume r) s = .next (((s.modRake r (·.passBoundary)).modRake r (·.restore)).endStep r)) ∧
  (∀ (r : Fin 4096) (s : State), s.issuesOp r 11 = true → exec (.waitCmd r) s = .next (((s.modRake r (·.passBoundary)).modRake r fun k => { k with sq := { k.sq with inWait := true } }.advance).endStep r)) ∧
  (∀ (r : Fin 4096) (s : State), s.issuesOp r 12 = true → exec (.halt r) s = .next (((s.modRake r (·.passBoundary)).haltRake r).endStep r)) ∧
  (∀ (r : Fin 4096) (s : State), s.issuesOp r 13 = true → exec (.segend r) s = .next ((((s.modRake r (·.passBoundary)).modRake r (·.advance)).endSegment r ((s.modRake r (·.passBoundary)).rake r).sq.pc).endStep r)) ∧
  (∀ (r : Fin 4096) (s : State), s.issuesOp r 14 = true → exec (.note r) s = .next (((s.modRake r (·.passBoundary)).doNote r).endStep r))

/-- R188, R189, R210, R211, R213, R216, R219, R225, R228; the equation names the whole next state, so whatever it does not name is as
before. -/
def Obligations.RakeAttention : Prop :=
  (∀ (r : Fin 4096) (s : State), s.issues r = true → (s.rake r).illegal = true → exec (.illegalInstruction r) s = .next (s.illegalStop r)) ∧
  (∀ (r : Fin 4096) (src code : Nat) (s : State), (s.rake r).event = some (src, code) → s.executes r = true → (s.rake r).takes = true → exec (.attentionEntry r) s = .next ((s.modRake r (·.enter src code)).endStep r)) ∧
  (∀ (r : Fin 4096) (src code : Nat) (s : State), (s.rake r).event = some (src, code) → s.executes r = true → (s.rake r).commits = true → exec (.commitEntry r) s = .next ((s.modRake r (·.commit src code)).endStep r)) ∧
  (∀ (r : Fin 4096) (data : BitVec 36) (s : State), (s.rake r).inbound = none → (s.rake r).stopping = none → s.panRuns (panOfRake r) = true → s.drivers (rakePort r 0) = [] → ({ s.rake r with inbound := some (data.toNat, false) } : Rake).absorb.inbound = none → exec (.rakeInboundToken r data) s = .next ((((s.setRake r ({ s.rake r with inbound := some (data.toNat, false) } : Rake).absorb).takeToken (rakePort r 0)).portMoved (panOfRake r) (rakePoint r 0)).reply .done)) ∧
  (∀ (r : Fin 4096) (data : BitVec 36) (s : State), (s.rake r).inbound = none → (s.rake r).stopping = none → s.panRuns (panOfRake r) = true → s.drivers (rakePort r 0) = [] → ({ s.rake r with inbound := some (data.toNat, true) } : Rake).absorb.inbound = none → exec (.rakeFabricAttention r data) s = .next ((((s.setRake r ({ s.rake r with inbound := some (data.toNat, true) } : Rake).absorb).takeToken (rakePort r 0)).portMoved (panOfRake r) (rakePoint r 0)).reply .done)) ∧
  (∀ (r : Fin 4096) (data : BitVec 36) (x : Nat) (s : State), (s.rake r).inbound = none → (s.rake r).stopping = none → s.panRuns (panOfRake r) = true → s.drivers (rakePort r 0) ≠ [] → s.portToken (rakePort r 0) 0 = some x → exec (.rakeInboundToken r data) s = .next (s.takeInbound r (x % 2 ^ 36) (bitOf x 36) false)) ∧
  (∀ (r : Fin 4096) (d : Nat) (x : Bool) (l : List (Nat × Bool)) (s : State), s.panRuns (panOfRake r) = true → s.portFree (rakePort r 1) = true → (s.rake r).resBuf = (d, x) :: l → (s.rake r).sq.segDue = 0 → exec (.rakeResultTaken r) s = .next (((((s.modRake r fun k => { k with resBuf := l, stopping := k.stopping.map (· + 1) }).giveToken (rakePort r 1) 37 (d + bnat x * 2 ^ 36)).portMoved (panOfRake r) (rakePoint r 1)).endStep r).reply (.num (d + bnat x * 2 ^ 36)))) ∧
  (∀ (r : Fin 4096) (a : Agent) (v : Dword) (s : State), s.asleep (a) = false → s.mayEnter (agentHalf a) (halfOfRake r) = true → (agentHalf a != halfOfRake r && (s.entering (agentHalf a) (halfOfRake r)).isSplit (agentHalf a)) = false → ringsPan (panOfRake r) a = true → (s.entering (agentHalf a) (halfOfRake r)).sluice (panOfRake r) = OPEN → ((s.entering (agentHalf a) (halfOfRake r)).rake r).stopping = none → ((s.entering (agentHalf a) (halfOfRake r)).rake r).extQ.length < 4 → exec (.rakeDoorbellPost r a true v) s = .next (((s.entering (agentHalf a) (halfOfRake r)).setRake r { (s.entering (agentHalf a) (halfOfRake r)).rake r with extQ := ((s.entering (agentHalf a) (halfOfRake r)).rake r).extQ ++ [v.toNat % 256] }).reply .done)) ∧
  (∀ (r : Fin 4096) (a : Agent) (v : Dword) (s : State), s.asleep (a) = false → s.mayEnter (agentHalf a) (halfOfRake r) = true → (agentHalf a != halfOfRake r && (s.entering (agentHalf a) (halfOfRake r)).isSplit (agentHalf a)) = false → ringsPan (panOfRake r) a = true → exec (.rakeDoorbellPost r a false v) s = .next ((s.entering (agentHalf a) (halfOfRake r)).reply (.num ((s.entering (agentHalf a) (halfOfRake r)).doorbellWord r)))) ∧
  (∀ (r : Fin 4096) (a : Agent) (w : Bool) (v : Dword) (s : State), s.asleep (a) = false → s.isSplit (agentHalf a) = true → agentHalf a ≠ halfOfRake r → ringsPan (panOfRake r) a = true → exec (.rakeDoorbellPost r a w v) s = .next ((s.unmappedNotice a (doorbellAddr r)).reply (.word 0))) ∧
  (∀ (r : Fin 4096) (a : Agent) (off : Fin 8) (s : State), s.asleep a = false → exec (.doorbellMisuse r a off false) s = .next ((s.misuse a 6 (doorbellAddr r + off)).reply (.word 0))) ∧
  (∀ (r : Fin 4096) (s : State), (s.rake r).stopping.isSome = true → (s.rake r).resBuf = [] → exec (.rakeStopDrained r) s = .next (s.endStop r)) ∧
  (∀ (r : Fin 4096) (s : State), (s.rake r).stopping.isSome = true → exec (.rakeStopTimeout r) s = .next (s.endStop r))

/-- R231, R232; the equation names the whole next state, so whatever it does not name is as before. -/
def Obligations.RakeInjections : Prop :=
  (∀ (r : Fin 4096) (s : State), (s.injFields r 0).rakeInjectRefused r = false → exec (.rakeInjectPar r) s = .next (((s.injFields r 0).modRake r fun k => { k with armPar := true }).setFld (F.PAN_RAKE_CTL_INJECT (panOfRake r)) 1)) ∧
  (∀ (r : Fin 4096) (s : State), (s.injFields r 1).rakeInjectRefused r = false → exec (.rakeInjectOvf r) s = .next ((((s.injFields r 1).modRake r fun k => { k with dp := { k.dp with ovf := k.dp.ovf.set 0 true } }).setFld (F.PAN_RAKE_CTL_INJECT (panOfRake r)) 0).rakeExc r 2 ((s.injFields r 1).rake r).sq.pc true)) ∧
  (∀ (r : Fin 4096) (s : State), (s.injFields r 2).rakeInjectRefused r = false → exec (.rakeInjectSat r) s = .next ((((s.injFields r 2).modRake r fun k => { k with dp := { k.dp with sat := true } }).setFld (F.PAN_RAKE_CTL_INJECT (panOfRake r)) 0).rakeExc r 3 ((s.injFields r 2).rake r).sq.pc true)) ∧
  (∀ (r : Fin 4096) (s : State), (s.injFields r 3).rakeInjectRefused r = false → exec (.rakeInjectExptSat r) s = .next ((((s.injFields r 3).modRake r fun k => { k with dp := { k.dp with exptSat := true } }).setFld (F.PAN_RAKE_CTL_INJECT (panOfRake r)) 0).rakeExc r 4 ((s.injFields r 3).rake r).sq.pc true)) ∧
  (∀ (r : Fin 4096) (s : State), (s.injFields r 4).rakeInjectRefused r = false → exec (.rakeInjectIllegal r) s = .next (((s.injFields r 4).modRake r fun k => { k with armIll := true }).setFld (F.PAN_RAKE_CTL_INJECT (panOfRake r)) 1)) ∧
  (∀ (r : Fin 4096) (s : State), (s.injFields r 0).rakeInjectRefused r = true → exec (.rakeInjectPar r) s = .next ((s.injFields r 0).setFlds [(F.PAN_RAKE_CTL_INJECT (panOfRake r), 0), (F.PAN_RAKE_CTL_INJ_REFUSED (panOfRake r), 1)]))

/-- R732 to R734, R736, R740 to R742; the equation names the whole next state, so whatever it does not name is as before. -/
def Obligations.RakeDebugging : Prop :=
  (∀ (n : Fin 256) (k : Fin 16) (all : Bool) (s : State), bitOf (s.setFlds [(F.DBG_RAKE_CTL_ALL, bnat all), (F.DBG_RAKE_CTL_PAN, n), (F.DBG_RAKE_CTL_RAKE, k)]).dbgScope 2 = true → exec (.rakeDebugHaltreq n k all) s = .next ((s.setFlds [(F.DBG_RAKE_CTL_ALL, bnat all), (F.DBG_RAKE_CTL_PAN, n), (F.DBG_RAKE_CTL_RAKE, k)]).each (s.setFlds [(F.DBG_RAKE_CTL_ALL, bnat all), (F.DBG_RAKE_CTL_PAN, n), (F.DBG_RAKE_CTL_RAKE, k)]).dbgRakes fun r x => x.haltRequest r)) ∧
  (∀ (n : Fin 256) (k : Fin 16) (all : Bool) (s : State), bitOf (s.setFlds [(F.DBG_RAKE_CTL_ALL, bnat all), (F.DBG_RAKE_CTL_PAN, n), (F.DBG_RAKE_CTL_RAKE, k)]).dbgScope 2 = false → exec (.rakeDebugHaltreq n k all) s = .next ((s.setFlds [(F.DBG_RAKE_CTL_ALL, bnat all), (F.DBG_RAKE_CTL_PAN, n), (F.DBG_RAKE_CTL_RAKE, k)]).setFld F.DBG_STATUS_REFUSED 1)) ∧
  (∀ (n : Fin 256) (k : Fin 16) (all : Bool) (s : State), bitOf (s.setFlds [(F.DBG_RAKE_CTL_ALL, bnat all), (F.DBG_RAKE_CTL_PAN, n), (F.DBG_RAKE_CTL_RAKE, k)]).dbgScope 2 = true → exec (.rakeDebugResumereq n k all) s = .next ((s.setFlds [(F.DBG_RAKE_CTL_ALL, bnat all), (F.DBG_RAKE_CTL_PAN, n), (F.DBG_RAKE_CTL_RAKE, k)]).each (s.setFlds [(F.DBG_RAKE_CTL_ALL, bnat all), (F.DBG_RAKE_CTL_PAN, n), (F.DBG_RAKE_CTL_RAKE, k)]).dbgRakes fun r x => x.resumeRake r)) ∧
  (∀ (n : Fin 256) (k : Fin 16) (s : State), bitOf (s.setFlds [(F.DBG_RAKE_CTL_ALL, bnat (s.on F.DBG_RAKE_CTL_ALL)), (F.DBG_RAKE_CTL_PAN, n), (F.DBG_RAKE_CTL_RAKE, k)]).dbgScope 2 = true → exec (.rakeDebugStep n k) s = .next ((s.setFlds [(F.DBG_RAKE_CTL_ALL, bnat (s.on F.DBG_RAKE_CTL_ALL)), (F.DBG_RAKE_CTL_PAN, n), (F.DBG_RAKE_CTL_RAKE, k)]).stepRake (s.setFlds [(F.DBG_RAKE_CTL_ALL, bnat (s.on F.DBG_RAKE_CTL_ALL)), (F.DBG_RAKE_CTL_PAN, n), (F.DBG_RAKE_CTL_RAKE, k)]).dbgRake)) ∧
  (∀ (s : State), s.executes s.dbgRake = true → s.breaks s.dbgRake = true → (s.rake s.dbgRake).takes = false → (s.rake s.dbgRake).commits = false → (s.rake s.dbgRake).sq.segDue = 0 → (s.rake s.dbgRake).sq.noteDue = none → (s.rake s.dbgRake).sq.inWait = false → exec (.rakeBreakpointHit) s = .next (s.debugStop s.dbgRake 2)) ∧
  (∀ (x : List Byte) (rest : List (List Byte)) (s : State), s.on F.DBG_TRACE_CTL_EN = true → bitOf s.dbgScope 0 = true → s.dbg.trace = x :: rest → exec (.traceRecordEmit) s = .next (({ s with dbg := { s.dbg with trace := rest } } : State).reply (.bytes x false))) ∧
  (∀ (s : State), exec (.traceDropsClear) s = .next (s.setFld F.DBG_TRACE_CTL_DROPS 0))

/-- R235, R237 to R239, R245, R246, R268. R115, R116, R118, R128. The equations name the whole next state, so whatever they do not name is
as before. -/
def Obligations.SluicesAndGating : Prop :=
  (∀ (n : Fin 256) (k : CloseJob) (s : State), (s.pan n).close = some k → s.itemsLeft n = false → exec (.sluiceCloseComplete n) s = .next (s.endClose n false)) ∧
  (∀ (n : Fin 256) (k : CloseJob) (s : State), (s.pan n).close = some k → exec (.sluiceDrainTimeout n) s = .next (s.endClose n false)) ∧
  (∀ (n : Fin 256) (s : State), exec (.sluiceDebugHold n true) s = .next (((s.put (F.PAN_SLUICE_CTL_DEBUG n) true).setHold n (F.PAN_SLUICE_STATUS_HOLD_DEBUG n)).testPump (halfOfPan n))) ∧
  (∀ (n : Fin 256) (s : State), exec (.sluiceDebugHold n false) s = .next ((((s.put (F.PAN_SLUICE_CTL_DEBUG n) false).modPan n fun p => { p with armed := none }).setFld (F.PAN_SLUICE_CTL_STEP n) 0).clearHold n (F.PAN_SLUICE_STATUS_HOLD_DEBUG n))) ∧
  (∀ (n : Fin 256) (b : Bool) (s : State), exec (.sluiceDiscardSet n b) s = .next ((s.put (F.PAN_SLUICE_CTL_DISCARD n) b).dropStages n)) ∧
  (∀ (n : Fin 256) (side : Fin 4) (k : Fin 64) (word : BitVec 16) (m sd j w : Nat) (s : State), laneInbound side k = true → farLane n side k = some (m, sd, j) → s.awake = true → s.passesOut m = true → s.portToken (chanOfPoint m (sd * 64 + j)) word.toNat = some w → s.discarding n = true → exec (.sluiceTokenDrop n side k word) s = .next (((s.takeToken (chanOfPoint m (sd * 64 + j))).countDrop n).reply .done)) ∧
  (∀ (n : Fin 256) (side : Fin 4) (k : Fin 64) (word : BitVec 16) (m sd j w : Nat) (s : State), laneInbound side k = true → farLane n side k = some (m, sd, j) → s.awake = true → s.passesOut m = true → s.portToken (chanOfPoint m (sd * 64 + j)) word.toNat = some w → s.discarding n = false → (s.chan (laneStage n side k)).idle = true → exec (.sluiceTokenDrop n side k word) s = .next (((s.takeToken (chanOfPoint m (sd * 64 + j))).modChan (laneStage n side k) (·.offer (railsOf 16 w))).reply .done)) ∧
  (∀ (n : Fin 256) (side : Fin 4) (k : Fin 64) (s : State), s.sluice n = SEALED → s.on (F.PAN_SLUICE_STATUS_HOLD_DEBUG n) = true → (farLane n side k).isSome = true → exec (.sluiceStep n side k) s = .next (((s.setFlds [(F.PAN_SLUICE_CTL_STEP_SIDE n, side), (F.PAN_SLUICE_CTL_STEP_LANE n, k)]).modPan n fun p => { p with armed := some (side.val, k.val) }).setFld (F.PAN_SLUICE_CTL_STEP n) 1)) ∧
  (∀ (n : Fin 256) (word : BitVec 16) (side k : Nat) (s : State), (s.pan n).armed = some (side, k) → laneInbound side k = true → (s.chan (laneStage n side k)).complete = true → (s.chan (laneStage n side k)).passed = false → exec (.sluiceStepDone n word) s = .next ((s.modChan (laneStage n side k) fun x => { x with passed := true }).stepEnds n)) ∧
  (∀ (n : Fin 256) (word : BitVec 16) (side k : Nat) (m sd j w : Nat) (s : State), (s.pan n).armed = some (side, k) → laneInbound side k = false → farLane n side k = some (m, sd, j) → s.portToken (chanOfPoint n (side * 64 + k)) word.toNat = some w → s.discarding m = false → (s.chan (laneStage m sd j)).idle = true → exec (.sluiceStepDone n word) s = .next (((s.takeToken (chanOfPoint n (side * 64 + k))).modChan (laneStage m sd j) (·.offer (railsOf 16 w))).stepEnds n)) ∧
  (∀ (n : Fin 256) (s : State), exec (.sluiceDiscardClear n) s = .next (s.setFlds [(F.PAN_SLUICE_DISCARD_SAT n, 0), (F.PAN_SLUICE_DISCARD_TOKENS n, 0), (F.PAN_SLUICE_DISCARD_REFUSED n, 0)])) ∧
  (∀ (n : Fin 256) (s : State), s.power n = 1 → exec (.panGatingDone n) s = .next (s.gated n)) ∧
  (∀ (n : Fin 256) (s : State), s.on (F.PAN_PWR_CTL_AUTO n) = true → s.power n = 0 → s.gateRefusal n = none → exec (.panAutoGate n) s = .next (s.beginGating n)) ∧
  (∀ (h : Fin 2) (n : Nat) (r : List Nat) (s : State), s.wakes h = n :: r → s.waking h < 2 → s.stopped h = false → exec (.panWakeStart h) s = .next ((s.setWakes h r).setFld (F.PAN_PWR_STATUS_STATE n) 3)) ∧
  (∀ (h : Fin 2) (n : Nat) (r : List Nat) (s : State), s.wakes h = n :: r → s.waking h < 2 → s.stopped h = true → exec (.panWakeStart h) s = .next (((s.setWakes h r).refusePower n CAUSE_THERMAL).setFld (F.PAN_PWR_CTL_UNGATE n) 0)) ∧
  (∀ (n : Fin 256) (s : State), s.power n = 3 → exec (.panWakeDone n) s = .next (s.woken n))

/-- R248, R250, R256 to R260, R262; the equation names the whole next state, so whatever it does not name is as before. -/
def Obligations.PanLoads : Prop :=
  (∀ (h : Fin 2) (m : Nat) (s : State), (s.giveResult h).portMaster h = none → (s.giveResult h).nextMaster h = some m → exec (.reconfigGrant h []) s = .next ((s.giveResult h).setGranted h (5 + m))) ∧
  (∀ (h : Fin 2) (m : Nat) (i j : LoadJob) (t : State) (f : List Byte) (s : State), s.portMaster h = some m → s.load (loadKey h m) = some i → i.accepted = false → s.power i.pan = 0 → s.fetchFrame h m = (t, .frame f) → t.load (loadKey h m) = some j → fType f = 1 → t.claimRefused h m j.pan = false → badHeaderFrame f = false → fCrc f = true → t.headerCause j.pan (fPayload f) false = none → exec (.panLoadHeader h) s = .next (((((t.setLoad (loadKey h m) (some j)).setLoad (loadKey h m) (some (j.header f))).setFld (F.PAN_SLUICE_STATUS_LOADER j.pan) (m + 1)).acceptLoad j.pan).freePort h m)) ∧
  (∀ (h : Fin 2) (m : Nat) (j : LoadJob) (t : State) (f : List Byte) (s : State), s.portMaster h = some m → s.load (loadKey h m) = some j → j.accepted = true → j.waitFloor = false → s.fetchFrame h m = (t, .frame f) → fType f ≠ 15 → t.load (loadKey h m) = some j → exec (.panFrame h) s = .next ((t.laterFrame h m j f).freePort h m)) ∧
  (∀ (h : Fin 2) (m : Fin 3) (j : LoadJob) (k : List Byte) (s : State), s.load (loadKey h m) = some j → j.accepted = true → j.sigOk = none → s.moduleOf h = true → s.sec.pubkey = some k → exec (.panSignatureDone h m) s = .next (if Config.ecdsaVerifies k j.signedPart j.signature = false then s.failLoad h m 11 else if j.waitFloor = true ∧ s.atFloor h j.floor = true then s.completeLoad h m { j with sigOk := some true } else s.setLoad (loadKey h m) (some { j with sigOk := some true }))) ∧
  (∀ (h : Fin 2) (m : Nat) (j : LoadJob) (t : State) (f : List Byte) (s : State), s.portMaster h = some m → s.load (loadKey h m) = some j → j.accepted = true → j.waitFloor = false → j.sigOk = some true → s.fetchFrame h m = (t, .frame f) → fType f = 15 → t.load (loadKey h m) = some j → frameCause j f = none → framePayload 15 (fPayload f) = true → endCause j f = none → t.atFloor h j.floor = true → exec (.panLoadEnd h) s = .next ((t.completeLoad h m (j.note f false)).freePort h m)) ∧
  (∀ (h : Fin 2) (m : Fin 3) (j : LoadJob) (s : State), s.load (loadKey h m) = some j → j.waitFloor = true → j.sigOk = some true → s.atFloor h j.floor = true → exec (.panLoadFloorReached h m) s = .next (s.completeLoad h m j)) ∧
  (∀ (h : Fin 2) (m : Fin 3) (j : LoadJob) (s : State), s.load (loadKey h m) = some j → j.waitFloor = false → exec (.reconfigMasterStall h m) s = .next ((s.failLoad h m 14).abandonFrame h m)) ∧
  (∀ (h : Fin 2) (s : State), s.load (loadKey h 2) = none → s.agentFrame h ≠ [] → exec (.reconfigMasterStall h 2) s = .next (((s.setLoad (loadKey h 2) (some { pan := numAt (s.agentFrame h) 2 2 % 256 })).failLoad h 2 14).abandonFrame h 2))

/-- R361, R362, R376, R377: whose read or write of memory does what; the equation names the whole next state, so whatever it does not name
is as before. -/
def Obligations.MemoryAccesses : Prop :=
  (∀ (a : Agent) (addr : Dword) (n : Byte) (t : State) (l : List Byte) (bad : Bool) (g x : Nat) (s : State), s.asleep a = false → s.region (addr.toNat) = .hbm g x ∨ s.region (addr.toNat) = .scratch g x → s.mayEnter (agentHalf a) g = true → (s.entering (agentHalf a) g).scratchHeld (addr.toNat) = false → (s.entering (agentHalf a) g).agentMapped a addr.toNat n.toNat = true → (s.entering (agentHalf a) g).loadBytes addr.toNat n.toNat = some (t, l, bad) → (∀ k, a ≠ .link k) → (∀ k, a ≠ .core k) ∨ bad = false → exec (.memoryRead a addr n) s = .next (t.reply (.bytes l bad))) ∧
  (∀ (k : Fin 16) (addr : Dword) (n : Byte) (t : State) (l : List Byte) (bad : Bool) (g x : Nat) (s : State), s.asleep (.link k) = false → s.region addr.toNat = .hbm g x ∨ s.region addr.toNat = .scratch g x → s.mayEnter (k.val / 8) g = true → (s.entering (k.val / 8) g).scratchHeld addr.toNat = false → (s.entering (k.val / 8) g).agentMapped (.link k) addr.toNat n.toNat = true → (s.entering (k.val / 8) g).loadBytes addr.toNat n.toNat = some (t, l, bad) → exec (.memoryRead (.link k) addr n) s = .next (t.respond k l bad)) ∧
  (∀ (k : Fin 16) (addr : Dword) (n : Byte) (t : State) (l : List Byte) (g x : Nat) (s : State), s.region addr.toNat = .hbm g x ∨ s.region addr.toNat = .scratch g x → s.mayEnter (k.val / 8) g = true → (s.entering (k.val / 8) g).scratchHeld addr.toNat = false → (s.entering (k.val / 8) g).agentMapped (.core k) addr.toNat n.toNat = true → (s.entering (k.val / 8) g).loadBytes addr.toNat n.toNat = some (t, l, true) → (t.core k).live = true → exec (.memoryRead (.core k) addr n) s = .next ((t.poisonTrap k addr.toNat).reply (.bytes l true))) ∧
  (∀ (a : Agent) (addr : Dword) (n : Byte) (s : State), s.asleep a = false → (∃ p, s.region addr.toNat = .host p) ∨ s.region addr.toNat = .unmapped → s.scratchHeld addr.toNat = false → s.agentMapped a addr.toNat n.toNat = false → exec (.memoryRead a addr n) s = .next (s.unmappedOutcome a addr.toNat 0)) ∧
  (∀ (a : Agent) (addr : Dword) (data : List Byte) (g x : Nat) (s : State), s.asleep a = false → s.region (addr.toNat) = .hbm g x ∨ s.region (addr.toNat) = .scratch g x → s.mayEnter (agentHalf a) g = true → (s.entering (agentHalf a) g).scratchHeld (addr.toNat) = false → (s.entering (agentHalf a) g).agentMapped a addr.toNat data.length = true → exec (.memoryPartialWrite a addr data) s = .next (((s.entering (agentHalf a) g).storeBytes addr.toNat data).reply .done)) ∧
  (∀ (a : Agent) (addr : Dword) (data : Dword) (g x : Nat) (s : State), s.asleep a = false → s.region (addr.toNat / 8 * 8) = .hbm g x ∨ s.region (addr.toNat / 8 * 8) = .scratch g x → s.mayEnter (agentHalf a) g = true → (s.entering (agentHalf a) g).scratchHeld (addr.toNat / 8 * 8) = false → (s.entering (agentHalf a) g).agentMapped a (addr.toNat / 8 * 8) 8 = true → exec (.memoryFullWrite a addr data) s = .next (((s.entering (agentHalf a) g).storeBytes (addr.toNat / 8 * 8) (leBytes 8 data.toNat)).reply .done)) ∧
  (∀ (a : Agent) (addr : Dword) (kind : Fin 3) (s : State), s.asleep a = false → s.region addr.toNat = .unmapped → exec (.unmappedAccess a addr kind) s = .next (s.unmappedOutcome a addr.toNat kind))

/-- R371, R372, R378, R380 to R382, R386, R387, R389, R390; the equation names the whole next state, so whatever it does not name is as
before. -/
def Obligations.MemoryUpkeep : Prop :=
  (∀ (h sel : Fin 2) (upset : Bool) (s : State), s.scrubHalted h sel = false → s.scrubStopped h sel = false → s.memReady h sel = true → (s.scrubber (scrubKey h sel)).skip = false → exec (.scrubLine h sel false upset) s = .next (((s.visitLine h sel (s.scrubber (scrubKey h sel)).line).setScrubber (scrubKey h sel) { (s.scrubber (scrubKey h sel)) with line := (s.scrubber (scrubKey h sel)).line + 1, visited := (s.scrubber (scrubKey h sel)).visited + 1, sum := ((s.scrubber (scrubKey h sel)).sum + (s.scrubber (scrubKey h sel)).line) % 2 ^ 32 }).endPass h sel upset)) ∧
  (∀ (h sel : Fin 2) (upset : Bool) (s : State), s.scrubHalted h sel = false → s.scrubStopped h sel = false → s.memReady h sel = true → (s.scrubber (scrubKey h sel)).skip = false → s.lineCorrects h sel (s.scrubber (scrubKey h sel)).line = true → exec (.scrubLine h sel true upset) s = .next (((s.visitLine h sel (s.scrubber (scrubKey h sel)).line).setScrubber (scrubKey h sel) { (s.scrubber (scrubKey h sel)) with line := (s.scrubber (scrubKey h sel)).line + 1, visited := (s.scrubber (scrubKey h sel)).visited + 1, sum := ((s.scrubber (scrubKey h sel)).sum + (s.scrubber (scrubKey h sel)).line) % 2 ^ 32 }).haltScrub h sel 3)) ∧
  (∀ (h sel : Fin 2) (s : State), (s.scrubber (scrubKey h sel)).badPar = true → s.scrubHalted h sel = false → exec (.scrubParityCheck h sel) s = .next (s.haltScrub h sel 1)) ∧
  (∀ (h sel : Fin 2) (s : State), exec (.scrubRestart h sel) s = .next ((s.modScrubber (scrubKey h sel) Scrubber.restart).setFlds [(fHalt h sel, 0), (fRestart h sel, 0)])) ∧
  (∀ (h sel : Fin 2) (s : State), exec (.scrubEnable h sel true) s = .next ((((s.put (fEn h sel) true).repairPar h sel).modScrubber (scrubKey h sel) Scrubber.restart))) ∧
  (∀ (h sel : Fin 2) (s : State), exec (.scrubEnable h sel false) s = .next ((s.put (fEn h sel) false).repairPar h sel)) ∧
  (∀ (h sel : Fin 2) (word : Word) (bit : BitVec 7) (s : State), s.memInjectRefused h sel 0 word.toNat bit.toNat = false → exec (.memInjectFlip h sel word bit) s = .next (((s.setFlds [(F.MEM_INJECT_INJECT h, 0), (F.MEM_INJECT_INJ_KIND h, 0), (F.MEM_INJECT_TARGET h, sel), (F.MEM_INJECT_BIT h, bit.toNat)]).setReg (R.MEM_INJ_ADDR h) (BitVec.ofNat 32 word.toNat)).flipBits (memBase h sel / 8 + word.toNat) (2 ^ bit.toNat))) ∧
  (∀ (h sel : Fin 2) (word : Word) (bit : BitVec 7) (s : State), s.memInjectRefused h sel 1 word.toNat bit.toNat = false → exec (.memInjectFlipDouble h sel word bit) s = .next (((s.setFlds [(F.MEM_INJECT_INJECT h, 0), (F.MEM_INJECT_INJ_KIND h, 1), (F.MEM_INJECT_TARGET h, sel), (F.MEM_INJECT_BIT h, bit.toNat)]).setReg (R.MEM_INJ_ADDR h) (BitVec.ofNat 32 word.toNat)).flipBits (memBase h sel / 8 + word.toNat) (2 ^ bit.toNat + 2 ^ (bit.toNat + 1)))) ∧
  (∀ (h sel : Fin 2) (s : State), s.memInjectRefused h sel 2 (s.reg (R.MEM_INJ_ADDR h)).toNat (s.fld (F.MEM_INJECT_BIT h)) = false → exec (.memInjectSkipLine h sel) s = .next (((s.setFlds [(F.MEM_INJECT_INJECT h, 0), (F.MEM_INJECT_INJ_KIND h, 2), (F.MEM_INJECT_TARGET h, sel), (F.MEM_INJECT_BIT h, (s.fld (F.MEM_INJECT_BIT h)))]).setReg (R.MEM_INJ_ADDR h) (BitVec.ofNat 32 (s.reg (R.MEM_INJ_ADDR h)).toNat)).modScrubber (scrubKey h sel) fun x => { x with skip := true, injected := true })) ∧
  (∀ (h sel : Fin 2) (s : State), s.memInjectRefused h sel 3 (s.reg (R.MEM_INJ_ADDR h)).toNat (s.fld (F.MEM_INJECT_BIT h)) = false → exec (.memInjectParFlip h sel) s = .next (((s.setFlds [(F.MEM_INJECT_INJECT h, 0), (F.MEM_INJECT_INJ_KIND h, 3), (F.MEM_INJECT_TARGET h, sel), (F.MEM_INJECT_BIT h, (s.fld (F.MEM_INJECT_BIT h)))]).setReg (R.MEM_INJ_ADDR h) (BitVec.ofNat 32 (s.reg (R.MEM_INJ_ADDR h)).toNat)).modScrubber (scrubKey h sel) fun x => { x with badPar := !x.badPar, injected := true })) ∧
  (∀ (h : Fin 2) (s : State), exec (.memEccCeClear h) s = .next (s.setFlds [(F.MEM_ECC_STATUS_CE h, 0), (F.MEM_ECC_STATUS_CE_COUNT h, 0)])) ∧
  (∀ (h : Fin 2) (s : State), s.fld (F.MEM_HBM_STATUS_STATE h) = 0 → exec (.hbmTrainingDone h true) s = .next ((s.setFld F.CLK_STATUS_HBM_LOCK (putBits (s.fld F.CLK_STATUS_HBM_LOCK) h h 1)).setFld (F.MEM_HBM_STATUS_STATE h) 1)) ∧
  (∀ (h : Fin 2) (s : State), s.fld (F.MEM_HBM_STATUS_STATE h) = 0 → exec (.hbmTrainingDone h false) s = .next ((((s.setFld F.CLK_STATUS_HBM_LOCK (putBits (s.fld F.CLK_STATUS_HBM_LOCK) h h 1)).setFld (F.MEM_HBM_STATUS_STATE h) 2).raise { half := h, cls := ERROR, src := 9, code := 5, unit := 2 + h }).assertErr h)) ∧
  (∀ (h sel : Fin 2) (s : State), s.fillDone (scrubKey h sel) = false → s.memReady h sel = true → exec (.memoryFillDone h sel) s = .next ((s.clearMem (memBase h sel) (linesOf sel * 64)).setFillDone (scrubKey h sel) true))

/-- R291, R292, R295 to R298, R301, R302, R310. R305, R307, R318, R319; the unit and context of an injected report are free (Assumption
3). The equations name the whole next state, so whatever they do not name is as before. -/
def Obligations.SchedulerRun : Prop :=
  (∀ (h : Fin 2) (s : State), s.on (F.SCHED_CTL_HALT h) = false → (s.schedSettle h).mayDispatch h = true → exec (.dispatchRound h) s = .next ((s.schedSettle h).tryLevels h false 8)) ∧
  (∀ (h : Fin 2) (s : State), s.on (F.SCHED_CTL_HALT h) = true → exec (.dispatchRound h) s = .next (s.schedSettle h)) ∧
  (∀ (h : Fin 2) (s : State), s.on (F.SCHED_CTL_HALT h) = true → exec (.schedStep h) s = .next ((s.round h true).setFld (F.SCHED_CTL_STEP h) 0)) ∧
  (∀ (h : Fin 2) (number : BitVec 16) (r : Record) (w : Dword) (l : List Dword) (t : State) (s : State), (s.endCuts h).findRecord h (fun r => r.number == number.toNat && !r.unsent.isEmpty && ((s.endCuts h).sched h).cutting.all fun x => x.1 != r.dq) = some r → r.unsent = w :: l → (s.endCuts h).pushWord r.dq r.cls l.isEmpty w (dispKey h r.id) = (t, true) → exec (.schedDispatchPush h number) s = .next (t.modRecord h r.id fun y => { y with unsent := l })) ∧
  (∀ (d : Fin 1024) (cls : Bool) (w : QWord) (q : QBlock) (s : State), (s.queue d).kind = 2 → (s.queue d).sync = none → s.fabricEnd d = .writeEnd → (s.queue d).takeWord = some (cls, w, q) → (s.queue d).cut = false → w.last = false → exec (.schedCompletionPop d) s = .next ((((s.setQueue d q).noteDrained d false cls false).reply (.item w.data w.vb false false false false)).setPopped (halfOfQueue d) d (Bank.get (fun _ => []) ((((s.setQueue d q).noteDrained d false cls false).reply (.item w.data w.vb false false false false)).sched (halfOfQueue d)).popped d ++ [(w, false)]))) ∧
  (∀ (a : Agent) (k : Fin 16) (stores : List (BitVec 14 × Byte)) (s : State), s.asleep a = false → reachesWindow k a = true → exec (.dispatchDoneWrite a k stores) s = .next ((s.applyStores k stores).coreDone k)) ∧
  (∀ (a : Agent) (k : Fin 16) (off : BitVec 14) (write : Bool) (s : State), s.asleep a = false → reachesWindow k a = false → (agentHalf a != halfOfCore k && s.isSplit (agentHalf a)) = false → exec (.dispatchWindowMisuse a k off write) s = .next ((s.misuse a 5 (windowAddr k off.toNat)).reply (if write then .none else .word 0))) ∧
  (∀ (k : Fin 16) (s : State), exec (.preemptLimitExpiry k) s = .next (s.preemptLate k)) ∧
  (∀ (h : Fin 2) (g n p k f : Nat) (s : State), (s.sched h).reload = some (g, n, p, k) → (s.sched h).reloadEnd = some (0, f) → exec (.schedReloadComplete h) s = .next (((((s.modSched h fun c => { c with reload := none, reloadEnd := none }).setFld (F.SCHED_STATUS_LOADING h) 0).reloaded h g n p k).schedSettle h))) ∧
  (∀ (n : Fin 256) (s : State), ((s.sched (halfOfPan n)).ready.any fun e => e.work == .slice n.val) = true → exec (.slicePromote n) s = .next (s.modSched (halfOfPan n) fun c => { c with ready := (c.ready.filter fun e => e.work != .slice n.val) ++ [⟨7, .slice n.val⟩] })) ∧
  (∀ (id : BitVec 16) (l : Link) (t : Token) (r : List Token) (s : State), (s.links.find? fun l => l.id == id.toNat) = some l → l.transit = t :: r → s.tokensCross = true → exec (.crossHalfTokenArrive id) s = .next (((s.modLink l.id fun x => { x with transit := r }).arrive l.dstGraph l.dstNode l.dstPort l.srcGraph l.srcNode t l.id).settle)) ∧
  (∀ (h : Fin 2) (graph : Option (Fin 256)) (cores : Byte) (p : Stop) (s : State), ((s.sched h).stops.find? fun p => p.graph == graph.map (·.val) && p.cores == cores.toNat) = some p → exec (.schedDrainTimeout h graph cores) s = .next (s.timeoutStop h p)) ∧
  (∀ (h : Fin 2) (kind : Fin 8) (s : State), kind.val ≤ 5 → exec (.schedInject h kind) s = .next ((s.setFlds [(F.SCHED_INJECT_INJECT h, 0), (F.SCHED_INJECT_INJ_KIND h, kind)]).useFree.raise { half := h, cls := schedKindClass kind, src := 6, code := kind + 1, unit := h * 256 + (s.setFlds [(F.SCHED_INJECT_INJECT h, 0), (F.SCHED_INJECT_INJ_KIND h, kind)]).freeVal % 256, ctx := (s.setFlds [(F.SCHED_INJECT_INJECT h, 0), (F.SCHED_INJECT_INJ_KIND h, kind)]).freeVal, inj := true })) ∧
  (∀ (h : Fin 2) (kind : Fin 8) (s : State), 5 < kind.val → exec (.schedInject h kind) s = .next ((s.setFlds [(F.SCHED_INJECT_INJECT h, 0), (F.SCHED_INJECT_INJ_KIND h, kind)]).setFld (F.SCHED_INJECT_INJ_REFUSED h) 1)) ∧
  (∀ (h : Fin 2) (s : State), exec (.schedCountsClear h) s = .next (s.setFlds [(F.SCHED_COUNTS_READY_WAITS h, 0), (F.SCHED_COUNTS_DISPATCH_WAITS h, 0), (F.SCHED_COUNTS_NOTES_DROPPED h, 0)]))

/-- R333, R334, R338 to R340, R342, R344; the trap value of an illegal instruction is free (Assumption 3); the equation names the whole
next state, so whatever it does not name is as before. -/
def Obligations.CoprocessorOps : Prop :=
  (∀ (k : Fin 16) (w : Word) (s : State), (s.core k).live = true → s.isHalted k = false → isCustom01 w.toNat = true → isCustom23 w.toNat = false → s.copPermitted k = true → (s.core k).outstanding < 8 → (s.core k).owes (bitsOf w.toNat 19 15) = false → (s.core k).owes (bitsOf w.toNat 24 20) = false → bitsOf w.toNat 6 0 = 0x0B → exec (.copIssue k w) s = .next (s.issueCop k w.toNat false)) ∧
  (∀ (k : Fin 16) (w : Word) (s : State), (s.core k).live = true → s.isHalted k = false → isCustom01 w.toNat = true → isCustom23 w.toNat = false → s.copPermitted k = true → (s.core k).ops = [] → (s.core k).kills.length < 8 → bitsOf w.toNat 6 0 = 0x2B → exec (.copIssue k w) s = .next (s.issueCop k w.toNat true)) ∧
  (∀ (k : Fin 16) (w : Word) (x : Nat) (s : State), (s.core k).live = true → s.isHalted k = false → isCustom01 w.toNat = true → isCustom23 w.toNat = false → s.copPermitted k = true → (s.core k).ops = [] → (s.core k).kills = [] → bitsOf w.toNat 6 0 = 0x2B → s.copRefusal k true = some x → exec (.copIssue k w) s = .next (((s.addOp k { effecting := true, rd := bitsOf w.toNat 11 7, pc := (s.core k).pc, fault := some (x, 0) }).setFld (F.TCORE_COP_STATUS_LAST_DETAIL k) x).copSettle k)) ∧
  (∀ (k : Fin 16) (w : Word) (s : State), (s.core k).live = true → s.isHalted k = false → (s.core k).ops = [] → isCustom01 w.toNat = true → s.copPermitted k = false → exec (.copIssue k w) s = .next (s.useFree.coreTrap k 2 s.freeVal (s.core k).pc)) ∧
  (∀ (k : Fin 16) (s : State), s.on (F.TCORE_COP_BIND_EN k) = true → (s.queue (s.rspQ k)).hasPacket = true → exec (.copResponse k) s = .next ((s.popResponse k).copSettle k)) ∧
  (∀ (k : Fin 16) (rid : BitVec 16) (s : State), s.fld (F.TCORE_COP_CFG_TIMEOUT_US k) = 0 → exec (.copTimeout k rid) s = .next (s)) ∧
  (∀ (k : Fin 16) (n : Fin 8) (target : Dword) (s : State), (s.core k).live = true → (((s.core k).ops.drop n).any (·.effecting)) = false → exec (.copSquash k n target) s = .next (((s.squashFrom k n).modCore k fun x => { x with pc := target }).copSettle k)) ∧
  (∀ (k : Fin 16) (s : State), (s.core k).draining = true → exec (.copUnbindTimeout k) s = .next (s.cutUnbind k)) ∧
  (∀ (k : Fin 16) (s : State), exec (.copStrayClear k) s = .next (s.setFlds [(F.TCORE_COP_STATUS_STRAY k, 0), (F.TCORE_COP_STATUS_STRAY_COUNT k, 0)])) ∧
  (∀ (k : Fin 16) (rid : BitVec 16) (s : State), s.fld (F.TCORE_COP_CFG_TIMEOUT_US k) ≠ 0 → (s.core k).ops.any (fun o : CopOp => o.rid == rid.toNat && o.sent) = true → exec (.copTimeout k rid) s = .next (((((s.setCore k { s.core k with ops := (s.core k).ops.map fun o => if (fun o : CopOp => o.rid == rid.toNat && o.sent) o then { o with fault := some (5, 0) } else o, kills := (s.core k).kills.filter fun x => !(x.rid == rid.toNat && !x.held) }).setFld (F.TCORE_COP_STATUS_LAST_DETAIL k) 5).faultAll k 7).setCop k FAULTED).copSettle k))

/-- R325, R326, R352, R355, R360; a store moves the pc by a free 2 or 4 (Assumption 3); the equation names the whole next state, so
whatever it does not name is as before. -/
def Obligations.CoreEvents : Prop :=
  (∀ (a k : Fin 16) (high : Bool) (v : Word) (s : State), (s.core a).live = true → s.isHalted a = false → (s.core a).ops = [] → (s.core a).prv = 3 → exec (.mtimecmpWrite a k high v) s = .next (((s.writeMtimecmp k high v.toNat).useFree).modCore a fun x => { x with pc := x.pc + (if s.freeVal % 2 = 0 then 4 else 2) })) ∧
  (∀ (a k : Fin 16) (v : Bool) (s : State), (s.core a).live = true → s.isHalted a = false → (s.core a).ops = [] → (s.core a).prv = 3 → exec (.msipWrite a k v) s = .next (((s.writeMsip k v).useFree).modCore a fun x => { x with pc := x.pc + (if s.freeVal % 2 = 0 then 4 else 2) })) ∧
  (∀ (a k : Fin 16) (v : Bool) (s : State), (s.core a).live = true → s.isHalted a = false → (s.core a).ops = [] → (s.core a).prv ≠ 3 → exec (.msipWrite a k v) s = .next (s.coreTrap a 7 (R.TCORE_MSIP k) (s.core a).pc)) ∧
  (∀ (k : Fin 16) (s : State), s.mtimecmp k ≤ s.mtime → exec (.machineTimerExpiry k) s = .next (s.attend k)) ∧
  (∀ (k : Fin 16) (s : State), s.mtime < s.mtimecmp k → exec (.machineTimerExpiry k) s = .next (s)) ∧
  (∀ (k : Fin 16) (target : Fin 3) (addr : Dword) (s : State), (s.core k).live = true → exec (.coreCacheCheck k target addr false) s = .next (s.cacheCheck k target addr.toNat)) ∧
  (∀ (k : Fin 16) (target : Fin 3) (addr : Dword) (s : State), (s.core k).live = true → (s.core k).holds (addr.toNat / 64) ≠ 0 → exec (.coreCacheCheck k target addr true) s = .next ((if target.val < 2 then s.fillL1 k target (addr.toNat / 64) else s.fillLine k 2 (addr.toNat / 64)).cacheCheck k target addr.toNat)) ∧
  (∀ (k : Fin 16) (s : State), exec (.coreCeClear k) s = .next (s.setFlds [(F.TCORE_STATUS_CE k, 0), (F.TCORE_STATUS_CE_COUNT k, 0)])) ∧
  (∀ (k : Fin 16) (target : Fin 4) (double : Bool) (s : State), target.val ≠ 3 → (s.core k).live = true → double = false ∨ target.val ≠ 0 → exec (.tcoreInject k target double) s = .next (((s.setFlds [(F.TCORE_INJECT_TARGET k, target), (F.TCORE_INJECT_DOUBLE k, bnat double)]).setFld (F.TCORE_INJECT_INJECT k) 1).modCore k fun x => { x with inject := some (target, double) })) ∧
  (∀ (k : Fin 16) (target : Fin 4) (double : Bool) (s : State), target.val = 3 ∨ (s.core k).live = false → exec (.tcoreInject k target double) s = .next ((s.setFlds [(F.TCORE_INJECT_TARGET k, target), (F.TCORE_INJECT_DOUBLE k, bnat double)]).setFlds [(F.TCORE_INJECT_INJECT k, 0), (F.TCORE_INJECT_INJ_REFUSED k, 1)])) ∧
  (∀ (h : Fin 2) (s : State), exec (.mgmtLockstepMismatch h) s = .next (((s.mgmtStops h).setIsRestarting h true).raise { half := h, cls := FATAL, src := 8, code := 1, unit := h, ctx := s.patchVersion h })) ∧
  (∀ (h : Fin 2) (s : State), s.isRestarting h = true → exec (.mgmtRestartDone h) s = .next (((s.setIsRestarting h false).raise { half := h, cls := NOTICE, src := 8, code := 2, unit := h, ctx := s.patchVersion h }).each (List.range 16) fun l u => if l / 8 = h || u.causewayUp h then u.mbxEvent l 3 else u))

/-- R393, R395, R396, R411, R420, R422, R423, R425, R429, R431; the equation names the whole next state, so whatever it does not name is
as before. -/
def Obligations.LinkEvents : Prop :=
  (∀ (l : Fin 16) (fec : Bool) (s : State), s.linkUp l = true → s.fld (F.LINK_STATUS_FRAMING (l / 4) (l % 4)) ≠ 0 → (s.hostLink l).armCrc = false → (s.hostLink l).armFec = false → exec (.flitReceive l fec true) s = .next ((s.modHostLink l fun y => { y with armFec := false, armCrc := false, config := { y.config with power := if y.config.power = .l0p then .l0p else .l0 } }).crcFailure l false)) ∧
  (∀ (l : Fin 16) (fec crc : Bool) (s : State), s.linkUp l = true → s.fld (F.LINK_STATUS_FRAMING (l / 4) (l % 4)) ≠ 0 → (s.hostLink l).armCrc = true → exec (.flitReceive l fec crc) s = .next (((s.modHostLink l fun y => { y with armFec := false, armCrc := false, config := { y.config with power := if y.config.power = .l0p then .l0p else .l0 } }).portInjectBit l).crcFailure l true)) ∧
  (∀ (l : Fin 16) (fec : Bool) (s : State), s.linkUp l = true → s.fld (F.LINK_STATUS_FRAMING (l / 4) (l % 4)) ≠ 0 → (s.hostLink l).armCrc = false → (s.hostLink l).armFec = true → exec (.flitReceive l fec false) s = .next ((((s.modHostLink l fun y => { y with armFec := false, armCrc := false, config := { y.config with power := if y.config.power = .l0p then .l0p else .l0 } }).portInjectBit l).modHostLink l fun y => { y with replay := y.replay - 1 }).count (F.LINK_FEC_COUNT (l / 4) (l % 4)) none)) ∧
  (∀ (l : Fin 16) (s : State), s.linkUp l = true → s.fld (F.LINK_STATUS_FRAMING (l / 4) (l % 4)) ≠ 0 → (s.hostLink l).armCrc = false → (s.hostLink l).armFec = false → exec (.flitReceive l false false) s = .next ((s.modHostLink l fun y => { y with armFec := false, armCrc := false, config := { y.config with power := if y.config.power = .l0p then .l0p else .l0 } }).modHostLink l fun y => { y with replay := y.replay - 1 })) ∧
  (∀ (l : Fin 16) (s : State), s.linkUp l = true → s.fld (F.LINK_STATUS_FRAMING (l / 4) (l % 4)) ≠ 0 → (s.hostLink l).armCrc = false → (s.hostLink l).armFec = false → exec (.flitReceive l true false) s = .next (((s.modHostLink l fun y => { y with armFec := false, armCrc := false, config := { y.config with power := if y.config.power = .l0p then .l0p else .l0 } }).modHostLink l fun y => { y with replay := y.replay - 1 }).count (F.LINK_FEC_COUNT (l / 4) (l % 4)) none)) ∧
  (∀ (l : Fin 16) (s : State), s.linkUp l = true → (((s.count (F.LINK_ERRCNT_RETRAIN (l / 4) (l % 4)) none).hostLink l).rollovers.filter (fun a => decide ((s.count (F.LINK_ERRCNT_RETRAIN (l / 4) (l % 4)) none).ns.toNat < a + 1000000000)) ++ [(s.count (F.LINK_ERRCNT_RETRAIN (l / 4) (l % 4)) none).ns.toNat]).length < 4 → exec (.replayRollover l) s = .next (((s.count (F.LINK_ERRCNT_RETRAIN (l / 4) (l % 4)) none).modHostLink l fun x => { x with rollovers := (((s.count (F.LINK_ERRCNT_RETRAIN (l / 4) (l % 4)) none).hostLink l).rollovers.filter (fun a => decide ((s.count (F.LINK_ERRCNT_RETRAIN (l / 4) (l % 4)) none).ns.toNat < a + 1000000000)) ++ [(s.count (F.LINK_ERRCNT_RETRAIN (l / 4) (l % 4)) none).ns.toNat]) }).setLinkState l L_TRAINING)) ∧
  (∀ (l : Fin 16) (s : State), s.linkUp l = true → 4 ≤ (((s.count (F.LINK_ERRCNT_RETRAIN (l / 4) (l % 4)) none).hostLink l).rollovers.filter (fun a => decide ((s.count (F.LINK_ERRCNT_RETRAIN (l / 4) (l % 4)) none).ns.toNat < a + 1000000000)) ++ [(s.count (F.LINK_ERRCNT_RETRAIN (l / 4) (l % 4)) none).ns.toNat]).length → exec (.replayRollover l) s = .next (((((s.count (F.LINK_ERRCNT_RETRAIN (l / 4) (l % 4)) none).modHostLink l fun x => { x with rollovers := [] }).portReport l ERROR 3 0).loseLink l).clearLink l L_HOLD)) ∧
  (∀ (l : Fin 16) (s : State), s.linkState l = L_HOLD → exec (.linkHoldEnd l) s = .next (s.retrain l)) ∧
  (∀ (l : Fin 16) (s : State), s.linkUp l = true → exec (.linkLoss l) s = .next ((s.loseLink l).retrain l)) ∧
  (∀ (l : Fin 16) (s : State), s.linkExists l = true → s.warm = none → s.linkState l ≠ L_IDLE → exec (.perPortReset l) s = .next (s.resetLink l)) ∧
  (∀ (l : Fin 16) (s : State), (s.hostLink l).drain.isSome = true → exec (.portDrainTimeout l) s = .next (s.timeoutLink l)) ∧
  (∀ (l : Fin 16) (stream : Fin 6) (s : State), bitOf (s.hostLink l).secure stream = true → exec (.ideIntegrityFail l stream) s = .next (s.ideFail l stream false)) ∧
  (∀ (l : Fin 16) (requester xid : BitVec 16) (s : State), (s.hostLink l).assemblies.any (fun x : Assembly => x.requester == requester.toNat && x.xid == xid.toNat) = true → exec (.vdmReassemblyTimeout l requester xid) s = .next ((s.modHostLink l fun k => { k with assemblies := k.assemblies.filter fun x => !(fun x : Assembly => x.requester == requester.toNat && x.xid == xid.toNat) x }).portReport l NOTICE 8 0)) ∧
  (∀ (p l : Fin 4) (s : State), s.linkUp (4 * p + l) = true → s.fld (F.LINK_STATUS_FRAMING p l) ≠ 0 → exec (.portInjectFec p l) s = .next ((((s.setFlds [(F.PORT_INJECT_INJ_KIND p, 0), (F.PORT_INJECT_INJ_LINK p, l)]).portInjectBit (4 * p + l)).modHostLink (4 * p + l) fun x => { x with armFec := true }).portInjectBit (4 * p + l))) ∧
  (∀ (p l : Fin 4) (s : State), s.linkUp (4 * p + l) = true → s.fld (F.LINK_STATUS_FRAMING p l) ≠ 0 → exec (.portInjectCrc p l) s = .next ((((s.setFlds [(F.PORT_INJECT_INJ_KIND p, 1), (F.PORT_INJECT_INJ_LINK p, l)]).portInjectBit (4 * p + l)).modHostLink (4 * p + l) fun x => { x with armCrc := true }).portInjectBit (4 * p + l))) ∧
  (∀ (p l : Fin 4) (s : State), s.linkUp (4 * p + l) = true → exec (.portInjectReplay p l) s = .next (((s.setFlds [(F.PORT_INJECT_INJ_KIND p, 2), (F.PORT_INJECT_INJ_LINK p, l)]).portInjectBit (4 * p + l)).portReport (4 * p + l) ERROR 3 0 true)) ∧
  (∀ (p l : Fin 4) (s : State), s.linkUp (4 * p + l) = true → exec (.portInjectPoison p l) s = .next ((((s.setFlds [(F.PORT_INJECT_INJ_KIND p, 3), (F.PORT_INJECT_INJ_LINK p, l)]).portInjectBit (4 * p + l)).modHostLink (4 * p + l) fun x => { x with armPoison := true }).portInjectBit (4 * p + l))) ∧
  (∀ (l : Fin 16) (s : State), exec (.errcntClear l) s = .next (s.setFlds [(F.LINK_ERRCNT_CRC (l / 4) (l % 4), 0), (F.LINK_ERRCNT_RETRAIN (l / 4) (l % 4), 0), (F.LINK_FEC_COUNT (l / 4) (l % 4), 0)]))

/-- R393, R394, R430; the equation names the whole next state, so whatever it does not name is as before. -/
def Obligations.LinkTraining : Prop :=
  (∀ (l : Fin 16) (rate : Fin 6) (width : Fin 5) (framing : Fin 4) (s : State), s.linkState l = L_TRAINING → s.linkExists l = true → s.personality l = 0 → 2 ≤ rate.val → 2 ≤ s.maxRate (l / 4) → s.lanesOf l ≤ 2 ^ width.val → (s.hostLink l).memOff = false → (s.hostLink l).viral = false → exec (.linkTrainingDone l rate width framing false) s = .next (s.setFlds [(F.LINK_STATUS_RATE (l / 4) (l % 4), min rate.val (s.maxRate (l / 4))), (F.LINK_STATUS_WIDTH (l / 4) (l % 4), s.lanesOf l), (F.LINK_STATUS_FRAMING (l / 4) (l % 4), framing.val), (F.LINK_STATUS_CXL (l / 4) (l % 4), 0), (F.LINK_STATUS_DEGRADED (l / 4) (l % 4), 0), (F.LINK_STATUS_STATE (l / 4) (l % 4), L_UP), (F.CLK_STATUS_SERDES_LOCK, putBits (s.fld F.CLK_STATUS_SERDES_LOCK) (l / 4) (l / 4) 1)]))

/-- R401, R402, R404, R409, R416; the equation names the whole next state, so whatever it does not name is as before. -/
def Obligations.HostAccesses : Prop :=
  (∀ (l : Fin 16) (dpa : Dword) (d : BitVec 512) (poison : Bool) (e : Extent) (g x : Nat) (s : State), s.asleep (.link l) = false → s.region (HBM_BASE e.half + e.off + (dpa.toNat / 64 * 64 - e.dpa)) = .hbm g x ∨ s.region (HBM_BASE e.half + e.off + (dpa.toNat / 64 * 64 - e.dpa)) = .scratch g x → s.mayEnter (l.val / 8) g = true → s.cxlLink l = true → s.turnedAway l = false → (s.hostLink l).memOff = false → bitOf (s.hostLink l).refusing 5 = false → s.extentFor l (dpa.toNat / 64 * 64) = some e → e.kind = 0 → s.reaches (l / 8) (HBM_BASE e.half + e.off + (dpa.toNat / 64 * 64 - e.dpa)) 64 = true → (s.entering (l.val / 8) g).scratchHeld (HBM_BASE e.half + e.off + (dpa.toNat / 64 * 64 - e.dpa)) = false → (s.entering (l.val / 8) g).agentMapped (.link l) (HBM_BASE e.half + e.off + (dpa.toNat / 64 * 64 - e.dpa)) 64 = true → exec (.cxlMemRequest l dpa (some d) poison) s = .next ((s.entering (l.val / 8) g).hostStore (HBM_BASE e.half + e.off + (dpa.toNat / 64 * 64 - e.dpa)) (leBytes 64 d.toNat) poison)) ∧
  (∀ (l : Fin 16) (dpa : Dword) (poison : Bool) (e : Extent) (t : State) (b : List Byte) (bad : Bool) (g x : Nat) (s : State), s.asleep (.link l) = false → s.region (HBM_BASE e.half + e.off + (dpa.toNat / 64 * 64 - e.dpa)) = .hbm g x ∨ s.region (HBM_BASE e.half + e.off + (dpa.toNat / 64 * 64 - e.dpa)) = .scratch g x → s.mayEnter (l.val / 8) g = true → s.cxlLink l = true → s.turnedAway l = false → (s.hostLink l).memOff = false → bitOf (s.hostLink l).refusing 5 = false → s.extentFor l (dpa.toNat / 64 * 64) = some e → e.kind = 0 → s.reaches (l / 8) (HBM_BASE e.half + e.off + (dpa.toNat / 64 * 64 - e.dpa)) 64 = true → (s.entering (l.val / 8) g).scratchHeld (HBM_BASE e.half + e.off + (dpa.toNat / 64 * 64 - e.dpa)) = false → (s.entering (l.val / 8) g).agentMapped (.link l) (HBM_BASE e.half + e.off + (dpa.toNat / 64 * 64 - e.dpa)) 64 = true → (s.entering (l.val / 8) g).loadBytes (HBM_BASE e.half + e.off + (dpa.toNat / 64 * 64 - e.dpa)) 64 = some (t, b, bad) → exec (.cxlMemRequest l dpa none poison) s = .next (t.respond l b bad)) ∧
  (∀ (l : Fin 16) (off : BitVec 25) (b : List Byte) (n : Byte) (poison : Bool) (g x : Nat) (s : State), s.asleep (.link l) = false → s.region (bar2Addr off.toNat) = .hbm g x ∨ s.region (bar2Addr off.toNat) = .scratch g x → s.mayEnter (l.val / 8) g = true → s.linkUp l = true → s.turnedAway l = false → (s.entering (l.val / 8) g).scratchHeld (bar2Addr off.toNat) = false → (s.entering (l.val / 8) g).agentMapped (.link l) (bar2Addr off.toNat) b.length = true → exec (.bar2Access l off (some b) n poison) s = .next ((s.entering (l.val / 8) g).hostStore (bar2Addr off.toNat) b poison)) ∧
  (∀ (l : Fin 16) (off : BitVec 25) (n : Byte) (poison : Bool) (t : State) (b : List Byte) (bad : Bool) (g x : Nat) (s : State), s.asleep (.link l) = false → s.region (bar2Addr off.toNat) = .hbm g x ∨ s.region (bar2Addr off.toNat) = .scratch g x → s.mayEnter (l.val / 8) g = true → s.linkUp l = true → s.turnedAway l = false → (s.entering (l.val / 8) g).scratchHeld (bar2Addr off.toNat) = false → (s.entering (l.val / 8) g).agentMapped (.link l) (bar2Addr off.toNat) n.toNat = true → (s.entering (l.val / 8) g).loadBytes (bar2Addr off.toNat) n.toNat = some (t, b, bad) → exec (.bar2Access l off none n poison) s = .next (t.respond l b bad)) ∧
  (∀ (l : Fin 16) (off : BitVec 20) (write : Bool) (s : State), s.asleep (.link l) = false → s.bar0Content l off.toNat = false → exec (.bar0Misuse l off write) s = .next ((s.misuse (.link l) 4 off.toNat).reply (if write then .none else .word 0))) ∧
  (∀ (l : Fin 16) (k : Fin 16) (addr : Dword) (s : State), ((s.portReport l ERROR 4 0).core k).live = true → exec (.completionTimeout l (.core k) addr) s = .next (((s.portReport l ERROR 4 0).coreTrap k 5 addr.toNat ((s.portReport l ERROR 4 0).core k).pc).reply .abort)) ∧
  (∀ (l : Fin 16) (h : Fin 2) (addr : Dword) (s : State), exec (.completionTimeout l (.mgmt h) addr) s = .next ((s.portReport l ERROR 4 0).reply (.bytes (List.replicate 8 0) true))) ∧
  (∀ (l : Fin 16) (a : Agent) (slot : Fin 32) (off : Fin 128) (data : List Byte) (s : State), s.asleep a = false → s.linkExists l = true → reachesMailbox l a = true → bitOf (s.reg (R.MBX_BUSY (l / 4) (l % 4))).toNat slot = false → exec (.mailboxSlotWrite l a slot off data) s = .next (s.setSlot l slot off (data.take (128 - off)))) ∧
  (∀ (l : Fin 16) (a : Agent) (slot : Fin 32) (off : Fin 128) (data : List Byte) (s : State), s.asleep a = false → s.linkExists l = true → reachesMailbox l a = true → bitOf (s.reg (R.MBX_BUSY (l / 4) (l % 4))).toNat slot = true → exec (.mailboxSlotWrite l a slot off data) s = .next ((s.setFld (F.MBX_STATUS_WRITE_REFUSED (l / 4) (l % 4)) 1).misuse a 7 (slotAddr l slot off)))

/-- R400, with the codes of Assumption 12 (PRESUMED); the equation names the whole next state, so whatever it does not name is as before.
-/
def Obligations.CxlMailbox : Prop :=
  (∀ (l : Fin 16) (s : State), s.asleep (.link l) = false → s.linkUp l = true → s.personality l ≠ 0 → exec (.cxlIdentify l) s = .next (s.cxlReply l 0x0001 CXL_SUCCESS [Config.vendor, Config.serial])) ∧
  (∀ (l : Fin 16) (s : State), s.asleep (.link l) = false → s.linkUp l = true → s.personality l ≠ 0 → exec (.cxlIdentifyMemoryDevice l) s = .next (s.cxlReply l 0x4000 CXL_SUCCESS [s.capacity l])) ∧
  (∀ (l : Fin 16) (s : State), s.asleep (.link l) = false → s.linkUp l = true → s.personality l ≠ 0 → exec (.getSupportedLogs l) s = .next (s.cxlReply l 0x0400 CXL_SUCCESS [1, CEL_UUID, effectsLog.length])) ∧
  (∀ (l : Fin 16) (log : BitVec 128) (offset len : Word) (s : State), s.asleep (.link l) = false → s.linkUp l = true → s.personality l ≠ 0 → log.toNat = CEL_UUID → offset.toNat + len.toNat ≤ effectsLog.length → exec (.getLog l log offset len) s = .next (s.cxlReply l 0x0401 CXL_SUCCESS (((effectsLog.drop offset.toNat).take len.toNat).map (·.toNat)))) ∧
  (∀ (l : Fin 16) (log : Byte) (s : State), s.asleep (.link l) = false → s.linkUp l = true → s.personality l ≠ 0 → exec (.getEventRecords l log) s = .next (s.cxlReply l 0x0100 CXL_SUCCESS (((s.hostLink l).events.filter fun e => e.log == log.toNat).map (·.dpa)))) ∧
  (∀ (l : Fin 16) (log n : Byte) (s : State), s.asleep (.link l) = false → s.linkUp l = true → s.personality l ≠ 0 → exec (.clearEventRecords l log n) s = .next ((s.modHostLink l fun k => { k with events := ((s.hostLink l).events.filter fun e => e.log != log.toNat) ++ ((s.hostLink l).events.filter fun e => e.log == log.toNat).drop n.toNat }).cxlReply l 0x0101 CXL_SUCCESS [])) ∧
  (∀ (l : Fin 16) (dpa len : Dword) (s : State), s.asleep (.link l) = false → s.linkUp l = true → s.personality l ≠ 0 → exec (.getPoisonList l dpa len) s = .next (s.cxlReply l 0x4300 CXL_SUCCESS ((s.poisonList l).filter fun d => decide (dpa.toNat ≤ d) && decide (d < dpa.toNat + len.toNat)))) ∧
  (∀ (l : Fin 16) (s : State), s.asleep (.link l) = false → s.linkUp l = true → s.personality l ≠ 0 → exec (.getHealthInfo l) s = .next (s.cxlReply l 0x4200 CXL_SUCCESS [uns 16 (s.deviceTj / 8), 0])) ∧
  (∀ (l : Fin 16) (s : State), s.asleep (.link l) = false → s.linkUp l = true → s.personality l ≠ 0 → exec (.getTimestamp l) s = .next (s.cxlReply l 0x0300 CXL_SUCCESS [match (s.hostLink l).timestamp with | some (v, n) => (v + (s.ns.toNat - n)) % 2 ^ 64 | none => 0])) ∧
  (∀ (l : Fin 16) (v : Dword) (s : State), s.asleep (.link l) = false → s.linkUp l = true → s.personality l ≠ 0 → exec (.setTimestamp l v) s = .next ((s.modHostLink l fun k => { k with timestamp := some (v.toNat, s.ns.toNat) }).cxlReply l 0x0301 CXL_SUCCESS [])) ∧
  (∀ (l : Fin 16) (opcode : BitVec 16) (s : State), s.asleep (.link l) = false → s.linkUp l = true → s.personality l ≠ 0 → cxlOpcodes.contains opcode.toNat = false → exec (.cxlUnsupportedOpcode l opcode) s = .next (s.cxlReply l opcode.toNat CXL_UNSUPPORTED []))

/-- R437, R454: who asks which engine; what the lookup does is the rule table's. R404, R453, R454. The equations name the whole next
state, so whatever they do not name is as before. -/
def Obligations.CoherenceRequests : Prop :=
  (∀ (k : Fin 16) (line : BitVec 58) (h role : Nat) (s : State), ((s.core k).holds line.toNat != 0 || (s.core k).fills.contains line.toNat) = true → s.xhomeBlocked (k / 8) (lineAddr line.toNat) = false → s.engineOf (k / 8) line.toNat = some (h, role) → s.mayEnter (k.val / 8) h = true → k.val / 8 = h ∨ s.inputHolds h { role := role, ev := 0, line := line.toNat, who := k.val, data := none } = false → exec (.coreRd k line) s = .next (((s.entering (k.val / 8) h).cohRequest h { role := role, ev := 0, line := line.toNat, who := k.val, data := none }).cohSettle h)) ∧
  (∀ (k : Fin 16) (line : BitVec 58) (h role : Nat) (s : State), (s.engineOf (k / 8) line.toNat).isSome = true → (s.core k).holds line.toNat = 0 → (s.core k).fills.contains line.toNat = false → ((s.core k).l2Held line.toNat).length + ((s.core k).l2Asked line.toNat).length < cacheWays 2 → (s.modCore k fun x => { x with fills := x.fills ++ [line.toNat] }).xhomeBlocked (k / 8) (lineAddr line.toNat) = false → (s.modCore k fun x => { x with fills := x.fills ++ [line.toNat] }).engineOf (k / 8) line.toNat = some (h, role) → (s.modCore k fun x => { x with fills := x.fills ++ [line.toNat] }).mayEnter (k.val / 8) h = true → k.val / 8 = h ∨ (s.modCore k fun x => { x with fills := x.fills ++ [line.toNat] }).inputHolds h { role := role, ev := 0, line := line.toNat, who := k.val, data := none } = false → exec (.coreRd k line) s = .next ((((s.modCore k fun x => { x with fills := x.fills ++ [line.toNat] }).entering (k.val / 8) h).cohRequest h { role := role, ev := 0, line := line.toNat, who := k.val, data := none }).cohSettle h)) ∧
  (∀ (k : Fin 16) (line : BitVec 58) (h role : Nat) (s : State), ((s.core k).holds line.toNat != 0 || (s.core k).fills.contains line.toNat) = true → s.xhomeBlocked (k / 8) (lineAddr line.toNat) = false → s.engineOf (k / 8) line.toNat = some (h, role) → s.mayEnter (k.val / 8) h = true → k.val / 8 = h ∨ s.inputHolds h { role := role, ev := 1, line := line.toNat, who := k.val, data := none } = false → exec (.coreOwn k line) s = .next (((s.entering (k.val / 8) h).cohRequest h { role := role, ev := 1, line := line.toNat, who := k.val, data := none }).cohSettle h)) ∧
  (∀ (k : Fin 16) (line : BitVec 58) (h role : Nat) (s : State), (s.engineOf (k / 8) line.toNat).isSome = true → (s.core k).holds line.toNat = 0 → (s.core k).fills.contains line.toNat = false → ((s.core k).l2Held line.toNat).length + ((s.core k).l2Asked line.toNat).length < cacheWays 2 → (s.modCore k fun x => { x with fills := x.fills ++ [line.toNat] }).xhomeBlocked (k / 8) (lineAddr line.toNat) = false → (s.modCore k fun x => { x with fills := x.fills ++ [line.toNat] }).engineOf (k / 8) line.toNat = some (h, role) → (s.modCore k fun x => { x with fills := x.fills ++ [line.toNat] }).mayEnter (k.val / 8) h = true → k.val / 8 = h ∨ (s.modCore k fun x => { x with fills := x.fills ++ [line.toNat] }).inputHolds h { role := role, ev := 1, line := line.toNat, who := k.val, data := none } = false → exec (.coreOwn k line) s = .next ((((s.modCore k fun x => { x with fills := x.fills ++ [line.toNat] }).entering (k.val / 8) h).cohRequest h { role := role, ev := 1, line := line.toNat, who := k.val, data := none }).cohSettle h)) ∧
  (∀ (k : Fin 16) (line : BitVec 58) (data : BitVec 512) (h role : Nat) (s : State), (s.coreDrops k line.toNat).xhomeBlocked (k / 8) (lineAddr line.toNat) = false → (s.coreDrops k line.toNat).engineOf (k / 8) line.toNat = some (h, role) → (s.coreDrops k line.toNat).mayEnter (k.val / 8) h = true → k.val / 8 = h ∨ (s.coreDrops k line.toNat).inputHolds h { role := role, ev := 2, line := line.toNat, who := k.val, data := some data } = false → exec (.coreWb k line data) s = .next ((((s.coreDrops k line.toNat).entering (k.val / 8) h).cohRequest h { role := role, ev := 2, line := line.toNat, who := k.val, data := some data }).cohSettle h)) ∧
  (∀ (k : Fin 16) (line : BitVec 58) (h role : Nat) (s : State), (s.coreDrops k line.toNat).xhomeBlocked (k / 8) (lineAddr line.toNat) = false → (s.coreDrops k line.toNat).engineOf (k / 8) line.toNat = some (h, role) → (s.coreDrops k line.toNat).mayEnter (k.val / 8) h = true → k.val / 8 = h ∨ (s.coreDrops k line.toNat).inputHolds h { role := role, ev := 3, line := line.toNat, who := k.val, data := none } = false → exec (.coreEvict k line) s = .next ((((s.coreDrops k line.toNat).entering (k.val / 8) h).cohRequest h { role := role, ev := 3, line := line.toNat, who := k.val, data := none }).cohSettle h)) ∧
  (∀ (g : Fin 2) (mgmt : Bool) (line : BitVec 58) (h role : Nat) (s : State), s.engineOf g line.toNat = some (h, role) → s.mayEnter (g.val) h = true → g.val = h ∨ s.inputHolds h { role := role, ev := 6, line := line.toNat, who := 32 + bnat mgmt, data := none } = false → exec (.agentRd g mgmt line) s = .next (((s.entering (g.val) h).cohRequest h { role := role, ev := 6, line := line.toNat, who := 32 + bnat mgmt, data := none }).cohSettle h)) ∧
  (∀ (g : Fin 2) (mgmt : Bool) (line : BitVec 58) (data : BitVec 512) (h role : Nat) (s : State), s.engineOf g line.toNat = some (h, role) → s.mayEnter (g.val) h = true → g.val = h ∨ s.inputHolds h { role := role, ev := 7, line := line.toNat, who := 32 + bnat mgmt, data := some data } = false → exec (.agentWr g mgmt line data) s = .next (((s.entering (g.val) h).cohRequest h { role := role, ev := 7, line := line.toNat, who := 32 + bnat mgmt, data := some data }).cohSettle h)) ∧
  (∀ (l : Fin 16) (line : BitVec 58) (h : Nat) (s : State), s.asleep (.link l) = false → bitOf (s.hostLink l).refusing 5 = false → s.linkServes l = true → (s.hostLink l).memOff = false → s.on (F.LINK_STATUS_FENCED (l / 4) (l % 4)) = false → s.exposedBy l line.toNat = some h → s.mayEnter (l.val / 8) h = true → l.val / 8 = h ∨ s.inputHolds h { role := 0, ev := 8, line := line.toNat, who := 16 + l.val, data := none } = false → exec (.hostRd l line) s = .next (((s.entering (l.val / 8) h).cohRequest h { role := 0, ev := 8, line := line.toNat, who := 16 + l.val, data := none }).cohSettle h)) ∧
  (∀ (l : Fin 16) (line : BitVec 58) (h : Nat) (s : State), s.asleep (.link l) = false → bitOf (s.hostLink l).refusing 5 = false → s.linkServes l = true → (s.hostLink l).memOff = false → s.on (F.LINK_STATUS_FENCED (l / 4) (l % 4)) = false → s.exposedBy l line.toNat = some h → s.mayEnter (l.val / 8) h = true → l.val / 8 = h ∨ s.inputHolds h { role := 0, ev := 9, line := line.toNat, who := 16 + l.val, data := none } = false → exec (.hostOwn l line) s = .next (((s.entering (l.val / 8) h).cohRequest h { role := 0, ev := 9, line := line.toNat, who := 16 + l.val, data := none }).cohSettle h)) ∧
  (∀ (l : Fin 16) (line : BitVec 58) (h : Nat) (s : State), s.asleep (.link l) = false → bitOf (s.hostLink l).refusing 5 = false → s.linkServes l = true → (s.hostLink l).memOff = false → s.on (F.LINK_STATUS_FENCED (l / 4) (l % 4)) = false → s.exposedBy l line.toNat = some h → s.mayEnter (l.val / 8) h = true → l.val / 8 = h ∨ s.inputHolds h { role := 0, ev := 0x0A, line := line.toNat, who := 16 + l.val, data := none } = false → exec (.hostCur l line) s = .next (((s.entering (l.val / 8) h).cohRequest h { role := 0, ev := 0x0A, line := line.toNat, who := 16 + l.val, data := none }).cohSettle h)) ∧
  (∀ (l : Fin 16) (line : BitVec 58) (data : BitVec 512) (h : Nat) (s : State), s.asleep (.link l) = false → bitOf (s.hostLink l).refusing 5 = false → s.linkServes l = true → (s.hostLink l).memOff = false → s.on (F.LINK_STATUS_FENCED (l / 4) (l % 4)) = false → s.exposedBy l line.toNat = some h → s.mayEnter (l.val / 8) h = true → l.val / 8 = h ∨ s.inputHolds h { role := 0, ev := 0x0B, line := line.toNat, who := 16 + l.val, data := some data } = false → exec (.hostWr l line data) s = .next (((s.entering (l.val / 8) h).cohRequest h { role := 0, ev := 0x0B, line := line.toNat, who := 16 + l.val, data := some data }).cohSettle h)) ∧
  (∀ (l : Fin 16) (line : BitVec 58) (h : Nat) (s : State), s.asleep (.link l) = false → bitOf (s.hostLink l).refusing 5 = false → s.linkServes l = true → (s.hostLink l).memOff = false → s.on (F.LINK_STATUS_FENCED (l / 4) (l % 4)) = false → s.exposedBy l line.toNat = some h → s.mayEnter (l.val / 8) h = true → l.val / 8 = h ∨ s.inputHolds h { role := 0, ev := 0x0C, line := line.toNat, who := 16 + l.val, data := none } = false → exec (.hostInv l line) s = .next (((s.entering (l.val / 8) h).cohRequest h { role := 0, ev := 0x0C, line := line.toNat, who := 16 + l.val, data := none }).cohSettle h)) ∧
  (∀ (l : Fin 16) (line : BitVec 58) (s : State), s.asleep (.link l) = false → bitOf (s.hostLink l).refusing 5 = false → s.linkServes l = true → (s.hostLink l).memOff = false → s.on (F.LINK_STATUS_FENCED (l / 4) (l % 4)) = false → s.exposedBy l line.toNat = none → exec (.hostRd l line) s = .next ((s.misuse (.link l) 4 (lineAddr line.toNat)).reply (.bytes (List.replicate 64 0) true))) ∧
  (∀ (l : Fin 16) (line : BitVec 58) (h : Nat) (s : State), s.exposedBy l line.toNat = some h → exec (.biconflict l line) s = .next ((s.lookUp { role := 0, ev := 0x0D, line := line.toNat, who := 16 + l } h).cohSettle h))

/-- R443, R447, R449, R454; the equation names the whole next state, so whatever it does not name is as before. -/
def Obligations.CoherenceResponses : Prop :=
  (∀ (k : Fin 16) (line : BitVec 58) (data : Option (BitVec 512)) (p : Nat × Nat) (s : State), ([(0, 0), (1, 0), (0, 1), (1, 1)].find? fun p => bitOf (s.lineOf p.1 p.2 line.toNat).snoops k) = some p → exec (.coreSnprsp k line data) s = .next (s.snoopAnswered p.1 p.2 k line.toNat data)) ∧
  (∀ (l : Fin 16) (line : BitVec 58) (data : Option (BitVec 512)) (h : Nat) (s : State), ((List.range 2).find? fun h => bitOf (s.lineOf h 0 line.toNat).bisnp l) = some h → exec (.birsp l line data) s = .next (s.bisnpAnswered h l line.toNat data)) ∧
  (∀ (l : Fin 16) (line : BitVec 58) (data : Option (BitVec 512)) (h : Nat) (s : State), ((List.range 2).find? fun h => bitOf (s.lineOf h 0 line.toNat).bisnp l) = some h → exec (.hostSnprsp l line data) s = .next (if bitOf ((((((s.tagBack l false (cohKey h 0 line.toNat)).modLine h 0 line.toNat fun y => keepData { y with bisnp := putBits y.bisnp l l 0 } data).lookUp { role := 0, ev := 0x12, line := line.toNat, who := 16 + l, data := none } h).afterEvent h { role := 0, ev := 0x12, line := line.toNat, who := 16 + l, data := none })).biasLeft (pageKey h (pageOf h line.toNat))) (line.toNat % 64) then (if ((((((s.tagBack l false (cohKey h 0 line.toNat)).modLine h 0 line.toNat fun y => keepData { y with bisnp := putBits y.bisnp l l 0 } data).lookUp { role := 0, ev := 0x12, line := line.toNat, who := 16 + l, data := none } h).afterEvent h { role := 0, ev := 0x12, line := line.toNat, who := 16 + l, data := none })).setBiasLeft (pageKey h (pageOf h line.toNat)) (putBits ((((((s.tagBack l false (cohKey h 0 line.toNat)).modLine h 0 line.toNat fun y => keepData { y with bisnp := putBits y.bisnp l l 0 } data).lookUp { role := 0, ev := 0x12, line := line.toNat, who := 16 + l, data := none } h).afterEvent h { role := 0, ev := 0x12, line := line.toNat, who := 16 + l, data := none })).biasLeft (pageKey h (pageOf h line.toNat))) (line.toNat % 64) (line.toNat % 64) 0)).biasLeft (pageKey h (pageOf h line.toNat)) = 0 then ((((((s.tagBack l false (cohKey h 0 line.toNat)).modLine h 0 line.toNat fun y => keepData { y with bisnp := putBits y.bisnp l l 0 } data).lookUp { role := 0, ev := 0x12, line := line.toNat, who := 16 + l, data := none } h).afterEvent h { role := 0, ev := 0x12, line := line.toNat, who := 16 + l, data := none })).setBiasLeft (pageKey h (pageOf h line.toNat)) (putBits ((((((s.tagBack l false (cohKey h 0 line.toNat)).modLine h 0 line.toNat fun y => keepData { y with bisnp := putBits y.bisnp l l 0 } data).lookUp { role := 0, ev := 0x12, line := line.toNat, who := 16 + l, data := none } h).afterEvent h { role := 0, ev := 0x12, line := line.toNat, who := 16 + l, data := none })).biasLeft (pageKey h (pageOf h line.toNat))) (line.toNat % 64) (line.toNat % 64) 0)).pageFlipped h (pageOf h line.toNat) else ((((((s.tagBack l false (cohKey h 0 line.toNat)).modLine h 0 line.toNat fun y => keepData { y with bisnp := putBits y.bisnp l l 0 } data).lookUp { role := 0, ev := 0x12, line := line.toNat, who := 16 + l, data := none } h).afterEvent h { role := 0, ev := 0x12, line := line.toNat, who := 16 + l, data := none })).setBiasLeft (pageKey h (pageOf h line.toNat)) (putBits ((((((s.tagBack l false (cohKey h 0 line.toNat)).modLine h 0 line.toNat fun y => keepData { y with bisnp := putBits y.bisnp l l 0 } data).lookUp { role := 0, ev := 0x12, line := line.toNat, who := 16 + l, data := none } h).afterEvent h { role := 0, ev := 0x12, line := line.toNat, who := 16 + l, data := none })).biasLeft (pageKey h (pageOf h line.toNat))) (line.toNat % 64) (line.toNat % 64) 0))).cohSettle h else (((((s.tagBack l false (cohKey h 0 line.toNat)).modLine h 0 line.toNat fun y => keepData { y with bisnp := putBits y.bisnp l l 0 } data).lookUp { role := 0, ev := 0x12, line := line.toNat, who := 16 + l, data := none } h).afterEvent h { role := 0, ev := 0x12, line := line.toNat, who := 16 + l, data := none })).cohSettle h)) ∧
  (∀ (h role : Fin 2) (line : BitVec 58) (q : CohReq) (r : List CohReq) (s : State), (s.lineOf h role line.toNat).held = q :: r → s.waitOver h role line.toNat = true → exec (.cohWaitRelease h role line) s = .next ((if (((s.modLine h role line.toNat fun y => { y with held := r }).cohTake h q).lineOf h role line.toNat).held = r ++ [q] then ((s.modLine h role line.toNat fun y => { y with held := r }).cohTake h q).modLine h role line.toNat fun y => { y with held := q :: r } else ((s.modLine h role line.toNat fun y => { y with held := r }).cohTake h q)).cohSettle h))

/-- R436, R450, R454; the equation names the whole next state, so whatever it does not name is as before. -/
def Obligations.CachingAgent : Prop :=
  (∀ (h : Fin 2) (line : BitVec 58) (s : State), hostLine line.toNat = true → s.routeAlive h = true → exec (.snpData h line) s = .next (((s.lookUp { role := 1, ev := 8, line := line.toNat, who := 16 + s.routeLink h, data := none } h).afterEvent h { role := 1, ev := 8, line := line.toNat, who := 16 + s.routeLink h, data := none }).cohSettle h)) ∧
  (∀ (h : Fin 2) (line : BitVec 58) (s : State), hostLine line.toNat = true → s.routeAlive h = true → exec (.snpInv h line) s = .next (((s.lookUp { role := 1, ev := 9, line := line.toNat, who := 16 + s.routeLink h, data := none } h).afterEvent h { role := 1, ev := 9, line := line.toNat, who := 16 + s.routeLink h, data := none }).cohSettle h)) ∧
  (∀ (h : Fin 2) (line : BitVec 58) (s : State), hostLine line.toNat = true → s.routeAlive h = true → exec (.snpCur h line) s = .next (((s.lookUp { role := 1, ev := 0x0A, line := line.toNat, who := 16 + s.routeLink h, data := none } h).afterEvent h { role := 1, ev := 0x0A, line := line.toNat, who := 16 + s.routeLink h, data := none }).cohSettle h)) ∧
  (∀ (h : Fin 2) (line : BitVec 58) (s : State), hostLine line.toNat = true → s.routeAlive h = true → exec (.goI h line) s = .next ((((s.tagBack (s.routeLink h) false (cohKey h 1 line.toNat)).lookUp { role := 1, ev := 0x10, line := line.toNat, who := 16 + s.routeLink h, data := none } h).afterEvent h { role := 1, ev := 0x10, line := line.toNat, who := 16 + s.routeLink h, data := none }).cohSettle h)) ∧
  (∀ (h : Fin 2) (line : BitVec 58) (data : BitVec 512) (s : State), hostLine line.toNat = true → s.routeAlive h = true → exec (.goS h line data) s = .next (((((s.tagBack (s.routeLink h) false (cohKey h 1 line.toNat)).cacheRoom h line.toNat).lookUp { role := 1, ev := 0x11, line := line.toNat, who := 16 + s.routeLink h, data := some data } h).afterEvent h { role := 1, ev := 0x11, line := line.toNat, who := 16 + s.routeLink h, data := some data }).cohSettle h)) ∧
  (∀ (h : Fin 2) (line : BitVec 58) (data : BitVec 512) (s : State), hostLine line.toNat = true → s.routeAlive h = true → exec (.goE h line data) s = .next (((((s.tagBack (s.routeLink h) false (cohKey h 1 line.toNat)).cacheRoom h line.toNat).lookUp { role := 1, ev := 0x12, line := line.toNat, who := 16 + s.routeLink h, data := some data } h).afterEvent h { role := 1, ev := 0x12, line := line.toNat, who := 16 + s.routeLink h, data := some data }).cohSettle h)) ∧
  (∀ (h : Fin 2) (line : BitVec 58) (data : BitVec 512) (s : State), hostLine line.toNat = true → s.routeAlive h = true → exec (.goM h line data) s = .next (((((s.tagBack (s.routeLink h) false (cohKey h 1 line.toNat)).cacheRoom h line.toNat).lookUp { role := 1, ev := 0x13, line := line.toNat, who := 16 + s.routeLink h, data := some data } h).afterEvent h { role := 1, ev := 0x13, line := line.toNat, who := 16 + s.routeLink h, data := some data }).cohSettle h)) ∧
  (∀ (h : Fin 2) (line : BitVec 58) (s : State), hostLine line.toNat = true → s.routeAlive h = true → exec (.goErr h line) s = .next ((((s.tagBack (s.routeLink h) false (cohKey h 1 line.toNat)).lookUp { role := 1, ev := 0x14, line := line.toNat, who := 16 + s.routeLink h, data := none } h).afterEvent h { role := 1, ev := 0x14, line := line.toNat, who := 16 + s.routeLink h, data := none }).cohSettle h)) ∧
  (∀ (h : Fin 2) (line : BitVec 58) (s : State), hostLine line.toNat = true → s.routeAlive h = true → exec (.writepull h line) s = .next ((((s.tagBack (s.routeLink h) false (cohKey h 1 line.toNat)).lookUp { role := 1, ev := 0x15, line := line.toNat, who := 16 + s.routeLink h, data := none } h).afterEvent h { role := 1, ev := 0x15, line := line.toNat, who := 16 + s.routeLink h, data := none }).cohSettle h))

/-- R367, R441, R464, R466, R470, R471; the context of an injected report is free (Assumption 3); the equation names the whole next state,
so whatever it does not name is as before. -/
def Obligations.CoherenceUpkeep : Prop :=
  (∀ (h : Fin 2) (s : State), exec (.partitionDrainTimeout h) s = .next (s.abortPart h)) ∧
  (∀ (h : Fin 2) (s : State), s.cohWarmRuns h = true → exec (.warmCohDrainTimeout h) s = .next (s.cohWarmEnd h)) ∧
  (∀ (h : Fin 2) (f : FlushJob) (s : State), (s.coh h).flush = some f → exec (.cohFlushTimeout h) s = .next (((s.dropHost h).endFlush h f (s.dirtyLines h).length).retryInput h)) ∧
  (∀ (h : Fin 2) (j : TableJob) (s : State), (s.coh h).load = some j → s.engineQuiet h = true → exec (.cohTableSwitch h) s = .next (s.switchTable h j)) ∧
  (∀ (h : Fin 2) (s : State), s.quiescing h = true → s.engineQuiet h = false → exec (.cohTableQuiesceTimeout h) s = .next (((s.setFld (F.COH_STATUS_LOADING h) 0).takeInput h).endJobs (tableJob h) S_BUSY 0 [])) ∧
  (∀ (h : Fin 2) (kind : Fin 4) (s : State), kind.val < 2 → exec (.cohInject h kind) s = .next (((s.setFlds [(F.COH_INJECT_INJECT h, 0), (F.COH_INJECT_INJ_KIND h, kind)]).raise { half := h, cls := ERROR, src := 11, code := if kind.val = 0 then 1 else 3, unit := h, ctx := (s.setFlds [(F.COH_INJECT_INJECT h, 0), (F.COH_INJECT_INJ_KIND h, kind)]).freeVal, inj := true }).useFree)) ∧
  (∀ (h : Fin 2) (kind : Fin 4) (s : State), 2 ≤ kind.val → exec (.cohInject h kind) s = .next ((s.setFlds [(F.COH_INJECT_INJECT h, 0), (F.COH_INJECT_INJ_KIND h, kind)]).setFld (F.COH_INJECT_INJ_REFUSED h) 1)) ∧
  (∀ (h : Fin 2) (s : State), exec (.evictsClear h) s = .next (s.setFlds [(F.COH_EVICTS_DIR_EVICT h, 0), (F.COH_EVICTS_FILTER_EVICT h, 0)])) ∧
  (∀ (h : Fin 2) (s : State), exec (.flipsClear h) s = .next (s.setFld (F.COH_FLIPS_FLIPS h) 0))

/-- R472 to R477, R484, R494, R495; the equation names the whole next state, so whatever it does not name is as before. -/
def Obligations.CausewayGroups : Prop :=
  (∀ (h : Fin 2) (g : Fin 4) (s : State), s.groupUp g = true → (s.cswGroup g).armCrc = false → exec (.cswFlitReceive h g true) s = .next ((s.modCswGroup (4 * h.val + g.val) fun k => { k with replay := k.replay - 1 }).retireIfDrained)) ∧
  (∀ (h : Fin 2) (g : Fin 4) (s : State), s.groupUp g = true → (s.cswGroup g).armCrc = false → exec (.cswFlitReceive h g false) s = .next (s.crcFails h g false)) ∧
  (∀ (h : Fin 2) (g : Fin 4) (good : Bool) (s : State), s.groupUp g = true → (s.cswGroup g).armCrc = true → exec (.cswFlitReceive h g good) s = .next (((s.modCswGroup g fun k => { k with armCrc := false }).cswSet h F.CSW_INJECT_INJECT 0).crcFails h g true)) ∧
  (∀ (g : Fin 4) (s : State), s.groupUp g = true → exec (.cswGroupLockLoss g) s = .next (s.loseLock g false)) ∧
  (∀ (g : Fin 4) (trained : Bool) (s : State), s.groupState g = G_TRAINING → s.restoring = false → exec (.cswTrainingEnd g trained) s = .next ((s.setGroup g (if trained then G_UP else G_DOWN)).settle.crossSettle)) ∧
  (∀ (g : Fin 4) (s : State), s.groupState g = G_DOWN → exec (.cswGroupRetry g) s = .next (s.groupTrains g)) ∧
  (∀ (h : Fin 2) (s : State), exec (.cswRetireTimeout h) s = .next (s.endRetire h)) ∧
  (∀ (mask : BitVec 4) (s : State), s.restoring = true → exec (.cswRestoreDone mask) s = .next ((((s.each [0, 1] fun h u => if u.fld (F.CSW_STATUS_STATE h) = 5 then u.setFlds [(F.CSW_STATUS_STATE h, (u.cswHalf h).was), (F.CSW_CTL_RESTORE h, 0)] else u).each [0, 1, 2, 3] fun g u => u.setGroup g (if mask.getLsbD g then G_UP else G_DOWN)).endJobs (fun j => j.opcode == 0x0B03) OK 0 (leBytes 1 ((s.each [0, 1] fun h u => if u.fld (F.CSW_STATUS_STATE h) = 5 then u.setFlds [(F.CSW_STATUS_STATE h, (u.cswHalf h).was), (F.CSW_CTL_RESTORE h, 0)] else u).each [0, 1, 2, 3] fun g u => u.setGroup g (if mask.getLsbD g then G_UP else G_DOWN)).groupsUp ++ leBytes 3 0)).settle.crossSettle)) ∧
  (∀ (h : Fin 2) (s : State), exec (.cswXhomeTimeout h) s = .next (s.endJobs (fun j => j.opcode == 0x0B01 && j.half == h.val) S_STATE 0 [])) ∧
  (∀ (h : Fin 2) (s : State), exec (.landClear h) s = .next (s.each [0, 1] fun k t => t.setFld (F.CSW_LAND_HIGH k h) (t.fld (F.CSW_LAND_USED k h)))) ∧
  (∀ (g : Fin 4) (s : State), ((s.cswSet 0 F.CSW_INJECT_INJ_KIND 0).cswSet 0 F.CSW_INJECT_INJ_GROUP g).groupUp g = true → exec (.cswInjectCrc g) s = .next ((((s.cswSet 0 F.CSW_INJECT_INJ_KIND 0).cswSet 0 F.CSW_INJECT_INJ_GROUP g).cswSet 0 F.CSW_INJECT_INJECT 1).modCswGroup g fun k => { k with armCrc := true })) ∧
  (∀ (g : Fin 4) (s : State), ((s.cswSet 0 F.CSW_INJECT_INJ_KIND 1).cswSet 0 F.CSW_INJECT_INJ_GROUP g).groupUp g = true → ((s.cswSet 0 F.CSW_INJECT_INJ_KIND 1).cswSet 0 F.CSW_INJECT_INJ_GROUP g).onlyUp g = false → exec (.cswInjectLockLoss g) s = .next (((s.cswSet 0 F.CSW_INJECT_INJ_KIND 1).cswSet 0 F.CSW_INJECT_INJ_GROUP g).loseLock g true)) ∧
  (∀ (h : Fin 2) (g : Fin 4) (s : State), ((s.cswSet h F.CSW_INJECT_INJ_KIND 2).cswSet h F.CSW_INJECT_INJ_GROUP g).groupUp g = true → exec (.cswInjectHeartbeatDrop h g) s = .next (((s.cswSet h F.CSW_INJECT_INJ_KIND 2).cswSet h F.CSW_INJECT_INJ_GROUP g).modCswHalf h fun k => { k with drop := 17 }))

/-- R480 to R483, R485, R487 to R489; the context of a causeway report is free where R660 gives none (Assumption 3); the equation names
the whole next state, so whatever it does not name is as before. -/
def Obligations.CausewaySplit : Prop :=
  (∀ (h : Fin 2) (s : State), exec (.heartbeatSend h) s = .next (s.modCswHalf h fun k => { k with wire := some { policy := s.on (F.CSW_CTL_POLICY h), bothOk := s.xdep h == 0, thermal := s.stopped h, zeroize := s.sec.zeroizing != 0 }, sentOk := s.xdep h == 0 })) ∧
  (∀ (h : Fin 2) (b : Beat) (s : State), (s.cswHalf (1 - h.val)).wire = some b → ((s.modCswHalf (1 - h.val) fun k => { k with wire := none }).cswHalf h).drop ≤ 1 → exec (.heartbeatReceive h) s = .next ((s.modCswHalf (1 - h.val) fun k => { k with wire := none }).hear h b)) ∧
  (∀ (h : Fin 2) (b : Beat) (s : State), (s.cswHalf (1 - h.val)).wire = some b → 1 < ((s.modCswHalf (1 - h.val) fun k => { k with wire := none }).cswHalf h).drop → exec (.heartbeatReceive h) s = .next ((s.modCswHalf (1 - h.val) fun k => { k with wire := none }).modCswHalf h fun k => { k with drop := k.drop - 1 })) ∧
  (∀ (h : Fin 2) (s : State), s.groupsUp = 0 → exec (.heartbeatLoss h) s = .next ((s.modCswHalf h fun k => { k with drop := 0 }).setFld (F.CSW_STATUS_HB_OK h) 0)) ∧
  (∀ (h : Fin 2) (s : State), s.groupsUp ≠ 0 → exec (.heartbeatLoss h) s = .next ((s.modCswHalf h fun k => { k with drop := 0 }).cswReport h NOTICE 2 ((s.cswHalf h).drop != 0))) ∧
  (∀ (h : Fin 2) (s : State), s.groupsUp = 0 → s.isSplit h = false → s.fld (F.CSW_STATUS_STATE h) ≠ 5 → exec (.causewaySplit h) s = .next (s.takeSplit h (if !s.on (F.CSW_STATUS_HB_OK h) then 4 else if s.bothContinue h then 3 else 2))) ∧
  (∀ (h : Fin 2) (s : State), s.groupsUp ≠ 0 → s.isSplit h = true → (s.setFld (F.CSW_STATUS_REJOIN_READY h) 1).on (F.CSW_CTL_AUTO_REJOIN h) = false → exec (.causewayRejoinReady h) s = .next (s.setFld (F.CSW_STATUS_REJOIN_READY h) 1)) ∧
  (∀ (h : Fin 2) (s : State), s.groupsUp ≠ 0 → s.isSplit h = true → (s.setFld (F.CSW_STATUS_REJOIN_READY h) 1).on (F.CSW_CTL_AUTO_REJOIN h) = true → (s.setFld (F.CSW_STATUS_REJOIN_READY h) 1).fld (F.CSW_STATUS_STATE h) = 2 → (s.setFld (F.CSW_STATUS_REJOIN_READY h) 1).mayRejoin = true → exec (.causewayRejoinReady h) s = .next ((s.setFld (F.CSW_STATUS_REJOIN_READY h) 1).rejoin))

/-- R537, R539, R541, R542, R547, R548: frames at the slave port; whether a tag or a digest holds is the cryptography's (Assumption 6);
the equation names the whole next state, so whatever it does not name is as before. -/
def Obligations.ImageFrames : Prop :=
  (∀ (f : List Byte) (s : State), s.fld F.CFG_STATUS_MODE ≠ 2 → s.fld F.CFG_STATUS_MODE < 4 → s.phase = CONFIG_WAIT → fType f = 0x10 → fCrc f = true → deviceFrame f 0 false = true → fAddr f = 0 → fLen f = 512 → s.deviceCause (fPayload f) = none → exec (.cfgDeviceFrame (some f)) s = .next (((({ (({ s with image := { port0Due := s.image.port0Due } } : State).setPhase LOADING) with image := imageOf f s.image.port0Due } : State).setFlds [(F.CFG_IMAGE_TAG_TAG, (imageOf f s.image.port0Due).tag), (F.CFG_STATUS_ENCRYPTED, bnat (imageOf f s.image.port0Due).encrypted), (F.CFG_STATUS_SIGNED, 0), (F.CFG_STATUS_PANS, 0)])).showBytes)) ∧
  (∀ (f : List Byte) (s : State), s.fld F.CFG_STATUS_MODE ≠ 2 → s.fld F.CFG_STATUS_MODE < 4 → s.phase = LOADING → fCrc f = true → s.image.taken + f.length ≤ s.image.bytes → s.image.segFrames ≠ 64 → ¬ (s.image.lastSeg = true ∧ fFlags f % 2 = 1) → fType f = 0x11 → deviceFrame f s.image.index s.image.encrypted = true → s.image.current = none → 1 ≤ fAddr f → fAddr f ≤ 6 → fLen f = globalLen (fAddr f) → globalOk (fAddr f) (s.imagePlain f) = true → exec (.cfgGlobalFrame (some f)) s = .next ({ s.noteFrame f with image := { (s.noteFrame f).image with globals := Bank.set (fun _ => []) (s.noteFrame f).image.globals (fAddr f) (s.imagePlain f) } })) ∧
  (∀ (f : List Byte) (s : State), s.fld F.CFG_STATUS_MODE ≠ 2 → s.fld F.CFG_STATUS_MODE < 4 → s.phase = LOADING → fCrc f = true → s.image.taken + f.length ≤ s.image.bytes → s.image.segFrames ≠ 64 → ¬ (s.image.lastSeg = true ∧ fFlags f % 2 = 1) → fType f = 9 → deviceFrame f s.image.index false = true → s.image.encrypted = true → fAddr f = s.image.segNo → fLen f = 32 → 1 ≤ s.image.segFrames → zeroAt (fPayload f) 16 16 = true → exec (.cfgSegtagFrame (some f)) s = .next (if (match s.keyOf s.image.keySel with | some k => s.secOperational && Config.gcmTag k (segNonce s.image.iv s.image.segNo) s.image.segAad s.image.segment == (fPayload f).take 16 | none => false) then { s.noteFrame f with image := { (s.noteFrame f).image with segment := [], segAad := [], segNo := s.image.segNo + 1, segFrames := 0, lastSeg := decide (s.image.segFrames < 64) } } else s.cfgFail 0x0A s.image.index)) ∧
  (∀ (f : List Byte) (s : State), s.fld F.CFG_STATUS_MODE ≠ 2 → s.fld F.CFG_STATUS_MODE < 4 → s.phase = LOADING → fCrc f = true → s.image.taken + f.length ≤ s.image.bytes → s.image.segFrames ≠ 64 → ¬ (s.image.lastSeg = true ∧ fFlags f % 2 = 1) → fType f = 1 → fFormed f = true → fFlags f = bnat s.image.encrypted → fPan f < 256 → s.image.current = none → badHeaderFrame (plainFrame f (s.imagePlain f)) = false → s.image.done.contains (fPan f) = false → s.headerCause (fPan f) (s.imagePlain f) s.image.signed = none → bitOf (numAt (s.imagePlain f) 10 1) 1 = false → exec (.cfgPanFrame (some f)) s = .next ({ ((s.setLoad (loadKey (halfOfPan (fPan f)) 0) (some { LoadJob.header { pan := fPan f, embedded := true } (plainFrame f (s.imagePlain f)) with payloads := fPayload f })).noteFrame f) with image := { ((s.setLoad (loadKey (halfOfPan (fPan f)) 0) (some { LoadJob.header { pan := fPan f, embedded := true } (plainFrame f (s.imagePlain f)) with payloads := fPayload f })).noteFrame f).image with current := some (fPan f) } })) ∧
  (∀ (f : List Byte) (s : State), s.fld F.CFG_STATUS_MODE ≠ 2 → s.fld F.CFG_STATUS_MODE < 4 → s.phase = LOADING → fCrc f = true → s.image.taken + f.length ≤ s.image.bytes → fType f = 0x1F → deviceFrame f s.image.index false = true → fAddr f = 0 → fLen f = 32 → s.image.current = none → s.image.segFrames = 0 → ¬ (s.image.lastSeg = true ∧ fFlags f % 2 = 1) → exec (.cfgDeviceEnd (some f)) s = .next (if ({ (s.noteFrame f).setPhase VERIFY with image := { ((s.noteFrame f).setPhase VERIFY).image with ended := true } } : State).image.whole (fPayload f) && zeroAt (fPayload f) 8 24 then ({ (s.noteFrame f).setPhase VERIFY with image := { ((s.noteFrame f).setPhase VERIFY).image with ended := true } } : State) else ({ (s.noteFrame f).setPhase VERIFY with image := { ((s.noteFrame f).setPhase VERIFY).image with ended := true } } : State).cfgFail 0x0C s.image.index))

/-- R537, R544, R549, R550, R551, R553, R554; a signature's outcome is the cryptography's (Assumption 6); the equation names the whole
next state, so whatever it does not name is as before. -/
def Obligations.ImageEnd : Prop :=
  (∀ (s : State), s.phase = LOADING ∨ s.phase = VERIFY → s.image.sigOk = none → s.secOperational = true → bitOf (s.fld F.SEC_KEYS_CTRL) 2 = true → exec (.cfgSignatureChecked) s = .next (if Config.sha384 s.image.pubkey ≠ leBytes 48 s.sec.pkh then s.cfgFail 0x08 0 else if !Config.ecdsaVerifies s.image.pubkey s.image.signedPart s.image.signature then s.cfgFail 0x09 0 else ({ s with image := { s.image with sigOk := some true }, sec := { s.sec with pubkey := some s.image.pubkey } } : State).setFld F.CFG_STATUS_SIGNED 1)) ∧
  (∀ (s : State), s.phase = VERIFY → s.image.ended = true → s.image.sigOk = some true → s.waitsOver = true → exec (.cfgVerifyDone) s = .next ((({ s with cfgDoneLow := false } : State).setPhase DONE_WAIT).endJobs (fun j => j.opcode == 0x0108) OK 0 [])) ∧
  (∀ (s : State), s.phase = DONE_WAIT → exec (.cfgDoneHigh) s = .next (s.wake)) ∧
  (∀ (s : State), s.phase = LOADING → exec (.cfgStreamStall) s = .next (s.cfgFail 0x0E s.image.index)) ∧
  (∀ (r : List Byte) (l : List (List Byte)) (s : State), s.cfgReplies = r :: l → exec (.cfgReplyRead) s = .next (({ s with cfgReplies := l } : State).reply (.bytes (replyFrame r) false))) ∧
  (∀ (s : State), s.cfgReplies = [] → exec (.cfgReplyRead) s = .next (s.reply (.bytes (List.replicate 32 0) false)))

/-- R566, R567, R571, R573, R578, R579, R582, R583, R589, R590; the equation names the whole next state, so whatever it does not name is
as before. -/
def Obligations.SecurityEvents : Prop :=
  (∀ (s : State), s.secState = SELFTEST → s.phase = 1 → exec (.moduleSelftestDone 0) s = .next (s.agreeWrap.setFld F.SEC_STATUS_STATE OPERATIONAL)) ∧
  (∀ (cause : Fin 7) (s : State), s.secState = SELFTEST → s.phase = 1 → cause.val ≠ 0 → exec (.moduleSelftestDone cause) s = .next (s.secError cause)) ∧
  (∀ (cause : Fin 3) (s : State), s.secState = OPERATIONAL → exec (.entropyHealthFail cause) s = .next (s.secError (7 + cause))) ∧
  (∀ (s : State), s.secState = OPERATIONAL → exec (.drbgReseed) s = .next (s.modSec fun m => { m with seeded := m.seeded + 1, requests := 0 })) ∧
  (∀ (s : State), s.sec.zeroizing = 1 → ((s.modSec fun m => { m with zeroizing := 0 }).setFld F.SEC_COUNTS_ZCOUNT (s.fld F.SEC_COUNTS_ZCOUNT + 1)).secState = ZEROIZING → exec (.zeroizationComplete) s = .next ((((s.modSec fun m => { m with zeroizing := 0 }).setFld F.SEC_COUNTS_ZCOUNT (s.fld F.SEC_COUNTS_ZCOUNT + 1)).agreeWrap.setFld F.SEC_STATUS_STATE OPERATIONAL).endJobs (fun j => j.opcode == 0x0905) OK 0 [])) ∧
  (∀ (s : State), s.sec.zeroizing = 2 → (((s.setFld F.SEC_KEYS_CTRL (s.fld F.SEC_KEYS_CTRL ||| 0x18)).modSec fun m => { m with zeroizing := 0 }).setFld F.SEC_COUNTS_ZCOUNT (s.fld F.SEC_COUNTS_ZCOUNT + 1)).secState = ZEROIZING → exec (.zeroizationComplete) s = .next (((((s.setFld F.SEC_KEYS_CTRL (s.fld F.SEC_KEYS_CTRL ||| 0x18)).modSec fun m => { m with zeroizing := 0 }).setFld F.SEC_COUNTS_ZCOUNT (s.fld F.SEC_COUNTS_ZCOUNT + 1)).agreeWrap.setFld F.SEC_STATUS_STATE OPERATIONAL).endJobs (fun j => j.opcode == 0x0905) OK 0 [])) ∧
  (∀ (f : FuseJob) (s : State), s.sec.fuse = some f → f.done + 1 < f.words → exec (.fuseWordProgrammed true) s = .next ((s.blow f.field f.done f.value).modSec fun m => { m with fuse := some { f with done := f.done + 1 } })) ∧
  (∀ (f : FuseJob) (s : State), s.sec.fuse = some f → ¬ f.done + 1 < f.words → f.field ≠ 3 → exec (.fuseWordProgrammed true) s = .next (((s.blow f.field f.done f.value).setFld F.SEC_KEYS_CTRL ((s.blow f.field f.done f.value).fld F.SEC_KEYS_CTRL ||| 2 ^ f.field)).fuseEnds OK (leBytes 4 f.words))) ∧
  (∀ (f : FuseJob) (s : State), s.sec.fuse = some f → exec (.fuseWordProgrammed false) s = .next (s.fuseEnds S_HW_FAULT [])) ∧
  (∀ (h : Fin 2) (s : State), s.patch (2 * h + 1) ≠ 0 → s.isRestarting h = false → s.jobs.any (fun j => j.half == h.val && j.opcode != 0x0906) = false → exec (.patchApply h) s = .next (((((s.setPatch (2 * h) (s.patch (2 * h + 1))).setPatchHash (2 * h) (s.patchHash (2 * h + 1))).setPatch (2 * h + 1) 0).setPatchHash (2 * h + 1) []).endJobs (fun j => j.opcode == 0x0906 && j.half == h.val) OK 0 (leBytes 4 (s.patch (2 * h + 1) - 1)))) ∧
  (∀ (src : Fin 7) (s : State), s.tamperWatched src = true → s.fld F.SEC_TAMPER_LATCH_LATCH ≠ 0 → s.phase ≠ 0 → exec (.tamperDetection src) s = .next ((((s.setFlds [(F.SEC_TAMPER_LATCH_LATCH, s.fld F.SEC_TAMPER_LATCH_LATCH ||| 2 ^ src.val), (F.SEC_STATUS_LATCHED, 1)]).count F.SEC_TAMPER_LATCH_COUNT none).clearKb.startZeroize 0).secReport FATAL 1 src (s.fld F.SEC_TAMPER_LATCH_LATCH ||| 2 ^ src.val))) ∧
  (∀ (src : Fin 7) (s : State), s.tamperWatched src = true → s.fld F.SEC_TAMPER_LATCH_LATCH = 0 → s.phase ≠ 0 → exec (.tamperDetection src) s = .next (((((s.setFlds [(F.SEC_TAMPER_LATCH_LATCH, s.fld F.SEC_TAMPER_LATCH_LATCH ||| 2 ^ src.val), (F.SEC_STATUS_LATCHED, 1)]).count F.SEC_TAMPER_LATCH_COUNT none).setFlds [(F.SEC_TAMPER_TIME_SECONDS 0, s.fld (F.RTC_SECONDS_SECONDS 0)), (F.SEC_TAMPER_TIME_SECONDS 1, s.fld (F.RTC_SECONDS_SECONDS 1))]).clearKb.startZeroize 0).secReport FATAL 1 src (s.fld F.SEC_TAMPER_LATCH_LATCH ||| 2 ^ src.val))) ∧
  (∀ (s : State), exec (.dbgChallengeExpiry) s = .next (s.modSec fun m => { m with challenge := none })) ∧
  (∀ (s : State), s.on F.SEC_STATUS_DBG_GRANTED = true → exec (.dbgGrantExpiry) s = .next (s.endGrant))

/-- R574 to R576, with the codes of Assumption 12 (PRESUMED); a capability word is free, and signatures are the cryptography's
(Assumptions 3, 6); the equation names the whole next state, so whatever it does not name is as before. -/
def Obligations.Attestation : Prop :=
  (∀ (l : Fin 16) (s : State), s.linkUp l = true → s.secState = OPERATIONAL → l.val < 8 ∨ s.causewayUp 0 = true → exec (.getVersion l) s = .next (s.spdm l 0x04 (leBytes 1 0x12))) ∧
  (∀ (l : Fin 16) (s : State), s.linkUp l = true → s.secState = OPERATIONAL → l.val < 8 ∨ s.causewayUp 0 = true → exec (.getCapabilities l) s = .next ((s.spdm l 0x61 (leBytes 4 s.freeVal)).useFree)) ∧
  (∀ (l : Fin 16) (s : State), s.linkUp l = true → s.secState = OPERATIONAL → l.val < 8 ∨ s.causewayUp 0 = true → exec (.negotiateAlgorithms l) s = .next (s.spdm l 0x63 (leBytes 4 0x80 ++ leBytes 4 0x02 ++ leBytes 2 0x10 ++ leBytes 2 0x02))) ∧
  (∀ (l : Fin 16) (s : State), s.linkUp l = true → s.secState = OPERATIONAL → l.val < 8 ∨ s.causewayUp 0 = true → exec (.getDigests l) s = .next (s.spdm l 0x01 (leBytes 1 1 ++ Config.sha384 Config.certChain))) ∧
  (∀ (l : Fin 16) (offset len : BitVec 16) (s : State), s.linkUp l = true → s.secState = OPERATIONAL → l.val < 8 ∨ s.causewayUp 0 = true → exec (.getCertificate l 0 offset len) s = .next (s.spdm l 0x02 (leBytes 2 ((Config.certChain.drop offset.toNat).take len.toNat).length ++ leBytes 2 (Config.certChain.length - offset.toNat - ((Config.certChain.drop offset.toNat).take len.toNat).length) ++ ((Config.certChain.drop offset.toNat).take len.toNat)))) ∧
  (∀ (l : Fin 16) (nonce : BitVec 256) (s : State), s.linkUp l = true → s.secState = OPERATIONAL → l.val < 8 ∨ s.causewayUp 0 = true → exec (.challenge l 0 nonce) s = .next (s.drew.spdm l 0x03 ((Config.sha384 Config.certChain ++ s.random 32) ++ Config.identitySign (leBytes 32 nonce.toNat ++ (Config.sha384 Config.certChain ++ s.random 32))))) ∧
  (∀ (l : Fin 16) (s : State), s.linkUp l = true → s.secState = OPERATIONAL → l.val < 8 ∨ s.causewayUp 0 = true → exec (.getMeasurements l 0) s = .next (s.spdm l 0x60 (leBytes 1 6))) ∧
  (∀ (l : Fin 16) (s : State), s.linkUp l = true → s.secState = OPERATIONAL → l.val < 8 ∨ s.causewayUp 0 = true → exec (.getMeasurements l 0xFF) s = .next (s.spdm l 0x60 ([1, 2, 3, 4, 5, 6].flatMap s.measurement))) ∧
  (∀ (l : Fin 16) (s : State), s.linkUp l = true → s.secState = OPERATIONAL → l.val < 8 ∨ s.causewayUp 0 = true → s.sessionsOf l < 2 → s.fld F.SEC_STATUS_SESSIONS < 16 → exec (.keyExchange l 0) s = .next ((s.drew.setSessions l (s.sessionsOf l + 1)).spdm l 0x64 (s.random 32))) ∧
  (∀ (l : Fin 16) (s : State), s.linkUp l = true → s.secState = OPERATIONAL → l.val < 8 ∨ s.causewayUp 0 = true → 0 < s.sessionsOf l → exec (.finish l) s = .next (s.spdm l 0x65 [])) ∧
  (∀ (l : Fin 16) (s : State), s.linkUp l = true → s.secState = OPERATIONAL → l.val < 8 ∨ s.causewayUp 0 = true → 0 < s.sessionsOf l → exec (.keyUpdate l) s = .next (s.spdm l 0x69 [])) ∧
  (∀ (l : Fin 16) (s : State), s.linkUp l = true → s.secState = OPERATIONAL → l.val < 8 ∨ s.causewayUp 0 = true → 0 < s.sessionsOf l → exec (.heartbeat l) s = .next (s.spdm l 0x68 [])) ∧
  (∀ (l : Fin 16) (s : State), s.linkUp l = true → s.secState = OPERATIONAL → l.val < 8 ∨ s.causewayUp 0 = true → 0 < s.sessionsOf l → s.sessionsOf l = 1 → exec (.endSession l) s = .next (((s.setSessions l 0).spdm l 0x6C []).modSec fun m => { m with generated := Bank.drop (fun k => k / 8 == l.val) m.generated })) ∧
  (∀ (l : Fin 16) (stream : Fin 6) (s : State), s.linkUp l = true → s.secState = OPERATIONAL → l.val < 8 ∨ s.causewayUp 0 = true → 0 < s.sessionsOf l → s.streamOffered l stream = true → exec (.ideKeyRetrieve l stream) s = .next ((s.drew.modSec fun m => { m with generated := Bank.set (fun _ => []) m.generated (8 * l + stream) (s.random 32) }).spdm l 0x1FE (s.random 32))) ∧
  (∀ (l : Fin 16) (stream : Fin 6) (key : BitVec 256) (s : State), s.linkUp l = true → s.secState = OPERATIONAL → l.val < 8 ∨ s.causewayUp 0 = true → 0 < s.sessionsOf l → stream.val ≠ 0 → Bank.get (fun _ => []) s.sec.generated (8 * l + stream) = leBytes 32 key.toNat → exec (.keyProg l stream key) s = .next (((s.modSec fun m => { m with ideKeys := Bank.set (fun _ => []) m.ideKeys (8 * l + stream) (leBytes 32 key.toNat) }).modHostLink l fun k => { k with secure := putBits k.secure stream stream 1, refusing := putBits k.refusing stream stream 0 }).spdm l 0x1FF []))

/-- R27, R162, R599 to R607, R609, R613; the equation names the whole next state, so whatever it does not name is as before. -/
def Obligations.GovernorReadings : Prop :=
  (∀ (h : Fin 2) (temps : List (BitVec 16)) (s : State), exec (.govTsenseSample h temps) s = .next (((((s.takeTemps h 0 temps).each (List.range 64) fun k u => if u.sensorTemp h k < -480 || 1280 < u.sensorTemp h k then u.sensorFails h k else u).showTj h).tempStop h).sensorStop h)) ∧
  (∀ (h : Fin 2) (k : Fin 64) (s : State), 0 < k.val → k.val < 63 → 320 < (s.sensorTemp h k - s.sensorTemp h (k.val - 1)).natAbs → 320 < (s.sensorTemp h k - s.sensorTemp h (k.val + 1)).natAbs → exec (.sensorDisagreeExpiry h k) s = .next ((s.sensorFails h k).sensorStop h)) ∧
  (∀ (h : Fin 2) (s : State), 320 < (s.sensorTemp h 0 - s.sensorTemp h 1).natAbs → exec (.sensorDisagreeExpiry h 0) s = .next ((s.sensorFails h 0).sensorStop h)) ∧
  (∀ (h : Fin 2) (s : State), 320 < (s.sensorTemp h 63 - s.sensorTemp h 62).natAbs → exec (.sensorDisagreeExpiry h 63) s = .next ((s.sensorFails h 63).sensorStop h)) ∧
  (∀ (n : Fin 256) (rate : BitVec 12) (s : State), exec (.rateMonitorWindow n rate) s = .next (s.modGov (halfOfPan n) fun g => { g with monitors := Bank.set (fun _ => 0) g.monitors (n.val % 128) (if s.power n = 2 then 0 else rate.toNat) })) ∧
  (∀ (h : Fin 2) (s : State), exec (.tokenRatePublish h) s = .next (s.each (pansOf h) fun n t => (t.setFld (F.GOV_RATE_RATE h (n % 128)) (if t.power n = 2 then 0 else Bank.get (fun _ => 0) (t.gov h).monitors (n % 128))).modSched h fun c => { c with rates := Bank.set (fun _ => 0) c.rates n ((if t.power n = 2 then 0 else Bank.get (fun _ => 0) (t.gov h).monitors (n % 128)) + 1) })) ∧
  (∀ (h : Fin 2) (c : Fin 24) (code : BitVec 12) (s : State), 0 < c.val → c.val < 13 → exec (.adcConversion h c code) s = .next (s.setFld (F.GOV_ADC_CODE h c) code.toNat)) ∧
  (∀ (h : Fin 2) (code : BitVec 12) (s : State), exec (.adcConversion h 0 code) s = .next (if 1060 ≤ code.toNat ∧ code.toNat ≤ 1940 then (s.setFld (F.GOV_ADC_CODE h 0) code.toNat).modGov h fun g => { g with windowBad := false } else s.setFld (F.GOV_ADC_CODE h 0) code.toNat)) ∧
  (∀ (h : Fin 2) (c : Fin 24) (code : BitVec 12) (s : State), 13 ≤ c.val → c.val < 16 → exec (.adcConversion h c code) s = .next (s.setFld (F.GOV_ADC_CODE h c) 0)) ∧
  (∀ (h : Fin 2) (c : Fin 24) (code : BitVec 12) (s : State), 16 ≤ c.val → exec (.adcConversion h c code) s = .next ((s.setFld (F.GOV_ADC_CODE h c) (if (s.signalPin h 8 (c.val - 16)).isNone then 0 else code.toNat)).takeCode h (c.val - 16) (if (s.signalPin h 8 (c.val - 16)).isNone then 0 else code.toNat))) ∧
  (∀ (h : Fin 2) (temp : Byte) (s : State), 105 ≤ temp.toNat → exec (.hbmTemperatureRead h temp) s = .next ((s.setFld (F.MEM_HBM_STATUS_TEMP h) temp.toNat).thermalStop h STOP_HBM)) ∧
  (∀ (h : Fin 2) (temp : Byte) (s : State), temp.toNat < 105 → exec (.hbmTemperatureRead h temp) s = .next (s.setFld (F.MEM_HBM_STATUS_TEMP h) temp.toNat)) ∧
  (∀ (h : Fin 2) (r : Fin 8) (status : BitVec 16) (iout : BitVec 12) (pout : BitVec 16) (s : State), s.on (F.GOV_REG_CFG_EN h r) = true → (s.signalPin h 7 6).isSome = true → (s.signalPin h 7 7).isSome = true → exec (.regulatorPoll h r true status iout pout) s = .next (((((s.setFlds [(F.GOV_REG_STATUS_STATUS_WORD h r, status.toNat), (F.GOV_REG_STATUS_IOUT h r, iout.toNat)]).modSlot h r fun x => { x with pout := pout.toNat, naks := 0 }).setSlotState h r (polledState status.toNat)).showPower h))) ∧
  (∀ (h : Fin 2) (r : Fin 8) (acked : Bool) (status : BitVec 16) (iout : BitVec 12) (pout : BitVec 16) (s : State), s.on (F.GOV_REG_CFG_EN h r) = true → (acked && (s.signalPin h 7 6).isSome && (s.signalPin h 7 7).isSome) = false → 3 ≤ ((s.modSlot h r fun x => { x with naks := min 3 (x.naks + 1) }).slot h r).naks → exec (.regulatorPoll h r acked status iout pout) s = .next ((s.modSlot h r fun x => { x with naks := min 3 (x.naks + 1) }).setSlotState h r 3)) ∧
  (∀ (h : Fin 2) (r : Fin 8) (acked : Bool) (status : BitVec 16) (iout : BitVec 12) (pout : BitVec 16) (s : State), s.on (F.GOV_REG_CFG_EN h r) = true → (acked && (s.signalPin h 7 6).isSome && (s.signalPin h 7 7).isSome) = false → ((s.modSlot h r fun x => { x with naks := min 3 (x.naks + 1) }).slot h r).naks < 3 → exec (.regulatorPoll h r acked status iout pout) s = .next (s.modSlot h r fun x => { x with naks := min 3 (x.naks + 1) })) ∧
  (∀ (h : Fin 2) (r : Fin 8) (s : State), s.avsSlot h r = true → ((List.range 8).any fun k => k != r.val && s.avsSlot h k) = false → exec (.regSlotDisable h r) s = .next (s.reply .refused)) ∧
  (∀ (h : Fin 2) (r : Fin 8) (s : State), s.avsSlot h r = false ∨ ((List.range 8).any fun k => k != r.val && s.avsSlot h k) = true → s.on (F.GOV_REG_CFG_EN h r) = true → exec (.regSlotDisable h r) s = .next (if s.writesDue h r = 0 ∨ (((s.setFld (F.GOV_REG_CFG_EN h r) 0).modSlot h r fun x => { x with queued := s.writesDue h r, drain := some (s.writesDue h r), naks := 0, pout := 0 }).showPower h).fld (F.GOV_DRAIN_DRAIN_US h) = 0 then (((s.setFld (F.GOV_REG_CFG_EN h r) 0).modSlot h r fun x => { x with queued := s.writesDue h r, drain := some (s.writesDue h r), naks := 0, pout := 0 }).showPower h).endSlot h r else (((s.setFld (F.GOV_REG_CFG_EN h r) 0).modSlot h r fun x => { x with queued := s.writesDue h r, drain := some (s.writesDue h r), naks := 0, pout := 0 }).showPower h))) ∧
  (∀ (h : Fin 2) (r : Fin 8) (s : State), exec (.regSlotDrainTimeout h r) s = .next (s.endSlot h r)) ∧
  (∀ (h : Fin 2) (s : State), (s.gov h).rail < s.vfabGoal h → exec (.vfabStep h) s = .next ((List.range 8).foldl (fun t r => t.avsWrite h r (min ((s.gov h).rail + 10) (s.vfabGoal h))) (s.modGov h fun g => { g with rail := min ((s.gov h).rail + 10) (s.vfabGoal h) }))) ∧
  (∀ (h : Fin 2) (s : State), s.vfabGoal h < (s.gov h).rail → exec (.vfabStep h) s = .next ((List.range 8).foldl (fun t r => t.avsWrite h r (max ((s.gov h).rail - 10) (s.vfabGoal h))) (s.modGov h fun g => { g with rail := max ((s.gov h).rail - 10) (s.vfabGoal h) }))) ∧
  (∀ (h : Fin 2) (r : Fin 8) (s : State), s.avsSlot h r = true → (s.gov h).rail = s.fld (F.GOV_STATUS_VFAB_MV h) → 50 < ((s.fld (F.GOV_ADC_CODE h 0) : Int) - 2 * (s.fld (F.GOV_STATUS_VFAB_MV h) : Nat)).natAbs → exec (.vfabTrackFault h r) s = .next (s.setSlotState h r 3)) ∧
  (∀ (h : Fin 2) (s : State), exec (.vfabOutOfRange h) s = .next (((s.modGov h fun g => { g with windowBad := true }).govRaise h FATAL 5 0).thermalStop h STOP_VFAB)) ∧
  (∀ (h : Fin 2) (j : Fin 4) (rpm : Word) (s : State), s.hasTach h j = true → (s.signalPin h 6 j).isSome = true → 300 ≤ rpm.toNat → exec (.tachMeasure h j rpm) s = .next ((s.setFld (F.GOV_FAN_RPM h j) (min 65535 rpm.toNat)).modGov h fun g => { g with stalled := g.stalled.filter (· != j.val) })) ∧
  (∀ (h : Fin 2) (j : Fin 4) (rpm : Word) (s : State), s.hasTach h j = true → (s.signalPin h 6 j).isSome = true → rpm.toNat < 300 → exec (.tachMeasure h j rpm) s = .next (s.setFld (F.GOV_FAN_RPM h j) (min 65535 rpm.toNat))) ∧
  (∀ (h : Fin 2) (j : Fin 4) (rpm : Word) (s : State), s.hasTach h j = true → (s.signalPin h 6 j).isSome = false → exec (.tachMeasure h j rpm) s = .next (s.setFld (F.GOV_FAN_RPM h j) 0)) ∧
  (∀ (h : Fin 2) (j : Fin 4) (s : State), s.hasTach h j = true → s.fld (F.GOV_FAN_ROLE h j) ≠ 0 → s.fld (F.GOV_FAN_RPM h j) < 300 → min 100 (s.fld (F.GOV_COOL_DUTY_MIN h)) ≤ s.fld (F.GOV_FAN_DUTY h j) → (s.gov h).stalled.contains j.val = false → exec (.fanStall h j) s = .next (if ((((s.modGov h fun g => { g with stalled := g.stalled ++ [j.val] }).setFld (F.GOV_FAN_STALL h j) 1)).govRaise h ERROR 2 j).fld (F.GOV_FAN_ROLE h j) = 2 then ((((s.modGov h fun g => { g with stalled := g.stalled ++ [j.val] }).setFld (F.GOV_FAN_STALL h j) 1)).govRaise h ERROR 2 j).pumpLoss h j else ((((s.modGov h fun g => { g with stalled := g.stalled ++ [j.val] }).setFld (F.GOV_FAN_STALL h j) 1)).govRaise h ERROR 2 j)))

/-- R608 to R614, R618, R619, R622, R633; the channel of a report by a FLOW input is free (Assumption 3); the equation names the whole
next state, so whatever it does not name is as before. -/
def Obligations.GovernorControl : Prop :=
  (∀ (h : Fin 2) (i : Fin 8) (s : State), s.flowLow h i = true → exec (.flowLowExpiry h i) s = .next (s.useFree.pumpLoss h (s.freeVal % 64))) ∧
  (∀ (h : Fin 2) (s : State), ((s.gov h).stalled.any fun j => s.fld (F.GOV_FAN_ROLE h j) == 2) = false → (List.range 8).any (s.flowLow h) = false → exec (.pumpLossEnd h) s = .next (s.setFld (F.GOV_STATUS_PUMP_LOSS h) 0)) ∧
  (∀ (h : Fin 2) (s : State), exec (.thermalModelUpdate h) s = .next (s.modelUpdate h)) ∧
  (∀ (h : Fin 2) (s : State), exec (.vfabTargetUpdate h) s = .next (s.targetUpdate h)) ∧
  (∀ (s : State), s.causewayUp 0 = true → s.causewayUp 1 = true → exec (.capShareUpdate) s = .next ((([0, 1].foldl (fun t h => t.modGov h fun g => { g with noExchange := false }) s).setShare 0 s.shares.1).setShare 1 s.shares.2)) ∧
  (∀ (s : State), s.causewayUp 0 = false ∨ s.causewayUp 1 = false → exec (.capShareUpdate) s = .next ([0, 1].foldl (fun t h => t.setShare h (if (t.gov h).noExchange then t.halfCap h else t.fld (F.GOV_CAP_SHARE_W h))) s)) ∧
  (∀ (h : Fin 2) (s : State), exec (.capExchangeLost h) s = .next ((s.modGov h fun g => { g with noExchange := true }).setShare h (s.halfCap h))) ∧
  (∀ (s : State), s.stopCondition 0 = false → s.stopCondition 1 = false → exec (.thermalAutoClear) s = .next ([0, 1].foldl (fun t h => if t.on (F.GOV_CTL_AUTO_CLEAR h) then t.clearStop h else t) s)) ∧
  (∀ (h : Fin 2) (kind : Fin 8) (unit : Fin 64) (cls code n : Nat) (s : State), govKind kind = some (cls, code, n) → unit.val < n → exec (.govInject h kind unit) s = .next ((s.setFlds [(F.GOV_INJECT_INJ_KIND h, kind), (F.GOV_INJECT_INJ_UNIT h, unit)]).govRaise h cls code unit true)) ∧
  (∀ (h : Fin 2) (kind : Fin 8) (unit : Fin 64) (cls code n : Nat) (s : State), govKind kind = some (cls, code, n) → n ≤ unit.val → exec (.govInject h kind unit) s = .next ((s.setFlds [(F.GOV_INJECT_INJ_KIND h, kind), (F.GOV_INJECT_INJ_UNIT h, unit)]).setFld (F.GOV_INJECT_INJ_REFUSED h) 1)) ∧
  (∀ (h : Fin 2) (kind : Fin 8) (unit : Fin 64) (s : State), 6 ≤ kind.val → exec (.govInject h kind unit) s = .next ((s.setFlds [(F.GOV_INJECT_INJ_KIND h, kind), (F.GOV_INJECT_INJ_UNIT h, unit)]).setFld (F.GOV_INJECT_INJ_REFUSED h) 1))

/-- R634, R651, R656, R658 (R10, R31, R324, R738 for the refusal of cores and debuggers); an injected report names what no rule states
with free values (Assumption 3); the equation names the whole next state, so whatever it does not name is as before. -/
def Obligations.PinEvents : Prop :=
  (∀ (i : Fin 384) (level : Bool) (s : State), exec (.pinInputEdge i level) s = .next (s.pinEdge i (s.drivenLevel i level))) ∧
  (∀ (b : Fin 12) (mask : Word) (l : Fin 16) (s : State), s.asleep (.link l) = false → s.on (F.PIN_BANK_CTL_HOST_EN b) = true → exec (.pinBankSet b (.link l) mask) s = .next (s.bankWrite b 0 mask.toNat)) ∧
  (∀ (b : Fin 12) (mask : Word) (l : Fin 16) (s : State), s.asleep (.link l) = false → s.on (F.PIN_BANK_CTL_HOST_EN b) = false → exec (.pinBankSet b (.link l) mask) s = .next (s)) ∧
  (∀ (b : Fin 12) (mask : Word) (h : Fin 2) (s : State), exec (.pinBankSet b (.mgmt h) mask) s = .next (s.bankWrite b 0 mask.toNat)) ∧
  (∀ (b : Fin 12) (mask : Word) (c : Fin 16) (s : State), exec (.pinBankSet b (.core c) mask) s = .next (s.misuse (.core c) 3 (0x00300800 + 32 * b + 4 * 0))) ∧
  (∀ (b : Fin 12) (mask : Word) (s : State), exec (.pinBankSet b .debug mask) s = .next (s.misuse .debug 3 (0x00300800 + 32 * b + 4 * 0))) ∧
  (∀ (b : Fin 12) (mask : Word) (l : Fin 16) (s : State), s.asleep (.link l) = false → s.on (F.PIN_BANK_CTL_HOST_EN b) = true → exec (.pinBankClr b (.link l) mask) s = .next (s.bankWrite b 1 mask.toNat)) ∧
  (∀ (b : Fin 12) (mask : Word) (l : Fin 16) (s : State), s.asleep (.link l) = false → s.on (F.PIN_BANK_CTL_HOST_EN b) = false → exec (.pinBankClr b (.link l) mask) s = .next (s)) ∧
  (∀ (b : Fin 12) (mask : Word) (h : Fin 2) (s : State), exec (.pinBankClr b (.mgmt h) mask) s = .next (s.bankWrite b 1 mask.toNat)) ∧
  (∀ (b : Fin 12) (mask : Word) (c : Fin 16) (s : State), exec (.pinBankClr b (.core c) mask) s = .next (s.misuse (.core c) 3 (0x00300800 + 32 * b + 4 * 1))) ∧
  (∀ (b : Fin 12) (mask : Word) (s : State), exec (.pinBankClr b .debug mask) s = .next (s.misuse .debug 3 (0x00300800 + 32 * b + 4 * 1))) ∧
  (∀ (b : Fin 12) (mask : Word) (l : Fin 16) (s : State), s.asleep (.link l) = false → s.on (F.PIN_BANK_CTL_HOST_EN b) = true → exec (.pinBankTgl b (.link l) mask) s = .next (s.bankWrite b 2 mask.toNat)) ∧
  (∀ (b : Fin 12) (mask : Word) (l : Fin 16) (s : State), s.asleep (.link l) = false → s.on (F.PIN_BANK_CTL_HOST_EN b) = false → exec (.pinBankTgl b (.link l) mask) s = .next (s)) ∧
  (∀ (b : Fin 12) (mask : Word) (h : Fin 2) (s : State), exec (.pinBankTgl b (.mgmt h) mask) s = .next (s.bankWrite b 2 mask.toNat)) ∧
  (∀ (b : Fin 12) (mask : Word) (c : Fin 16) (s : State), exec (.pinBankTgl b (.core c) mask) s = .next (s.misuse (.core c) 3 (0x00300800 + 32 * b + 4 * 2))) ∧
  (∀ (b : Fin 12) (mask : Word) (s : State), exec (.pinBankTgl b .debug mask) s = .next (s.misuse .debug 3 (0x00300800 + 32 * b + 4 * 2))) ∧
  (∀ (l : Fin 16) (off : BitVec 16) (write : Bool) (s : State), s.asleep (.link l) = false → mirrorOffset off.toNat = false → exec (.pinMirrorMisuse l off write) s = .next ((s.misuse (.link l) 6 (0x50000 + off.toNat)).reply (if write then .none else .word 0))) ∧
  (∀ (s : State), exec (.pinInject 0) s = .next ((s.setFlds [(F.PIN_INJECT_INJECT, 0), (F.PIN_INJECT_INJ_KIND, 0)]).useFree.raise { half := (s.setFlds [(F.PIN_INJECT_INJECT, 0), (F.PIN_INJECT_INJ_KIND, 0)]).freeVal % 2, cls := NOTICE, src := 17, code := 1, unit := (s.setFlds [(F.PIN_INJECT_INJECT, 0), (F.PIN_INJECT_INJ_KIND, 0)]).freeVal % 2, ctx := (s.setFlds [(F.PIN_INJECT_INJECT, 0), (F.PIN_INJECT_INJ_KIND, 0)]).freeVal, inj := true })) ∧
  (∀ (s : State), exec (.pinInject 1) s = .next ((s.setFlds [(F.PIN_INJECT_INJECT, 0), (F.PIN_INJECT_INJ_KIND, 1)]).useFree.raise { half := (s.setFlds [(F.PIN_INJECT_INJECT, 0), (F.PIN_INJECT_INJ_KIND, 1)]).freeVal % 12 / 6, cls := NOTICE, src := 17, code := 2, unit := (s.setFlds [(F.PIN_INJECT_INJECT, 0), (F.PIN_INJECT_INJ_KIND, 1)]).freeVal % 12, inj := true })) ∧
  (∀ (kind : Fin 4) (s : State), 2 ≤ kind.val → exec (.pinInject kind) s = .next ((s.setFlds [(F.PIN_INJECT_INJECT, 0), (F.PIN_INJECT_INJ_KIND, kind)]).setFld F.PIN_INJECT_INJ_REFUSED 1)) ∧
  (∀ (b : Fin 12) (low : Bool) (s : State), exec (.bankVioChange b low) s = .next ((s.setBankDown b low).each ((List.range 32).map (32 * b.val + ·)) fun i t => t.noteEdge s i))

/-- R346, R347, R653 to R655; the trap value is free (Assumption 3); the equation names the whole next state, so whatever it does not name
is as before. -/
def Obligations.SerialEngines : Prop :=
  (∀ (c : Fin 16) (v : Dword) (e : Nat) (s : State), (s.core c).live = true → s.isHalted c = false → (s.core c).prv = 3 → s.serialOf c = some e → exec (.serialPush c v) s = .next ((s.modSerial e (·.push v.toNat)).modCore c fun k => { k with pc := k.pc + 4 })) ∧
  (∀ (c : Fin 16) (e : Nat) (s : State), (s.core c).live = true → s.isHalted c = false → (s.core c).prv = 3 → s.serialOf c = some e → exec (.serialPop c) s = .next (((s.setSerial e (s.serial e).pop.2).reply (.num (s.serial e).pop.1)).modCore c fun k => { k with pc := k.pc + 4 })) ∧
  (∀ (c : Fin 16) (v : Dword) (e : Nat) (s : State), (s.core c).live = true → s.isHalted c = false → (s.core c).prv = 3 → s.serialOf c = some e → exec (.serialConfig c v) s = .next ((s.modSerial e (·.config v.toNat)).modCore c fun k => { k with pc := k.pc + 4 })) ∧
  (∀ (c : Fin 16) (v : Dword) (e : Nat) (s : State), (s.core c).live = true → s.isHalted c = false → (s.core c).prv = 3 → s.serialOf c = some e → exec (.serstatClear c v) s = .next ((s.modSerial e (·.clear v.toNat)).modCore c fun k => { k with pc := k.pc + 4 })) ∧
  (∀ (c : Fin 16) (v : Dword) (s : State), (s.core c).live = true → s.isHalted c = false → (s.core c).prv = 3 → s.serialOf c = none → exec (.serialPush c v) s = .next (s.modCore c fun k => { k with pc := k.pc + 4 })) ∧
  (∀ (c : Fin 16) (v : Dword) (s : State), (s.core c).live = true → s.isHalted c = false → (s.core c).prv = 3 → s.serialOf c = none → exec (.serialConfig c v) s = .next (s.modCore c fun k => { k with pc := k.pc + 4 })) ∧
  (∀ (c : Fin 16) (v : Dword) (s : State), (s.core c).live = true → s.isHalted c = false → (s.core c).prv = 3 → s.serialOf c = none → exec (.serstatClear c v) s = .next (s.modCore c fun k => { k with pc := k.pc + 4 })) ∧
  (∀ (c : Fin 16) (s : State), (s.core c).live = true → s.isHalted c = false → (s.core c).prv = 3 → s.serialOf c = none → exec (.serialPop c) s = .next ((s.reply (.num 0)).modCore c fun k => { k with pc := k.pc + 4 })) ∧
  (∀ (c : Fin 16) (v : Dword) (s : State), (s.core c).live = true → s.isHalted c = false → (s.core c).prv = 3 → exec (.pinset c v) s = .next ((s.pinPort c 0 v.toNat).modCore c fun k => { k with pc := k.pc + 4 })) ∧
  (∀ (c : Fin 16) (v : Dword) (s : State), (s.core c).live = true → s.isHalted c = false → (s.core c).prv = 3 → exec (.pinclr c v) s = .next ((s.pinPort c 1 v.toNat).modCore c fun k => { k with pc := k.pc + 4 })) ∧
  (∀ (c : Fin 16) (v : Dword) (s : State), (s.core c).live = true → s.isHalted c = false → (s.core c).prv = 3 → exec (.pintgl c v) s = .next ((s.pinPort c 2 v.toNat).modCore c fun k => { k with pc := k.pc + 4 })) ∧
  (∀ (c : Fin 16) (v : Dword) (s : State), (s.core c).live = true → s.isHalted c = false → (s.core c).prv ≠ 3 → exec (.serialPush c v) s = .next (s.useFree.coreTrap c 2 s.freeVal (s.core c).pc)) ∧
  (∀ (c : Fin 16) (s : State), (s.core c).live = true → s.isHalted c = false → (s.core c).prv ≠ 3 → exec (.serialPop c) s = .next (s.useFree.coreTrap c 2 s.freeVal (s.core c).pc)) ∧
  (∀ (c : Fin 16) (v : Dword) (s : State), (s.core c).live = true → s.isHalted c = false → (s.core c).prv ≠ 3 → exec (.serialConfig c v) s = .next (s.useFree.coreTrap c 2 s.freeVal (s.core c).pc)) ∧
  (∀ (c : Fin 16) (v : Dword) (s : State), (s.core c).live = true → s.isHalted c = false → (s.core c).prv ≠ 3 → exec (.serstatClear c v) s = .next (s.useFree.coreTrap c 2 s.freeVal (s.core c).pc)) ∧
  (∀ (c : Fin 16) (v : Dword) (s : State), (s.core c).live = true → s.isHalted c = false → (s.core c).prv ≠ 3 → exec (.pinset c v) s = .next (s.useFree.coreTrap c 2 s.freeVal (s.core c).pc)) ∧
  (∀ (c : Fin 16) (v : Dword) (s : State), (s.core c).live = true → s.isHalted c = false → (s.core c).prv ≠ 3 → exec (.pinclr c v) s = .next (s.useFree.coreTrap c 2 s.freeVal (s.core c).pc)) ∧
  (∀ (c : Fin 16) (v : Dword) (s : State), (s.core c).live = true → s.isHalted c = false → (s.core c).prv ≠ 3 → exec (.pintgl c v) s = .next (s.useFree.coreTrap c 2 s.freeVal (s.core c).pc)) ∧
  (∀ (e : Fin 12) (data : Byte) (err lost : Bool) (w : Nat) (s : State), serialKind e ≠ 2 → (s.serial e).current = some w → exec (.serialByteDone e false data err lost) s = .next (if (s.setSerial e ((s.serial e).clocked (s.serialByte e data err) (lost && serialKind e == 1))).serial e = s.serial e then (s.setSerial e ((s.serial e).clocked (s.serialByte e data err) (lost && serialKind e == 1))) else (s.setSerial e ((s.serial e).clocked (s.serialByte e data err) (lost && serialKind e == 1))).send (.line (0x100 + e.val) [w]))) ∧
  (∀ (e : Fin 12) (data : Byte) (err lost : Bool) (s : State), serialKind e = 2 → exec (.serialByteDone e true data err lost) s = .next (if (s.signalPin (e / 6) 4 (serialInput e).2).isSome then s.setSerial e ((s.serial e).received (s.serialByte e data err)) else s)) ∧
  (∀ (e : Fin 12) (data : Byte) (err lost : Bool) (w : Nat) (s : State), serialKind e = 2 → (s.serial e).current = some w → exec (.serialByteDone e false data err lost) s = .next (if (s.setSerial e (s.serial e).sent).serial e = s.serial e then (s.setSerial e (s.serial e).sent) else (s.setSerial e (s.serial e).sent).send (.line (0x100 + e.val) [w])))

/-- R667, R669, R677, R682, R690, R692. R684, R686, R687, R688, R693; the context of the report is free (Assumption 3). The equations name
the whole next state, so whatever they do not name is as before. -/
def Obligations.LogAndClock : Prop :=
  (∀ (h : Fin 2) (good : Bool) (s : State), s.takeReport h = none → exec (.logWriterSlot h good) s = .next (s)) ∧
  (∀ (h : Fin 2) (good : Bool) (s : State), s.takeReport h ≠ none → (s.log h).wrapDue = false → exec (.logWriterSlot h good) s = .next (match s.takeReport h with | some (cls, r, sum, t) => t.writeEntry h cls r sum good | none => s)) ∧
  (∀ (h : Fin 2) (good : Bool) (s : State), s.takeReport h ≠ none → (s.log h).wrapDue = true → exec (.logWriterSlot h good) s = .next ((s.modLog h fun l => { l with wrapDue := false }).useFree.writeEntry h NOTICE { word := Raise.word { half := h, cls := NOTICE, src := 0, code := 2, unit := h }, ctx := BitVec.ofNat 32 s.freeVal, ns := s.ns } false good)) ∧
  (∀ (h b : Fin 2) (s : State), (s.setFlds [(F.ERR_INJECT_INJ_KIND h, 0), (F.ERR_INJECT_BANK h, b), (F.ERR_INJECT_COUNT h, 0)]).bankServes h b = true → exec (.errInjectLogCe h b) s = .next (((s.setFlds [(F.ERR_INJECT_INJ_KIND h, 0), (F.ERR_INJECT_BANK h, b), (F.ERR_INJECT_COUNT h, 0)]).setFld (F.ERR_INJECT_INJECT h) 1).modLog h fun l => if b.val = 0 then { l with inject0 := 1 } else { l with inject1 := 1 })) ∧
  (∀ (h b : Fin 2) (s : State), (s.setFlds [(F.ERR_INJECT_INJ_KIND h, 0), (F.ERR_INJECT_BANK h, b), (F.ERR_INJECT_COUNT h, 0)]).bankServes h b = false → exec (.errInjectLogCe h b) s = .next ((s.setFlds [(F.ERR_INJECT_INJ_KIND h, 0), (F.ERR_INJECT_BANK h, b), (F.ERR_INJECT_COUNT h, 0)]).setFld (F.ERR_INJECT_INJ_REFUSED h) 1)) ∧
  (∀ (h b : Fin 2) (s : State), (s.setFlds [(F.ERR_INJECT_INJ_KIND h, 1), (F.ERR_INJECT_BANK h, b), (F.ERR_INJECT_COUNT h, 0)]).bankServes h b = true → exec (.errInjectLogUe h b) s = .next (((s.setFlds [(F.ERR_INJECT_INJ_KIND h, 1), (F.ERR_INJECT_BANK h, b), (F.ERR_INJECT_COUNT h, 0)]).setFld (F.ERR_INJECT_INJECT h) 1).modLog h fun l => if b.val = 0 then { l with inject0 := 2 } else { l with inject1 := 2 })) ∧
  (∀ (h b : Fin 2) (s : State), (s.setFlds [(F.ERR_INJECT_INJ_KIND h, 1), (F.ERR_INJECT_BANK h, b), (F.ERR_INJECT_COUNT h, 0)]).bankServes h b = false → exec (.errInjectLogUe h b) s = .next ((s.setFlds [(F.ERR_INJECT_INJ_KIND h, 1), (F.ERR_INJECT_BANK h, b), (F.ERR_INJECT_COUNT h, 0)]).setFld (F.ERR_INJECT_INJ_REFUSED h) 1)) ∧
  (∀ (h : Fin 2) (word ctx : Word) (s : State), wordRefused (((((s.setReg (R.ERR_INJ_WORD h) word).setReg (R.ERR_INJ_CTX h) ctx).setFlds [(F.ERR_INJECT_INJ_KIND h, 2), (F.ERR_INJECT_BANK h, 0), (F.ERR_INJECT_COUNT h, 0)]).reg (R.ERR_INJ_WORD h)).toNat) = false → exec (.errInjectWord h word ctx) s = .next ((((s.setReg (R.ERR_INJ_WORD h) word).setReg (R.ERR_INJ_CTX h) ctx).setFlds [(F.ERR_INJECT_INJ_KIND h, 2), (F.ERR_INJECT_BANK h, 0), (F.ERR_INJECT_COUNT h, 0)]).raise (injectedWord h (((((s.setReg (R.ERR_INJ_WORD h) word).setReg (R.ERR_INJ_CTX h) ctx).setFlds [(F.ERR_INJECT_INJ_KIND h, 2), (F.ERR_INJECT_BANK h, 0), (F.ERR_INJECT_COUNT h, 0)]).reg (R.ERR_INJ_WORD h)).toNat) ((((s.setReg (R.ERR_INJ_WORD h) word).setReg (R.ERR_INJ_CTX h) ctx).setFlds [(F.ERR_INJECT_INJ_KIND h, 2), (F.ERR_INJECT_BANK h, 0), (F.ERR_INJECT_COUNT h, 0)]).reg (R.ERR_INJ_CTX h)).toNat))) ∧
  (∀ (h : Fin 2) (word ctx : Word) (s : State), wordRefused (((((s.setReg (R.ERR_INJ_WORD h) word).setReg (R.ERR_INJ_CTX h) ctx).setFlds [(F.ERR_INJECT_INJ_KIND h, 2), (F.ERR_INJECT_BANK h, 0), (F.ERR_INJECT_COUNT h, 0)]).reg (R.ERR_INJ_WORD h)).toNat) = true → exec (.errInjectWord h word ctx) s = .next ((((s.setReg (R.ERR_INJ_WORD h) word).setReg (R.ERR_INJ_CTX h) ctx).setFlds [(F.ERR_INJECT_INJ_KIND h, 2), (F.ERR_INJECT_BANK h, 0), (F.ERR_INJECT_COUNT h, 0)]).setFld (F.ERR_INJECT_INJ_REFUSED h) 1)) ∧
  (∀ (h : Fin 2) (word ctx : Word) (n : BitVec 16) (s : State), wordRefused (((((s.setReg (R.ERR_INJ_WORD h) word).setReg (R.ERR_INJ_CTX h) ctx).setFlds [(F.ERR_INJECT_INJ_KIND h, 3), (F.ERR_INJECT_BANK h, 0), (F.ERR_INJECT_COUNT h, n.toNat)]).reg (R.ERR_INJ_WORD h)).toNat) = false → exec (.errInjectStorm h word ctx n) s = .next ((((s.setReg (R.ERR_INJ_WORD h) word).setReg (R.ERR_INJ_CTX h) ctx).setFlds [(F.ERR_INJECT_INJ_KIND h, 3), (F.ERR_INJECT_BANK h, 0), (F.ERR_INJECT_COUNT h, n.toNat)]).each (List.range ((((s.setReg (R.ERR_INJ_WORD h) word).setReg (R.ERR_INJ_CTX h) ctx).setFlds [(F.ERR_INJECT_INJ_KIND h, 3), (F.ERR_INJECT_BANK h, 0), (F.ERR_INJECT_COUNT h, n.toNat)]).fld (F.ERR_INJECT_COUNT h))) fun _ u => u.raise (injectedWord h (((((s.setReg (R.ERR_INJ_WORD h) word).setReg (R.ERR_INJ_CTX h) ctx).setFlds [(F.ERR_INJECT_INJ_KIND h, 3), (F.ERR_INJECT_BANK h, 0), (F.ERR_INJECT_COUNT h, n.toNat)]).reg (R.ERR_INJ_WORD h)).toNat) ((((s.setReg (R.ERR_INJ_WORD h) word).setReg (R.ERR_INJ_CTX h) ctx).setFlds [(F.ERR_INJECT_INJ_KIND h, 3), (F.ERR_INJECT_BANK h, 0), (F.ERR_INJECT_COUNT h, n.toNat)]).reg (R.ERR_INJ_CTX h)).toNat))) ∧
  (∀ (h : Fin 2) (word ctx : Word) (n : BitVec 16) (s : State), wordRefused (((((s.setReg (R.ERR_INJ_WORD h) word).setReg (R.ERR_INJ_CTX h) ctx).setFlds [(F.ERR_INJECT_INJ_KIND h, 3), (F.ERR_INJECT_BANK h, 0), (F.ERR_INJECT_COUNT h, n.toNat)]).reg (R.ERR_INJ_WORD h)).toNat) = true → exec (.errInjectStorm h word ctx n) s = .next ((((s.setReg (R.ERR_INJ_WORD h) word).setReg (R.ERR_INJ_CTX h) ctx).setFlds [(F.ERR_INJECT_INJ_KIND h, 3), (F.ERR_INJECT_BANK h, 0), (F.ERR_INJECT_COUNT h, n.toNat)]).setFld (F.ERR_INJECT_INJ_REFUSED h) 1)) ∧
  (∀ (h : Fin 2) (s : State), exec (.lrClr h) s = .next ((s.each (List.range 64) fun i t => t.setReg (R.ERR_LR h i) 0).setFlds [(F.ERR_STATUS_LR_COUNT h, 0), (F.ERR_STATUS_LR_DROP h, 0)])) ∧
  (∀ (s : State), s.on F.RTC_STATUS_EXHAUSTED = true → exec (.rtcTick) s = .next (({ s with rtc := { s.rtc with stopped := false } } : State))) ∧
  (∀ (s : State), s.on F.RTC_STATUS_EXHAUSTED = false → s.fld F.RTC_STATUS_SUBSEC < 32767 → exec (.rtcTick) s = .next (({ s with rtc := { s.rtc with stopped := false } } : State).setFld F.RTC_STATUS_SUBSEC (s.fld F.RTC_STATUS_SUBSEC + 1))) ∧
  (∀ (s : State), s.on F.RTC_STATUS_EXHAUSTED = false → 32767 ≤ s.fld F.RTC_STATUS_SUBSEC → exec (.rtcTick) s = .next (((({ s with rtc := { s.rtc with stopped := false } } : State).setFld F.RTC_STATUS_SUBSEC 0).setClock s.clock.next).put F.RTC_STATUS_EXHAUSTED (s.clock.next == Clock.last))) ∧
  (∀ (s : State), s.rtc.stopped = false → s.supplyLow = false → exec (.rtcCrystalStopped) s = .next ((({ s with rtc := { s.rtc with stopped := true } } : State).setFlds [(F.RTC_STATUS_STOPPED, 1), (F.RTC_STATUS_NOT_SET, 1)]).useFree.raise { half := 0, cls := ERROR, src := 0, code := 6, unit := 0, ctx := (({ s with rtc := { s.rtc with stopped := true } } : State).setFlds [(F.RTC_STATUS_STOPPED, 1), (F.RTC_STATUS_NOT_SET, 1)]).freeVal })) ∧
  (∀ (s : State), s.causewayUp 1 = true → s.joined = true → exec (.rtcCopyUpdate) s = .next ({ s with rtc := { s.rtc with southSeconds := s.rtcSeconds, southNs := s.ns } })) ∧
  (∀ (a : Agent) (s : State), exec (.rtcDateRead a) s = .next (({ s with rtc := { s.rtc with latchTime := some (s.reg R.RTC_TIME), latchLow := some (s.reg (R.RTC_SECONDS 0)), latchHigh := some (s.reg (R.RTC_SECONDS 1)) } } : State).reply (.word (s.reg R.RTC_DATE))))

/-- R16, R531, R532, R678, R683, R710, R713, R714, R717, R718; the equation names the whole next state, so whatever it does not name is as
before. -/
def Obligations.ResetEvents : Prop :=
  (∀ (s : State), exec (.poresetnAssert) s = .next ({ s.coldReset 1 with poresetLow := true })) ∧
  (∀ (mode : Fin 8) (s : State), s.poresetLow = true → exec (.poresetnRelease mode) s = .next ({ s.setFld F.CFG_STATUS_MODE mode with poresetLow := false, ns := 0 })) ∧
  (∀ (s : State), exec (.supplyDetectorLow) s = .next ({ s.coldReset 2 with supplyLow := true })) ∧
  (∀ (s : State), exec (.powerOnDetectorRelease) s = .next ({ s with supplyLow := false })) ∧
  (∀ (s : State), exec (.vbatLoss) s = .next ({ ((({ s with supplyLow := true } : State).coldReset 2).resetRegs (fun _ => true) fun d => d == Dom.kept) with rtc := {}, sec := { ((({ s with supplyLow := true } : State).coldReset 2).resetRegs (fun _ => true) fun d => d == Dom.kept).sec with kb := 0, owedTamper := [], canaryLost := true } })) ∧
  (∀ (s : State), s.phase = 0 → s.poresetLow = false → s.supplyLow = false → s.sec.canaryLost = false → exec (.powerUpEnd) s = .next ((((s.setFld F.RST_STATUS_COLD_CAUSE s.coldCause).setFld F.CLK_STATUS_ROOT_LOCK 1).oweTamper.forceApproved.bootPorts).setPhase 1)) ∧
  (∀ (s : State), s.phase = 0 → s.poresetLow = false → s.supplyLow = false → s.sec.canaryLost = true → exec (.powerUpEnd) s = .next ((((s.setFld F.RST_STATUS_COLD_CAUSE s.coldCause).freshBattery.setFld F.CLK_STATUS_ROOT_LOCK 1).oweTamper.forceApproved.bootPorts).setPhase 1)) ∧
  (∀ (s : State), s.bootDone = true → s.afterBoot = 5 → exec (.secureBootEnd) s = .next (({ s with afterBoot := 2, cfgDoneLow := false } : State).setPhase DONE_WAIT)) ∧
  (∀ (s : State), s.bootDone = true → s.afterBoot ≠ 5 → s.modeInvalid = true → exec (.secureBootEnd) s = .next ((({ s with afterBoot := 2, cfgErr := true } : State).setPhase CONFIG_WAIT).setFld F.CFG_STATUS_CAUSE 1)) ∧
  (∀ (s : State), s.bootDone = true → s.afterBoot ≠ 5 → s.modeInvalid = false → exec (.secureBootEnd) s = .next (({ s with afterBoot := 2 } : State).setPhase CONFIG_WAIT)) ∧
  (∀ (s : State), s.phase = 1 → s.bootDone = false → exec (.bootTimeout) s = .next (s.coldReset 4)) ∧
  (∀ (loop : Fin 7) (s : State), s.phase ≠ 0 → exec (.pllLockLoss loop false) s = .next (s.setFld ⟨R.CLK_STATUS, 11 + loop, 11 + loop⟩ 1)) ∧
  (∀ (loop : Fin 7) (s : State), s.phase ≠ 0 → loop.val ≤ 2 → exec (.pllLockLoss loop true) s = .next (s.coldReset 3)) ∧
  (∀ (loop : Fin 7) (s : State), s.phase ≠ 0 → 3 ≤ loop.val → exec (.pllLockLoss loop true) s = .next ((s.linksOf (loop - 3)).foldl (fun t l => if t.linkUp l then (t.loseLink l).retrain l else t) (s.setFld F.CLK_STATUS_SERDES_LOCK (putBits (s.fld F.CLK_STATUS_SERDES_LOCK) (loop - 3) (loop - 3) 0)))) ∧
  (∀ (h : Fin 2) (w : WarmRun) (s : State), s.warm = some w → w.halves.contains h.val = true → w.logDone.contains h.val = false → exec (.warmLogFlushTimeout h) s = .next ({ s.setLog h { s.log h with fatals := [], errors := [], notices := [], owed := (s.log h).owed ++ ([(2, (s.log h).fatals.length), (1, (s.log h).errors.length), (0, (s.log h).notices.length)].filter fun p => p.2 != 0) } with warm := some { w with logDone := w.logDone ++ [h.val] } })) ∧
  (∀ (w : WarmRun) (s : State), s.warm = some w → (w.halves.all fun h => w.logOver s h && w.cohDone.contains h) = true → exec (.warmResetBegin) s = .next (s.warmDomain w)) ∧
  (∀ (w : WarmRun) (s : State), s.warm = some w → (w.halves.all fun h => w.logOver s h && w.cohDone.contains h) = false → exec (.warmResetBegin) s = .next (s))

/-- R696, R697, R701, R703, R705, R706; the context of an injected report is free (Assumption 3); the equation names the whole next state,
so whatever it does not name is as before. -/
def Obligations.SelftestEvents : Prop :=
  (∀ (h : Fin 2) (s : State), s.on (F.ST_CTL_EN h) = true → (s.sweep h).kind = 0 → exec (.selftestSweepStart h) s = .next ((s.startSweep h 1).testPump h)) ∧
  (∀ (h : Fin 2) (s : State), s.on (F.ST_CTL_EN h) = true → (s.sweep h).kind = 1 → exec (.selftestSweepStart h) s = .next ((s.modSweep h fun w => { w with due := true }).setFld (F.ST_STATUS_OVERRUN h) 1)) ∧
  (∀ (h : Fin 2) (s : State), s.on (F.ST_CTL_EN h) = true → 2 ≤ (s.sweep h).kind → exec (.selftestSweepStart h) s = .next (s.modSweep h fun w => { w with due := true })) ∧
  (∀ (n : Fin 256) (x : Slice) (s : State), s.slice n = some x → x.phase = 2 → exec (.sliceSaveDone n) s = .next (s.setSlice n (some { s.saveSlice n x with phase := 3 }))) ∧
  (∀ (n : Fin 256) (x : Slice) (signature : Dword) (s : State), s.slice n = some x → x.phase = 3 → s.invertedAt n = false → signature = (s.pan n).golden.getD 0 → exec (.slicePatternsDone n signature) s = .next (s.setSlice n (some { x with phase := 4 }))) ∧
  (∀ (n : Fin 256) (x : Slice) (signature : Dword) (s : State), s.slice n = some x → x.phase = 3 → s.invertedAt n = true ∨ signature ≠ (s.pan n).golden.getD 0 → exec (.slicePatternsDone n signature) s = .next (((s.setInvertedAt n false).when (s.invertedAt n) fun u => u.setFld (F.ST_INJECT_INJECT (halfOfPan n)) 0).sliceFails n x 1 ((signature ^^^ (s.pan n).golden.getD 0).toNat) (s.invertedAt n))) ∧
  (∀ (n : Fin 256) (x : Slice) (s : State), s.slice n = some x → x.phase = 4 → exec (.sliceRestoreDone n true) s = .next (s.sliceFails n x 2 0 false)) ∧
  (∀ (n : Fin 256) (x : Slice) (s : State), s.slice n = some x → x.phase = 4 → exec (.sliceRestoreDone n false) s = .next ((((((s.restoreSlice n x).endSlice n x (some true)).count (F.ST_COUNTS_PASSED (halfOfPan n)) none).clearHold n (F.PAN_SLUICE_STATUS_HOLD_TEST n)).testPump (halfOfPan n)).settle)) ∧
  (∀ (h : Fin 2) (s : State), exec (.stCountsClear h) s = .next (s.setFlds [(F.ST_COUNTS_PASSED h, 0), (F.ST_COUNTS_FAILED h, 0), (F.ST_COUNTS_ABANDONED h, 0)])) ∧
  (∀ (h : Fin 2) (pan : BitVec 8) (s : State), halfOfPan pan.toNat = h.val → exec (.stInjectReport h pan) s = .next ((s.setFlds [(F.ST_INJECT_INJECT h, 0), (F.ST_INJECT_INJ_KIND h, 0), (F.ST_INJECT_INJ_PAN h, pan.toNat)]).useFree.raise { half := h, cls := ERROR, src := 0x12, code := 1, unit := pan.toNat, ctx := (s.setFlds [(F.ST_INJECT_INJECT h, 0), (F.ST_INJECT_INJ_KIND h, 0), (F.ST_INJECT_INJ_PAN h, pan.toNat)]).freeVal, inj := true })) ∧
  (∀ (h : Fin 2) (pan : BitVec 8) (s : State), halfOfPan pan.toNat ≠ h.val → exec (.stInjectReport h pan) s = .next ((s.setFlds [(F.ST_INJECT_INJECT h, 0), (F.ST_INJECT_INJ_KIND h, 0), (F.ST_INJECT_INJ_PAN h, pan.toNat)]).setFld (F.ST_INJECT_INJ_REFUSED h) 1)) ∧
  (∀ (h : Fin 2) (pan : BitVec 8) (s : State), halfOfPan pan.toNat = h.val → s.testable pan.toNat = true → exec (.stInjectFail h pan) s = .next (((s.setFlds [(F.ST_INJECT_INJECT h, 0), (F.ST_INJECT_INJ_KIND h, 1), (F.ST_INJECT_INJ_PAN h, pan.toNat)]).setInvertedAt pan.toNat true).setFld (F.ST_INJECT_INJECT h) 1)) ∧
  (∀ (h : Fin 2) (pan : BitVec 8) (s : State), halfOfPan pan.toNat ≠ h.val ∨ s.testable pan.toNat = false → exec (.stInjectFail h pan) s = .next ((s.setFlds [(F.ST_INJECT_INJECT h, 0), (F.ST_INJECT_INJ_KIND h, 1), (F.ST_INJECT_INJ_PAN h, pan.toNat)]).setFld (F.ST_INJECT_INJ_REFUSED h) 1))

/-- R8, R10, R11, R26, R31, R324, R326; the equation names the whole next state, so whatever it does not name is as before. -/
def Obligations.SpaceAccesses : Prop :=
  (∀ (h : Fin 2) (addr : BitVec 25) (v : Word) (s : State), addr.toNat % 4 = 0 → s.regCutOff h addr.toNat = false → mailboxAt addr.toNat = none → exec (.registerWrite (.mgmt h) addr v) s = .next (s.writeReg h addr.toNat v.toNat)) ∧
  (∀ (h : Fin 2) (addr : BitVec 25) (v : Word) (l off : Nat) (s : State), addr.toNat % 4 = 0 → s.regCutOff h addr.toNat = false → mailboxAt addr.toNat = some (l, off) → exec (.registerWrite (.mgmt h) addr v) s = .next (s.mailboxWrite l off (.mgmt h) v.toNat)) ∧
  (∀ (h : Fin 2) (addr : BitVec 25) (v : Word) (s : State), addr.toNat % 4 = 0 → s.regCutOff h addr.toNat = true → exec (.registerWrite (.mgmt h) addr v) s = .next (s)) ∧
  (∀ (addr : BitVec 25) (v : Word) (s : State), addr.toNat % 4 = 0 → 0x00E01000 ≤ addr.toNat → addr.toNat < 0x00F00000 → exec (.registerWrite .debug addr v) s = .next (s.writeDebugReg addr.toNat v.toNat)) ∧
  (∀ (addr : BitVec 25) (v : Word) (s : State), addr.toNat % 4 = 0 → addr.toNat < 0x00E01000 ∨ 0x00F00000 ≤ addr.toNat → mailboxAt addr.toNat = none → exec (.registerWrite .debug addr v) s = .next (s.misuse .debug 3 addr.toNat)) ∧
  (∀ (addr : BitVec 25) (v : Word) (l : Fin 16) (s : State), s.asleep (.link l) = false → addr.toNat % 4 = 0 → mailboxAt addr.toNat = none → exec (.registerWrite (.link l) addr v) s = .next (s.misuse (.link l) 3 addr.toNat)) ∧
  (∀ (addr : BitVec 25) (v : Word) (l : Fin 16) (k off : Nat) (s : State), s.asleep (.link l) = false → addr.toNat % 4 = 0 → mailboxAt addr.toNat = some (k, off) → reachesMailbox k (.link l) = true → exec (.registerWrite (.link l) addr v) s = .next (s.mailboxWrite k off (.link l) v.toNat)) ∧
  (∀ (addr : BitVec 25) (v : Word) (l : Fin 16) (k off : Nat) (s : State), s.asleep (.link l) = false → addr.toNat % 4 = 0 → mailboxAt addr.toNat = some (k, off) → reachesMailbox k (.link l) = false → exec (.registerWrite (.link l) addr v) s = .next (s.misuse (.link l) 3 addr.toNat)) ∧
  (∀ (addr : BitVec 25) (v : Word) (c : Fin 16) (s : State), addr.toNat % 4 = 0 → (s.core c).live = true → s.isHalted c = false → mailboxAt addr.toNat = none → coreWritable addr.toNat = none → exec (.registerWrite (.core c) addr v) s = .next (s.misuse (.core c) 3 addr.toNat)) ∧
  (∀ (addr : BitVec 25) (v : Word) (c : Fin 16) (k w : Nat) (s : State), addr.toNat % 4 = 0 → (s.core c).live = true → s.isHalted c = false → mailboxAt addr.toNat = none → coreWritable addr.toNat = some (k, w) → (s.core c).prv = 3 → exec (.registerWrite (.core c) addr v) s = .next (if w = 0 then s.writeMsip k (bitOf v.toNat 0) else s.writeMtimecmp k (w == 2) v.toNat)) ∧
  (∀ (addr : BitVec 25) (v : Word) (c : Fin 16) (k w : Nat) (s : State), addr.toNat % 4 = 0 → (s.core c).live = true → s.isHalted c = false → mailboxAt addr.toNat = none → coreWritable addr.toNat = some (k, w) → (s.core c).prv ≠ 3 → exec (.registerWrite (.core c) addr v) s = .next (s.coreTrap c 7 addr.toNat (s.core c).pc)) ∧
  (∀ (h : Fin 2) (addr : BitVec 25) (v : Word) (s : State), addr.toNat % 4 = 0 → exec (.registerWrite (.sched h) addr v) s = .next (s)) ∧
  (∀ (h : Fin 2) (addr : BitVec 25) (v : Word) (s : State), addr.toNat % 4 = 0 → exec (.registerWrite (.coh h) addr v) s = .next (s)) ∧
  (∀ (a : Agent) (addr : BitVec 25) (v : Word) (s : State), s.asleep a = false → addr.toNat % 4 ≠ 0 → exec (.registerWrite a addr v) s = .next (s.misuse a 1 addr.toNat)) ∧
  (∀ (a : Agent) (addr : BitVec 25) (size : Fin 4) (write : Bool) (s : State), s.asleep a = false → size ≠ 2 ∨ addr.toNat % 4 ≠ 0 → exec (.misalignedAccess a addr size write) s = .next ((s.misuse a 1 addr.toNat).reply (if write then .none else .word 0))) ∧
  (∀ (a : Agent) (addr : Word) (write : Bool) (s : State), s.asleep a = false → 0x02000000 ≤ addr.toNat → exec (.outsideAccess a addr write) s = .next ((s.misuse a 2 addr.toNat).reply (if write then .none else .word 0))) ∧
  (∀ (l : Fin 16) (addr : BitVec 25) (v : Word) (s : State), s.asleep (.link l) = false → addr.toNat % 4 ≠ 0 → exec (.hostWriteRefused l addr v) s = .next (s.misuse (.link l) 1 addr.toNat)) ∧
  (∀ (l : Fin 16) (addr : BitVec 25) (v : Word) (s : State), s.asleep (.link l) = false → addr.toNat % 4 = 0 → mailboxAt addr.toNat = none → exec (.hostWriteRefused l addr v) s = .next (s.misuse (.link l) 3 addr.toNat)) ∧
  (∀ (l : Fin 16) (addr : BitVec 25) (v : Word) (k off : Nat) (s : State), s.asleep (.link l) = false → addr.toNat % 4 = 0 → mailboxAt addr.toNat = some (k, off) → k ≠ l.val → exec (.hostWriteRefused l addr v) s = .next (s.misuse (.link l) 3 addr.toNat))

/-- R8, R10, R11, R26, R31; ERR_INJ_CTX (R692) stands for a register of read-write fields -/
def Obligations.ControlSpaceCompletes : Prop :=
  (∀ (a : Agent) (addr : BitVec 25) (v : Word) (s : State), ∃ t, exec (.registerWrite a addr v) s = .next t) ∧
  (∀ (g h : Fin 2) (v : Word) (s : State), s.regCutOff g (R.ERR_INJ_CTX h) = false → exec (.registerWrite (.mgmt g) (BitVec.ofNat 25 (R.ERR_INJ_CTX h)) v) s = .next (s.setReg (R.ERR_INJ_CTX h) v)) ∧
  (∀ (a : Agent) (addr : Word) (write : Bool) (s : State), ∃ t, exec (.outsideAccess a addr write) s = .next t) ∧
  (∀ (a : Agent) (addr : Word) (s : State), s.asleep a = false → 0x02000000 ≤ addr.toNat → ∃ t, exec (.outsideAccess a addr false) s = .next t ∧ t.answer = .word 0) ∧
  (∀ (l : Fin 16) (addr : BitVec 25) (v : Word) (s : State), ∃ t, exec (.hostWriteRefused l addr v) s = .next t)

/-- R724 to R726, R729 to R731, R736, R738, with the formats of Assumption 13 (PRESUMED); the equation names the whole next state, so
whatever it does not name is as before. -/
def Obligations.DebugPort : Prop :=
  (∀ (s : State), exec (.tapReset) s = .next (s.modDbg fun d => { d.emptied with ir := 1 })) ∧
  (∀ (s : State), s.tapRuns = true → exec (.idcode) s = .next ((s.modDbg fun d => { d with ir := 1 }).reply (.num IDCODE))) ∧
  (∀ (cells : List Bool) (s : State), s.tapRuns = true → exec (.samplePreload cells) s = .next (((s.modDbg fun d => { d with ir := 2 }).reply (.words (s.modDbg fun d => { d with ir := 2 }).captureCells)).loadCells cells)) ∧
  (∀ (cells : List Bool) (s : State), s.tapRuns = true → bitOf s.dbgScope 0 = true → exec (.extest cells) s = .next (((s.modDbg fun d => { d with ir := 3 }).reply (.words (s.modDbg fun d => { d with ir := 3 }).captureCells)).loadCells cells)) ∧
  (∀ (cells : List Bool) (s : State), s.tapRuns = true → bitOf s.dbgScope 0 = false → exec (.extest cells) s = .next (((s.modDbg fun d => { d with ir := 0xFF }).setFld F.DBG_STATUS_INSTR_REFUSED 1))) ∧
  (∀ (s : State), s.tapRuns = true → bitOf s.dbgScope 0 = true → exec (.clamp) s = .next (s.modDbg fun d => { d with ir := 4 })) ∧
  (∀ (s : State), s.tapRuns = true → bitOf s.dbgScope 0 = false → exec (.clamp) s = .next (((s.modDbg fun d => { d with ir := 0xFF }).setFld F.DBG_STATUS_INSTR_REFUSED 1))) ∧
  (∀ (s : State), s.tapRuns = true → bitOf s.dbgScope 0 = true → exec (.highz) s = .next (s.modDbg fun d => { d with ir := 5 })) ∧
  (∀ (s : State), s.tapRuns = true → bitOf s.dbgScope 0 = false → exec (.highz) s = .next (((s.modDbg fun d => { d with ir := 0xFF }).setFld F.DBG_STATUS_INSTR_REFUSED 1))) ∧
  (∀ (s : State), s.tapRuns = true → exec (.bypass) s = .next (s.modDbg fun d => { d with ir := 0xFF })) ∧
  (∀ (a : BitVec 12) (v : Word) (s : State), s.tapRuns = true → exec (.dmi a true v) s = .next ((s.modDbg fun d => { d with ir := 0x10 }).dmiWrite a.toNat v.toNat)) ∧
  (∀ (a : BitVec 12) (v : Word) (s : State), s.tapRuns = true → exec (.dmi a false v) s = .next ((s.modDbg fun d => { d with ir := 0x10 }).dmiRead a.toNat)) ∧
  (∀ (c : Fin 16) (s : State), s.mayHalt = true → exec (.dmHaltreq c) s = .next ((s.modHart c fun h => { h with haltReq := true }).haltDue c)) ∧
  (∀ (c : Fin 16) (s : State), s.mayHalt = true → exec (.dmResumereq c) s = .next ((s.setHaltreq c false).resumeCore c)) ∧
  (∀ (c : Fin 16) (s : State), s.mayHalt = true → exec (.dmHartreset c) s = .next (if s.on (F.TCORE_CTL_RUN c) then (s.resetCore c).releaseCore c else s)) ∧
  (∀ (s : State), s.mayHalt = true → exec (.dmNdmreset) s = .next (s.each (List.range 16) fun c t => if t.on (F.TCORE_CTL_RUN c) then (t.resetCore c).releaseCore c else t)) ∧
  (∀ (c : Fin 16) (s : State), s.mayHalt = true → exec (.dmSingleStep c) s = .next (((s.setHaltreq c false).modHart c fun h => { h with step := true }).resumeCore c)) ∧
  (∀ (c : Fin 16) (s : State), s.mayHalt = false → exec (.dmHaltreq c) s = .next (s.setFld F.DBG_STATUS_REFUSED 1)) ∧
  (∀ (c : Fin 16) (s : State), s.mayHalt = false → exec (.dmResumereq c) s = .next (s.setFld F.DBG_STATUS_REFUSED 1)) ∧
  (∀ (c : Fin 16) (s : State), s.mayHalt = false → exec (.dmHartreset c) s = .next (s.setFld F.DBG_STATUS_REFUSED 1)) ∧
  (∀ (c : Fin 16) (s : State), s.mayHalt = false → exec (.dmSingleStep c) s = .next (s.setFld F.DBG_STATUS_REFUSED 1)) ∧
  (∀ (s : State), s.mayHalt = false → exec (.dmNdmreset) s = .next (s.setFld F.DBG_STATUS_REFUSED 1)) ∧
  (∀ (c : Fin 16) (t : Fin 4) (s : State), (s.core c).live = true → s.isHalted c = false → bitsOf (s.tdata1 c t) 63 60 = 6 → bitsOf (s.tdata1 c t) 2 0 ≠ 0 → bitOf (s.tdata1 c t) 11 = false → bitsOf (s.tdata1 c t) 15 12 = 1 → exec (.dmTriggerFire c t) s = .next ((s.useFree.modHart c fun h => { h with triggers := Bank.set (fun _ => 0) h.triggers (2 * t.val) (putBits (s.tdata1 c t) 22 22 1) }).enterDebug c 2)) ∧
  (∀ (c : Fin 16) (t : Fin 4) (s : State), (s.core c).live = true → s.isHalted c = false → bitsOf (s.tdata1 c t) 63 60 = 6 → bitsOf (s.tdata1 c t) 2 0 ≠ 0 → bitOf (s.tdata1 c t) 11 = false → bitsOf (s.tdata1 c t) 15 12 = 0 → exec (.dmTriggerFire c t) s = .next ((s.useFree.modHart c fun h => { h with triggers := Bank.set (fun _ => 0) h.triggers (2 * t.val) (putBits (s.tdata1 c t) 22 22 1) }).coreTrap c 3 s.freeVal ((s.useFree.modHart c fun h => { h with triggers := Bank.set (fun _ => 0) h.triggers (2 * t.val) (putBits (s.tdata1 c t) 22 22 1) }).core c).pc)) ∧
  (∀ (c : Fin 16) (regno : BitVec 16) (v : Dword) (t : State) (s : State), s.mayHalt = true → s.dbg.cmderr = 0 → s.isHalted c = true → s.hartWrite c regno.toNat v.toNat = some t → exec (.dmAccessRegister c regno true v) s = .next (t)) ∧
  (∀ (c : Fin 16) (regno : BitVec 16) (v : Dword) (s : State), s.mayHalt = true → s.dbg.cmderr = 0 → s.isHalted c = true → s.hartWrite c regno.toNat v.toNat = none → exec (.dmAccessRegister c regno true v) s = .next (s.modDbg fun d => { d with cmderr := 3 })) ∧
  (∀ (c : Fin 16) (regno : BitVec 16) (v : Dword) (s : State), s.mayHalt = true → s.dbg.cmderr = 0 → s.isHalted c = true → (s.hartRead c regno.toNat).2 ≠ none → exec (.dmAccessRegister c regno false v) s = .next (((s.hartRead c regno.toNat).1.setDmData ((s.hartRead c regno.toNat).2.getD 0)).reply (.num ((s.hartRead c regno.toNat).2.getD 0)))) ∧
  (∀ (c : Fin 16) (regno : BitVec 16) (v : Dword) (write : Bool) (s : State), s.mayHalt = true → s.dbg.cmderr = 0 → s.isHalted c = false → exec (.dmAccessRegister c regno write v) s = .next (s.modDbg fun d => { d with cmderr := 4 })) ∧
  (∀ (addr : Dword) (size : Fin 8) (v : Dword) (s : State), bitOf s.dbgScope 1 = true → size.val < 4 → addr.toNat % 2 ^ size.val = 0 → (s.busWrite .debug addr.toNat (2 ^ size.val) v.toNat).2 = .ok → exec (.systemBusAccess addr size true v) s = .next ((s.busWrite .debug addr.toNat (2 ^ size.val) v.toNat).1)) ∧
  (∀ (addr : Dword) (size : Fin 8) (v : Dword) (s : State), bitOf s.dbgScope 1 = true → size.val < 4 → addr.toNat % 2 ^ size.val = 0 → (s.busRead .debug addr.toNat (2 ^ size.val)).2.2 = .ok → exec (.systemBusAccess addr size false v) s = .next (((s.busRead .debug addr.toNat (2 ^ size.val)).1.modDbg fun d => { d with sbdata := (s.busRead .debug addr.toNat (2 ^ size.val)).2.1 }).reply (.num (s.busRead .debug addr.toNat (2 ^ size.val)).2.1))) ∧
  (∀ (addr : Dword) (size : Fin 8) (v : Dword) (write : Bool) (s : State), bitOf s.dbgScope 1 = false → exec (.systemBusAccess addr size write v) s = .next ((s.misuse .debug 5 (addr.toNat % 2 ^ 32)).modDbg fun d => { d with sberror := 7 })) ∧
  (∀ (addr : Dword) (size : Fin 8) (v : Dword) (write : Bool) (s : State), bitOf s.dbgScope 1 = true → 4 ≤ size.val → exec (.systemBusAccess addr size write v) s = .next ((s.misuse .debug 1 (addr.toNat % 2 ^ 32)).modDbg fun d => { d with sberror := 4 })) ∧
  (∀ (addr : Dword) (size : Fin 8) (v : Dword) (write : Bool) (s : State), bitOf s.dbgScope 1 = true → size.val < 4 → addr.toNat % 2 ^ size.val ≠ 0 → exec (.systemBusAccess addr size write v) s = .next ((s.misuse .debug 1 (addr.toNat % 2 ^ 32)).modDbg fun d => { d with sberror := 3 }))

/-- R413 to R416, R419, R420, R496, R501, R512, R518, R537, R727, R728; the equation names the whole next state, so whatever it does not
name is as before. -/
def Obligations.CommandDelivery : Prop :=
  (∀ (l : Fin 16) (a : Agent) (slot : BitVec 6) (s : State), s.asleep a = false → s.linkExists l = true → reachesMailbox l a = false → exec (.mailboxSubmit l a slot) s = .next (s.misuse a 3 (R.MBX_SUBMIT (l / 4) (l % 4)))) ∧
  (∀ (l : Fin 16) (a : Agent) (slot : BitVec 6) (s : State), s.asleep a = false → s.linkExists l = true → reachesMailbox l a = true → 32 ≤ slot.toNat ∨ bitOf (s.reg (R.MBX_BUSY (l / 4) (l % 4))).toNat slot.toNat = true → exec (.mailboxSubmit l a slot) s = .next ((s.setFld (F.MBX_STATUS_SUBMIT_REFUSED (l / 4) (l % 4)) 1).submitDue)) ∧
  (∀ (l : Fin 16) (a : Agent) (slot : BitVec 6) (s : State), s.asleep a = false → s.linkExists l = true → reachesMailbox l a = true → slot.toNat < 32 → bitOf (s.reg (R.MBX_BUSY (l / 4) (l % 4))).toNat slot.toNat = false → (s.setCoreSlot (l * 32 + slot.toNat) (coreOf a).isSome).accepts (Transport.mailbox (Fin.ofNat 16 l) (Fin.ofNat 32 slot.toNat)) = true → ((((s.setCoreSlot (l * 32 + slot.toNat) (coreOf a).isSome).setFld ⟨R.MBX_BUSY (l / 4) (l % 4), slot.toNat, slot.toNat⟩ 1).setFld ⟨R.MBX_DONE (l / 4) (l % 4), slot.toNat, slot.toNat⟩ 0).setFld (F.MBX_STATUS_INFLIGHT (l / 4) (l % 4)) (popcount 32 ((((s.setCoreSlot (l * 32 + slot.toNat) (coreOf a).isSome).setFld ⟨R.MBX_BUSY (l / 4) (l % 4), slot.toNat, slot.toNat⟩ 1).setFld ⟨R.MBX_DONE (l / 4) (l % 4), slot.toNat, slot.toNat⟩ 0).reg (R.MBX_BUSY (l / 4) (l % 4))).toNat)).slotNum l slot.toNat 0 4 < 32 ∨ (((((s.setCoreSlot (l * 32 + slot.toNat) (coreOf a).isSome).setFld ⟨R.MBX_BUSY (l / 4) (l % 4), slot.toNat, slot.toNat⟩ 1).setFld ⟨R.MBX_DONE (l / 4) (l % 4), slot.toNat, slot.toNat⟩ 0).setFld (F.MBX_STATUS_INFLIGHT (l / 4) (l % 4)) (popcount 32 ((((s.setCoreSlot (l * 32 + slot.toNat) (coreOf a).isSome).setFld ⟨R.MBX_BUSY (l / 4) (l % 4), slot.toNat, slot.toNat⟩ 1).setFld ⟨R.MBX_DONE (l / 4) (l % 4), slot.toNat, slot.toNat⟩ 0).reg (R.MBX_BUSY (l / 4) (l % 4))).toNat)).slotNum l slot.toNat 8 8 = 0 ∧ 96 < ((((s.setCoreSlot (l * 32 + slot.toNat) (coreOf a).isSome).setFld ⟨R.MBX_BUSY (l / 4) (l % 4), slot.toNat, slot.toNat⟩ 1).setFld ⟨R.MBX_DONE (l / 4) (l % 4), slot.toNat, slot.toNat⟩ 0).setFld (F.MBX_STATUS_INFLIGHT (l / 4) (l % 4)) (popcount 32 ((((s.setCoreSlot (l * 32 + slot.toNat) (coreOf a).isSome).setFld ⟨R.MBX_BUSY (l / 4) (l % 4), slot.toNat, slot.toNat⟩ 1).setFld ⟨R.MBX_DONE (l / 4) (l % 4), slot.toNat, slot.toNat⟩ 0).reg (R.MBX_BUSY (l / 4) (l % 4))).toNat)).slotNum l slot.toNat 0 4) → exec (.mailboxSubmit l a slot) s = .next ((((((s.setCoreSlot (l * 32 + slot.toNat) (coreOf a).isSome).setFld ⟨R.MBX_BUSY (l / 4) (l % 4), slot.toNat, slot.toNat⟩ 1).setFld ⟨R.MBX_DONE (l / 4) (l % 4), slot.toNat, slot.toNat⟩ 0).setFld (F.MBX_STATUS_INFLIGHT (l / 4) (l % 4)) (popcount 32 ((((s.setCoreSlot (l * 32 + slot.toNat) (coreOf a).isSome).setFld ⟨R.MBX_BUSY (l / 4) (l % 4), slot.toNat, slot.toNat⟩ 1).setFld ⟨R.MBX_DONE (l / 4) (l % 4), slot.toNat, slot.toNat⟩ 0).reg (R.MBX_BUSY (l / 4) (l % 4))).toNat)).slotFails l slot.toNat 2).submitDue)) ∧
  (∀ (l : Fin 16) (a : Agent) (slot : BitVec 6) (s : State), s.asleep a = false → s.linkExists l = true → reachesMailbox l a = true → slot.toNat < 32 → bitOf (s.reg (R.MBX_BUSY (l / 4) (l % 4))).toNat slot.toNat = false → (s.setCoreSlot (l * 32 + slot.toNat) (coreOf a).isSome).accepts (Transport.mailbox (Fin.ofNat 16 l) (Fin.ofNat 32 slot.toNat)) = true → 32 ≤ ((((s.setCoreSlot (l * 32 + slot.toNat) (coreOf a).isSome).setFld ⟨R.MBX_BUSY (l / 4) (l % 4), slot.toNat, slot.toNat⟩ 1).setFld ⟨R.MBX_DONE (l / 4) (l % 4), slot.toNat, slot.toNat⟩ 0).setFld (F.MBX_STATUS_INFLIGHT (l / 4) (l % 4)) (popcount 32 ((((s.setCoreSlot (l * 32 + slot.toNat) (coreOf a).isSome).setFld ⟨R.MBX_BUSY (l / 4) (l % 4), slot.toNat, slot.toNat⟩ 1).setFld ⟨R.MBX_DONE (l / 4) (l % 4), slot.toNat, slot.toNat⟩ 0).reg (R.MBX_BUSY (l / 4) (l % 4))).toNat)).slotNum l slot.toNat 0 4 → ((((s.setCoreSlot (l * 32 + slot.toNat) (coreOf a).isSome).setFld ⟨R.MBX_BUSY (l / 4) (l % 4), slot.toNat, slot.toNat⟩ 1).setFld ⟨R.MBX_DONE (l / 4) (l % 4), slot.toNat, slot.toNat⟩ 0).setFld (F.MBX_STATUS_INFLIGHT (l / 4) (l % 4)) (popcount 32 ((((s.setCoreSlot (l * 32 + slot.toNat) (coreOf a).isSome).setFld ⟨R.MBX_BUSY (l / 4) (l % 4), slot.toNat, slot.toNat⟩ 1).setFld ⟨R.MBX_DONE (l / 4) (l % 4), slot.toNat, slot.toNat⟩ 0).reg (R.MBX_BUSY (l / 4) (l % 4))).toNat)).slotNum l slot.toNat 0 4 ≤ 96 → ((((s.setCoreSlot (l * 32 + slot.toNat) (coreOf a).isSome).setFld ⟨R.MBX_BUSY (l / 4) (l % 4), slot.toNat, slot.toNat⟩ 1).setFld ⟨R.MBX_DONE (l / 4) (l % 4), slot.toNat, slot.toNat⟩ 0).setFld (F.MBX_STATUS_INFLIGHT (l / 4) (l % 4)) (popcount 32 ((((s.setCoreSlot (l * 32 + slot.toNat) (coreOf a).isSome).setFld ⟨R.MBX_BUSY (l / 4) (l % 4), slot.toNat, slot.toNat⟩ 1).setFld ⟨R.MBX_DONE (l / 4) (l % 4), slot.toNat, slot.toNat⟩ 0).reg (R.MBX_BUSY (l / 4) (l % 4))).toNat)).slotNum l slot.toNat 8 8 = 0 → exec (.mailboxSubmit l a slot) s = .next ((((((s.setCoreSlot (l * 32 + slot.toNat) (coreOf a).isSome).setFld ⟨R.MBX_BUSY (l / 4) (l % 4), slot.toNat, slot.toNat⟩ 1).setFld ⟨R.MBX_DONE (l / 4) (l % 4), slot.toNat, slot.toNat⟩ 0).setFld (F.MBX_STATUS_INFLIGHT (l / 4) (l % 4)) (popcount 32 ((((s.setCoreSlot (l * 32 + slot.toNat) (coreOf a).isSome).setFld ⟨R.MBX_BUSY (l / 4) (l % 4), slot.toNat, slot.toNat⟩ 1).setFld ⟨R.MBX_DONE (l / 4) (l % 4), slot.toNat, slot.toNat⟩ 0).reg (R.MBX_BUSY (l / 4) (l % 4))).toNat)).deliverOne (packetOf (Transport.mailbox (Fin.ofNat 16 l) (Fin.ofNat 32 slot.toNat)) ((List.range (((((s.setCoreSlot (l * 32 + slot.toNat) (coreOf a).isSome).setFld ⟨R.MBX_BUSY (l / 4) (l % 4), slot.toNat, slot.toNat⟩ 1).setFld ⟨R.MBX_DONE (l / 4) (l % 4), slot.toNat, slot.toNat⟩ 0).setFld (F.MBX_STATUS_INFLIGHT (l / 4) (l % 4)) (popcount 32 ((((s.setCoreSlot (l * 32 + slot.toNat) (coreOf a).isSome).setFld ⟨R.MBX_BUSY (l / 4) (l % 4), slot.toNat, slot.toNat⟩ 1).setFld ⟨R.MBX_DONE (l / 4) (l % 4), slot.toNat, slot.toNat⟩ 0).reg (R.MBX_BUSY (l / 4) (l % 4))).toNat)).slotNum l slot.toNat 0 4)).map fun i => ((((s.setCoreSlot (l * 32 + slot.toNat) (coreOf a).isSome).setFld ⟨R.MBX_BUSY (l / 4) (l % 4), slot.toNat, slot.toNat⟩ 1).setFld ⟨R.MBX_DONE (l / 4) (l % 4), slot.toNat, slot.toNat⟩ 0).setFld (F.MBX_STATUS_INFLIGHT (l / 4) (l % 4)) (popcount 32 ((((s.setCoreSlot (l * 32 + slot.toNat) (coreOf a).isSome).setFld ⟨R.MBX_BUSY (l / 4) (l % 4), slot.toNat, slot.toNat⟩ 1).setFld ⟨R.MBX_DONE (l / 4) (l % 4), slot.toNat, slot.toNat⟩ 0).reg (R.MBX_BUSY (l / 4) (l % 4))).toNat)).slotByte (l * 4096 + slot.toNat * 128 + 32 + i))).1 (packetOf (Transport.mailbox (Fin.ofNat 16 l) (Fin.ofNat 32 slot.toNat)) ((List.range (((((s.setCoreSlot (l * 32 + slot.toNat) (coreOf a).isSome).setFld ⟨R.MBX_BUSY (l / 4) (l % 4), slot.toNat, slot.toNat⟩ 1).setFld ⟨R.MBX_DONE (l / 4) (l % 4), slot.toNat, slot.toNat⟩ 0).setFld (F.MBX_STATUS_INFLIGHT (l / 4) (l % 4)) (popcount 32 ((((s.setCoreSlot (l * 32 + slot.toNat) (coreOf a).isSome).setFld ⟨R.MBX_BUSY (l / 4) (l % 4), slot.toNat, slot.toNat⟩ 1).setFld ⟨R.MBX_DONE (l / 4) (l % 4), slot.toNat, slot.toNat⟩ 0).reg (R.MBX_BUSY (l / 4) (l % 4))).toNat)).slotNum l slot.toNat 0 4)).map fun i => ((((s.setCoreSlot (l * 32 + slot.toNat) (coreOf a).isSome).setFld ⟨R.MBX_BUSY (l / 4) (l % 4), slot.toNat, slot.toNat⟩ 1).setFld ⟨R.MBX_DONE (l / 4) (l % 4), slot.toNat, slot.toNat⟩ 0).setFld (F.MBX_STATUS_INFLIGHT (l / 4) (l % 4)) (popcount 32 ((((s.setCoreSlot (l * 32 + slot.toNat) (coreOf a).isSome).setFld ⟨R.MBX_BUSY (l / 4) (l % 4), slot.toNat, slot.toNat⟩ 1).setFld ⟨R.MBX_DONE (l / 4) (l % 4), slot.toNat, slot.toNat⟩ 0).reg (R.MBX_BUSY (l / 4) (l % 4))).toNat)).slotByte (l * 4096 + slot.toNat * 128 + 32 + i))).2).submitDue)) ∧
  (∀ (l : Fin 16) (a : Agent) (slot : BitVec 6) (s : State), s.asleep a = false → s.linkExists l = true → reachesMailbox l a = true → slot.toNat < 32 → bitOf (s.reg (R.MBX_BUSY (l / 4) (l % 4))).toNat slot.toNat = false → (s.setCoreSlot (l * 32 + slot.toNat) (coreOf a).isSome).accepts (Transport.mailbox (Fin.ofNat 16 l) (Fin.ofNat 32 slot.toNat)) = true → 32 ≤ ((((s.setCoreSlot (l * 32 + slot.toNat) (coreOf a).isSome).setFld ⟨R.MBX_BUSY (l / 4) (l % 4), slot.toNat, slot.toNat⟩ 1).setFld ⟨R.MBX_DONE (l / 4) (l % 4), slot.toNat, slot.toNat⟩ 0).setFld (F.MBX_STATUS_INFLIGHT (l / 4) (l % 4)) (popcount 32 ((((s.setCoreSlot (l * 32 + slot.toNat) (coreOf a).isSome).setFld ⟨R.MBX_BUSY (l / 4) (l % 4), slot.toNat, slot.toNat⟩ 1).setFld ⟨R.MBX_DONE (l / 4) (l % 4), slot.toNat, slot.toNat⟩ 0).reg (R.MBX_BUSY (l / 4) (l % 4))).toNat)).slotNum l slot.toNat 0 4 → ((((s.setCoreSlot (l * 32 + slot.toNat) (coreOf a).isSome).setFld ⟨R.MBX_BUSY (l / 4) (l % 4), slot.toNat, slot.toNat⟩ 1).setFld ⟨R.MBX_DONE (l / 4) (l % 4), slot.toNat, slot.toNat⟩ 0).setFld (F.MBX_STATUS_INFLIGHT (l / 4) (l % 4)) (popcount 32 ((((s.setCoreSlot (l * 32 + slot.toNat) (coreOf a).isSome).setFld ⟨R.MBX_BUSY (l / 4) (l % 4), slot.toNat, slot.toNat⟩ 1).setFld ⟨R.MBX_DONE (l / 4) (l % 4), slot.toNat, slot.toNat⟩ 0).reg (R.MBX_BUSY (l / 4) (l % 4))).toNat)).slotNum l slot.toNat 8 8 ≠ 0 → exec (.mailboxSubmit l a slot) s = .next (State.submitDue (match ((((s.setCoreSlot (l * 32 + slot.toNat) (coreOf a).isSome).setFld ⟨R.MBX_BUSY (l / 4) (l % 4), slot.toNat, slot.toNat⟩ 1).setFld ⟨R.MBX_DONE (l / 4) (l % 4), slot.toNat, slot.toNat⟩ 0).setFld (F.MBX_STATUS_INFLIGHT (l / 4) (l % 4)) (popcount 32 ((((s.setCoreSlot (l * 32 + slot.toNat) (coreOf a).isSome).setFld ⟨R.MBX_BUSY (l / 4) (l % 4), slot.toNat, slot.toNat⟩ 1).setFld ⟨R.MBX_DONE (l / 4) (l % 4), slot.toNat, slot.toNat⟩ 0).reg (R.MBX_BUSY (l / 4) (l % 4))).toNat)).slotFetch l (coreOf a) (((((s.setCoreSlot (l * 32 + slot.toNat) (coreOf a).isSome).setFld ⟨R.MBX_BUSY (l / 4) (l % 4), slot.toNat, slot.toNat⟩ 1).setFld ⟨R.MBX_DONE (l / 4) (l % 4), slot.toNat, slot.toNat⟩ 0).setFld (F.MBX_STATUS_INFLIGHT (l / 4) (l % 4)) (popcount 32 ((((s.setCoreSlot (l * 32 + slot.toNat) (coreOf a).isSome).setFld ⟨R.MBX_BUSY (l / 4) (l % 4), slot.toNat, slot.toNat⟩ 1).setFld ⟨R.MBX_DONE (l / 4) (l % 4), slot.toNat, slot.toNat⟩ 0).reg (R.MBX_BUSY (l / 4) (l % 4))).toNat)).slotNum l slot.toNat 8 8) (min (((((s.setCoreSlot (l * 32 + slot.toNat) (coreOf a).isSome).setFld ⟨R.MBX_BUSY (l / 4) (l % 4), slot.toNat, slot.toNat⟩ 1).setFld ⟨R.MBX_DONE (l / 4) (l % 4), slot.toNat, slot.toNat⟩ 0).setFld (F.MBX_STATUS_INFLIGHT (l / 4) (l % 4)) (popcount 32 ((((s.setCoreSlot (l * 32 + slot.toNat) (coreOf a).isSome).setFld ⟨R.MBX_BUSY (l / 4) (l % 4), slot.toNat, slot.toNat⟩ 1).setFld ⟨R.MBX_DONE (l / 4) (l % 4), slot.toNat, slot.toNat⟩ 0).reg (R.MBX_BUSY (l / 4) (l % 4))).toNat)).slotNum l slot.toNat 0 4) 4104) with | (u, none) => u.slotFails l slot.toNat 1 | (u, some b) => u.deliverOne (packetOf (Transport.mailbox (Fin.ofNat 16 l) (Fin.ofNat 32 slot.toNat)) b).1 (packetOf (Transport.mailbox (Fin.ofNat 16 l) (Fin.ofNat 32 slot.toNat)) b).2))) ∧
  (∀ (l : Fin 16) (requester xid : BitVec 16) (mtype mflags : Byte) (offset : Word) (bytes : List Byte) (s : State), s.asleep (.link l) = false → s.linkUp l = true → mtype ≠ 1 → exec (.vdmFragment l requester xid mtype mflags offset bytes) s = .next (s.portReport l NOTICE 8 0)) ∧
  (∀ (l : Fin 16) (requester xid : BitVec 16) (mflags : Byte) (offset : Word) (bytes : List Byte) (s : State), s.asleep (.link l) = false → s.linkUp l = true → s.accepts (.message l requester) = true → exec (.vdmFragment l requester xid 1 mflags offset bytes) s = .next (s.fragment l requester.toNat xid.toNat offset.toNat (mflags.getLsbD 0) (mflags.getLsbD 1) bytes)) ∧
  (∀ (opcode : BitVec 16) (p : Packet) (s : State), s.cmdOf opcode.toNat p = none → s.accepts p.via = true → p.via = .sideband → s.outstanding .sideband < 31 → badLength p = false → p.version = 1 → exec (.unassignedOpcode opcode p) s = .next ((s.sendReply p.via p.seq.toNat opcode.toNat S_OPCODE 0 []).submitDue)) ∧
  (∀ (w : Waiting) (rest : List Waiting) (k : Cmd) (s : State), s.firstStart [] s.waiting = some (w, rest) → s.cmdOf w.opcode w.packet = some k → exec (.commandDeferredStart) s = .next ((({ s with waiting := rest } : State).startCmd k w.packet).afterStart w.opcode |>.submitDue)) ∧
  (∀ (s : State), s.firstStart [] s.waiting = none → exec (.commandDeferredStart) s = .next (s)) ∧
  (∀ (f : List Byte) (s : State), CONFIG_WAIT ≤ s.phase → fType f = 0x20 → fCrc f = true → fFormed f = true → fPan f = 0xFFFF → fSeq f = 0 → fAddr f = 0 → fFlags f = 0 → exec (.cfgCommandFrame f) s = .next (s.deliverBytes .slave (framePacket (fPayload f)))) ∧
  (∀ (data : Dword) (s : State), s.tapRuns = true → s.dbg.overlong = false → (s.dbg.inbound ++ leBytes 8 data.toNat).length ≤ 4096 → exec (.dxPush data false) s = .next ((s.modDbg fun d => { d with ir := 0x11 }).modDbg fun d => { d with inbound := (s.dbg.inbound ++ leBytes 8 data.toNat), busy := false })) ∧
  (∀ (data : Dword) (s : State), s.tapRuns = true → s.dbg.overlong = false → (s.dbg.inbound ++ leBytes 8 data.toNat).length ≤ 4096 → exec (.dxPush data true) s = .next (((s.modDbg fun d => { d with ir := 0x11 }).modDbg fun d => { d.emptied with busy := false }).deliverBytes .debug (s.dbg.inbound ++ leBytes 8 data.toNat))) ∧
  (∀ (r : List Byte) (l : List (List Byte)) (s : State), s.tapRuns = true → s.dbg.replies = r :: l → exec (.dxPop) s = .next (((s.modDbg fun d => { d with ir := 0x11 }).modDbg fun d => { d with replies := if r.length ≤ 8 then l else r.drop 8 :: l }).reply (.num (bnat (decide (r.length ≤ 8)) * 2 ^ 66 + 2 ^ 65 + bnat s.dbg.busy * 2 ^ 64 + leNat (r.take 8))))) ∧
  (∀ (s : State), s.tapRuns = true → s.dbg.replies = [] → exec (.dxPop) s = .next ((s.modDbg fun d => { d with ir := 0x11 }).reply (.num (bnat s.dbg.busy * 2 ^ 64)))) ∧
  (∀ (s : State), s.tapRuns = true → exec (.dxAbandon) s = .next ((s.modDbg fun d => { d with ir := 0x11 }).modDbg (·.emptied))) ∧
  (∀ (s : State), s.tapRuns = true → exec (.dxNop) s = .next ((s.modDbg fun d => { d with ir := 0x11 }))) ∧
  (∀ (s : State), s.tapRuns = false → exec (.dxNop) s = .next (s)) ∧
  (∀ (m : List Byte) (s : State), 2 ≤ m.length → exec (.sidebandMessage m) s = .next (if leNat (m.take 2) = Config.vendor % 65536 then s.deliverBytes .sideband (m.drop 2) else s))

/-- R508, R519, R520, R514, R327, R336, R342, R717 with R502 and R512: when every check of the command passes (R508, and no wait of R512
applies) its effect is what happens, and its reply or the LONG command that goes on follows; the body names the effect whole, so what it
does not name is as before.  -/
def Obligations.DeviceCommands : Prop :=
  (∀ (p : Packet) (half : Nat) (s : State), s.passes cmdNop p half = true → exec (.nopCommand p) s = .next (ends 0x0000 p half (
      ok s))) ∧
  (∀ (p : Packet) (half : Nat) (s : State), s.passes cmdIdentify p half = true → exec (.identify p) s = .next (ends 0x0001 p half (
      let r := reqOf p half
      ok s (s.identity r.half)))) ∧
  (∀ (p : Packet) (half : Nat) (s : State), s.passes cmdDeviceStatus p half = true → exec (.deviceStatus p) s = .next (ends 0x0002 p half (
      let r := reqOf p half
      ok s (s.deviceStatus r.half)))) ∧
  (∀ (p : Packet) (half : Nat) (s : State), s.passes cmdRegRead p half = true → exec (.regRead p) s = .next (ends 0x0003 p half (
      let r := reqOf p half
      let x := s.readRegs r.half (readAddrs r); ok x.1 x.2))) ∧
  (∀ (p : Packet) (half : Nat) (s : State), s.passes (cmdRegWrite (s.regWriteLong p)) p half = true → exec (.regWrite p) s = .next (State.submitDue (ends 0x0004 p half (
      let r := reqOf p half
      s.regWriteRun r)))) ∧
  (∀ (p : Packet) (half : Nat) (s : State), s.passes cmdWarmReset p half = true → exec (.warmReset p) s = .next (ends 0x0005 p half (
      let r := reqOf p half
      ok (s.beginWarm r.half)))) ∧
  (∀ (p : Packet) (half : Nat) (s : State), s.passes cmdAbort p half = true → exec (.abort p) s = .next (ends 0x0006 p half (
      let r := reqOf p half
      match abortTransport (r.p.u8 0) with
      | none => ok s
      | some v => ok (s.abortAll (abortNames v (r.p.u16 2)) ABORT_COMMAND)))) ∧
  (∀ (p : Packet) (half : Nat) (s : State), s.passes cmdCoreStart p half = true → exec (.coreStart p) s = .next (ends 0x0007 p half (
      let r := reqOf p half
      ok (s.startCore r.idx (r.p.u64 0))))) ∧
  (∀ (p : Packet) (half : Nat) (s : State), s.passes cmdCoreStop p half = true → exec (.coreStop p) s = .next (ends 0x0008 p half (
      let r := reqOf p half
      ok (s.stopCore r.idx)))) ∧
  (∀ (p : Packet) (half : Nat) (s : State), s.passes cmdCopBind p half = true → exec (.copBind p) s = .next (ends 0x0009 p half (
      let r := reqOf p half
      let t := s.bindCop r.idx (r.p.u8 0) (r.p.u8 1) (r.p.u8 2)
      ok t (leBytes 2 (t.fld (F.TCORE_COP_BIND_GEN r.idx)) ++ leBytes 2 0)))) ∧
  (∀ (p : Packet) (half : Nat) (s : State), s.passes cmdCopUnbind p half = true → exec (.copUnbind p) s = .next (ends 0x000A p half (
      let r := reqOf p half
      let c := r.idx
      let n := (s.core c).outstanding
      let t := (s.setCop c DRAINING).modCore c fun k => { k with items := n, draining := true }
      if n = 0 then ok (t.copSettle c) (drainRecord 0 0)
      else if t.fld (F.TCORE_COP_DRAIN_DRAIN_US c) = 0 then ok (t.cutUnbind c) (drainRecord 0 n)
      else .job t (longJob r n [r.p.target.toNat] c))))

/-- R508, R521, R240, R243, R246, R247, R114, R133, R224 with R502 and R512: when every check of the command passes (R508, and no wait of
R512 applies) its effect is what happens, and its reply or the LONG command that goes on follows; the body names the effect whole, so what
it does not name is as before.  -/
def Obligations.PanCommands : Prop :=
  (∀ (p : Packet) (half : Nat) (s : State), s.passes cmdPanLoad p half = true → exec (.panLoad p) s = .next (ends 0x0100 p half (
      let r := reqOf p half
      if (s.load (loadKey r.half 0)).isSome then .later s
      else .job (s.setLoad (loadKey r.half 0) (some { pan := r.idx, src := r.p.u64 0, left := r.p.u64 8 })) (longJob r 0 [r.p.target.toNat] r.idx)))) ∧
  (∀ (p : Packet) (half : Nat) (s : State), s.passes cmdPanOpen p half = true → exec (.panOpen p) s = .next (ends 0x0101 p half (
      let r := reqOf p half
      ok (s.writeOpen r.idx).1))) ∧
  (∀ (p : Packet) (half : Nat) (s : State), s.passes cmdPanClose p half = true → exec (.panClose p) s = .next (ends 0x0102 p half (
      let r := reqOf p half
      let items := s.panItems r.idx
      match s.writeShut r.idx with
      | (t, .closing) =>
        if (t.pan r.idx).close.isSome then .job t (longJob r items [r.p.target.toNat] r.idx)
        else ok t (drainRecord 0 items)
      | (t, _) => ok t (drainRecord 0 0)))) ∧
  (∀ (p : Packet) (half : Nat) (s : State), s.passes cmdPanPower p half = true → exec (.panPower p) s = .next (ends 0x0103 p half (
      let r := reqOf p half
      match r.p.u8 0 with
      | 0 => match s.requestGate r.idx with
        | (t, some c) => .done t S_STATE (0x0300 + c) []
        | (t, none) => ok t
      | 1 =>
        if s.stopped (halfOfPan r.idx) && s.power r.idx = 2 then
          .done (s.refusePower r.idx CAUSE_THERMAL) S_STATE (0x0300 + CAUSE_THERMAL) []
        else ok (s.requestWake r.idx)
      | 2 => ok (s.setFlds [(F.PAN_PWR_CTL_AUTO r.idx, 1), (F.PAN_PWR_CTL_HOLD_US r.idx, r.p.u32 4)])
      | _ => ok (s.setFld (F.PAN_PWR_CTL_AUTO r.idx) 0)))) ∧
  (∀ (p : Packet) (half : Nat) (s : State), s.passes cmdPanReset p half = true → exec (.panReset p) s = .next (ends 0x0104 p half (
      let r := reqOf p half
      if s.warm.isSome then ok s
        else ok ((s.abortAll (fun j => j.holds.contains r.p.target.toNat) ABORT_PAN_RESET).resetPan r.idx true false)))) ∧
  (∀ (p : Packet) (half : Nat) (s : State), s.passes cmdQueueFlush p half = true → exec (.queueFlush p) s = .next (ends 0x0105 p half (
      let r := reqOf p half
      let d := r.idx
      let kind := r.p.u8 0
      if kind = 0 then
        let t := s.flushesDone (s.requestFlush d) d
        if (t.queue d).flushDue then .job t (longJob r (s.queue d).items [r.p.target.toNat] d 0)
        else ok t (leBytes 4 (s.queue d).items)
      else
        let cls := flushClass kind
        let t := s.flushesDone (s.requestSegFlush d cls) d
        if t.on (segFlushFld d cls) then .job t (longJob r ((s.queue d).packets cls) [r.p.target.toNat] d kind)
        else ok t (leBytes 4 ((s.queue d).packets cls))))) ∧
  (∀ (p : Packet) (half : Nat) (s : State), s.passes cmdQueueBind p half = true → exec (.queueBind p) s = .next (ends 0x0106 p half (
      let r := reqOf p half
      let d := r.idx
      let items := if s.fabricEnd d == .readEnd then 0 else (s.queue d).items
      let t := s.changeBinding d (r.p.u8 0) (r.p.u8 1) (r.p.u64 8) (r.p.u64 16) true
      if (t.queue d).rebind.isSome then .job t (longJob r items [r.p.target.toNat] d)
      else ok t (drainRecord 0 items ++ leBytes 8 0)))) ∧
  (∀ (p : Packet) (half : Nat) (s : State), s.passes cmdRakeRun p half = true → exec (.rakeRun p) s = .next (ends 0x0107 p half (
      let r := reqOf p half
      let t := s.runRakes r.idx (r.p.u16 0) (r.p.u16 2)
      let items := ((rakesIn r.idx (r.p.u16 2)).map fun i => if s.on (runBit i) && s.on (activeBit i) then (s.rake i).stopItems else 0).foldl (· + ·) 0
      if t.rakesStopping r.idx then .job t (longJob r items [r.p.target.toNat] r.idx)
      else ok t (drainRecord 0 items)))) ∧
  (∀ (p : Packet) (half : Nat) (s : State), s.passes cmdCfgLoad p half = true → exec (.cfgLoad p) s = .next (ends 0x0108 p half (
      let r := reqOf p half
      .job s (longJob r (r.p.u64 8) [r.p.target.toNat] 0 0 [r.p.u64 0, r.p.u64 8]))))

/-- R508, R522, R271, R273, R304, R307, R310 with R502 and R512: when every check of the command passes (R508, and no wait of R512
applies) its effect is what happens, and its reply or the LONG command that goes on follows; the body names the effect whole, so what it
does not name is as before.  -/
def Obligations.GraphCommands : Prop :=
  (∀ (p : Packet) (half : Nat) (s : State), s.passes cmdKernelRegister p half = true → exec (.kernelRegister p) s = .next (ends 0x0200 p half (
      let r := reqOf p half
      match s.freeSlot r.half with
      | none => .done s S_EXHAUSTED 0x0205 []
      | some k => ok (s.setKernel r.half k (some (kernelOf r.p.params))) (leBytes 2 k ++ leBytes 2 0)))) ∧
  (∀ (p : Packet) (half : Nat) (s : State), s.passes cmdKernelUnregister p half = true → exec (.kernelUnregister p) s = .next (ends 0x0201 p half (
      let r := reqOf p half
      ok (s.setKernel r.half (r.p.u16 0) none)))) ∧
  (∀ (p : Packet) (half : Nat) (s : State), s.passes cmdGraphLoad p half = true → exec (.graphLoad p) s = .next (ends 0x0202 p half (
      let r := reqOf p half
      match s.loadBytes (r.p.u64 0) (r.p.u64 8) with
      | none => .done s S_ADDRESS 0x8000 []
      | some (t, _, true) => .done t S_ADDRESS D_POISON []
      | some (t, l, false) => match t.parseGraph l with
        | none => .done t S_CONTENT 0 []
        | some d =>
          if d.nodes.isEmpty then nothing t (graphResult 0xFF)
          else if d.home ≠ r.half && t.isSplit r.half then .done t S_HW_FAULT D_CAUSEWAY []
          else match t.graphLack r.half d, t.freeGraph r.half with
            | some e, _ => .done t S_EXHAUSTED e []
            | none, some g => ok (t.placeGraph g d) (graphResult g)
            | none, none => .done t S_EXHAUSTED 0x0201 []))) ∧
  (∀ (p : Packet) (half : Nat) (s : State), s.passes cmdGraphStart p half = true → exec (.graphStart p) s = .next (ends 0x0203 p half (
      let r := reqOf p half
      ok ((((s.modGraph r.idx fun x => x.map fun y => { y with started := true }).clearFaults r.idx).reenter r.half fun k => k.graph == r.idx).settle)))) ∧
  (∀ (p : Packet) (half : Nat) (s : State), s.passes cmdGraphStop p half = true → exec (.graphStop p) s = .next (ends 0x0204 p half (
      let r := reqOf p half
      stopGraph s r false))) ∧
  (∀ (p : Packet) (half : Nat) (s : State), s.passes cmdGraphUnload p half = true → exec (.graphUnload p) s = .next (ends 0x0205 p half (
      let r := reqOf p half
      stopGraph s r true))) ∧
  (∀ (p : Packet) (half : Nat) (s : State), s.passes cmdGraphStatus p half = true → exec (.graphStatus p) s = .next (ends 0x0206 p half (
      let r := reqOf p half
      let l := (s.statusNodes r).flatMap fun n => s.nodeRecord r.idx n
      let head := leBytes 4 (s.statusNodes r).length ++ leBytes 4 0
      if r.p.u64 8 = 0 then ok s (head ++ l) else ok (s.storeBytes (r.p.u64 8) l) head))) ∧
  (∀ (p : Packet) (half : Nat) (s : State), s.passes cmdGraphLink p half = true → exec (.graphLink p) s = .next (ends 0x0207 p half (
      let r := reqOf p half
      match s.freeLink 65535 with
      | none => .done s S_EXHAUSTED 0x0203 []
      | some i => ok { s with links := s.links ++ [{ id := i, srcGraph := r.p.u8 4, srcNode := r.p.u16 0, srcPort := r.p.u8 5, dstGraph := r.p.u8 6, dstNode := r.p.u16 2, dstPort := r.p.u8 7, prio := r.p.u8 8 }] } (leBytes 2 i ++ leBytes 2 0)))) ∧
  (∀ (p : Packet) (half : Nat) (s : State), s.passes cmdGraphUnlink p half = true → exec (.graphUnlink p) s = .next (ends 0x0208 p half (
      let r := reqOf p half
      match s.links.find? fun l => l.id == r.p.u16 0 with
      | none => .done s S_FIELD 0x8000 []
      | some l =>
        let d := s.dropLink l
        ok d.1.settle (leBytes 4 d.2)))) ∧
  (∀ (p : Packet) (half : Nat) (s : State), s.passes cmdTokenInject p half = true → exec (.tokenInject p) s = .next (ends 0x0209 p half (
      let r := reqOf p half
      let ts := tokensOf (r.p.params.drop 4) (r.p.u8 3)
      ok (ts.foldl (fun u t => u.arrive r.idx (r.p.u16 0) (r.p.u8 2) 0 0 t) s).settle))) ∧
  (∀ (p : Packet) (half : Nat) (s : State), s.passes cmdTokenDrain p half = true → exec (.tokenDrain p) s = .next (ends 0x020A p half (
      let r := reqOf p half
      let o := (s.nodeD r.idx (r.p.u16 0)).outs.getD (r.p.u8 2) {}
      let out := o.kept.take (r.p.u8 3)
      let t := s.modNode r.idx (r.p.u16 0) fun x => x.modOut (r.p.u8 2) fun q => { q with kept := q.kept.drop (r.p.u8 3), lost := 0 }
      let res := leBytes 1 out.length ++ leBytes 3 0 ++ leBytes 4 o.lost ++ out.flatMap Token.bytes
      ok t res))) ∧
  (∀ (p : Packet) (half : Nat) (s : State), s.passes cmdNodeFire p half = true → exec (.nodeFire p) s = .next (ends 0x020B p half (
      let r := reqOf p half
      let x := s.nodeD r.idx (r.p.u16 0)
      ok (s.setNode r.idx (r.p.u16 0) { x with source := (x.source + 1) % 2 ^ 32, fired := some x.source }).settle (leBytes 4 x.source)))) ∧
  (∀ (p : Packet) (half : Nat) (s : State), s.passes cmdNodeClear p half = true → exec (.nodeClear p) s = .next (ends 0x020C p half (
      let r := reqOf p half
      ok ((s.modNode r.idx (r.p.u16 0) fun x => { x with faulted := false }).reenter r.half fun k => k.graph == r.idx && k.node == r.p.u16 0 && s.runs r.idx).settle))) ∧
  (∀ (p : Packet) (half : Nat) (s : State), s.passes cmdSchedResources p half = true → exec (.schedResources p) s = .next (ends 0x020D p half (
      let r := reqOf p half
      let h := r.half
      let cleared := s.fld (F.SCHED_CORES_MANAGED h) &&& (r.p.u8 0 ^^^ 0xFF)
      let busy := s.busyCores h cleared
      let t := s.setFld (F.SCHED_CORES_MANAGED h) (r.p.u8 0)
      let t := t.each [0, 1, 2, 3] fun k u => u.setFld (F.SCHED_PANS_MANAGED h k) (r.p.u32 (4 + 4 * k))
      if busy = 0 then ok t.settle (drainRecord 0 0) else stopHalf t r { cores := busy }))) ∧
  (∀ (p : Packet) (half : Nat) (s : State), s.passes cmdSchedEnable p half = true → exec (.schedEnable p) s = .next (ends 0x020E p half (
      let r := reqOf p half
      let h := r.half
      let was := s.on (F.SCHED_CTL_EN h)
      let t := s.setFlds [(F.SCHED_CTL_TEST_PRIO h, r.p.u8 1), (F.SCHED_COST_EVICT_US h, r.p.u16 4), (F.SCHED_PREEMPT_LIMIT_US h, r.p.u16 6),
        (F.SCHED_DRAIN_DRAIN_US h, r.p.u32 8)]
      if r.p.u8 0 = 1 then ok (t.enableSched h) (drainRecord 0 0)
      else if was then stopHalf (t.disableSched h) r {}
      else ok t (drainRecord 0 0))))

/-- R508, R523, R524, R366, R393, R405, R454 with R502 and R512: when every check of the command passes (R508, and no wait of R512
applies) its effect is what happens, and its reply or the LONG command that goes on follows; the body names the effect whole, so what it
does not name is as before.  -/
def Obligations.MemoryPortCommands : Prop :=
  (∀ (p : Packet) (half : Nat) (s : State), s.passes cmdLagoonPartition p half = true → exec (.lagoonPartition p) s = .next (ends 0x0300 p half (
      let r := reqOf p half
      let h := r.idx
      let moves := r.p.u8 0 + r.p.u8 1 ≠ s.fld (F.MEM_LAG_PART_TOKEN h) + s.fld (F.MEM_LAG_PART_DIR h) || r.p.u8 2 ≠ s.fld (F.MEM_LAG_PART_CACHE h)
      let n := if moves then (s.dirtyLines h).length else 0
      let p : PartJob := ⟨r.p.u8 0, r.p.u8 1, r.p.u8 2, r.p.u8 3, n, 0, []⟩
      if n = 0 then ok (s.applyPart h p) (drainRecord 0 0)
      else if s.fld (F.MEM_DRAIN_DRAIN_US h) = 0 then ok ((s.setPartJob h (some p)).abortPart h) (drainRecord 0 n)
      else .job ((s.setPartJob h (some p)).writeBackCache h) (longJob r n [r.p.target.toNat])))) ∧
  (∀ (p : Packet) (half : Nat) (s : State), s.passes cmdMemClear p half = true → exec (.memClear p) s = .next (ends 0x0301 p half (
      let r := reqOf p half
      ok ((s.breakResv (r.p.u64 0) (r.p.u64 8)).clearMem ((s.memKey (r.p.u64 0)).getD 0) (r.p.u64 8))))) ∧
  (∀ (p : Packet) (half : Nat) (s : State), s.passes cmdMemRead p half = true → exec (.memRead p) s = .next (ends 0x0302 p half (
      let r := reqOf p half
      match s.loadBytes (r.p.u64 0) (r.p.u32 8) with
      | some (t, l, bad) => if bad then .done t S_HW_FAULT D_POISON l else ok t l
      | none => .done s S_ADDRESS 0x8000 []))) ∧
  (∀ (p : Packet) (half : Nat) (s : State), s.passes cmdMemWrite p half = true → exec (.memWrite p) s = .next (ends 0x0303 p half (
      let r := reqOf p half
      ok (s.storeBytes (r.p.u64 0) ((r.p.params.drop 16).take (r.p.u32 8)))))) ∧
  (∀ (p : Packet) (half : Nat) (s : State), s.passes cmdMemCopy p half = true → exec (.memCopy p) s = .next (ends 0x0304 p half (
      let r := reqOf p half
      ok ((s.breakResv (r.p.u64 8) (r.p.u64 16)).copyBytes ((s.memKey (r.p.u64 0)).getD 0) ((s.memKey (r.p.u64 8)).getD 0) (r.p.u64 16))))) ∧
  (∀ (p : Packet) (half : Nat) (s : State), s.passes cmdPortEnable p half = true → exec (.portEnable p) s = .next (ends 0x0400 p half (
      let r := reqOf p half
      let p := r.idx / 4
      if r.p.u8 0 = 1 then ok (s.enablePort p) (drainRecord 0 0)
      else
        let items := ((s.linksOf p).map fun l => (s.setFld (F.PORT_CTL_EN p) 0).linkItems l).foldl (· + ·) 0
        let x := s.stopPort p
        let t := x.1
        if (s.linksOf p).all fun l => (t.hostLink l).drain.isNone then ok t (drainRecord (items - x.2) x.2)
        else .job t (longJob r items ((s.linksOf p).map (0x5000 + ·)) p 0 (s.linksOf p))))) ∧
  (∀ (p : Packet) (half : Nat) (s : State), s.passes cmdMemExpose p half = true → exec (.memExpose p) s = .next (ends 0x0401 p half (
      let r := reqOf p half
      let l := r.idx
      let es := extentsOf r.p
      let removes := (s.hostLink l).extents.any fun e => !es.contains e
      let t := s.setExtents l es
      let n := if removes then t.linkItems l else 0
      let u := t.modHostLink l fun k => { k with drain := some n }
      if n = 0 then ok t (drainRecord 0 0)
      else if s.fld (F.PORT_DRAIN_DRAIN_US (l / 4)) = 0 then ok (u.timeoutLink l) (drainRecord 0 n)
      else .job u (longJob r n [r.p.target.toNat] l 0 [l])))) ∧
  (∀ (p : Packet) (half : Nat) (s : State), s.passes cmdPortRoute p half = true → exec (.portRoute p) s = .next (ends 0x0402 p half (
      let r := reqOf p half
      if (s.hostLines r.idx).isEmpty then
        ok (s.setFlds [(F.PORT_ROUTE_EN r.idx, r.p.u8 0), (F.PORT_ROUTE_PORT r.idx, r.p.u8 1), (F.PORT_ROUTE_LINK r.idx, r.p.u8 2)]) (drainRecord 0 0)
      else
        let n := (s.dirtyLines r.idx).length
        let t := s.changeRoute r.idx (r.p.u8 0 == 1) (r.p.u8 1) (r.p.u8 2)
        let aborted := if s.fld (F.COH_DRAIN_DRAIN_US r.idx) = 0 then n else 0
        if (t.coh r.idx).flush.isSome then .job t (longJob r n [r.p.target.toNat]) else ok t (drainRecord (n - aborted) aborted)))) ∧
  (∀ (p : Packet) (half : Nat) (s : State), s.passes cmdBiasToDevice p half = true → exec (.biasToDevice p) s = .next (ends 0x0403 p half (
      let r := reqOf p half
      let due := (biasPages r).filter fun p => !s.inDeviceBias (pageKey r.idx p)
      let t := s.each (due.filter fun p => s.biasLeft (pageKey r.idx p) == 0) fun p u => u.askPage r.idx p
      if due.isEmpty then ok t (leBytes 8 0) else .job t (longJob r due.length [r.p.target.toNat] 0 0 due)))) ∧
  (∀ (p : Packet) (half : Nat) (s : State), s.passes cmdCohTableRead p half = true → exec (.cohTableRead p) s = .next (ends 0x0404 p half (
      let r := reqOf p half
      ok (s.storeBytes (r.p.u64 0) (s.tableFile r.idx))
        (leBytes 4 (s.fld (F.COH_TABLE_TAG_TAG r.idx)) ++ leBytes 1 (s.fld (F.COH_STATUS_LAB r.idx)) ++ leBytes 3 0)))) ∧
  (∀ (p : Packet) (half : Nat) (s : State), s.passes cmdCohTableLoad p half = true → exec (.cohTableLoad p) s = .next (ends 0x0405 p half (
      let r := reqOf p half
      match s.loadBytes (r.p.u64 0) 8448 with
      | none => .done s S_ADDRESS 0x8000 []
      | some (t, _, true) => .done t S_ADDRESS D_POISON []
      | some (t, f, false) =>
        if !tableContent f then .done t S_CONTENT 0 []
        else if !t.tableSigned f then .done t S_SIGNATURE 0 []
        else if leNat ((f.drop 8).take 4) = 0 then nothing t (leBytes 4 (leNat ((f.drop 4).take 4)))
        else t.startTable r { entries := fileEntries f, tag := leNat ((f.drop 4).take 4), lab := true }))) ∧
  (∀ (p : Packet) (half : Nat) (s : State), s.passes cmdCohTableRestore p half = true → exec (.cohTableRestore p) s = .next (ends 0x0406 p half (
      let r := reqOf p half
      s.startTable r { entries := [], tag := SHIPPED_TAG, lab := false })))

/-- R508, R525, R526, R616, R617, R620, R622, R639, R643, R650 with R502 and R512: when every check of the command passes (R508, and no
wait of R512 applies) its effect is what happens, and its reply or the LONG command that goes on follows; the body names the effect whole,
so what it does not name is as before.  -/
def Obligations.GovernorPinCommands : Prop :=
  (∀ (p : Packet) (half : Nat) (s : State), s.passes cmdGovProfile p half = true → exec (.govProfile p) s = .next (ends 0x0500 p half (
      let r := reqOf p half
      ok (s.govWide r.half F.GOV_CTL_PROFILE (r.p.u8 0))))) ∧
  (∀ (p : Packet) (half : Nat) (s : State), s.passes cmdGovCap p half = true → exec (.govCap p) s = .next (ends 0x0501 p half (
      let r := reqOf p half
      ok (s.govWide r.half F.GOV_CAP_CAP_W (r.p.u16 0))))) ∧
  (∀ (p : Packet) (half : Nat) (s : State), s.passes cmdGovFixed p half = true → exec (.govFixed p) s = .next (ends 0x0502 p half (
      let r := reqOf p half
      ok ((s.govWide r.half F.GOV_FIXED_VFAB_MV (r.p.u16 0)).govWide r.half F.GOV_FIXED_DUTY (r.p.u8 2))))) ∧
  (∀ (p : Packet) (half : Nat) (s : State), s.passes cmdGovTarget p half = true → exec (.govTarget p) s = .next (ends 0x0503 p half (
      let r := reqOf p half
      ok (s.setFld (F.GOV_TARGET_RATE r.idx) (r.p.u32 0))))) ∧
  (∀ (p : Packet) (half : Nat) (s : State), s.passes cmdGovStatus p half = true → exec (.govStatus p) s = .next (ends 0x0504 p half (
      let r := reqOf p half
      ok (if (s.ratedPans r.idx).isEmpty then s.useFree else s) (s.govStatusResult r.idx)))) ∧
  (∀ (p : Packet) (half : Nat) (s : State), s.passes cmdThermalStop p half = true → exec (.thermalStop p) s = .next (ends 0x0505 p half (
      let r := reqOf p half
      ok ((s.reached r.half).foldl (fun t h => t.thermalStop h STOP_COMMAND) s)))) ∧
  (∀ (p : Packet) (half : Nat) (s : State), s.passes cmdThermalClear p half = true → exec (.thermalClear p) s = .next (ends 0x0506 p half (
      let r := reqOf p half
      ok ((s.reached r.half).foldl (fun t h => t.clearStop h) s)))) ∧
  (∀ (p : Packet) (half : Nat) (s : State), s.passes cmdPinConfig p half = true → exec (.pinConfig p) s = .next (ends 0x0600 p half (
      let r := reqOf p half
      ok (s.setPinWord r.idx (putBits (r.p.u32 0) 31 30 (s.pinOwner r.idx)))))) ∧
  (∀ (p : Packet) (half : Nat) (s : State), s.passes cmdPinOwner p half = true → exec (.pinOwner p) s = .next (ends 0x0601 p half (
      let r := reqOf p half
      ok (s.setFld (F.PIN_CFG_OWNER r.idx) (r.p.u8 0))))) ∧
  (∀ (p : Packet) (half : Nat) (s : State), s.passes cmdPinWrite p half = true → exec (.pinWrite p) s = .next (ends 0x0602 p half (
      let r := reqOf p half
      let b := bankOf r.idx
      let t := s.pinWrite b (r.p.u32 0) (r.p.u32 4) (r.p.u32 8)
      ok t (leBytes 4 (t.fld (F.PIN_BANK_LAT_LATCH b)) ++ leBytes 4 (s.deniedPins b OWN_MGMT (r.p.u32 0 ||| r.p.u32 4 ||| r.p.u32 8)))))) ∧
  (∀ (p : Packet) (half : Nat) (s : State), s.passes cmdPinRead p half = true → exec (.pinRead p) s = .next (ends 0x0603 p half (
      let r := reqOf p half
      ok s (leBytes 4 (s.fld (F.PIN_BANK_LAT_LATCH (bankOf r.idx))) ++ leBytes 4 (s.bankIn (bankOf r.idx)))))) ∧
  (∀ (p : Packet) (half : Nat) (s : State), s.passes cmdPinIrq p half = true → exec (.pinIrq p) s = .next (ends 0x0604 p half (
      let r := reqOf p half
      ok (s.setLine (r.p.u8 0) (r.p.u8 1) (r.p.u8 2)))))

/-- R508, R527, R528, R674, R679, R680, R685, R702, R703, R591 with R502 and R512: when every check of the command passes (R508, and no
wait of R512 applies) its effect is what happens, and its reply or the LONG command that goes on follows; the body names the effect whole,
so what it does not name is as before.  -/
def Obligations.LogTestCommands : Prop :=
  (∀ (p : Packet) (half : Nat) (s : State), s.passes cmdLogRead p half = true → exec (.logRead p) s = .next (ends 0x0700 p half (
      let r := reqOf p half
      let x := s.logRead (r.p.u64 0) (r.p.u32 8)
      let body := x.1.flatMap LogEntry.bytes
      let head := leBytes 4 x.1.length ++ leBytes 4 0 ++ leBytes 8 x.2
      if r.p.u64 16 = 0 then ok s (head ++ body) else ok (s.storeBytes (r.p.u64 16) body) head))) ∧
  (∀ (p : Packet) (half : Nat) (s : State), s.passes cmdLogStatus p half = true → exec (.logStatus p) s = .next (ends 0x0701 p half (
      let r := reqOf p half
      let reach (h : Nat) : Bool := h == r.half || !s.isSplit r.half
      let block (h : Nat) : List Byte := if reach h then s.logBlock h else leBytes 32 0
      let file (h : Nat) : List Byte := if reach h then s.fileBytes h else leBytes 256 0
      ok s (block 0 ++ block 1 ++ file 0 ++ file 1)))) ∧
  (∀ (p : Packet) (half : Nat) (s : State), s.passes cmdErrClear p half = true → exec (.errClear p) s = .next (ends 0x0702 p half (
      let r := reqOf p half
      ok (s.each (s.clears r.half) fun h t =>
        let u := if bitOf (r.p.u8 0) 0 then t.setFld (F.ERR_STATUS_ERR_LATCH h) 0 else t
        if bitOf (r.p.u8 0) 1 then u.setFld (F.ERR_STATUS_FATAL_LATCH h) 0 else u)))) ∧
  (∀ (p : Packet) (half : Nat) (s : State), s.passes cmdErrInjectSecure p half = true → exec (.errInjectSecure p) s = .next (ends 0x0703 p half (
      let r := reqOf p half
      ok (s.secureInject (r.p.u16 0) (r.p.u16 2))))) ∧
  (∀ (p : Packet) (half : Nat) (s : State), s.passes cmdTimeSet p half = true → exec (.timeSet p) s = .next (ends 0x0704 p half (
      let r := reqOf p half
      let t := (s.setClock (clockOf r.p)).setFlds [(F.RTC_STATUS_SUBSEC, 0), (F.RTC_STATUS_NOT_SET, 0), (F.RTC_STATUS_STOPPED, 0),
        (F.RTC_STATUS_EXHAUSTED, bnat (clockOf r.p == Clock.last))]
      ok (t.raise { half := 0, cls := NOTICE, src := 0, code := 5, unit := 0, ctx := s.rtcSeconds % 2 ^ 32 })))) ∧
  (∀ (p : Packet) (half : Nat) (s : State), s.passes cmdTimeGet p half = true → exec (.timeGet p) s = .next (ends 0x0705 p half (
      let c := s.clock
      ok s (leBytes 2 c.year ++ leBytes 1 c.month ++ leBytes 1 c.day ++ leBytes 1 c.hour ++ leBytes 1 c.minute ++ leBytes 1 c.second ++
        leBytes 1 (s.fld F.RTC_STATUS_EXHAUSTED) ++ leBytes 8 s.ns.toNat)))) ∧
  (∀ (p : Packet) (half : Nat) (s : State), s.passes cmdTestConfig p half = true → exec (.testConfig p) s = .next (ends 0x0800 p half (
      let r := reqOf p half
      ok (s.writeTestCtl r.idx (r.p.u8 0 == 1) (r.p.u32 4))))) ∧
  (∀ (p : Packet) (half : Nat) (s : State), s.passes cmdTestRun p half = true → exec (.testRun p) s = .next (((ends 0x0801 p half (
      let r := reqOf p half
      if scopeOf r.p.target.toNat = 1 then
        .job (s.startSweep r.idx 2) (longJob r ((pansOf r.idx).filter s.testable).length [r.p.target.toNat] 0 0 [0, 0])
      else .job s (longJob r 1 [r.p.target.toNat] r.idx 1 [0, 0]))).testPump 0).testPump 1)) ∧
  (∀ (p : Packet) (half : Nat) (s : State), s.passes cmdTestStatus p half = true → exec (.testStatus p) s = .next (ends 0x0802 p half (
      let r := reqOf p half
      let h := r.idx
      ok s (leBytes 1 (s.fld (F.ST_STATUS_SWEEPING h)) ++ leBytes 1 (s.fld (F.ST_STATUS_INFLIGHT h)) ++ leBytes 2 0 ++
        leBytes 4 (s.fld (F.ST_STATUS_SWEEPS h)) ++ leBytes 4 (s.fld (F.ST_COUNTS_PASSED h)) ++ leBytes 4 (s.fld (F.ST_COUNTS_FAILED h)) ++
        leBytes 4 (s.fld (F.ST_COUNTS_ABANDONED h)) ++ leBytes 2 (s.fld (F.ST_LAST_PAN h)) ++ leBytes 1 (s.fld (F.ST_LAST_CAUSE h)) ++ leBytes 1 0 ++
        leBytes 16 (((List.range 128).map fun i => bnat (s.sluice (h * 128 + i) == QUARANTINED) * 2 ^ i).foldl (· + ·) 0))))) ∧
  (∀ (p : Packet) (half : Nat) (s : State), s.passes cmdQuarantineRelease p half = true → exec (.quarantineRelease p) s = .next (ends 0x0803 p half (
      let r := reqOf p half
      ok ((s.shutSluice r.idx INVALID).restRakes r.idx))))

/-- R508, R583, R592, R581, R573, R590, R586, R588, R490, R484, R481, R489 with R502 and R512: when every check of the command passes
(R508, and no wait of R512 applies) its effect is what happens, and its reply or the LONG command that goes on follows; the body names the
effect whole, so what it does not name is as before.  -/
def Obligations.SecurityCommands : Prop :=
  (∀ (p : Packet) (half : Nat) (s : State), s.passes cmdSecStatus p half = true → exec (.secStatus p) s = .next (ends 0x0900 p half (
      ok s s.secStatus))) ∧
  (∀ (p : Packet) (half : Nat) (s : State), s.passes cmdApprovedEnter p half = true → exec (.approvedEnter p) s = .next (ends 0x0901 p half (
      ok (s.endGrant.setFld F.SEC_STATUS_APPROVED 1)))) ∧
  (∀ (p : Packet) (half : Nat) (s : State), s.passes cmdApprovedLeave p half = true → exec (.approvedLeave p) s = .next (ends 0x0902 p half (
      ok ((s.setFld F.SEC_STATUS_LEAVE_PENDING 1).secReport NOTICE 7 0 0)))) ∧
  (∀ (p : Packet) (half : Nat) (s : State), s.passes cmdKeyLoad p half = true → exec (.keyLoad p) s = .next (ends 0x0903 p half (
      let r := reqOf p half
      if r.p.num 0 32 = 0 then ok s.clearKb
      else ok ((s.modSec fun m => { m with kb := r.p.num 0 32 }).setFld F.SEC_KEYS_BBRAM_HOLDS 1)))) ∧
  (∀ (p : Packet) (half : Nat) (s : State), s.passes cmdFuseProgram p half = true → exec (.fuseProgram p) s = .next (ends 0x0904 p half (
      let r := reqOf p half
      let n := fuseWords (r.p.u8 0)
      .job (s.modSec fun m => { m with fuse := some { field := r.p.u8 0, value := r.p.num 4 48, words := n } }) (longJob r n [r.p.target.toNat])))) ∧
  (∀ (p : Packet) (half : Nat) (s : State), s.passes cmdZeroize p half = true → exec (.zeroize p) s = .next (ends 0x0905 p half (
      let r := reqOf p half
      .job ((s.startZeroize (if r.p.u8 0 = 1 then 1 else 0)).secReport ERROR 6 0 0) (longJob r 0 [])))) ∧
  (∀ (p : Packet) (half : Nat) (s : State), s.passes cmdPatchLoad p half = true → exec (.patchLoad p) s = .next (ends 0x0906 p half (
      let r := reqOf p half
      let n := r.p.u64 8
      match s.loadBytes (r.p.u64 0) n with
      | none => .done s S_ADDRESS 0x8000 []
      | some (t, _, true) => .done t S_ADDRESS D_POISON []
      | some (t, f, false) =>
        if n < 256 || !patchFormed f n r.idx then .done t S_CONTENT 0 []
        else if !patchSigned f then .done t S_SIGNATURE 0 []
        else
          let v := numAt f 4 4
          if v + 1 < t.patch (2 * r.idx) then .done t S_STATE 0 []
          else if v + 1 = t.patch (2 * r.idx) then nothing t (leBytes 4 v)
          else .job ((t.setPatch (2 * r.idx + 1) (v + 1)).setPatchHash (2 * r.idx + 1) ((f.drop 16).take 48))
            { longJob r n [r.p.target.toNat] with done := n }))) ∧
  (∀ (p : Packet) (half : Nat) (s : State), s.passes cmdTamperConfig p half = true → exec (.tamperConfig p) s = .next (ends 0x0907 p half (
      let r := reqOf p half
      let set (t : State) : State := t.setFlds [(F.SEC_TAMPER_CFG_EN, r.p.u8 0), (F.SEC_TAMPER_CFG_POL, r.p.u8 1), (F.SEC_TAMPER_CFG_FILTER, r.p.u8 2)]
      if r.p.u8 3 = 0 then ok (set s)
      else if s.fld F.SEC_TAMPER_LATCH_LATCH &&& s.fld F.SEC_TAMPER_CFG_EN &&& s.freeVal ≠ 0 then .done s.useFree S_STATE 0 []
      else ok ((set s.useFree).setFlds [(F.SEC_TAMPER_LATCH_LATCH, 0), (F.SEC_STATUS_LATCHED, 0), (F.SEC_TAMPER_TIME_SECONDS 0, 0), (F.SEC_TAMPER_TIME_SECONDS 1, 0)])))) ∧
  (∀ (p : Packet) (half : Nat) (s : State), s.passes cmdDbgChallenge p half = true → exec (.dbgChallenge p) s = .next (ends 0x0A00 p half (
      let r := reqOf p half
      let nonce := s.random 48
      ok (s.drew.modSec fun m => { m with challenge := some ⟨nonce, r.p.u8 0⟩ }) (nonce ++ leBytes 8 Config.serial)))) ∧
  (∀ (p : Packet) (half : Nat) (s : State), s.passes cmdDbgResponse p half = true → exec (.dbgResponse p) s = .next (ends 0x0A01 p half (
      let r := reqOf p half
      let t := s.modSec fun m => { m with challenge := none }
      match s.responseFails r.p with
      | some (st, d) => .done (t.setFld F.SEC_COUNTS_DBG_FAILS (min 8 (s.fld F.SEC_COUNTS_DBG_FAILS + 1))) st d []
      | none => ok ((t.modSec fun m => { m with grantFor := r.p.u32 4 }).setFlds [(F.SEC_STATUS_DBG_GRANTED, 1), (F.SEC_STATUS_DBG_SCOPE, r.p.u8 0)])))) ∧
  (∀ (p : Packet) (half : Nat) (s : State), s.passes cmdDbgRevoke p half = true → exec (.dbgRevoke p) s = .next (ends 0x0A02 p half (
      ok s.endGrant))) ∧
  (∀ (p : Packet) (half : Nat) (s : State), s.passes cmdCswPolicy p half = true → exec (.cswPolicy p) s = .next (ends 0x0B00 p half (
      let r := reqOf p half
      ok ((s.cswSet r.half F.CSW_CTL_POLICY (r.p.u8 0)).cswSet r.half F.CSW_CTL_AUTO_REJOIN (r.p.u8 1))))) ∧
  (∀ (p : Packet) (half : Nat) (s : State), s.passes cmdCswXhome p half = true → exec (.cswXhome p) s = .next (ends 0x0B01 p half (
      let r := reqOf p half
      if r.p.u8 0 = 0 || s.crossLines = 0 then ok (s.cswSet r.half F.CSW_CTL_XHOME_BLOCK (r.p.u8 0))
      else if s.fld (F.CSW_DRAIN_DRAIN_US r.half) = 0 then .done s S_STATE 0 []
      else .job s (longJob r s.crossLines [r.p.target.toNat])))) ∧
  (∀ (p : Packet) (half : Nat) (s : State), s.passes cmdCswRetire p half = true → exec (.cswRetire p) s = .next (ends 0x0B02 p half (
      let r := reqOf p half
      let n := s.groupFlits r.idx
      let t := (s.cswSet r.half F.CSW_CTL_RET_GROUP r.idx).cswSet r.half F.CSW_CTL_RETIRE 1
      let t := t.modCswHalf r.half fun k => { k with retiring := some (r.idx, n) }
      if n = 0 then ok (t.endRetire r.half) (drainRecord 0 0)
      else if s.fld (F.CSW_DRAIN_DRAIN_US r.half) = 0 then ok (t.endRetire r.half) (drainRecord 0 n)
      else .job t (longJob r n [r.p.target.toNat] r.idx)))) ∧
  (∀ (p : Packet) (half : Nat) (s : State), s.passes cmdCswRestore p half = true → exec (.cswRestore p) s = .next (ends 0x0B03 p half (
      let r := reqOf p half
      if s.warm.isSome then ok s else .job s.startRestore (longJob r 4 [r.p.target.toNat])))) ∧
  (∀ (p : Packet) (half : Nat) (s : State), s.passes cmdCswRejoin p half = true → exec (.cswRejoin p) s = .next (ends 0x0B04 p half (
      ok s.rejoin)))

/-- A step takes the front of the queue; the idle step, a nanosecond of the monotonic count of R683 in which the released cores go on, is
the model's own choice (DESIGN CHOICE, Assumptions 22, 58 and 59). -/
def Obligations.StepTakesFront : Prop :=
  (∀ (c : Instr) (l : List Instr) (s : State), s.pending = c :: l → step s = exec c { s with pending := l }) ∧
  (∀ s : State, s.pending = [] → step s = .next (({ s with ns := s.ns + 1 } : State).hostChooses.each (List.range 16) fun c u => u.coreTick c))

/-- The manual gives every row an effect (R508 to R518 for the commands of the protocol); none ends in a fault or a refusal. -/
def Obligations.EveryCommandGoesOn : Prop :=
  ∀ (c : Instr) (s : State), ∃ t, exec c s = .next t

/-- R7, R713; the zero that an unlisted byte reads as is the model's choice (Assumption 4), and so are the values of fields with no entry
in a Reset column (Assumption 24). -/
def Obligations.ResetState : Prop :=
  State.reset.pending = [] ∧ State.reset.mem = [] ∧ (∀ k, State.reset.byteAt k = 0) ∧ (∀ a, State.reset.reg a = resetWord a) ∧
  State.reset.phase = 0 ∧ State.reset.memoryCanonical ∧ State.reset.regsCanonical

/-- The invariant of the memory of R361 with its poison and ECC marks (R376, R377), kept by every access, scrubber, injection and command
of 10_lagoon_and_hbm and R523. -/
def Obligations.MemoryStaysCanonical : Prop :=
  ∀ (s t : State) (c : Instr), s.memoryCanonical → s.crossQuiet = true → s.pending.head? = some c → memoryRow c = true → step s = .next t → t.memoryCanonical

/-- R8: the access has no effect but its NOTICE of source ADDRESS with code ALIGN, and a read answers 0. -/
def Obligations.MisalignedAccess : Prop :=
  ∀ (a : Agent) (addr : BitVec 25) (size : Fin 4) (s : State), s.asleep a = false → ¬ (size = 2 ∧ addr.toNat % 4 = 0) →
    exec (.misalignedAccess a addr size true) s =
      .next ((s.raise { half := agentHalf a, cls := NOTICE, src := 1, code := 1, unit := agentUnit a, ctx := addr.toNat }).reply .none) ∧
    exec (.misalignedAccess a addr size false) s =
      .next ((s.raise { half := agentHalf a, cls := NOTICE, src := 1, code := 1, unit := agentUnit a, ctx := addr.toNat }).reply (.word 0))

/-- R671, over every state, every report and every link. -/
def Obligations.ReportEvents : Prop :=
  ∀ (s : State) (r : Raise) (l : Nat), r.half < 2 → l < 16 →
    (r.cls = ERROR → l / 8 = r.half ∨ s.fld (F.CSW_STATUS_UP r.half) ≠ 0 → (s.raise r).on (F.MBX_EVENT_LOG (l / 4) (l % 4)) = true) ∧
    (r.cls = FATAL → l / 8 = r.half ∨ s.fld (F.CSW_STATUS_UP r.half) ≠ 0 → (s.raise r).on (F.MBX_EVENT_FATAL (l / 4) (l % 4)) = true) ∧
    (r.cls = NOTICE ∨ (l / 8 ≠ r.half ∧ s.fld (F.CSW_STATUS_UP r.half) = 0) →
      (s.raise r).reg (R.MBX_EVENT (l / 4) (l % 4)) = s.reg (R.MBX_EVENT (l / 4) (l % 4)))

/-- R184, for every width, every value, and every field of every format of a step. -/
def Obligations.NarrowedResults : Prop :=
  (∀ (w : Nat) (u : Int), 1 ≤ w →
    (-(2 : Int) ^ (w - 1) ≤ u → u ≤ (2 : Int) ^ (w - 1) - 1 → sgn w (uns w (narrow w u)) = u) ∧
    (u < -(2 : Int) ^ (w - 1) → sgn w (uns w (narrow w u)) = -(2 : Int) ^ (w - 1)) ∧
    ((2 : Int) ^ (w - 1) - 1 < u → sgn w (uns w (narrow w u)) = (2 : Int) ^ (w - 1) - 1)) ∧
  (∀ (k : Rake) (i n w : Nat), (n, w) ∈ fmtFields (stepFmt i) (bitsOf i 12 11) →
    k.dp.fieldOf i n w = uns w (narrow w (shifted (k.dp.shiftOf i) (nth k.dp.acc n 0))) ∧
    (shifted (k.dp.shiftOf i) (nth k.dp.acc n 0) < -(2 : Int) ^ (w - 1) ∨ (2 : Int) ^ (w - 1) - 1 < shifted (k.dp.shiftOf i) (nth k.dp.acc n 0) →
      (k.doStep i).k.dp.sat = true))

/-- The frames of BMEM_CE_CLEAR (R123), MEM_ECC_CE_CLEAR (R386), ST_COUNTS_CLEAR (R705), SCHED_COUNTS_CLEAR, HBM_TEMPERATURE_READ below
105 °C (R369), and ADC_CONVERSION of an internal channel other than VFAB (R600). -/
def Obligations.FrameRegisters : Prop :=
  (∀ (n : Fin 256) (s t : State), exec (.bmemCeClear n) s = .next t →
    t = { s with regs := t.regs } ∧ ∀ a, a ≠ R.PAN_BMEM_ECC_STATUS n → t.reg a = s.reg a) ∧
  (∀ (h : Fin 2) (s t : State), exec (.memEccCeClear h) s = .next t →
    t = { s with regs := t.regs } ∧ ∀ a, a ≠ R.MEM_ECC_STATUS h → t.reg a = s.reg a) ∧
  (∀ (h : Fin 2) (s t : State), exec (.stCountsClear h) s = .next t →
    t = { s with regs := t.regs } ∧ ∀ a, a ≠ (F.ST_COUNTS_PASSED h).addr → a ≠ (F.ST_COUNTS_FAILED h).addr → a ≠ (F.ST_COUNTS_ABANDONED h).addr → t.reg a = s.reg a) ∧
  (∀ (h : Fin 2) (s t : State), exec (.schedCountsClear h) s = .next t →
    t = { s with regs := t.regs } ∧ ∀ a, a ≠ R.SCHED_COUNTS h → t.reg a = s.reg a) ∧
  (∀ (h : Fin 2) (temp : Byte) (s t : State), temp.toNat < 105 → exec (.hbmTemperatureRead h temp) s = .next t →
    t = { s with regs := t.regs } ∧ ∀ a, a ≠ R.MEM_HBM_STATUS h → t.reg a = s.reg a) ∧
  (∀ (h : Fin 2) (c : Fin 24) (code : BitVec 12) (s t : State), 0 < c.val → c.val < 16 → exec (.adcConversion h c code) s = .next t →
    t = { s with regs := t.regs } ∧ ∀ a, a ≠ R.GOV_ADC h c → t.reg a = s.reg a)

/-- The frames of the accesses of R376 and R377, of SCRUB_LINE (R378) and of the injections of R389: the stored bytes are those from the
key of the address on (State.memKey), as the meaning computes it. -/
def Obligations.FrameMemory : Prop :=
  (∀ (a : Agent) (addr : Dword) (data : List Byte) (s t : State), s.crossQuiet = true → exec (.memoryPartialWrite a addr data) s = .next t →
    (∀ k, (∀ b, s.memKey addr.toNat = some b → k < b ∨ b + data.length ≤ k) → t.byteAt k = s.byteAt k) ∧
    t.queues = s.queues ∧ t.rakes = s.rakes ∧ t.grains = s.grains ∧ t.chans = s.chans ∧ t.pans = s.pans ∧ t.graphs = s.graphs ∧ t.nodes = s.nodes ∧ t.pending = s.pending) ∧
  (∀ (a : Agent) (addr data : Dword) (s t : State), s.crossQuiet = true → exec (.memoryFullWrite a addr data) s = .next t →
    (∀ k, (∀ b, s.memKey (addr.toNat / 8 * 8) = some b → k < b ∨ b + 8 ≤ k) → t.byteAt k = s.byteAt k) ∧
    t.queues = s.queues ∧ t.rakes = s.rakes ∧ t.grains = s.grains ∧ t.chans = s.chans ∧ t.pans = s.pans ∧ t.graphs = s.graphs ∧ t.nodes = s.nodes ∧ t.pending = s.pending) ∧
  (∀ (a : Agent) (addr : Dword) (n : Byte) (s t : State), s.crossQuiet = true → exec (.memoryRead a addr n) s = .next t → (∀ k, t.byteAt k = s.byteAt k) ∧
    t.queues = s.queues ∧ t.rakes = s.rakes ∧ t.grains = s.grains ∧ t.chans = s.chans ∧ t.pans = s.pans ∧ t.graphs = s.graphs ∧ t.nodes = s.nodes ∧ t.pending = s.pending) ∧
  (∀ (h sel : Fin 2) (stuck upset : Bool) (s t : State), exec (.scrubLine h sel stuck upset) s = .next t → (∀ k, t.byteAt k = s.byteAt k) ∧
    t.queues = s.queues ∧ t.rakes = s.rakes ∧ t.grains = s.grains ∧ t.chans = s.chans ∧ t.pans = s.pans ∧ t.graphs = s.graphs ∧ t.nodes = s.nodes ∧ t.pending = s.pending) ∧
  (∀ (h sel : Fin 2) (word : Word) (bit : BitVec 7) (s t : State), exec (.memInjectFlip h sel word bit) s = .next t → (∀ k, t.byteAt k = s.byteAt k) ∧
    t.queues = s.queues ∧ t.rakes = s.rakes ∧ t.grains = s.grains ∧ t.chans = s.chans ∧ t.pans = s.pans ∧ t.graphs = s.graphs ∧ t.nodes = s.nodes ∧ t.pending = s.pending) ∧
  (∀ (h sel : Fin 2) (word : Word) (bit : BitVec 7) (s t : State), exec (.memInjectFlipDouble h sel word bit) s = .next t → (∀ k, t.byteAt k = s.byteAt k) ∧
    t.queues = s.queues ∧ t.rakes = s.rakes ∧ t.grains = s.grains ∧ t.chans = s.chans ∧ t.pans = s.pans ∧ t.graphs = s.graphs ∧ t.nodes = s.nodes ∧ t.pending = s.pending)

/-- R508 with the rules it names: what delivering a packet of any command comes to where a check fails. -/
def Obligations.ChecksInOrder : Prop :=
  ∀ (c : Cmd) (p : Packet) (s : State),
    (s.accepts p.via = false → s.deliver c p = s) ∧
    (s.accepts p.via = true → s.noPlace c.cls p.via = true → s.deliver c p = s.sendReply p.via p.seq.toNat c.opcode S_BUSY D_OUTSTANDING []) ∧
    (s.accepts p.via = true → s.noPlace c.cls p.via = false → badLength p = true → s.deliver c p = s.sendReply p.via p.seq.toNat c.opcode S_LENGTH 0 []) ∧
    (s.accepts p.via = true → s.noPlace c.cls p.via = false → badLength p = false → p.version ≠ 1 → s.deliver c p = s.sendReply p.via p.seq.toNat c.opcode S_VERSION 0 []) ∧
    (s.accepts p.via = true → s.noPlace c.cls p.via = false → badLength p = false → p.version = 1 → s.seqTaken p.via p.seq.toNat = true → s.deliver c p = s.sendReply p.via p.seq.toNat c.opcode S_DUPLICATE 0 []) ∧
    (s.accepts p.via = true → s.noPlace c.cls p.via = false → badLength p = false → p.version = 1 → s.seqTaken p.via p.seq.toNat = false → s.mustWait c p = true →
      s.deliver c p = { s with waiting := s.waiting ++ [⟨c.opcode, p, (s.execHalf (receivingHalf p.via) p.target.toNat).getD 0⟩] }) ∧
    (s.accepts p.via = true → s.noPlace c.cls p.via = false → badLength p = false → p.version = 1 → s.seqTaken p.via p.seq.toNat = false → s.mustWait c p = false → s.deliver c p = s.startCmd c p) ∧
    (c.scopes.contains (scopeOf p.target.toNat) = false ∨ s.execHalf (receivingHalf p.via) p.target.toNat = none →
      s.startCmd c p = s.sendReply p.via p.seq.toNat c.opcode S_TARGET 0x4006 []) ∧
    (∀ half, c.scopes.contains (scopeOf p.target.toNat) = true → s.execHalf (receivingHalf p.via) p.target.toNat = some half →
      (∀ st d, s.refused513 c.opcode c.cls p.via (receivingHalf p.via) half = some (st, d) → s.startCmd c p = s.sendReply p.via p.seq.toNat c.opcode st d []) ∧
      (s.refused513 c.opcode c.cls p.via (receivingHalf p.via) half = none →
        (p.plen.toNat ≠ c.size (reqOf p half) → s.startCmd c p = s.sendReply p.via p.seq.toNat c.opcode S_LENGTH 0 []) ∧
        (p.plen.toNat = c.size (reqOf p half) →
          (∀ st d, c.opcode ≠ 0x0905 → badHeader p = some (st, d) → s.startCmd c p = s.sendReply p.via p.seq.toNat c.opcode st d []) ∧
          (c.opcode = 0x0905 ∨ badHeader p = none →
            (∀ f, badField s (reqOf p half) c.fields = some f →
              s.startCmd c p = (s.fieldRefusal (reqOf p half) f).1.sendReply p.via p.seq.toNat c.opcode (s.fieldRefusal (reqOf p half) f).2.1 (s.fieldRefusal (reqOf p half) f).2.2 []) ∧
            (badField s (reqOf p half) c.fields = none →
              (∀ st d res, c.check s (reqOf p half) = some (st, d, res) → s.startCmd c p = s.sendReply p.via p.seq.toNat c.opcode st d res) ∧
              (c.check s (reqOf p half) = none → c.cls = .short ∨ c.cls = .long → s.heldUnit (c.touches s (reqOf p half)) = true →
                s.startCmd c p = s.sendReply p.via p.seq.toNat c.opcode S_BUSY D_HELD []))))))

/-- R199, over every word: the fields stand where R198 puts them. -/
def Obligations.IllegalSteps : Prop :=
  ∀ i : Nat, stepIllegal i = true ↔
    (bitOf i 37 = false ∧ bitsOf i 33 32 = 3) ∨ 5 ≤ bitsOf i 31 29 ∨ bitsOf i 26 25 = 3 ∨ bitsOf i 19 18 = 3 ∨
    (1 ≤ bitsOf i 22 20 ∧ bitsOf i 22 20 ≤ 3) ∨ (1 ≤ bitsOf i 15 13 ∧ bitsOf i 15 13 ≤ 3) ∨ 6 ≤ bitsOf i 10 8 ∨
    (65 ≤ bitsOf i 7 1 ∧ bitsOf i 7 1 ≤ 72) ∨ (56 ≤ bitsOf i 7 1 ∧ bitsOf i 7 1 ≤ 63)

/-- R182, over every datapath, accumulator and value. -/
def Obligations.AccumulatorWraps : Prop :=
  ∀ (d : Datapath) (op n : Nat) (p r : Int), n < d.acc.length → n < d.ovf.length →
    (op = 3 ∧ r = nth d.acc n 0 + p ∨ op = 4 ∧ r = nth d.acc n 0 - p →
      (-(2 : Int) ^ 55 ≤ r ∧ r ≤ (2 : Int) ^ 55 - 1 →
        nth (d.apply op n p).1.acc n 0 = r ∧ (d.apply op n p).1.ovf = d.ovf ∧ (d.apply op n p).2 = false) ∧
      (r < -(2 : Int) ^ 55 ∨ (2 : Int) ^ 55 - 1 < r →
        (nth (d.apply op n p).1.acc n 0 - r) % (2 : Int) ^ 56 = 0 ∧ -(2 : Int) ^ 55 ≤ nth (d.apply op n p).1.acc n 0 ∧
        nth (d.apply op n p).1.acc n 0 ≤ (2 : Int) ^ 55 - 1 ∧ nth (d.apply op n p).1.ovf n false = true ∧ (d.apply op n p).2 = true)) ∧
    (op = 1 → (d.apply op n p).1.ovf = d.ovf ∧ nth (d.apply op n p).1.acc n 0 = 0) ∧
    (op = 2 → (d.apply op n p).1.ovf = d.ovf ∧ nth (d.apply op n p).1.acc n 0 = p) ∧
    (∀ m, m ≠ n → nth (d.apply op n p).1.acc m 0 = nth d.acc m 0 ∧ nth (d.apply op n p).1.ovf m false = nth d.ovf m false)
end

