-- ==== Sys2Proof/Laws/Bank.lean ====
section
/-! SUPPORT. The laws of banks: a read after a write, and the canonical form kept by every operation. -/

namespace Sys2Proof

variable {α : Type}

theorem Bank.get_insert_same (d : Nat → α) (b : Bank α) (k : Nat) (v : α) : (Bank.insert b k v).get d k = v := by
  induction b with
  | nil => simp [Bank.insert, Bank.get]
  | cons p r ih =>
    obtain ⟨j, w⟩ := p
    simp only [Bank.insert]
    split
    · simp [Bank.get]
    · split
      · simp [Bank.get]
      · rename_i h1 h2; simp [Bank.get, Ne.symm h2, ih]

theorem Bank.get_insert_other (d : Nat → α) (b : Bank α) (k i : Nat) (v : α) (h : i ≠ k) :
    (Bank.insert b k v).get d i = b.get d i := by
  induction b with
  | nil => simp [Bank.insert, Bank.get, Ne.symm h]
  | cons p r ih =>
    obtain ⟨j, w⟩ := p
    simp only [Bank.insert]
    split
    · simp [Bank.get, Ne.symm h]
    · split
      · rename_i h2; subst h2; simp [Bank.get, Ne.symm h]
      · simp [Bank.get, ih]

theorem Bank.get_erase_same (d : Nat → α) (b : Bank α) (k : Nat) : (Bank.erase b k).get d k = d k := by
  induction b with
  | nil => rfl
  | cons p r ih =>
    obtain ⟨j, w⟩ := p
    simp only [Bank.erase]
    split
    · exact ih
    · rename_i h; simp [Bank.get, h, ih]

theorem Bank.get_erase_other (d : Nat → α) (b : Bank α) (k i : Nat) (h : i ≠ k) :
    (Bank.erase b k).get d i = b.get d i := by
  induction b with
  | nil => rfl
  | cons p r ih =>
    obtain ⟨j, w⟩ := p
    simp only [Bank.erase]
    split
    · rename_i h2; subst h2; simp [Bank.get, Ne.symm h, ih]
    · simp [Bank.get, ih]

/-- A read of the number just written gives the value written. -/
@[simp] theorem Bank.get_set_same [DecidableEq α] (d : Nat → α) (b : Bank α) (k : Nat) (v : α) :
    (Bank.set d b k v).get d k = v := by
  unfold Bank.set
  split
  · rename_i h; rw [Bank.get_erase_same, h]
  · exact Bank.get_insert_same d b k v

/-- A write leaves every other number alone. -/
theorem Bank.get_set_other [DecidableEq α] (d : Nat → α) (b : Bank α) (k i : Nat) (v : α) (h : i ≠ k) :
    (Bank.set d b k v).get d i = b.get d i := by
  unfold Bank.set
  split
  · exact Bank.get_erase_other d b k i h
  · exact Bank.get_insert_other d b k i v h

theorem Bank.wfFrom_mono [DecidableEq α] (d : Nat → α) (b : Bank α) (lo lo' : Nat) (h : lo' ≤ lo)
    (w : Bank.wfFrom d lo b = true) : Bank.wfFrom d lo' b = true := by
  cases b with
  | nil => rfl
  | cons p r =>
    simp only [Bank.wfFrom, Bool.and_eq_true, decide_eq_true_eq] at w ⊢
    exact ⟨⟨by omega, w.1.2⟩, w.2⟩

theorem Bank.wfFrom_insert [DecidableEq α] (d : Nat → α) (b : Bank α) (lo k : Nat) (v : α) (hv : v ≠ d k) (hk : lo ≤ k)
    (w : Bank.wfFrom d lo b = true) : Bank.wfFrom d lo (Bank.insert b k v) = true := by
  induction b generalizing lo with
  | nil => simp [Bank.insert, Bank.wfFrom, hv, hk]
  | cons p r ih =>
    obtain ⟨j, x⟩ := p
    simp only [Bank.wfFrom, Bool.and_eq_true, decide_eq_true_eq] at w
    simp only [Bank.insert]
    split
    · simp only [Bank.wfFrom, Bool.and_eq_true, decide_eq_true_eq]
      exact ⟨⟨hk, hv⟩, ⟨⟨by omega, w.1.2⟩, w.2⟩⟩
    · split
      · rename_i h1 h2; subst h2
        simp only [Bank.wfFrom, Bool.and_eq_true, decide_eq_true_eq]
        exact ⟨⟨hk, hv⟩, w.2⟩
      · simp only [Bank.wfFrom, Bool.and_eq_true, decide_eq_true_eq]
        exact ⟨w.1, ih (j + 1) (by omega) w.2⟩

theorem Bank.wfFrom_erase [DecidableEq α] (d : Nat → α) (b : Bank α) (lo k : Nat)
    (w : Bank.wfFrom d lo b = true) : Bank.wfFrom d lo (Bank.erase b k) = true := by
  induction b generalizing lo with
  | nil => rfl
  | cons p r ih =>
    obtain ⟨j, x⟩ := p
    simp only [Bank.wfFrom, Bool.and_eq_true, decide_eq_true_eq] at w
    simp only [Bank.erase]
    split
    · exact Bank.wfFrom_mono d _ _ _ (by omega) (ih (j + 1) w.2)
    · simp only [Bank.wfFrom, Bool.and_eq_true, decide_eq_true_eq]
      exact ⟨w.1, ih (j + 1) w.2⟩

/-- A write keeps the canonical form. -/
theorem Bank.wf_set [DecidableEq α] (d : Nat → α) (b : Bank α) (k : Nat) (v : α) (w : Bank.wf d b = true) :
    Bank.wf d (Bank.set d b k v) = true := by
  unfold Bank.set
  split
  · exact Bank.wfFrom_erase d b 0 k w
  · rename_i h; exact Bank.wfFrom_insert d b 0 k v h (Nat.zero_le _) w

theorem Bank.wfFrom_map [DecidableEq α] (d : Nat → α) (f : Nat → α → α) (b : Bank α) (lo : Nat)
    (w : Bank.wfFrom d lo b = true) : Bank.wfFrom d lo (Bank.map d f b) = true := by
  induction b generalizing lo with
  | nil => rfl
  | cons p r ih =>
    obtain ⟨j, x⟩ := p
    simp only [Bank.wfFrom, Bool.and_eq_true, decide_eq_true_eq] at w
    simp only [Bank.map]
    split
    · exact Bank.wfFrom_mono d _ _ _ (by omega) (ih (j + 1) w.2)
    · rename_i h
      simp only [Bank.wfFrom, Bool.and_eq_true, decide_eq_true_eq]
      exact ⟨⟨w.1.1, h⟩, ih (j + 1) w.2⟩

/-- Changing every entry keeps the canonical form. -/
theorem Bank.wf_map [DecidableEq α] (d : Nat → α) (f : Nat → α → α) (b : Bank α) (w : Bank.wf d b = true) :
    Bank.wf d (Bank.map d f b) = true := Bank.wfFrom_map d f b 0 w

theorem Bank.wfFrom_drop [DecidableEq α] (d : Nat → α) (p : Nat → Bool) (b : Bank α) (lo : Nat)
    (w : Bank.wfFrom d lo b = true) : Bank.wfFrom d lo (Bank.drop p b) = true := by
  induction b generalizing lo with
  | nil => rfl
  | cons q r ih =>
    obtain ⟨j, x⟩ := q
    simp only [Bank.wfFrom, Bool.and_eq_true, decide_eq_true_eq] at w
    simp only [Bank.drop]
    split
    · exact Bank.wfFrom_mono d _ _ _ (by omega) (ih (j + 1) w.2)
    · simp only [Bank.wfFrom, Bool.and_eq_true, decide_eq_true_eq]
      exact ⟨w.1, ih (j + 1) w.2⟩

/-- Dropping entries keeps the canonical form. -/
theorem Bank.wf_drop [DecidableEq α] (d : Nat → α) (p : Nat → Bool) (b : Bank α) (w : Bank.wf d b = true) :
    Bank.wf d (Bank.drop p b) = true := Bank.wfFrom_drop d p b 0 w

end Sys2Proof
end

