-- ==== Sys2Proof/Laws/Access.lean ====
section
/-! SUPPORT. Reading a bank of the state after writing it. -/

namespace Sys2Proof.Machine

@[simp] theorem State.queue_setQueue_same (s : State) (k : Nat) (v : QBlock) : (s.setQueue k v).queue k = v := by
  simp [State.queue, State.setQueue]
theorem State.queue_setQueue_other (s : State) (k j : Nat) (v : QBlock) (h : j ≠ k) : (s.setQueue k v).queue j = s.queue j := by
  simp [State.queue, State.setQueue, Bank.get_set_other _ _ _ _ _ h]
@[simp] theorem State.chan_setChan_same (s : State) (k : Nat) (v : Chan) : (s.setChan k v).chan k = v := by
  simp [State.chan, State.setChan]
theorem State.chan_setChan_other (s : State) (k j : Nat) (v : Chan) (h : j ≠ k) : (s.setChan k v).chan j = s.chan j := by
  simp [State.chan, State.setChan, Bank.get_set_other _ _ _ _ _ h]
@[simp] theorem State.grain_setGrain_same (s : State) (k : Nat) (v : GrainCfg) : (s.setGrain k v).grain k = v := by
  simp [State.grain, State.setGrain]
theorem State.grain_setGrain_other (s : State) (k j : Nat) (v : GrainCfg) (h : j ≠ k) : (s.setGrain k v).grain j = s.grain j := by
  simp [State.grain, State.setGrain, Bank.get_set_other _ _ _ _ _ h]
@[simp] theorem State.heldOf_setHeldOf_same (s : State) (k : Nat) (v : GrainHeld) : (s.setHeldOf k v).heldOf k = v := by
  simp [State.heldOf, State.setHeldOf]
theorem State.heldOf_setHeldOf_other (s : State) (k j : Nat) (v : GrainHeld) (h : j ≠ k) : (s.setHeldOf k v).heldOf j = s.heldOf j := by
  simp [State.heldOf, State.setHeldOf, Bank.get_set_other _ _ _ _ _ h]
@[simp] theorem State.tapSel_setTapSel_same (s : State) (k : Nat) (v : Nat) : (s.setTapSel k v).tapSel k = v := by
  simp [State.tapSel, State.setTapSel]
theorem State.tapSel_setTapSel_other (s : State) (k j : Nat) (v : Nat) (h : j ≠ k) : (s.setTapSel k v).tapSel j = s.tapSel j := by
  simp [State.tapSel, State.setTapSel, Bank.get_set_other _ _ _ _ _ h]
@[simp] theorem State.tapWatch_setTapWatch_same (s : State) (k : Nat) (v : Nat) : (s.setTapWatch k v).tapWatch k = v := by
  simp [State.tapWatch, State.setTapWatch]
theorem State.tapWatch_setTapWatch_other (s : State) (k j : Nat) (v : Nat) (h : j ≠ k) : (s.setTapWatch k v).tapWatch j = s.tapWatch j := by
  simp [State.tapWatch, State.setTapWatch, Bank.get_set_other _ _ _ _ _ h]
@[simp] theorem State.drivers_setDrivers_same (s : State) (k : Nat) (v : (List Nat)) : (s.setDrivers k v).drivers k = v := by
  simp [State.drivers, State.setDrivers]
theorem State.drivers_setDrivers_other (s : State) (k j : Nat) (v : (List Nat)) (h : j ≠ k) : (s.setDrivers k v).drivers j = s.drivers j := by
  simp [State.drivers, State.setDrivers, Bank.get_set_other _ _ _ _ _ h]
@[simp] theorem State.treeHigh_setTreeHigh_same (s : State) (k : Nat) (v : Bool) : (s.setTreeHigh k v).treeHigh k = v := by
  simp [State.treeHigh, State.setTreeHigh]
theorem State.treeHigh_setTreeHigh_other (s : State) (k j : Nat) (v : Bool) (h : j ≠ k) : (s.setTreeHigh k v).treeHigh j = s.treeHigh j := by
  simp [State.treeHigh, State.setTreeHigh, Bank.get_set_other _ _ _ _ _ h]
@[simp] theorem State.pinChan_setPinChan_same (s : State) (k : Nat) (v : PinChan) : (s.setPinChan k v).pinChan k = v := by
  simp [State.pinChan, State.setPinChan]
theorem State.pinChan_setPinChan_other (s : State) (k j : Nat) (v : PinChan) (h : j ≠ k) : (s.setPinChan k v).pinChan j = s.pinChan j := by
  simp [State.pinChan, State.setPinChan, Bank.get_set_other _ _ _ _ _ h]
@[simp] theorem State.bmem_setBmem_same (s : State) (k : Nat) (v : Bmem) : (s.setBmem k v).bmem k = v := by
  simp [State.bmem, State.setBmem]
theorem State.bmem_setBmem_other (s : State) (k j : Nat) (v : Bmem) (h : j ≠ k) : (s.setBmem k v).bmem j = s.bmem j := by
  simp [State.bmem, State.setBmem, Bank.get_set_other _ _ _ _ _ h]
@[simp] theorem State.wakes_setWakes_same (s : State) (k : Nat) (v : (List Nat)) : (s.setWakes k v).wakes k = v := by
  simp [State.wakes, State.setWakes]
theorem State.wakes_setWakes_other (s : State) (k j : Nat) (v : (List Nat)) (h : j ≠ k) : (s.setWakes k v).wakes j = s.wakes j := by
  simp [State.wakes, State.setWakes, Bank.get_set_other _ _ _ _ _ h]
@[simp] theorem State.pan_setPan_same (s : State) (k : Nat) (v : Pan) : (s.setPan k v).pan k = v := by
  simp [State.pan, State.setPan]
theorem State.pan_setPan_other (s : State) (k j : Nat) (v : Pan) (h : j ≠ k) : (s.setPan k v).pan j = s.pan j := by
  simp [State.pan, State.setPan, Bank.get_set_other _ _ _ _ _ h]
@[simp] theorem State.load_setLoad_same (s : State) (k : Nat) (v : (Option LoadJob)) : (s.setLoad k v).load k = v := by
  simp [State.load, State.setLoad]
theorem State.load_setLoad_other (s : State) (k j : Nat) (v : (Option LoadJob)) (h : j ≠ k) : (s.setLoad k v).load j = s.load j := by
  simp [State.load, State.setLoad, Bank.get_set_other _ _ _ _ _ h]
@[simp] theorem State.granted_setGranted_same (s : State) (k : Nat) (v : Nat) : (s.setGranted k v).granted k = v := by
  simp [State.granted, State.setGranted]
theorem State.granted_setGranted_other (s : State) (k j : Nat) (v : Nat) (h : j ≠ k) : (s.setGranted k v).granted j = s.granted j := by
  simp [State.granted, State.setGranted, Bank.get_set_other _ _ _ _ _ h]
@[simp] theorem State.agentResult_setAgentResult_same (s : State) (k : Nat) (v : (List (Nat × Nat × Nat))) : (s.setAgentResult k v).agentResult k = v := by
  simp [State.agentResult, State.setAgentResult]
theorem State.agentResult_setAgentResult_other (s : State) (k j : Nat) (v : (List (Nat × Nat × Nat))) (h : j ≠ k) : (s.setAgentResult k v).agentResult j = s.agentResult j := by
  simp [State.agentResult, State.setAgentResult, Bank.get_set_other _ _ _ _ _ h]
@[simp] theorem State.log_setLog_same (s : State) (k : Nat) (v : LogHalf) : (s.setLog k v).log k = v := by
  simp [State.log, State.setLog]
theorem State.log_setLog_other (s : State) (k j : Nat) (v : LogHalf) (h : j ≠ k) : (s.setLog k v).log j = s.log j := by
  simp [State.log, State.setLog, Bank.get_set_other _ _ _ _ _ h]
@[simp] theorem State.poisoned_setPoisoned_same (s : State) (k : Nat) (v : Bool) : (s.setPoisoned k v).poisoned k = v := by
  simp [State.poisoned, State.setPoisoned]
theorem State.poisoned_setPoisoned_other (s : State) (k j : Nat) (v : Bool) (h : j ≠ k) : (s.setPoisoned k v).poisoned j = s.poisoned j := by
  simp [State.poisoned, State.setPoisoned, Bank.get_set_other _ _ _ _ _ h]
@[simp] theorem State.flipMask_setFlipMask_same (s : State) (k : Nat) (v : Nat) : (s.setFlipMask k v).flipMask k = v := by
  simp [State.flipMask, State.setFlipMask]
theorem State.flipMask_setFlipMask_other (s : State) (k j : Nat) (v : Nat) (h : j ≠ k) : (s.setFlipMask k v).flipMask j = s.flipMask j := by
  simp [State.flipMask, State.setFlipMask, Bank.get_set_other _ _ _ _ _ h]
@[simp] theorem State.scrubber_setScrubber_same (s : State) (k : Nat) (v : Scrubber) : (s.setScrubber k v).scrubber k = v := by
  simp [State.scrubber, State.setScrubber]
theorem State.scrubber_setScrubber_other (s : State) (k j : Nat) (v : Scrubber) (h : j ≠ k) : (s.setScrubber k v).scrubber j = s.scrubber j := by
  simp [State.scrubber, State.setScrubber, Bank.get_set_other _ _ _ _ _ h]
@[simp] theorem State.partJob_setPartJob_same (s : State) (k : Nat) (v : (Option PartJob)) : (s.setPartJob k v).partJob k = v := by
  simp [State.partJob, State.setPartJob]
theorem State.partJob_setPartJob_other (s : State) (k j : Nat) (v : (Option PartJob)) (h : j ≠ k) : (s.setPartJob k v).partJob j = s.partJob j := by
  simp [State.partJob, State.setPartJob, Bank.get_set_other _ _ _ _ _ h]
@[simp] theorem State.slotByte_setSlotByte_same (s : State) (k : Nat) (v : Byte) : (s.setSlotByte k v).slotByte k = v := by
  simp [State.slotByte, State.setSlotByte]
theorem State.slotByte_setSlotByte_other (s : State) (k j : Nat) (v : Byte) (h : j ≠ k) : (s.setSlotByte k v).slotByte j = s.slotByte j := by
  simp [State.slotByte, State.setSlotByte, Bank.get_set_other _ _ _ _ _ h]
@[simp] theorem State.isRestarting_setIsRestarting_same (s : State) (k : Nat) (v : Bool) : (s.setIsRestarting k v).isRestarting k = v := by
  simp [State.isRestarting, State.setIsRestarting]
theorem State.isRestarting_setIsRestarting_other (s : State) (k j : Nat) (v : Bool) (h : j ≠ k) : (s.setIsRestarting k v).isRestarting j = s.isRestarting j := by
  simp [State.isRestarting, State.setIsRestarting, Bank.get_set_other _ _ _ _ _ h]
@[simp] theorem State.graph_setGraph_same (s : State) (k : Nat) (v : (Option Graph)) : (s.setGraph k v).graph k = v := by
  simp [State.graph, State.setGraph]
theorem State.graph_setGraph_other (s : State) (k j : Nat) (v : (Option Graph)) (h : j ≠ k) : (s.setGraph k v).graph j = s.graph j := by
  simp [State.graph, State.setGraph, Bank.get_set_other _ _ _ _ _ h]
@[simp] theorem State.nodeAt_setNodeAt_same (s : State) (k : Nat) (v : (Option Node)) : (s.setNodeAt k v).nodeAt k = v := by
  simp [State.nodeAt, State.setNodeAt]
theorem State.nodeAt_setNodeAt_other (s : State) (k j : Nat) (v : (Option Node)) (h : j ≠ k) : (s.setNodeAt k v).nodeAt j = s.nodeAt j := by
  simp [State.nodeAt, State.setNodeAt, Bank.get_set_other _ _ _ _ _ h]
@[simp] theorem State.sched_setSched_same (s : State) (k : Nat) (v : Sched) : (s.setSched k v).sched k = v := by
  simp [State.sched, State.setSched]
theorem State.sched_setSched_other (s : State) (k j : Nat) (v : Sched) (h : j ≠ k) : (s.setSched k v).sched j = s.sched j := by
  simp [State.sched, State.setSched, Bank.get_set_other _ _ _ _ _ h]
@[simp] theorem State.windowByte_setWindowByte_same (s : State) (k : Nat) (v : Byte) : (s.setWindowByte k v).windowByte k = v := by
  simp [State.windowByte, State.setWindowByte]
theorem State.windowByte_setWindowByte_other (s : State) (k j : Nat) (v : Byte) (h : j ≠ k) : (s.setWindowByte k v).windowByte j = s.windowByte j := by
  simp [State.windowByte, State.setWindowByte, Bank.get_set_other _ _ _ _ _ h]
@[simp] theorem State.coreSlot_setCoreSlot_same (s : State) (k : Nat) (v : Bool) : (s.setCoreSlot k v).coreSlot k = v := by
  simp [State.coreSlot, State.setCoreSlot]
theorem State.coreSlot_setCoreSlot_other (s : State) (k j : Nat) (v : Bool) (h : j ≠ k) : (s.setCoreSlot k v).coreSlot j = s.coreSlot j := by
  simp [State.coreSlot, State.setCoreSlot, Bank.get_set_other _ _ _ _ _ h]
@[simp] theorem State.rake_setRake_same (s : State) (k : Nat) (v : Rake) : (s.setRake k v).rake k = v := by
  simp [State.rake, State.setRake]
theorem State.rake_setRake_other (s : State) (k j : Nat) (v : Rake) (h : j ≠ k) : (s.setRake k v).rake j = s.rake j := by
  simp [State.rake, State.setRake, Bank.get_set_other _ _ _ _ _ h]
@[simp] theorem State.core_setCore_same (s : State) (k : Nat) (v : Core) : (s.setCore k v).core k = v := by
  simp [State.core, State.setCore]
theorem State.core_setCore_other (s : State) (k j : Nat) (v : Core) (h : j ≠ k) : (s.setCore k v).core j = s.core j := by
  simp [State.core, State.setCore, Bank.get_set_other _ _ _ _ _ h]
@[simp] theorem State.patch_setPatch_same (s : State) (k : Nat) (v : Nat) : (s.setPatch k v).patch k = v := by
  simp [State.patch, State.setPatch]
theorem State.patch_setPatch_other (s : State) (k j : Nat) (v : Nat) (h : j ≠ k) : (s.setPatch k v).patch j = s.patch j := by
  simp [State.patch, State.setPatch, Bank.get_set_other _ _ _ _ _ h]
@[simp] theorem State.patchHash_setPatchHash_same (s : State) (k : Nat) (v : (List Byte)) : (s.setPatchHash k v).patchHash k = v := by
  simp [State.patchHash, State.setPatchHash]
theorem State.patchHash_setPatchHash_other (s : State) (k j : Nat) (v : (List Byte)) (h : j ≠ k) : (s.setPatchHash k v).patchHash j = s.patchHash j := by
  simp [State.patchHash, State.setPatchHash, Bank.get_set_other _ _ _ _ _ h]
@[simp] theorem State.slice_setSlice_same (s : State) (k : Nat) (v : (Option Slice)) : (s.setSlice k v).slice k = v := by
  simp [State.slice, State.setSlice]
theorem State.slice_setSlice_other (s : State) (k j : Nat) (v : (Option Slice)) (h : j ≠ k) : (s.setSlice k v).slice j = s.slice j := by
  simp [State.slice, State.setSlice, Bank.get_set_other _ _ _ _ _ h]
@[simp] theorem State.sweep_setSweep_same (s : State) (k : Nat) (v : Sweep) : (s.setSweep k v).sweep k = v := by
  simp [State.sweep, State.setSweep]
theorem State.sweep_setSweep_other (s : State) (k j : Nat) (v : Sweep) (h : j ≠ k) : (s.setSweep k v).sweep j = s.sweep j := by
  simp [State.sweep, State.setSweep, Bank.get_set_other _ _ _ _ _ h]
@[simp] theorem State.invertedAt_setInvertedAt_same (s : State) (k : Nat) (v : Bool) : (s.setInvertedAt k v).invertedAt k = v := by
  simp [State.invertedAt, State.setInvertedAt]
theorem State.invertedAt_setInvertedAt_other (s : State) (k j : Nat) (v : Bool) (h : j ≠ k) : (s.setInvertedAt k v).invertedAt j = s.invertedAt j := by
  simp [State.invertedAt, State.setInvertedAt, Bank.get_set_other _ _ _ _ _ h]
@[simp] theorem State.agentFrame_setAgentFrame_same (s : State) (k : Nat) (v : (List Byte)) : (s.setAgentFrame k v).agentFrame k = v := by
  simp [State.agentFrame, State.setAgentFrame]
theorem State.agentFrame_setAgentFrame_other (s : State) (k j : Nat) (v : (List Byte)) (h : j ≠ k) : (s.setAgentFrame k v).agentFrame j = s.agentFrame j := by
  simp [State.agentFrame, State.setAgentFrame, Bank.get_set_other _ _ _ _ _ h]
@[simp] theorem State.pad_setPad_same (s : State) (k : Nat) (v : Bool) : (s.setPad k v).pad k = v := by
  simp [State.pad, State.setPad]
theorem State.pad_setPad_other (s : State) (k j : Nat) (v : Bool) (h : j ≠ k) : (s.setPad k v).pad j = s.pad j := by
  simp [State.pad, State.setPad, Bank.get_set_other _ _ _ _ _ h]
@[simp] theorem State.bankDown_setBankDown_same (s : State) (k : Nat) (v : Bool) : (s.setBankDown k v).bankDown k = v := by
  simp [State.bankDown, State.setBankDown]
theorem State.bankDown_setBankDown_other (s : State) (k j : Nat) (v : Bool) (h : j ≠ k) : (s.setBankDown k v).bankDown j = s.bankDown j := by
  simp [State.bankDown, State.setBankDown, Bank.get_set_other _ _ _ _ _ h]
@[simp] theorem State.serial_setSerial_same (s : State) (k : Nat) (v : Serial) : (s.setSerial k v).serial k = v := by
  simp [State.serial, State.setSerial]
theorem State.serial_setSerial_other (s : State) (k j : Nat) (v : Serial) (h : j ≠ k) : (s.setSerial k v).serial j = s.serial j := by
  simp [State.serial, State.setSerial, Bank.get_set_other _ _ _ _ _ h]
@[simp] theorem State.hostLink_setHostLink_same (s : State) (k : Nat) (v : HostLink) : (s.setHostLink k v).hostLink k = v := by
  simp [State.hostLink, State.setHostLink]
theorem State.hostLink_setHostLink_other (s : State) (k j : Nat) (v : HostLink) (h : j ≠ k) : (s.setHostLink k v).hostLink j = s.hostLink j := by
  simp [State.hostLink, State.setHostLink, Bank.get_set_other _ _ _ _ _ h]
@[simp] theorem State.cohLine_setCohLine_same (s : State) (k : Nat) (v : CohLine) : (s.setCohLine k v).cohLine k = v := by
  simp [State.cohLine, State.setCohLine]
theorem State.cohLine_setCohLine_other (s : State) (k j : Nat) (v : CohLine) (h : j ≠ k) : (s.setCohLine k v).cohLine j = s.cohLine j := by
  simp [State.cohLine, State.setCohLine, Bank.get_set_other _ _ _ _ _ h]
@[simp] theorem State.filterMask_setFilterMask_same (s : State) (k : Nat) (v : Nat) : (s.setFilterMask k v).filterMask k = v := by
  simp [State.filterMask, State.setFilterMask]
theorem State.filterMask_setFilterMask_other (s : State) (k j : Nat) (v : Nat) (h : j ≠ k) : (s.setFilterMask k v).filterMask j = s.filterMask j := by
  simp [State.filterMask, State.setFilterMask, Bank.get_set_other _ _ _ _ _ h]
@[simp] theorem State.dcLine_setDcLine_same (s : State) (k : Nat) (v : (Option DcLine)) : (s.setDcLine k v).dcLine k = v := by
  simp [State.dcLine, State.setDcLine]
theorem State.dcLine_setDcLine_other (s : State) (k j : Nat) (v : (Option DcLine)) (h : j ≠ k) : (s.setDcLine k v).dcLine j = s.dcLine j := by
  simp [State.dcLine, State.setDcLine, Bank.get_set_other _ _ _ _ _ h]
@[simp] theorem State.inDeviceBias_setInDeviceBias_same (s : State) (k : Nat) (v : Bool) : (s.setInDeviceBias k v).inDeviceBias k = v := by
  simp [State.inDeviceBias, State.setInDeviceBias]
theorem State.inDeviceBias_setInDeviceBias_other (s : State) (k j : Nat) (v : Bool) (h : j ≠ k) : (s.setInDeviceBias k v).inDeviceBias j = s.inDeviceBias j := by
  simp [State.inDeviceBias, State.setInDeviceBias, Bank.get_set_other _ _ _ _ _ h]
@[simp] theorem State.biasLeft_setBiasLeft_same (s : State) (k : Nat) (v : Nat) : (s.setBiasLeft k v).biasLeft k = v := by
  simp [State.biasLeft, State.setBiasLeft]
theorem State.biasLeft_setBiasLeft_other (s : State) (k j : Nat) (v : Nat) (h : j ≠ k) : (s.setBiasLeft k v).biasLeft j = s.biasLeft j := by
  simp [State.biasLeft, State.setBiasLeft, Bank.get_set_other _ _ _ _ _ h]
@[simp] theorem State.coh_setCoh_same (s : State) (k : Nat) (v : Coh) : (s.setCoh k v).coh k = v := by
  simp [State.coh, State.setCoh]
theorem State.coh_setCoh_other (s : State) (k j : Nat) (v : Coh) (h : j ≠ k) : (s.setCoh k v).coh j = s.coh j := by
  simp [State.coh, State.setCoh, Bank.get_set_other _ _ _ _ _ h]
@[simp] theorem State.cswGroup_setCswGroup_same (s : State) (k : Nat) (v : CswGroup) : (s.setCswGroup k v).cswGroup k = v := by
  simp [State.cswGroup, State.setCswGroup]
theorem State.cswGroup_setCswGroup_other (s : State) (k j : Nat) (v : CswGroup) (h : j ≠ k) : (s.setCswGroup k v).cswGroup j = s.cswGroup j := by
  simp [State.cswGroup, State.setCswGroup, Bank.get_set_other _ _ _ _ _ h]
@[simp] theorem State.cswHalf_setCswHalf_same (s : State) (k : Nat) (v : CswHalf) : (s.setCswHalf k v).cswHalf k = v := by
  simp [State.cswHalf, State.setCswHalf]
theorem State.cswHalf_setCswHalf_other (s : State) (k j : Nat) (v : CswHalf) (h : j ≠ k) : (s.setCswHalf k v).cswHalf j = s.cswHalf j := by
  simp [State.cswHalf, State.setCswHalf, Bank.get_set_other _ _ _ _ _ h]
@[simp] theorem State.gov_setGov_same (s : State) (k : Nat) (v : Gov) : (s.setGov k v).gov k = v := by
  simp [State.gov, State.setGov]
theorem State.gov_setGov_other (s : State) (k j : Nat) (v : Gov) (h : j ≠ k) : (s.setGov k v).gov j = s.gov j := by
  simp [State.gov, State.setGov, Bank.get_set_other _ _ _ _ _ h]
@[simp] theorem State.fillDone_setFillDone_same (s : State) (k : Nat) (v : Bool) : (s.setFillDone k v).fillDone k = v := by
  simp [State.fillDone, State.setFillDone]
theorem State.fillDone_setFillDone_other (s : State) (k j : Nat) (v : Bool) (h : j ≠ k) : (s.setFillDone k v).fillDone j = s.fillDone j := by
  simp [State.fillDone, State.setFillDone, Bank.get_set_other _ _ _ _ _ h]
@[simp] theorem State.hart_setHart_same (s : State) (k : Nat) (v : Hart) : (s.setHart k v).hart k = v := by
  simp [State.hart, State.setHart]
theorem State.hart_setHart_other (s : State) (k j : Nat) (v : Hart) (h : j ≠ k) : (s.setHart k v).hart j = s.hart j := by
  simp [State.hart, State.setHart, Bank.get_set_other _ _ _ _ _ h]

end Sys2Proof.Machine
end

