-- ==== Sys2Proof/Laws/Crossing.lean ====
section
/-! SUPPORT. Requests that reach the half that serves them at once (R478, R479), and those of a split part (R484). -/

namespace Sys2Proof.Machine

/-- A request that may enter is served in the state it enters. -/
theorem State.sendReq_enter {s : State} {g h : Nat} (m : s.mayEnter g h = true) (p : CrossReq) (room : ∀ t : State, t.reqRoom h p = true) :
    s.sendReq g h p = (s.entering g h).serveReq h p := by
  unfold State.sendReq State.entering
  by_cases e : g = h
  · simp [e]
  · have c : s.isSplit g = false ∧ s.crossFree g = true := by simpa [State.mayEnter, e] using m
    simp [e, c.1, c.2, room]

/-- A request of a split part stays in its half's hands: it is served, or turned away, where it stands. -/
theorem State.sendReq_split {s : State} {g h : Nat} (m : s.isSplit g = true) (p : CrossReq) : s.sendReq g h p = s.serveReq h p := by
  simp [State.sendReq, m]

/-- A row of agent a whose link is not in D3hot has its effect (R397). -/
theorem State.fromAgent_awake {s : State} {a : Agent} (h : s.asleep a = false) (t : State) : s.fromAgent a t = t := by
  simp [State.fromAgent, h]

/-- An access to memory of the lagoon or a stack that may enter is made in the state it enters. -/
theorem State.accessMem_enter {s : State} {x : HeldAccess} {g o : Nat} (r : s.region x.addr = .hbm g o ∨ s.region x.addr = .scratch g o)
    (m : s.mayEnter (agentHalf x.agent) g = true) : s.accessMem x = (s.entering (agentHalf x.agent) g).access x := by
  unfold State.accessMem
  rcases r with r | r <;> rw [r] <;> exact State.sendReq_enter m _ (fun _ => rfl)

/-- An access to host memory, or where no memory is, crosses nothing. -/
theorem State.accessMem_direct {s : State} {x : HeldAccess} (r : (∃ p, s.region x.addr = .host p) ∨ s.region x.addr = .unmapped) :
    s.accessMem x = s.access x := by
  unfold State.accessMem
  rcases r with ⟨p, r⟩ | r <;> rw [r]

/-- A coherence request that may enter, and finds room at its engine's input, is taken in the state it enters. -/
theorem State.cohReq_enter {s : State} {g h : Nat} {q : CohReq} (m : s.mayEnter g h = true) (r : g = h ∨ s.inputHolds h q = false) :
    s.sendReq g h (.coh q) = (s.entering g h).cohRequest h q := by
  unfold State.sendReq State.entering
  by_cases e : g = h
  · simp [e, State.serveReq]
  · have c : s.isSplit g = false ∧ s.crossFree g = true := by simpa [State.mayEnter, e] using m
    have r := r.resolve_left e
    simp [e, c.1, c.2, State.reqRoom, r, State.serveReq]

/-- A core's request that may enter is taken by the engine of its line (R437). -/
theorem State.coreAsks_enter {s : State} {c ev line h role : Nat} {d : Option (BitVec 512)} (b : s.xhomeBlocked (c / 8) (lineAddr line) = false)
    (e : s.engineOf (c / 8) line = some (h, role)) (m : s.mayEnter (c / 8) h = true)
    (r : c / 8 = h ∨ s.inputHolds h { role := role, ev := ev, line := line, who := c, data := d } = false) :
    s.coreAsks c ev line d =
      ((s.entering (c / 8) h).cohRequest h { role := role, ev := ev, line := line, who := c, data := d }).cohSettle h := by
  simp [State.coreAsks, b, e, State.cohReq_enter m r]

end Sys2Proof.Machine
end

