-- ==== Sys2Proof/Laws/State.lean ====
section
/-! SUPPORT. What each update of the state leaves alone: a register write keeps every other field, and a write of a bank keeps the
registers, the memory and the queue. -/

namespace Sys2Proof.Machine

/-! ## Register writes -/

@[simp] theorem State.setReg_answer (s : State) (a : Nat) (w : Word) : (s.setReg a w).answer = s.answer := rfl
@[simp] theorem State.setReg_ns (s : State) (a : Nat) (w : Word) : (s.setReg a w).ns = s.ns := rfl
@[simp] theorem State.setReg_fresh (s : State) (a : Nat) (w : Word) : (s.setReg a w).fresh = s.fresh := rfl
@[simp] theorem State.setReg_chans (s : State) (a : Nat) (w : Word) : (s.setReg a w).chans = s.chans := rfl
@[simp] theorem State.setReg_grains (s : State) (a : Nat) (w : Word) : (s.setReg a w).grains = s.grains := rfl
@[simp] theorem State.setReg_held (s : State) (a : Nat) (w : Word) : (s.setReg a w).held = s.held := rfl
@[simp] theorem State.setReg_taps (s : State) (a : Nat) (w : Word) : (s.setReg a w).taps = s.taps := rfl
@[simp] theorem State.setReg_clusterTaps (s : State) (a : Nat) (w : Word) : (s.setReg a w).clusterTaps = s.clusterTaps := rfl
@[simp] theorem State.setReg_pinChans (s : State) (a : Nat) (w : Word) : (s.setReg a w).pinChans = s.pinChans := rfl
@[simp] theorem State.setReg_bmems (s : State) (a : Nat) (w : Word) : (s.setReg a w).bmems = s.bmems := rfl
@[simp] theorem State.setReg_wakeQueue (s : State) (a : Nat) (w : Word) : (s.setReg a w).wakeQueue = s.wakeQueue := rfl
@[simp] theorem State.setReg_queues (s : State) (a : Nat) (w : Word) : (s.setReg a w).queues = s.queues := rfl
@[simp] theorem State.setReg_rakes (s : State) (a : Nat) (w : Word) : (s.setReg a w).rakes = s.rakes := rfl
@[simp] theorem State.setReg_pans (s : State) (a : Nat) (w : Word) : (s.setReg a w).pans = s.pans := rfl
@[simp] theorem State.setReg_loads (s : State) (a : Nat) (w : Word) : (s.setReg a w).loads = s.loads := rfl
@[simp] theorem State.setReg_lastGrant (s : State) (a : Nat) (w : Word) : (s.setReg a w).lastGrant = s.lastGrant := rfl
@[simp] theorem State.setReg_agentResults (s : State) (a : Nat) (w : Word) : (s.setReg a w).agentResults = s.agentResults := rfl
@[simp] theorem State.setReg_graphs (s : State) (a : Nat) (w : Word) : (s.setReg a w).graphs = s.graphs := rfl
@[simp] theorem State.setReg_nodes (s : State) (a : Nat) (w : Word) : (s.setReg a w).nodes = s.nodes := rfl
@[simp] theorem State.setReg_links (s : State) (a : Nat) (w : Word) : (s.setReg a w).links = s.links := rfl
@[simp] theorem State.setReg_scheds (s : State) (a : Nat) (w : Word) : (s.setReg a w).scheds = s.scheds := rfl
@[simp] theorem State.setReg_windows (s : State) (a : Nat) (w : Word) : (s.setReg a w).windows = s.windows := rfl
@[simp] theorem State.setReg_cores (s : State) (a : Nat) (w : Word) : (s.setReg a w).cores = s.cores := rfl
@[simp] theorem State.setReg_patches (s : State) (a : Nat) (w : Word) : (s.setReg a w).patches = s.patches := rfl
@[simp] theorem State.setReg_patchHashes (s : State) (a : Nat) (w : Word) : (s.setReg a w).patchHashes = s.patchHashes := rfl
@[simp] theorem State.setReg_mem (s : State) (a : Nat) (w : Word) : (s.setReg a w).mem = s.mem := rfl
@[simp] theorem State.setReg_poison (s : State) (a : Nat) (w : Word) : (s.setReg a w).poison = s.poison := rfl
@[simp] theorem State.setReg_flips (s : State) (a : Nat) (w : Word) : (s.setReg a w).flips = s.flips := rfl
@[simp] theorem State.setReg_scrubbers (s : State) (a : Nat) (w : Word) : (s.setReg a w).scrubbers = s.scrubbers := rfl
@[simp] theorem State.setReg_partJobs (s : State) (a : Nat) (w : Word) : (s.setReg a w).partJobs = s.partJobs := rfl
@[simp] theorem State.setReg_hostLinks (s : State) (a : Nat) (w : Word) : (s.setReg a w).hostLinks = s.hostLinks := rfl
@[simp] theorem State.setReg_cohLines (s : State) (a : Nat) (w : Word) : (s.setReg a w).cohLines = s.cohLines := rfl
@[simp] theorem State.setReg_coreFilter (s : State) (a : Nat) (w : Word) : (s.setReg a w).coreFilter = s.coreFilter := rfl
@[simp] theorem State.setReg_devCache (s : State) (a : Nat) (w : Word) : (s.setReg a w).devCache = s.devCache := rfl
@[simp] theorem State.setReg_deviceBias (s : State) (a : Nat) (w : Word) : (s.setReg a w).deviceBias = s.deviceBias := rfl
@[simp] theorem State.setReg_biasPend (s : State) (a : Nat) (w : Word) : (s.setReg a w).biasPend = s.biasPend := rfl
@[simp] theorem State.setReg_cohs (s : State) (a : Nat) (w : Word) : (s.setReg a w).cohs = s.cohs := rfl
@[simp] theorem State.setReg_cswGroups (s : State) (a : Nat) (w : Word) : (s.setReg a w).cswGroups = s.cswGroups := rfl
@[simp] theorem State.setReg_cswHalves (s : State) (a : Nat) (w : Word) : (s.setReg a w).cswHalves = s.cswHalves := rfl
@[simp] theorem State.setReg_jobs (s : State) (a : Nat) (w : Word) : (s.setReg a w).jobs = s.jobs := rfl
@[simp] theorem State.setReg_waiting (s : State) (a : Nat) (w : Word) : (s.setReg a w).waiting = s.waiting := rfl
@[simp] theorem State.setReg_sent (s : State) (a : Nat) (w : Word) : (s.setReg a w).sent = s.sent := rfl
@[simp] theorem State.setReg_slots (s : State) (a : Nat) (w : Word) : (s.setReg a w).slots = s.slots := rfl
@[simp] theorem State.setReg_restarting (s : State) (a : Nat) (w : Word) : (s.setReg a w).restarting = s.restarting := rfl
@[simp] theorem State.setReg_coreSlots (s : State) (a : Nat) (w : Word) : (s.setReg a w).coreSlots = s.coreSlots := rfl
@[simp] theorem State.setReg_image (s : State) (a : Nat) (w : Word) : (s.setReg a w).image = s.image := rfl
@[simp] theorem State.setReg_cfgReplies (s : State) (a : Nat) (w : Word) : (s.setReg a w).cfgReplies = s.cfgReplies := rfl
@[simp] theorem State.setReg_cfgErr (s : State) (a : Nat) (w : Word) : (s.setReg a w).cfgErr = s.cfgErr := rfl
@[simp] theorem State.setReg_cfgDoneLow (s : State) (a : Nat) (w : Word) : (s.setReg a w).cfgDoneLow = s.cfgDoneLow := rfl
@[simp] theorem State.setReg_sec (s : State) (a : Nat) (w : Word) : (s.setReg a w).sec = s.sec := rfl
@[simp] theorem State.setReg_agentFrames (s : State) (a : Nat) (w : Word) : (s.setReg a w).agentFrames = s.agentFrames := rfl
@[simp] theorem State.setReg_govs (s : State) (a : Nat) (w : Word) : (s.setReg a w).govs = s.govs := rfl
@[simp] theorem State.setReg_pads (s : State) (a : Nat) (w : Word) : (s.setReg a w).pads = s.pads := rfl
@[simp] theorem State.setReg_banksDown (s : State) (a : Nat) (w : Word) : (s.setReg a w).banksDown = s.banksDown := rfl
@[simp] theorem State.setReg_serials (s : State) (a : Nat) (w : Word) : (s.setReg a w).serials = s.serials := rfl
@[simp] theorem State.setReg_logs (s : State) (a : Nat) (w : Word) : (s.setReg a w).logs = s.logs := rfl
@[simp] theorem State.setReg_rtc (s : State) (a : Nat) (w : Word) : (s.setReg a w).rtc = s.rtc := rfl
@[simp] theorem State.setReg_slices (s : State) (a : Nat) (w : Word) : (s.setReg a w).slices = s.slices := rfl
@[simp] theorem State.setReg_sweeps (s : State) (a : Nat) (w : Word) : (s.setReg a w).sweeps = s.sweeps := rfl
@[simp] theorem State.setReg_inverted (s : State) (a : Nat) (w : Word) : (s.setReg a w).inverted = s.inverted := rfl
@[simp] theorem State.setReg_poresetLow (s : State) (a : Nat) (w : Word) : (s.setReg a w).poresetLow = s.poresetLow := rfl
@[simp] theorem State.setReg_supplyLow (s : State) (a : Nat) (w : Word) : (s.setReg a w).supplyLow = s.supplyLow := rfl
@[simp] theorem State.setReg_warm (s : State) (a : Nat) (w : Word) : (s.setReg a w).warm = s.warm := rfl
@[simp] theorem State.setReg_afterBoot (s : State) (a : Nat) (w : Word) : (s.setReg a w).afterBoot = s.afterBoot := rfl
@[simp] theorem State.setReg_coldCause (s : State) (a : Nat) (w : Word) : (s.setReg a w).coldCause = s.coldCause := rfl
@[simp] theorem State.setReg_filled (s : State) (a : Nat) (w : Word) : (s.setReg a w).filled = s.filled := rfl
@[simp] theorem State.setReg_harts (s : State) (a : Nat) (w : Word) : (s.setReg a w).harts = s.harts := rfl
@[simp] theorem State.setReg_dbg (s : State) (a : Nat) (w : Word) : (s.setReg a w).dbg = s.dbg := rfl
@[simp] theorem State.setReg_pending (s : State) (a : Nat) (w : Word) : (s.setReg a w).pending = s.pending := rfl
@[simp] theorem State.setFld_answer (s : State) (x : Fld) (v : Nat) : (s.setFld x v).answer = s.answer := rfl
@[simp] theorem State.setFld_ns (s : State) (x : Fld) (v : Nat) : (s.setFld x v).ns = s.ns := rfl
@[simp] theorem State.setFld_fresh (s : State) (x : Fld) (v : Nat) : (s.setFld x v).fresh = s.fresh := rfl
@[simp] theorem State.setFld_chans (s : State) (x : Fld) (v : Nat) : (s.setFld x v).chans = s.chans := rfl
@[simp] theorem State.setFld_grains (s : State) (x : Fld) (v : Nat) : (s.setFld x v).grains = s.grains := rfl
@[simp] theorem State.setFld_held (s : State) (x : Fld) (v : Nat) : (s.setFld x v).held = s.held := rfl
@[simp] theorem State.setFld_taps (s : State) (x : Fld) (v : Nat) : (s.setFld x v).taps = s.taps := rfl
@[simp] theorem State.setFld_clusterTaps (s : State) (x : Fld) (v : Nat) : (s.setFld x v).clusterTaps = s.clusterTaps := rfl
@[simp] theorem State.setFld_pinChans (s : State) (x : Fld) (v : Nat) : (s.setFld x v).pinChans = s.pinChans := rfl
@[simp] theorem State.setFld_bmems (s : State) (x : Fld) (v : Nat) : (s.setFld x v).bmems = s.bmems := rfl
@[simp] theorem State.setFld_wakeQueue (s : State) (x : Fld) (v : Nat) : (s.setFld x v).wakeQueue = s.wakeQueue := rfl
@[simp] theorem State.setFld_queues (s : State) (x : Fld) (v : Nat) : (s.setFld x v).queues = s.queues := rfl
@[simp] theorem State.setFld_rakes (s : State) (x : Fld) (v : Nat) : (s.setFld x v).rakes = s.rakes := rfl
@[simp] theorem State.setFld_pans (s : State) (x : Fld) (v : Nat) : (s.setFld x v).pans = s.pans := rfl
@[simp] theorem State.setFld_loads (s : State) (x : Fld) (v : Nat) : (s.setFld x v).loads = s.loads := rfl
@[simp] theorem State.setFld_lastGrant (s : State) (x : Fld) (v : Nat) : (s.setFld x v).lastGrant = s.lastGrant := rfl
@[simp] theorem State.setFld_agentResults (s : State) (x : Fld) (v : Nat) : (s.setFld x v).agentResults = s.agentResults := rfl
@[simp] theorem State.setFld_graphs (s : State) (x : Fld) (v : Nat) : (s.setFld x v).graphs = s.graphs := rfl
@[simp] theorem State.setFld_nodes (s : State) (x : Fld) (v : Nat) : (s.setFld x v).nodes = s.nodes := rfl
@[simp] theorem State.setFld_links (s : State) (x : Fld) (v : Nat) : (s.setFld x v).links = s.links := rfl
@[simp] theorem State.setFld_scheds (s : State) (x : Fld) (v : Nat) : (s.setFld x v).scheds = s.scheds := rfl
@[simp] theorem State.setFld_windows (s : State) (x : Fld) (v : Nat) : (s.setFld x v).windows = s.windows := rfl
@[simp] theorem State.setFld_cores (s : State) (x : Fld) (v : Nat) : (s.setFld x v).cores = s.cores := rfl
@[simp] theorem State.setFld_patches (s : State) (x : Fld) (v : Nat) : (s.setFld x v).patches = s.patches := rfl
@[simp] theorem State.setFld_patchHashes (s : State) (x : Fld) (v : Nat) : (s.setFld x v).patchHashes = s.patchHashes := rfl
@[simp] theorem State.setFld_mem (s : State) (x : Fld) (v : Nat) : (s.setFld x v).mem = s.mem := rfl
@[simp] theorem State.setFld_poison (s : State) (x : Fld) (v : Nat) : (s.setFld x v).poison = s.poison := rfl
@[simp] theorem State.setFld_flips (s : State) (x : Fld) (v : Nat) : (s.setFld x v).flips = s.flips := rfl
@[simp] theorem State.setFld_scrubbers (s : State) (x : Fld) (v : Nat) : (s.setFld x v).scrubbers = s.scrubbers := rfl
@[simp] theorem State.setFld_partJobs (s : State) (x : Fld) (v : Nat) : (s.setFld x v).partJobs = s.partJobs := rfl
@[simp] theorem State.setFld_hostLinks (s : State) (x : Fld) (v : Nat) : (s.setFld x v).hostLinks = s.hostLinks := rfl
@[simp] theorem State.setFld_cohLines (s : State) (x : Fld) (v : Nat) : (s.setFld x v).cohLines = s.cohLines := rfl
@[simp] theorem State.setFld_coreFilter (s : State) (x : Fld) (v : Nat) : (s.setFld x v).coreFilter = s.coreFilter := rfl
@[simp] theorem State.setFld_devCache (s : State) (x : Fld) (v : Nat) : (s.setFld x v).devCache = s.devCache := rfl
@[simp] theorem State.setFld_deviceBias (s : State) (x : Fld) (v : Nat) : (s.setFld x v).deviceBias = s.deviceBias := rfl
@[simp] theorem State.setFld_biasPend (s : State) (x : Fld) (v : Nat) : (s.setFld x v).biasPend = s.biasPend := rfl
@[simp] theorem State.setFld_cohs (s : State) (x : Fld) (v : Nat) : (s.setFld x v).cohs = s.cohs := rfl
@[simp] theorem State.setFld_cswGroups (s : State) (x : Fld) (v : Nat) : (s.setFld x v).cswGroups = s.cswGroups := rfl
@[simp] theorem State.setFld_cswHalves (s : State) (x : Fld) (v : Nat) : (s.setFld x v).cswHalves = s.cswHalves := rfl
@[simp] theorem State.setFld_jobs (s : State) (x : Fld) (v : Nat) : (s.setFld x v).jobs = s.jobs := rfl
@[simp] theorem State.setFld_waiting (s : State) (x : Fld) (v : Nat) : (s.setFld x v).waiting = s.waiting := rfl
@[simp] theorem State.setFld_sent (s : State) (x : Fld) (v : Nat) : (s.setFld x v).sent = s.sent := rfl
@[simp] theorem State.setFld_slots (s : State) (x : Fld) (v : Nat) : (s.setFld x v).slots = s.slots := rfl
@[simp] theorem State.setFld_restarting (s : State) (x : Fld) (v : Nat) : (s.setFld x v).restarting = s.restarting := rfl
@[simp] theorem State.setFld_coreSlots (s : State) (x : Fld) (v : Nat) : (s.setFld x v).coreSlots = s.coreSlots := rfl
@[simp] theorem State.setFld_image (s : State) (x : Fld) (v : Nat) : (s.setFld x v).image = s.image := rfl
@[simp] theorem State.setFld_cfgReplies (s : State) (x : Fld) (v : Nat) : (s.setFld x v).cfgReplies = s.cfgReplies := rfl
@[simp] theorem State.setFld_cfgErr (s : State) (x : Fld) (v : Nat) : (s.setFld x v).cfgErr = s.cfgErr := rfl
@[simp] theorem State.setFld_cfgDoneLow (s : State) (x : Fld) (v : Nat) : (s.setFld x v).cfgDoneLow = s.cfgDoneLow := rfl
@[simp] theorem State.setFld_sec (s : State) (x : Fld) (v : Nat) : (s.setFld x v).sec = s.sec := rfl
@[simp] theorem State.setFld_agentFrames (s : State) (x : Fld) (v : Nat) : (s.setFld x v).agentFrames = s.agentFrames := rfl
@[simp] theorem State.setFld_govs (s : State) (x : Fld) (v : Nat) : (s.setFld x v).govs = s.govs := rfl
@[simp] theorem State.setFld_pads (s : State) (x : Fld) (v : Nat) : (s.setFld x v).pads = s.pads := rfl
@[simp] theorem State.setFld_banksDown (s : State) (x : Fld) (v : Nat) : (s.setFld x v).banksDown = s.banksDown := rfl
@[simp] theorem State.setFld_serials (s : State) (x : Fld) (v : Nat) : (s.setFld x v).serials = s.serials := rfl
@[simp] theorem State.setFld_logs (s : State) (x : Fld) (v : Nat) : (s.setFld x v).logs = s.logs := rfl
@[simp] theorem State.setFld_rtc (s : State) (x : Fld) (v : Nat) : (s.setFld x v).rtc = s.rtc := rfl
@[simp] theorem State.setFld_slices (s : State) (x : Fld) (v : Nat) : (s.setFld x v).slices = s.slices := rfl
@[simp] theorem State.setFld_sweeps (s : State) (x : Fld) (v : Nat) : (s.setFld x v).sweeps = s.sweeps := rfl
@[simp] theorem State.setFld_inverted (s : State) (x : Fld) (v : Nat) : (s.setFld x v).inverted = s.inverted := rfl
@[simp] theorem State.setFld_poresetLow (s : State) (x : Fld) (v : Nat) : (s.setFld x v).poresetLow = s.poresetLow := rfl
@[simp] theorem State.setFld_supplyLow (s : State) (x : Fld) (v : Nat) : (s.setFld x v).supplyLow = s.supplyLow := rfl
@[simp] theorem State.setFld_warm (s : State) (x : Fld) (v : Nat) : (s.setFld x v).warm = s.warm := rfl
@[simp] theorem State.setFld_afterBoot (s : State) (x : Fld) (v : Nat) : (s.setFld x v).afterBoot = s.afterBoot := rfl
@[simp] theorem State.setFld_coldCause (s : State) (x : Fld) (v : Nat) : (s.setFld x v).coldCause = s.coldCause := rfl
@[simp] theorem State.setFld_filled (s : State) (x : Fld) (v : Nat) : (s.setFld x v).filled = s.filled := rfl
@[simp] theorem State.setFld_harts (s : State) (x : Fld) (v : Nat) : (s.setFld x v).harts = s.harts := rfl
@[simp] theorem State.setFld_dbg (s : State) (x : Fld) (v : Nat) : (s.setFld x v).dbg = s.dbg := rfl
@[simp] theorem State.setFld_pending (s : State) (x : Fld) (v : Nat) : (s.setFld x v).pending = s.pending := rfl

/-- A list of field writes changes the registers alone. -/
theorem State.setFlds_eq (s : State) (l : List (Fld × Nat)) : s.setFlds l = { s with regs := (s.setFlds l).regs } := by
  induction l generalizing s with
  | nil => rfl
  | cons x r ih =>
    obtain ⟨f, v⟩ := x
    simp only [State.setFlds]
    rw [ih]
    rfl

@[simp] theorem State.setFlds_answer (s : State) (l : List (Fld × Nat)) : (s.setFlds l).answer = s.answer := by rw [State.setFlds_eq]
@[simp] theorem State.setFlds_ns (s : State) (l : List (Fld × Nat)) : (s.setFlds l).ns = s.ns := by rw [State.setFlds_eq]
@[simp] theorem State.setFlds_fresh (s : State) (l : List (Fld × Nat)) : (s.setFlds l).fresh = s.fresh := by rw [State.setFlds_eq]
@[simp] theorem State.setFlds_chans (s : State) (l : List (Fld × Nat)) : (s.setFlds l).chans = s.chans := by rw [State.setFlds_eq]
@[simp] theorem State.setFlds_grains (s : State) (l : List (Fld × Nat)) : (s.setFlds l).grains = s.grains := by rw [State.setFlds_eq]
@[simp] theorem State.setFlds_held (s : State) (l : List (Fld × Nat)) : (s.setFlds l).held = s.held := by rw [State.setFlds_eq]
@[simp] theorem State.setFlds_taps (s : State) (l : List (Fld × Nat)) : (s.setFlds l).taps = s.taps := by rw [State.setFlds_eq]
@[simp] theorem State.setFlds_clusterTaps (s : State) (l : List (Fld × Nat)) : (s.setFlds l).clusterTaps = s.clusterTaps := by rw [State.setFlds_eq]
@[simp] theorem State.setFlds_pinChans (s : State) (l : List (Fld × Nat)) : (s.setFlds l).pinChans = s.pinChans := by rw [State.setFlds_eq]
@[simp] theorem State.setFlds_bmems (s : State) (l : List (Fld × Nat)) : (s.setFlds l).bmems = s.bmems := by rw [State.setFlds_eq]
@[simp] theorem State.setFlds_wakeQueue (s : State) (l : List (Fld × Nat)) : (s.setFlds l).wakeQueue = s.wakeQueue := by rw [State.setFlds_eq]
@[simp] theorem State.setFlds_queues (s : State) (l : List (Fld × Nat)) : (s.setFlds l).queues = s.queues := by rw [State.setFlds_eq]
@[simp] theorem State.setFlds_rakes (s : State) (l : List (Fld × Nat)) : (s.setFlds l).rakes = s.rakes := by rw [State.setFlds_eq]
@[simp] theorem State.setFlds_pans (s : State) (l : List (Fld × Nat)) : (s.setFlds l).pans = s.pans := by rw [State.setFlds_eq]
@[simp] theorem State.setFlds_loads (s : State) (l : List (Fld × Nat)) : (s.setFlds l).loads = s.loads := by rw [State.setFlds_eq]
@[simp] theorem State.setFlds_lastGrant (s : State) (l : List (Fld × Nat)) : (s.setFlds l).lastGrant = s.lastGrant := by rw [State.setFlds_eq]
@[simp] theorem State.setFlds_agentResults (s : State) (l : List (Fld × Nat)) : (s.setFlds l).agentResults = s.agentResults := by rw [State.setFlds_eq]
@[simp] theorem State.setFlds_graphs (s : State) (l : List (Fld × Nat)) : (s.setFlds l).graphs = s.graphs := by rw [State.setFlds_eq]
@[simp] theorem State.setFlds_nodes (s : State) (l : List (Fld × Nat)) : (s.setFlds l).nodes = s.nodes := by rw [State.setFlds_eq]
@[simp] theorem State.setFlds_links (s : State) (l : List (Fld × Nat)) : (s.setFlds l).links = s.links := by rw [State.setFlds_eq]
@[simp] theorem State.setFlds_scheds (s : State) (l : List (Fld × Nat)) : (s.setFlds l).scheds = s.scheds := by rw [State.setFlds_eq]
@[simp] theorem State.setFlds_windows (s : State) (l : List (Fld × Nat)) : (s.setFlds l).windows = s.windows := by rw [State.setFlds_eq]
@[simp] theorem State.setFlds_cores (s : State) (l : List (Fld × Nat)) : (s.setFlds l).cores = s.cores := by rw [State.setFlds_eq]
@[simp] theorem State.setFlds_patches (s : State) (l : List (Fld × Nat)) : (s.setFlds l).patches = s.patches := by rw [State.setFlds_eq]
@[simp] theorem State.setFlds_patchHashes (s : State) (l : List (Fld × Nat)) : (s.setFlds l).patchHashes = s.patchHashes := by rw [State.setFlds_eq]
@[simp] theorem State.setFlds_mem (s : State) (l : List (Fld × Nat)) : (s.setFlds l).mem = s.mem := by rw [State.setFlds_eq]
@[simp] theorem State.setFlds_poison (s : State) (l : List (Fld × Nat)) : (s.setFlds l).poison = s.poison := by rw [State.setFlds_eq]
@[simp] theorem State.setFlds_flips (s : State) (l : List (Fld × Nat)) : (s.setFlds l).flips = s.flips := by rw [State.setFlds_eq]
@[simp] theorem State.setFlds_scrubbers (s : State) (l : List (Fld × Nat)) : (s.setFlds l).scrubbers = s.scrubbers := by rw [State.setFlds_eq]
@[simp] theorem State.setFlds_partJobs (s : State) (l : List (Fld × Nat)) : (s.setFlds l).partJobs = s.partJobs := by rw [State.setFlds_eq]
@[simp] theorem State.setFlds_hostLinks (s : State) (l : List (Fld × Nat)) : (s.setFlds l).hostLinks = s.hostLinks := by rw [State.setFlds_eq]
@[simp] theorem State.setFlds_cohLines (s : State) (l : List (Fld × Nat)) : (s.setFlds l).cohLines = s.cohLines := by rw [State.setFlds_eq]
@[simp] theorem State.setFlds_coreFilter (s : State) (l : List (Fld × Nat)) : (s.setFlds l).coreFilter = s.coreFilter := by rw [State.setFlds_eq]
@[simp] theorem State.setFlds_devCache (s : State) (l : List (Fld × Nat)) : (s.setFlds l).devCache = s.devCache := by rw [State.setFlds_eq]
@[simp] theorem State.setFlds_deviceBias (s : State) (l : List (Fld × Nat)) : (s.setFlds l).deviceBias = s.deviceBias := by rw [State.setFlds_eq]
@[simp] theorem State.setFlds_biasPend (s : State) (l : List (Fld × Nat)) : (s.setFlds l).biasPend = s.biasPend := by rw [State.setFlds_eq]
@[simp] theorem State.setFlds_cohs (s : State) (l : List (Fld × Nat)) : (s.setFlds l).cohs = s.cohs := by rw [State.setFlds_eq]
@[simp] theorem State.setFlds_cswGroups (s : State) (l : List (Fld × Nat)) : (s.setFlds l).cswGroups = s.cswGroups := by rw [State.setFlds_eq]
@[simp] theorem State.setFlds_cswHalves (s : State) (l : List (Fld × Nat)) : (s.setFlds l).cswHalves = s.cswHalves := by rw [State.setFlds_eq]
@[simp] theorem State.setFlds_jobs (s : State) (l : List (Fld × Nat)) : (s.setFlds l).jobs = s.jobs := by rw [State.setFlds_eq]
@[simp] theorem State.setFlds_waiting (s : State) (l : List (Fld × Nat)) : (s.setFlds l).waiting = s.waiting := by rw [State.setFlds_eq]
@[simp] theorem State.setFlds_sent (s : State) (l : List (Fld × Nat)) : (s.setFlds l).sent = s.sent := by rw [State.setFlds_eq]
@[simp] theorem State.setFlds_slots (s : State) (l : List (Fld × Nat)) : (s.setFlds l).slots = s.slots := by rw [State.setFlds_eq]
@[simp] theorem State.setFlds_restarting (s : State) (l : List (Fld × Nat)) : (s.setFlds l).restarting = s.restarting := by rw [State.setFlds_eq]
@[simp] theorem State.setFlds_coreSlots (s : State) (l : List (Fld × Nat)) : (s.setFlds l).coreSlots = s.coreSlots := by rw [State.setFlds_eq]
@[simp] theorem State.setFlds_image (s : State) (l : List (Fld × Nat)) : (s.setFlds l).image = s.image := by rw [State.setFlds_eq]
@[simp] theorem State.setFlds_cfgReplies (s : State) (l : List (Fld × Nat)) : (s.setFlds l).cfgReplies = s.cfgReplies := by rw [State.setFlds_eq]
@[simp] theorem State.setFlds_cfgErr (s : State) (l : List (Fld × Nat)) : (s.setFlds l).cfgErr = s.cfgErr := by rw [State.setFlds_eq]
@[simp] theorem State.setFlds_cfgDoneLow (s : State) (l : List (Fld × Nat)) : (s.setFlds l).cfgDoneLow = s.cfgDoneLow := by rw [State.setFlds_eq]
@[simp] theorem State.setFlds_sec (s : State) (l : List (Fld × Nat)) : (s.setFlds l).sec = s.sec := by rw [State.setFlds_eq]
@[simp] theorem State.setFlds_agentFrames (s : State) (l : List (Fld × Nat)) : (s.setFlds l).agentFrames = s.agentFrames := by rw [State.setFlds_eq]
@[simp] theorem State.setFlds_govs (s : State) (l : List (Fld × Nat)) : (s.setFlds l).govs = s.govs := by rw [State.setFlds_eq]
@[simp] theorem State.setFlds_pads (s : State) (l : List (Fld × Nat)) : (s.setFlds l).pads = s.pads := by rw [State.setFlds_eq]
@[simp] theorem State.setFlds_banksDown (s : State) (l : List (Fld × Nat)) : (s.setFlds l).banksDown = s.banksDown := by rw [State.setFlds_eq]
@[simp] theorem State.setFlds_serials (s : State) (l : List (Fld × Nat)) : (s.setFlds l).serials = s.serials := by rw [State.setFlds_eq]
@[simp] theorem State.setFlds_logs (s : State) (l : List (Fld × Nat)) : (s.setFlds l).logs = s.logs := by rw [State.setFlds_eq]
@[simp] theorem State.setFlds_rtc (s : State) (l : List (Fld × Nat)) : (s.setFlds l).rtc = s.rtc := by rw [State.setFlds_eq]
@[simp] theorem State.setFlds_slices (s : State) (l : List (Fld × Nat)) : (s.setFlds l).slices = s.slices := by rw [State.setFlds_eq]
@[simp] theorem State.setFlds_sweeps (s : State) (l : List (Fld × Nat)) : (s.setFlds l).sweeps = s.sweeps := by rw [State.setFlds_eq]
@[simp] theorem State.setFlds_inverted (s : State) (l : List (Fld × Nat)) : (s.setFlds l).inverted = s.inverted := by rw [State.setFlds_eq]
@[simp] theorem State.setFlds_poresetLow (s : State) (l : List (Fld × Nat)) : (s.setFlds l).poresetLow = s.poresetLow := by rw [State.setFlds_eq]
@[simp] theorem State.setFlds_supplyLow (s : State) (l : List (Fld × Nat)) : (s.setFlds l).supplyLow = s.supplyLow := by rw [State.setFlds_eq]
@[simp] theorem State.setFlds_warm (s : State) (l : List (Fld × Nat)) : (s.setFlds l).warm = s.warm := by rw [State.setFlds_eq]
@[simp] theorem State.setFlds_afterBoot (s : State) (l : List (Fld × Nat)) : (s.setFlds l).afterBoot = s.afterBoot := by rw [State.setFlds_eq]
@[simp] theorem State.setFlds_coldCause (s : State) (l : List (Fld × Nat)) : (s.setFlds l).coldCause = s.coldCause := by rw [State.setFlds_eq]
@[simp] theorem State.setFlds_filled (s : State) (l : List (Fld × Nat)) : (s.setFlds l).filled = s.filled := by rw [State.setFlds_eq]
@[simp] theorem State.setFlds_harts (s : State) (l : List (Fld × Nat)) : (s.setFlds l).harts = s.harts := by rw [State.setFlds_eq]
@[simp] theorem State.setFlds_dbg (s : State) (l : List (Fld × Nat)) : (s.setFlds l).dbg = s.dbg := by rw [State.setFlds_eq]
@[simp] theorem State.setFlds_pending (s : State) (l : List (Fld × Nat)) : (s.setFlds l).pending = s.pending := by rw [State.setFlds_eq]

/-! ## Writes of banks -/

@[simp] theorem State.setQueue_regs (s : State) (k : Nat) (v : QBlock) : (s.setQueue k v).regs = s.regs := rfl
@[simp] theorem State.setQueue_mem (s : State) (k : Nat) (v : QBlock) : (s.setQueue k v).mem = s.mem := rfl
@[simp] theorem State.setQueue_pending (s : State) (k : Nat) (v : QBlock) : (s.setQueue k v).pending = s.pending := rfl
@[simp] theorem State.setChan_regs (s : State) (k : Nat) (v : Chan) : (s.setChan k v).regs = s.regs := rfl
@[simp] theorem State.setChan_mem (s : State) (k : Nat) (v : Chan) : (s.setChan k v).mem = s.mem := rfl
@[simp] theorem State.setChan_pending (s : State) (k : Nat) (v : Chan) : (s.setChan k v).pending = s.pending := rfl
@[simp] theorem State.setGrain_regs (s : State) (k : Nat) (v : GrainCfg) : (s.setGrain k v).regs = s.regs := rfl
@[simp] theorem State.setGrain_mem (s : State) (k : Nat) (v : GrainCfg) : (s.setGrain k v).mem = s.mem := rfl
@[simp] theorem State.setGrain_pending (s : State) (k : Nat) (v : GrainCfg) : (s.setGrain k v).pending = s.pending := rfl
@[simp] theorem State.setHeldOf_regs (s : State) (k : Nat) (v : GrainHeld) : (s.setHeldOf k v).regs = s.regs := rfl
@[simp] theorem State.setHeldOf_mem (s : State) (k : Nat) (v : GrainHeld) : (s.setHeldOf k v).mem = s.mem := rfl
@[simp] theorem State.setHeldOf_pending (s : State) (k : Nat) (v : GrainHeld) : (s.setHeldOf k v).pending = s.pending := rfl
@[simp] theorem State.setTapSel_regs (s : State) (k : Nat) (v : Nat) : (s.setTapSel k v).regs = s.regs := rfl
@[simp] theorem State.setTapSel_mem (s : State) (k : Nat) (v : Nat) : (s.setTapSel k v).mem = s.mem := rfl
@[simp] theorem State.setTapSel_pending (s : State) (k : Nat) (v : Nat) : (s.setTapSel k v).pending = s.pending := rfl
@[simp] theorem State.setTapWatch_regs (s : State) (k : Nat) (v : Nat) : (s.setTapWatch k v).regs = s.regs := rfl
@[simp] theorem State.setTapWatch_mem (s : State) (k : Nat) (v : Nat) : (s.setTapWatch k v).mem = s.mem := rfl
@[simp] theorem State.setTapWatch_pending (s : State) (k : Nat) (v : Nat) : (s.setTapWatch k v).pending = s.pending := rfl
@[simp] theorem State.setPinChan_regs (s : State) (k : Nat) (v : PinChan) : (s.setPinChan k v).regs = s.regs := rfl
@[simp] theorem State.setPinChan_mem (s : State) (k : Nat) (v : PinChan) : (s.setPinChan k v).mem = s.mem := rfl
@[simp] theorem State.setPinChan_pending (s : State) (k : Nat) (v : PinChan) : (s.setPinChan k v).pending = s.pending := rfl
@[simp] theorem State.setBmem_regs (s : State) (k : Nat) (v : Bmem) : (s.setBmem k v).regs = s.regs := rfl
@[simp] theorem State.setBmem_mem (s : State) (k : Nat) (v : Bmem) : (s.setBmem k v).mem = s.mem := rfl
@[simp] theorem State.setBmem_pending (s : State) (k : Nat) (v : Bmem) : (s.setBmem k v).pending = s.pending := rfl
@[simp] theorem State.setWakes_regs (s : State) (k : Nat) (v : (List Nat)) : (s.setWakes k v).regs = s.regs := rfl
@[simp] theorem State.setWakes_mem (s : State) (k : Nat) (v : (List Nat)) : (s.setWakes k v).mem = s.mem := rfl
@[simp] theorem State.setWakes_pending (s : State) (k : Nat) (v : (List Nat)) : (s.setWakes k v).pending = s.pending := rfl
@[simp] theorem State.setPan_regs (s : State) (k : Nat) (v : Pan) : (s.setPan k v).regs = s.regs := rfl
@[simp] theorem State.setPan_mem (s : State) (k : Nat) (v : Pan) : (s.setPan k v).mem = s.mem := rfl
@[simp] theorem State.setPan_pending (s : State) (k : Nat) (v : Pan) : (s.setPan k v).pending = s.pending := rfl
@[simp] theorem State.setLoad_regs (s : State) (k : Nat) (v : (Option LoadJob)) : (s.setLoad k v).regs = s.regs := rfl
@[simp] theorem State.setLoad_mem (s : State) (k : Nat) (v : (Option LoadJob)) : (s.setLoad k v).mem = s.mem := rfl
@[simp] theorem State.setLoad_pending (s : State) (k : Nat) (v : (Option LoadJob)) : (s.setLoad k v).pending = s.pending := rfl
@[simp] theorem State.setGranted_regs (s : State) (k : Nat) (v : Nat) : (s.setGranted k v).regs = s.regs := rfl
@[simp] theorem State.setGranted_mem (s : State) (k : Nat) (v : Nat) : (s.setGranted k v).mem = s.mem := rfl
@[simp] theorem State.setGranted_pending (s : State) (k : Nat) (v : Nat) : (s.setGranted k v).pending = s.pending := rfl
@[simp] theorem State.setAgentResult_regs (s : State) (k : Nat) (v : (List (Nat × Nat × Nat))) : (s.setAgentResult k v).regs = s.regs := rfl
@[simp] theorem State.setAgentResult_mem (s : State) (k : Nat) (v : (List (Nat × Nat × Nat))) : (s.setAgentResult k v).mem = s.mem := rfl
@[simp] theorem State.setAgentResult_pending (s : State) (k : Nat) (v : (List (Nat × Nat × Nat))) : (s.setAgentResult k v).pending = s.pending := rfl
@[simp] theorem State.setLog_regs (s : State) (k : Nat) (v : LogHalf) : (s.setLog k v).regs = s.regs := rfl
@[simp] theorem State.setLog_mem (s : State) (k : Nat) (v : LogHalf) : (s.setLog k v).mem = s.mem := rfl
@[simp] theorem State.setLog_pending (s : State) (k : Nat) (v : LogHalf) : (s.setLog k v).pending = s.pending := rfl
@[simp] theorem State.setPoisoned_regs (s : State) (k : Nat) (v : Bool) : (s.setPoisoned k v).regs = s.regs := rfl
@[simp] theorem State.setPoisoned_mem (s : State) (k : Nat) (v : Bool) : (s.setPoisoned k v).mem = s.mem := rfl
@[simp] theorem State.setPoisoned_pending (s : State) (k : Nat) (v : Bool) : (s.setPoisoned k v).pending = s.pending := rfl
@[simp] theorem State.setFlipMask_regs (s : State) (k : Nat) (v : Nat) : (s.setFlipMask k v).regs = s.regs := rfl
@[simp] theorem State.setFlipMask_mem (s : State) (k : Nat) (v : Nat) : (s.setFlipMask k v).mem = s.mem := rfl
@[simp] theorem State.setFlipMask_pending (s : State) (k : Nat) (v : Nat) : (s.setFlipMask k v).pending = s.pending := rfl
@[simp] theorem State.setScrubber_regs (s : State) (k : Nat) (v : Scrubber) : (s.setScrubber k v).regs = s.regs := rfl
@[simp] theorem State.setScrubber_mem (s : State) (k : Nat) (v : Scrubber) : (s.setScrubber k v).mem = s.mem := rfl
@[simp] theorem State.setScrubber_pending (s : State) (k : Nat) (v : Scrubber) : (s.setScrubber k v).pending = s.pending := rfl
@[simp] theorem State.setPartJob_regs (s : State) (k : Nat) (v : (Option PartJob)) : (s.setPartJob k v).regs = s.regs := rfl
@[simp] theorem State.setPartJob_mem (s : State) (k : Nat) (v : (Option PartJob)) : (s.setPartJob k v).mem = s.mem := rfl
@[simp] theorem State.setPartJob_pending (s : State) (k : Nat) (v : (Option PartJob)) : (s.setPartJob k v).pending = s.pending := rfl
@[simp] theorem State.setSlotByte_regs (s : State) (k : Nat) (v : Byte) : (s.setSlotByte k v).regs = s.regs := rfl
@[simp] theorem State.setSlotByte_mem (s : State) (k : Nat) (v : Byte) : (s.setSlotByte k v).mem = s.mem := rfl
@[simp] theorem State.setSlotByte_pending (s : State) (k : Nat) (v : Byte) : (s.setSlotByte k v).pending = s.pending := rfl
@[simp] theorem State.setIsRestarting_regs (s : State) (k : Nat) (v : Bool) : (s.setIsRestarting k v).regs = s.regs := rfl
@[simp] theorem State.setIsRestarting_mem (s : State) (k : Nat) (v : Bool) : (s.setIsRestarting k v).mem = s.mem := rfl
@[simp] theorem State.setIsRestarting_pending (s : State) (k : Nat) (v : Bool) : (s.setIsRestarting k v).pending = s.pending := rfl
@[simp] theorem State.setGraph_regs (s : State) (k : Nat) (v : (Option Graph)) : (s.setGraph k v).regs = s.regs := rfl
@[simp] theorem State.setGraph_mem (s : State) (k : Nat) (v : (Option Graph)) : (s.setGraph k v).mem = s.mem := rfl
@[simp] theorem State.setGraph_pending (s : State) (k : Nat) (v : (Option Graph)) : (s.setGraph k v).pending = s.pending := rfl
@[simp] theorem State.setNodeAt_regs (s : State) (k : Nat) (v : (Option Node)) : (s.setNodeAt k v).regs = s.regs := rfl
@[simp] theorem State.setNodeAt_mem (s : State) (k : Nat) (v : (Option Node)) : (s.setNodeAt k v).mem = s.mem := rfl
@[simp] theorem State.setNodeAt_pending (s : State) (k : Nat) (v : (Option Node)) : (s.setNodeAt k v).pending = s.pending := rfl
@[simp] theorem State.setSched_regs (s : State) (k : Nat) (v : Sched) : (s.setSched k v).regs = s.regs := rfl
@[simp] theorem State.setSched_mem (s : State) (k : Nat) (v : Sched) : (s.setSched k v).mem = s.mem := rfl
@[simp] theorem State.setSched_pending (s : State) (k : Nat) (v : Sched) : (s.setSched k v).pending = s.pending := rfl
@[simp] theorem State.setWindowByte_regs (s : State) (k : Nat) (v : Byte) : (s.setWindowByte k v).regs = s.regs := rfl
@[simp] theorem State.setWindowByte_mem (s : State) (k : Nat) (v : Byte) : (s.setWindowByte k v).mem = s.mem := rfl
@[simp] theorem State.setWindowByte_pending (s : State) (k : Nat) (v : Byte) : (s.setWindowByte k v).pending = s.pending := rfl
@[simp] theorem State.setCoreSlot_regs (s : State) (k : Nat) (v : Bool) : (s.setCoreSlot k v).regs = s.regs := rfl
@[simp] theorem State.setCoreSlot_mem (s : State) (k : Nat) (v : Bool) : (s.setCoreSlot k v).mem = s.mem := rfl
@[simp] theorem State.setCoreSlot_pending (s : State) (k : Nat) (v : Bool) : (s.setCoreSlot k v).pending = s.pending := rfl
@[simp] theorem State.setRake_regs (s : State) (k : Nat) (v : Rake) : (s.setRake k v).regs = s.regs := rfl
@[simp] theorem State.setRake_mem (s : State) (k : Nat) (v : Rake) : (s.setRake k v).mem = s.mem := rfl
@[simp] theorem State.setRake_pending (s : State) (k : Nat) (v : Rake) : (s.setRake k v).pending = s.pending := rfl
@[simp] theorem State.setCore_regs (s : State) (k : Nat) (v : Core) : (s.setCore k v).regs = s.regs := rfl
@[simp] theorem State.setCore_mem (s : State) (k : Nat) (v : Core) : (s.setCore k v).mem = s.mem := rfl
@[simp] theorem State.setCore_pending (s : State) (k : Nat) (v : Core) : (s.setCore k v).pending = s.pending := rfl
@[simp] theorem State.setPatch_regs (s : State) (k : Nat) (v : Nat) : (s.setPatch k v).regs = s.regs := rfl
@[simp] theorem State.setPatch_mem (s : State) (k : Nat) (v : Nat) : (s.setPatch k v).mem = s.mem := rfl
@[simp] theorem State.setPatch_pending (s : State) (k : Nat) (v : Nat) : (s.setPatch k v).pending = s.pending := rfl
@[simp] theorem State.setPatchHash_regs (s : State) (k : Nat) (v : (List Byte)) : (s.setPatchHash k v).regs = s.regs := rfl
@[simp] theorem State.setPatchHash_mem (s : State) (k : Nat) (v : (List Byte)) : (s.setPatchHash k v).mem = s.mem := rfl
@[simp] theorem State.setPatchHash_pending (s : State) (k : Nat) (v : (List Byte)) : (s.setPatchHash k v).pending = s.pending := rfl
@[simp] theorem State.setSlice_regs (s : State) (k : Nat) (v : (Option Slice)) : (s.setSlice k v).regs = s.regs := rfl
@[simp] theorem State.setSlice_mem (s : State) (k : Nat) (v : (Option Slice)) : (s.setSlice k v).mem = s.mem := rfl
@[simp] theorem State.setSlice_pending (s : State) (k : Nat) (v : (Option Slice)) : (s.setSlice k v).pending = s.pending := rfl
@[simp] theorem State.setSweep_regs (s : State) (k : Nat) (v : Sweep) : (s.setSweep k v).regs = s.regs := rfl
@[simp] theorem State.setSweep_mem (s : State) (k : Nat) (v : Sweep) : (s.setSweep k v).mem = s.mem := rfl
@[simp] theorem State.setSweep_pending (s : State) (k : Nat) (v : Sweep) : (s.setSweep k v).pending = s.pending := rfl
@[simp] theorem State.setInvertedAt_regs (s : State) (k : Nat) (v : Bool) : (s.setInvertedAt k v).regs = s.regs := rfl
@[simp] theorem State.setInvertedAt_mem (s : State) (k : Nat) (v : Bool) : (s.setInvertedAt k v).mem = s.mem := rfl
@[simp] theorem State.setInvertedAt_pending (s : State) (k : Nat) (v : Bool) : (s.setInvertedAt k v).pending = s.pending := rfl
@[simp] theorem State.setAgentFrame_regs (s : State) (k : Nat) (v : (List Byte)) : (s.setAgentFrame k v).regs = s.regs := rfl
@[simp] theorem State.setAgentFrame_mem (s : State) (k : Nat) (v : (List Byte)) : (s.setAgentFrame k v).mem = s.mem := rfl
@[simp] theorem State.setAgentFrame_pending (s : State) (k : Nat) (v : (List Byte)) : (s.setAgentFrame k v).pending = s.pending := rfl
@[simp] theorem State.setPad_regs (s : State) (k : Nat) (v : Bool) : (s.setPad k v).regs = s.regs := rfl
@[simp] theorem State.setPad_mem (s : State) (k : Nat) (v : Bool) : (s.setPad k v).mem = s.mem := rfl
@[simp] theorem State.setPad_pending (s : State) (k : Nat) (v : Bool) : (s.setPad k v).pending = s.pending := rfl
@[simp] theorem State.setBankDown_regs (s : State) (k : Nat) (v : Bool) : (s.setBankDown k v).regs = s.regs := rfl
@[simp] theorem State.setBankDown_mem (s : State) (k : Nat) (v : Bool) : (s.setBankDown k v).mem = s.mem := rfl
@[simp] theorem State.setBankDown_pending (s : State) (k : Nat) (v : Bool) : (s.setBankDown k v).pending = s.pending := rfl
@[simp] theorem State.setSerial_regs (s : State) (k : Nat) (v : Serial) : (s.setSerial k v).regs = s.regs := rfl
@[simp] theorem State.setSerial_mem (s : State) (k : Nat) (v : Serial) : (s.setSerial k v).mem = s.mem := rfl
@[simp] theorem State.setSerial_pending (s : State) (k : Nat) (v : Serial) : (s.setSerial k v).pending = s.pending := rfl
@[simp] theorem State.setHostLink_regs (s : State) (k : Nat) (v : HostLink) : (s.setHostLink k v).regs = s.regs := rfl
@[simp] theorem State.setHostLink_mem (s : State) (k : Nat) (v : HostLink) : (s.setHostLink k v).mem = s.mem := rfl
@[simp] theorem State.setHostLink_pending (s : State) (k : Nat) (v : HostLink) : (s.setHostLink k v).pending = s.pending := rfl
@[simp] theorem State.setCohLine_regs (s : State) (k : Nat) (v : CohLine) : (s.setCohLine k v).regs = s.regs := rfl
@[simp] theorem State.setCohLine_mem (s : State) (k : Nat) (v : CohLine) : (s.setCohLine k v).mem = s.mem := rfl
@[simp] theorem State.setCohLine_pending (s : State) (k : Nat) (v : CohLine) : (s.setCohLine k v).pending = s.pending := rfl
@[simp] theorem State.setFilterMask_regs (s : State) (k : Nat) (v : Nat) : (s.setFilterMask k v).regs = s.regs := rfl
@[simp] theorem State.setFilterMask_mem (s : State) (k : Nat) (v : Nat) : (s.setFilterMask k v).mem = s.mem := rfl
@[simp] theorem State.setFilterMask_pending (s : State) (k : Nat) (v : Nat) : (s.setFilterMask k v).pending = s.pending := rfl
@[simp] theorem State.setDcLine_regs (s : State) (k : Nat) (v : (Option DcLine)) : (s.setDcLine k v).regs = s.regs := rfl
@[simp] theorem State.setDcLine_mem (s : State) (k : Nat) (v : (Option DcLine)) : (s.setDcLine k v).mem = s.mem := rfl
@[simp] theorem State.setDcLine_pending (s : State) (k : Nat) (v : (Option DcLine)) : (s.setDcLine k v).pending = s.pending := rfl
@[simp] theorem State.setInDeviceBias_regs (s : State) (k : Nat) (v : Bool) : (s.setInDeviceBias k v).regs = s.regs := rfl
@[simp] theorem State.setInDeviceBias_mem (s : State) (k : Nat) (v : Bool) : (s.setInDeviceBias k v).mem = s.mem := rfl
@[simp] theorem State.setInDeviceBias_pending (s : State) (k : Nat) (v : Bool) : (s.setInDeviceBias k v).pending = s.pending := rfl
@[simp] theorem State.setBiasLeft_regs (s : State) (k : Nat) (v : Nat) : (s.setBiasLeft k v).regs = s.regs := rfl
@[simp] theorem State.setBiasLeft_mem (s : State) (k : Nat) (v : Nat) : (s.setBiasLeft k v).mem = s.mem := rfl
@[simp] theorem State.setBiasLeft_pending (s : State) (k : Nat) (v : Nat) : (s.setBiasLeft k v).pending = s.pending := rfl
@[simp] theorem State.setCoh_regs (s : State) (k : Nat) (v : Coh) : (s.setCoh k v).regs = s.regs := rfl
@[simp] theorem State.setCoh_mem (s : State) (k : Nat) (v : Coh) : (s.setCoh k v).mem = s.mem := rfl
@[simp] theorem State.setCoh_pending (s : State) (k : Nat) (v : Coh) : (s.setCoh k v).pending = s.pending := rfl
@[simp] theorem State.setCswGroup_regs (s : State) (k : Nat) (v : CswGroup) : (s.setCswGroup k v).regs = s.regs := rfl
@[simp] theorem State.setCswGroup_mem (s : State) (k : Nat) (v : CswGroup) : (s.setCswGroup k v).mem = s.mem := rfl
@[simp] theorem State.setCswGroup_pending (s : State) (k : Nat) (v : CswGroup) : (s.setCswGroup k v).pending = s.pending := rfl
@[simp] theorem State.setCswHalf_regs (s : State) (k : Nat) (v : CswHalf) : (s.setCswHalf k v).regs = s.regs := rfl
@[simp] theorem State.setCswHalf_mem (s : State) (k : Nat) (v : CswHalf) : (s.setCswHalf k v).mem = s.mem := rfl
@[simp] theorem State.setCswHalf_pending (s : State) (k : Nat) (v : CswHalf) : (s.setCswHalf k v).pending = s.pending := rfl
@[simp] theorem State.setGov_regs (s : State) (k : Nat) (v : Gov) : (s.setGov k v).regs = s.regs := rfl
@[simp] theorem State.setGov_mem (s : State) (k : Nat) (v : Gov) : (s.setGov k v).mem = s.mem := rfl
@[simp] theorem State.setGov_pending (s : State) (k : Nat) (v : Gov) : (s.setGov k v).pending = s.pending := rfl
@[simp] theorem State.setFillDone_regs (s : State) (k : Nat) (v : Bool) : (s.setFillDone k v).regs = s.regs := rfl
@[simp] theorem State.setFillDone_mem (s : State) (k : Nat) (v : Bool) : (s.setFillDone k v).mem = s.mem := rfl
@[simp] theorem State.setFillDone_pending (s : State) (k : Nat) (v : Bool) : (s.setFillDone k v).pending = s.pending := rfl
@[simp] theorem State.setHart_regs (s : State) (k : Nat) (v : Hart) : (s.setHart k v).regs = s.regs := rfl
@[simp] theorem State.setHart_mem (s : State) (k : Nat) (v : Hart) : (s.setHart k v).mem = s.mem := rfl
@[simp] theorem State.setHart_pending (s : State) (k : Nat) (v : Hart) : (s.setHart k v).pending = s.pending := rfl

end Sys2Proof.Machine
end

