-- ==== Sys2Proof/Laws/Ops.lean ====
section
/-! SUPPORT. What a read of a register or of a field gives after a write (R7, R11), and what raising a report keeps. -/

namespace Sys2Proof.Machine

@[simp] theorem State.reg_setReg_same (s : State) (a : Nat) (w : Word) : (s.setReg a w).reg a = w := by
  simp [State.reg, State.setReg]

theorem State.reg_setReg_other (s : State) (a b : Nat) (w : Word) (h : b ≠ a) : (s.setReg a w).reg b = s.reg b := by
  simp [State.reg, State.setReg, Bank.get_set_other _ _ _ _ _ h]

theorem bitsOf_putBits_same (n hi lo v : Nat) (h : lo ≤ hi) : bitsOf (putBits n hi lo v) hi lo = v % 2 ^ (hi + 1 - lo) := by
  have e : 2 ^ (hi + 1) = 2 ^ lo * 2 ^ (hi + 1 - lo) := by rw [← Nat.pow_add]; congr 1; omega
  have p : 0 < 2 ^ lo := Nat.two_pow_pos lo
  simp only [bitsOf, putBits]
  rw [e, show n % 2 ^ lo + v % 2 ^ (hi + 1 - lo) * 2 ^ lo + n / (2 ^ lo * 2 ^ (hi + 1 - lo)) * (2 ^ lo * 2 ^ (hi + 1 - lo)) =
    n % 2 ^ lo + 2 ^ lo * (v % 2 ^ (hi + 1 - lo) + 2 ^ (hi + 1 - lo) * (n / (2 ^ lo * 2 ^ (hi + 1 - lo)))) by ring]
  rw [Nat.add_mul_div_left _ _ p, Nat.div_eq_of_lt (Nat.mod_lt _ p), Nat.zero_add, Nat.add_mul_mod_self_left, Nat.mod_mod]

theorem putBits_lt (n hi lo v : Nat) (h : hi < 32) (hl : lo ≤ hi) (hn : n < 2 ^ 32) : putBits n hi lo v < 2 ^ 32 := by
  have e : 2 ^ (hi + 1) = 2 ^ lo * 2 ^ (hi + 1 - lo) := by rw [← Nat.pow_add]; congr 1; omega
  have e2 : 2 ^ 32 = 2 ^ (hi + 1) * 2 ^ (32 - (hi + 1)) := by rw [← Nat.pow_add]; congr 1; omega
  have p : 0 < 2 ^ (hi + 1) := Nat.two_pow_pos _
  have a : n % 2 ^ lo + v % 2 ^ (hi + 1 - lo) * 2 ^ lo < 2 ^ (hi + 1) := by
    have h1 : n % 2 ^ lo < 2 ^ lo := Nat.mod_lt _ (Nat.two_pow_pos _)
    have h2 : v % 2 ^ (hi + 1 - lo) + 1 ≤ 2 ^ (hi + 1 - lo) := Nat.mod_lt _ (Nat.two_pow_pos _)
    have h3 := Nat.mul_le_mul_right (2 ^ lo) h2
    rw [e, Nat.mul_comm (2 ^ lo)]
    rw [Nat.add_mul] at h3
    omega
  have b : n / 2 ^ (hi + 1) + 1 ≤ 2 ^ (32 - (hi + 1)) := by
    apply Nat.div_lt_of_lt_mul; rw [← e2]; exact hn
  have c := Nat.mul_le_mul_right (2 ^ (hi + 1)) b
  rw [Nat.add_mul, Nat.mul_comm (2 ^ (32 - (hi + 1))), ← e2] at c
  simp only [putBits]
  omega

/-- A field reads what was written to it: the low bits of the value. -/
theorem State.fld_setFld_same (s : State) (f : Fld) (v : Nat) (h : f.hi < 32) (hl : f.lo ≤ f.hi) :
    (s.setFld f v).fld f = v % 2 ^ (f.hi + 1 - f.lo) := by
  have l := putBits_lt (s.reg f.addr).toNat f.hi f.lo v h hl (s.reg f.addr).isLt
  simp only [State.fld, State.setFld, State.reg_setReg_same, BitVec.toNat_ofNat, Nat.mod_eq_of_lt l]
  exact bitsOf_putBits_same _ _ _ _ hl

/-- A field of another register keeps its value. -/
theorem State.fld_setFld_other (s : State) (f g : Fld) (v : Nat) (h : g.addr ≠ f.addr) : (s.setFld f v).fld g = s.fld g := by
  simp only [State.fld, State.setFld, State.reg_setReg_other _ _ _ _ h]

/-- A field of a register that no write of a list names keeps its value. -/
theorem State.fld_setFlds_other (s : State) (l : List (Fld × Nat)) (g : Fld) (h : ∀ x ∈ l, g.addr ≠ x.1.addr) :
    (s.setFlds l).fld g = s.fld g := by
  induction l generalizing s with
  | nil => rfl
  | cons x r ih =>
    obtain ⟨f, v⟩ := x
    simp only [State.setFlds]
    rw [ih _ fun y hy => h y (List.mem_cons_of_mem _ hy), State.fld_setFld_other _ _ _ _ (h _ List.mem_cons_self)]

end Sys2Proof.Machine
end

