-- ==== Sys2Proof/Laws/Reports.lean ====
section
/-! SUPPORT. What raising a report may change (R659 to R671, R740), what an ECC event may change beside, and what a trap of a core may
change: everything else is as before. -/

namespace Sys2Proof.Machine

/-- t differs from s at most in registers, logs, what was sent, and the debug port. -/
def Reported (s t : State) : Prop := t = { s with regs := t.regs, logs := t.logs, sent := t.sent, dbg := t.dbg }

theorem Reported.refl (s : State) : Reported s s := rfl

theorem Reported.trans {s t u : State} (h : Reported s t) (k : Reported t u) : Reported s u := by
  unfold Reported at *; rw [k, h]

theorem Reported.setReg (s : State) (a : Nat) (w : Word) : Reported s (s.setReg a w) := rfl
theorem Reported.setFld (s : State) (f : Fld) (v : Nat) : Reported s (s.setFld f v) := rfl
theorem Reported.setLog (s : State) (h : Nat) (l : LogHalf) : Reported s (s.setLog h l) := rfl
theorem Reported.send (s : State) (x : Sent) : Reported s (s.send x) := rfl

theorem Reported.setFlds (s : State) (l : List (Fld × Nat)) : Reported s (s.setFlds l) := by
  induction l generalizing s with
  | nil => rfl
  | cons x r ih => obtain ⟨f, v⟩ := x; exact (Reported.setFld s f v).trans (ih _)

theorem Reported.each {f : Nat → State → State} (h : ∀ n t, Reported t (f n t)) (s : State) (l : List Nat) : Reported s (s.each l f) := by
  unfold State.each
  induction l generalizing s with
  | nil => exact .refl s
  | cons n r ih => exact (h n s).trans (ih _)

theorem Reported.count (s : State) (f : Fld) (g : Option Fld) : Reported s (s.count f g) := by
  unfold State.count
  split
  · rfl
  · cases g <;> rfl

theorem Reported.mbxEvent (s : State) (l bit : Nat) : Reported s (s.mbxEvent l bit) := by
  unfold State.mbxEvent
  dsimp only
  repeat' split
  all_goals rfl

theorem Reported.mbxEvents (s : State) (h : Nat) (fatal : Bool) : Reported s (s.mbxEvents h fatal) := by
  unfold State.mbxEvents
  refine .each (fun n t => ?_) s _
  split
  · exact .mbxEvent _ _ _
  · exact .refl _

theorem Reported.reportLines (s : State) (r : Raise) : Reported s (s.reportLines r) := by
  unfold State.reportLines
  split
  · exact (Reported.setFld _ _ _).trans (.mbxEvents _ _ _)
  · split
    · split
      · exact (Reported.setFld _ _ _).trans (.mbxEvents _ _ _)
      · exact .mbxEvents _ _ _
    · exact .refl _

theorem Reported.countLost (s : State) (h cls : Nat) : Reported s (s.countLost h cls) := by
  unfold State.countLost
  split
  · exact (Reported.count _ _ _).trans (.setFld _ _ _)
  · split <;> exact .count _ _ _

theorem Reported.when {f : State → State} (h : ∀ t, Reported t (f t)) (s : State) (b : Bool) : Reported s (s.when b f) := by
  cases b
  · exact .refl s
  · exact h s

theorem Reported.enqueueReport (s : State) (h cls : Nat) (r : Report) : Reported s (s.enqueueReport h cls r) :=
  (Reported.setLog s h _).trans (.when (fun _ => .countLost _ _ _) _ _)

theorem Reported.trace (s : State) (k h w : Nat) : Reported s (s.trace k h w) := by
  unfold State.trace
  split
  · exact .refl _
  · split
    · rfl
    · exact .count _ _ _

/-- Raising a report changes nothing but registers, logs, what was sent, and the debug port's trace. -/
theorem State.raise_reported (s : State) (r : Raise) : Reported s (s.raise r) :=
  ((Reported.reportLines s r).trans (.enqueueReport _ _ _ _)).trans (.trace _ _ _ _)

theorem State.misuse_reported (s : State) (a : Agent) (code addr : Nat) : Reported s (s.misuse a code addr) := s.raise_reported _

theorem Reported.mem {s t : State} (h : Reported s t) : t.mem = s.mem := by rw [h]
theorem Reported.poison {s t : State} (h : Reported s t) : t.poison = s.poison := by rw [h]
theorem Reported.flips {s t : State} (h : Reported s t) : t.flips = s.flips := by rw [h]
theorem Reported.pending {s t : State} (h : Reported s t) : t.pending = s.pending := by rw [h]

@[simp] theorem State.raise_mem (s : State) (r : Raise) : (s.raise r).mem = s.mem := (s.raise_reported r).mem
@[simp] theorem State.raise_poison (s : State) (r : Raise) : (s.raise r).poison = s.poison := (s.raise_reported r).poison
@[simp] theorem State.raise_flips (s : State) (r : Raise) : (s.raise r).flips = s.flips := (s.raise_reported r).flips
@[simp] theorem State.raise_pending (s : State) (r : Raise) : (s.raise r).pending = s.pending := (s.raise_reported r).pending
@[simp] theorem State.misuse_mem (s : State) (a : Agent) (c n : Nat) : (s.misuse a c n).mem = s.mem := (s.misuse_reported a c n).mem
@[simp] theorem State.misuse_poison (s : State) (a : Agent) (c n : Nat) : (s.misuse a c n).poison = s.poison := (s.misuse_reported a c n).poison
@[simp] theorem State.misuse_flips (s : State) (a : Agent) (c n : Nat) : (s.misuse a c n).flips = s.flips := (s.misuse_reported a c n).flips
@[simp] theorem State.misuse_pending (s : State) (a : Agent) (c n : Nat) : (s.misuse a c n).pending = s.pending := (s.misuse_reported a c n).pending

/-- t differs from s at most as after a report, and in host links. -/
def EccReported (s t : State) : Prop := t = { s with regs := t.regs, logs := t.logs, sent := t.sent, dbg := t.dbg, hostLinks := t.hostLinks }

theorem EccReported.trans {s t u : State} (h : EccReported s t) (k : EccReported t u) : EccReported s u := by
  unfold EccReported at *; rw [k, h]

theorem Reported.ecc {s t : State} (h : Reported s t) : EccReported s t := by
  unfold Reported EccReported at *; rw [h]

theorem EccReported.each {f : Nat → State → State} (h : ∀ n t, EccReported t (f n t)) (s : State) (l : List Nat) : EccReported s (s.each l f) := by
  unfold State.each
  induction l generalizing s with
  | nil => rfl
  | cons n r ih => exact (h n s).trans (ih _)

theorem EccReported.mediaEvents (s : State) (h word : Nat) (ue : Bool) : EccReported s (s.mediaEvents h word ue) := by
  unfold State.mediaEvents
  refine .each (fun n t => ?_) s _
  split <;> rfl

/-- An ECC event changes registers, logs, what was sent, the trace, and the media events of links. -/
theorem State.eccEvent_reported (s : State) (h sel word : Nat) (ue scrub inj : Bool) (code cls : Nat) :
    EccReported s (s.eccEvent h sel word ue scrub inj code cls) := by
  have a : ∀ (b : Bool) (l : List (Fld × Nat)), Reported s (if b then s.setFlds l else s) := fun b l => by
    cases b
    · exact .refl s
    · exact .setFlds s l
  unfold State.eccEvent
  dsimp only
  refine (EccReported.trans ?_ (State.raise_reported _ _).ecc)
  have b : ∀ t : State, Reported t (if ue then t.setFld (F.MEM_ECC_STATUS_UE h) 1
      else (t.setFld (F.MEM_ECC_STATUS_CE h) 1).count (F.MEM_ECC_STATUS_CE_COUNT h) none) := fun t => by
    cases ue
    · rw [if_neg (by decide)]; exact (Reported.setFld _ _ _).trans (.count _ _ _)
    · rw [if_pos rfl]; exact .setFld _ _ _
  have c := (a (if ue then !s.on (F.MEM_ECC_STATUS_UE h) else !s.on (F.MEM_ECC_STATUS_UE h) && !s.on (F.MEM_ECC_STATUS_CE h))
    [(F.MEM_ECC_STATUS_MEM_SEL h, sel), (F.MEM_ECC_STATUS_SRC h, bnat scrub), (F.MEM_ECC_ADDR_WORD h, word)]).trans (b _)
  split
  · exact c.ecc.trans (.mediaEvents _ _ _ _)
  · exact c.ecc

theorem EccReported.mem {s t : State} (h : EccReported s t) : t.mem = s.mem := by rw [h]
theorem EccReported.poison {s t : State} (h : EccReported s t) : t.poison = s.poison := by rw [h]
theorem EccReported.flips {s t : State} (h : EccReported s t) : t.flips = s.flips := by rw [h]
theorem EccReported.pending {s t : State} (h : EccReported s t) : t.pending = s.pending := by rw [h]

@[simp] theorem State.eccEvent_mem (s : State) (h sel word : Nat) (ue scrub inj : Bool) (code cls : Nat) :
    (s.eccEvent h sel word ue scrub inj code cls).mem = s.mem := (s.eccEvent_reported ..).mem
@[simp] theorem State.eccEvent_poison (s : State) (h sel word : Nat) (ue scrub inj : Bool) (code cls : Nat) :
    (s.eccEvent h sel word ue scrub inj code cls).poison = s.poison := (s.eccEvent_reported ..).poison
@[simp] theorem State.eccEvent_flips (s : State) (h sel word : Nat) (ue scrub inj : Bool) (code cls : Nat) :
    (s.eccEvent h sel word ue scrub inj code cls).flips = s.flips := (s.eccEvent_reported ..).flips

/-- t differs from s at most in its cores. -/
def CoresOnly (s t : State) : Prop := t = { s with cores := t.cores }

theorem CoresOnly.trans {s t u : State} (h : CoresOnly s t) (k : CoresOnly t u) : CoresOnly s u := by
  unfold CoresOnly at *; rw [k, h]

theorem CoresOnly.setCsr (s : State) (c n : Nat) (v : Dword) : CoresOnly s (s.setCsr c n v) := rfl
theorem CoresOnly.modCore (s : State) (c : Nat) (f : Core → Core) : CoresOnly s (s.modCore c f) := rfl

theorem CoresOnly.each {f : Nat → State → State} (h : ∀ n t, CoresOnly t (f n t)) (s : State) (l : List Nat) : CoresOnly s (s.each l f) := by
  unfold State.each
  induction l generalizing s with
  | nil => rfl
  | cons n r ih => exact (h n s).trans (ih _)

theorem CoresOnly.mem {s t : State} (h : CoresOnly s t) : t.mem = s.mem := by rw [h]
theorem CoresOnly.poison {s t : State} (h : CoresOnly s t) : t.poison = s.poison := by rw [h]
theorem CoresOnly.flips {s t : State} (h : CoresOnly s t) : t.flips = s.flips := by rw [h]

/-- A store ends reservations of cores and changes nothing else by that (R323). -/
theorem State.breakResv_cores (s : State) (a n : Nat) : CoresOnly s (s.breakResv a n) :=
  .each (fun c t => by split; exacts [.modCore .., rfl]) s _

/-- A trap of a core changes that core and nothing else (R330). -/
theorem State.coreTrap_cores (s : State) (c cause tval : Nat) (pc : Dword) : CoresOnly s (s.coreTrap c cause tval pc) := by
  have g (a b d e : Nat) (v w x y : Dword) (f : Core → Core) :
      CoresOnly s (((((s.setCsr c a v).setCsr c b w).setCsr c d x).setCsr c e y).modCore c f) :=
    ((((CoresOnly.setCsr ..).trans (.setCsr ..)).trans (.setCsr ..)).trans (.setCsr ..)).trans (.modCore ..)
  unfold State.coreTrap State.takeTrap
  exact iteInduction (motive := CoresOnly s) (fun _ => g ..) (fun _ => g ..)

@[simp] theorem State.coreTrap_mem (s : State) (c cause tval : Nat) (pc : Dword) : (s.coreTrap c cause tval pc).mem = s.mem := by
  rw [show _ = _ from s.coreTrap_cores c cause tval pc]
@[simp] theorem State.coreTrap_poison (s : State) (c cause tval : Nat) (pc : Dword) : (s.coreTrap c cause tval pc).poison = s.poison := by
  rw [show _ = _ from s.coreTrap_cores c cause tval pc]
@[simp] theorem State.coreTrap_flips (s : State) (c cause tval : Nat) (pc : Dword) : (s.coreTrap c cause tval pc).flips = s.flips := by
  rw [show _ = _ from s.coreTrap_cores c cause tval pc]

end Sys2Proof.Machine
end

