-- ==== Sys2Proof/Laws/Memory.lean ====
section
/-! SUPPORT. Every memory operation keeps memory in its canonical form, and a store leaves every byte outside it alone (R361, R376,
R377). -/

namespace Sys2Proof.Machine

/-! ## The canonical form -/

theorem State.memoryCanonical_of {s t : State} (h : s.memoryCanonical) (m : t.mem = s.mem) (p : t.poison = s.poison) (f : t.flips = s.flips) :
    t.memoryCanonical := by
  unfold State.memoryCanonical at *; rw [m, p, f]; exact h

theorem Reported.canonical {s t : State} (k : Reported s t) (h : s.memoryCanonical) : t.memoryCanonical :=
  s.memoryCanonical_of h k.mem k.poison k.flips

theorem CoresOnly.canonical {s t : State} (k : CoresOnly s t) (h : s.memoryCanonical) : t.memoryCanonical :=
  s.memoryCanonical_of h k.mem k.poison k.flips

theorem EccReported.canonical {s t : State} (k : EccReported s t) (h : s.memoryCanonical) : t.memoryCanonical :=
  s.memoryCanonical_of h k.mem k.poison k.flips

theorem State.setByte_canonical {s : State} (h : s.memoryCanonical) (k : Nat) (b : Byte) : (s.setByte k b).memoryCanonical :=
  ⟨Bank.wf_set _ _ _ _ h.1, h.2⟩

theorem State.setPoisoned_canonical {s : State} (h : s.memoryCanonical) (w : Nat) (b : Bool) : (s.setPoisoned w b).memoryCanonical :=
  ⟨h.1, Bank.wf_set _ _ _ _ h.2.1, h.2.2⟩

theorem State.setFlipMask_canonical {s : State} (h : s.memoryCanonical) (w m : Nat) : (s.setFlipMask w m).memoryCanonical :=
  ⟨h.1, h.2.1, Bank.wf_set _ _ _ _ h.2.2⟩

theorem State.clearMem_canonical {s : State} (h : s.memoryCanonical) (k n : Nat) : (s.clearMem k n).memoryCanonical :=
  ⟨Bank.wf_drop _ _ _ h.1, Bank.wf_drop _ _ _ h.2.1, Bank.wf_drop _ _ _ h.2.2⟩

theorem State.setBytes_canonical {s : State} (h : s.memoryCanonical) (k : Nat) (l : List Byte) : (s.setBytes k l).memoryCanonical := by
  induction l generalizing s k with
  | nil => exact h
  | cons b r ih => exact ih (State.setByte_canonical h k b) (k + 1)

theorem State.each_canonical {f : Nat → State → State} (k : ∀ n t, t.memoryCanonical → (f n t).memoryCanonical) {s : State}
    (h : s.memoryCanonical) (l : List Nat) : (s.each l f).memoryCanonical := by
  unfold State.each
  induction l generalizing s with
  | nil => exact h
  | cons n r ih => exact ih (k n s h)

theorem State.readCheck_canonical {s : State} (h : s.memoryCanonical) (w : Nat) (scrub : Bool) : (s.readCheck w scrub).memoryCanonical := by
  unfold State.readCheck
  split
  · exact (State.eccEvent_reported ..).canonical (State.setFlipMask_canonical h w 0)
  · exact (State.eccEvent_reported ..).canonical h
  · exact h

theorem State.readMem_canonical {s : State} (h : s.memoryCanonical) (k n : Nat) : (s.readMem k n).1.memoryCanonical :=
  State.each_canonical (fun w _ g => State.readCheck_canonical g w false) h _

theorem State.writeWord_canonical {s : State} (h : s.memoryCanonical) (k : Nat) (l : List Byte) : (s.writeWord k l).memoryCanonical := by
  unfold State.writeWord
  dsimp only
  split
  · exact State.setPoisoned_canonical (State.setFlipMask_canonical (State.setBytes_canonical h k l) _ _) _ _
  · split
    · exact (State.eccEvent_reported ..).canonical
        (State.setPoisoned_canonical (State.setFlipMask_canonical (State.setBytes_canonical h k l) _ _) _ _)
    · exact State.setBytes_canonical (State.readCheck_canonical h _ _) k l
    · exact State.setBytes_canonical h k l

theorem State.writeMem_canonical {s : State} (h : s.memoryCanonical) (k : Nat) (l : List Byte) (n : Nat) : (s.writeMem k l n).memoryCanonical := by
  induction n generalizing s k l with
  | zero => exact h
  | succ n ih =>
    unfold State.writeMem
    split
    · exact h
    · exact ih (State.writeWord_canonical h k _) _ _

theorem State.storeBytes_canonical {s : State} (h : s.memoryCanonical) (a : Nat) (l : List Byte) : (s.storeBytes a l).memoryCanonical := by
  unfold State.storeBytes
  split
  · exact State.writeMem_canonical ((s.breakResv_cores ..).canonical h) _ _ _
  · exact h

theorem State.poisonWords_canonical {s : State} (h : s.memoryCanonical) (k n : Nat) : (s.poisonWords k n).memoryCanonical :=
  State.each_canonical (fun w _ g => State.setPoisoned_canonical g w true) h _

/-- Reset memory has the canonical form. -/
theorem State.reset_canonical : State.reset.memoryCanonical := ⟨rfl, rfl, rfl⟩

/-! ## Replies and deliveries -/

theorem State.setSlot_memory (s : State) (l sl off : Nat) (b : List Byte) :
    (s.setSlot l sl off b).mem = s.mem ∧ (s.setSlot l sl off b).poison = s.poison ∧ (s.setSlot l sl off b).flips = s.flips := by
  induction b generalizing s off with
  | nil => exact ⟨rfl, rfl, rfl⟩
  | cons x r ih => exact ih _ _

theorem State.slotDone_reported (s : State) (l sl : Nat) : Reported s (s.slotDone l sl) := by
  unfold State.slotDone
  dsimp only
  split <;> rfl

theorem State.setSlot_canonical {s : State} (h : s.memoryCanonical) (l sl off : Nat) (b : List Byte) : (s.setSlot l sl off b).memoryCanonical :=
  s.memoryCanonical_of h (s.setSlot_memory l sl off b).1 (s.setSlot_memory l sl off b).2.1 (s.setSlot_memory l sl off b).2.2

theorem State.slotReply_canonical {s : State} (h : s.memoryCanonical) (l sl : Nat) (b : List Byte) : (s.slotReply l sl b).memoryCanonical := by
  unfold State.slotReply
  extract_lets m a n d c t u
  have ht : t.memoryCanonical := State.setSlot_canonical h ..
  have hu : u.memoryCanonical := by
    show (if a = 0 then _ else _ : State).memoryCanonical
    split
    · exact State.setSlot_canonical ht ..
    · split
      · exact State.storeBytes_canonical ht ..
      · exact (State.raise_reported t _).canonical ht
  exact (State.slotDone_reported u l sl).canonical hu

theorem State.messageReply_canonical {s : State} (h : s.memoryCanonical) (l rq seq : Nat) (b : List Byte) :
    (s.messageReply l rq seq b).memoryCanonical := by
  have f (n x : Nat) (l' : List Nat) {u : State} (k : u.memoryCanonical) :
      (l'.foldl (fun u i => u.sendFragment l rq x n b i) u).memoryCanonical := by
    induction l' generalizing u with
    | nil => exact k
    | cons i r ih => exact ih (k : (u.sendFragment l rq x n b i).memoryCanonical)
  unfold State.messageReply
  dsimp only
  split
  · exact h
  · split
    · exact f _ _ _ h
    · exact h

/-- A reply keeps memory canonical, also where it is stored there. -/
theorem State.sendReply_canonical {s : State} (h : s.memoryCanonical) (via : Transport) (seq op st d : Nat) (r : List Byte) :
    (s.sendReply via seq op st d r).memoryCanonical := by
  unfold State.sendReply
  extract_lets b
  split
  · exact State.slotReply_canonical h ..
  · exact State.messageReply_canonical h ..
  · exact h
  · split <;> exact h
  · exact h

theorem State.fieldRefusal_canonical {s : State} (h : s.memoryCanonical) (r : Req) (f : FieldRule) :
    (s.fieldRefusal r f).1.memoryCanonical := by
  unfold State.fieldRefusal
  split
  · exact h
  · dsimp only
    split
    · exact h
    · exact (State.misuse_reported ..).canonical h

/-- The state an effect leaves. -/
def Run.left : Run → State
  | .done u _ _ _ => u
  | .job u _ => u
  | .later u => u

/-- A command whose effect keeps memory canonical is delivered so. -/
theorem State.deliver_canonical {s : State} {c : Cmd} (k : ∀ r, (c.run s r).left.memoryCanonical) (h : s.memoryCanonical) (p : Packet) :
    (s.deliver c p).memoryCanonical := by
  have e (st d : Nat) (r : List Byte) : (s.sendReply p.via p.seq.toNat c.opcode st d r).memoryCanonical := State.sendReply_canonical h ..
  have g {r : Req} {x : Run} (y : c.run s r = x) : x.left.memoryCanonical := y ▸ k r
  have m : (s.startCmd c p).memoryCanonical := by
    unfold State.startCmd
    dsimp only
    split
    · exact e ..
    · split
      · exact e ..
      · split
        · exact e ..
        · split
          · exact e ..
          · exact State.sendReply_canonical (State.fieldRefusal_canonical h ..) ..
          · split
            · exact e ..
            · split
              · exact e ..
              · split
                · rename_i y; exact State.sendReply_canonical (g y) ..
                · rename_i y; exact g y
                · rename_i y; exact g y
  unfold State.deliver
  dsimp only
  repeat' split
  all_goals first | exact h | exact e .. | exact m

/-! ## A store leaves every other byte alone -/

@[simp] theorem State.byteAt_setByte_same (s : State) (k : Nat) (b : Byte) : (s.setByte k b).byteAt k = b := by
  simp [State.byteAt, State.setByte]

theorem State.byteAt_setByte_other (s : State) (k j : Nat) (b : Byte) (h : j ≠ k) : (s.setByte k b).byteAt j = s.byteAt j := by
  simp [State.byteAt, State.setByte, Bank.get_set_other _ _ _ _ _ h]

theorem State.byteAt_of_mem {s t : State} (h : t.mem = s.mem) (k : Nat) : t.byteAt k = s.byteAt k := by
  simp [State.byteAt, h]

theorem State.byteAt_setBytes_other (s : State) (k j : Nat) (l : List Byte) (h : j < k ∨ k + l.length ≤ j) :
    (s.setBytes k l).byteAt j = s.byteAt j := by
  induction l generalizing s k with
  | nil => rfl
  | cons b r ih =>
    simp only [List.length_cons] at h
    rw [State.setBytes, ih _ _ (by omega), State.byteAt_setByte_other _ _ _ _ (by omega)]

theorem State.each_mem {f : Nat → State → State} (k : ∀ n t, (f n t).mem = t.mem) (s : State) (l : List Nat) : (s.each l f).mem = s.mem := by
  unfold State.each
  induction l generalizing s with
  | nil => rfl
  | cons n r ih => simp only [List.foldl_cons]; rw [ih, k]

@[simp] theorem State.readCheck_mem (s : State) (w : Nat) (scrub : Bool) : (s.readCheck w scrub).mem = s.mem := by
  unfold State.readCheck
  split
  · rw [State.eccEvent_mem]; rfl
  · exact State.eccEvent_mem ..
  · rfl

@[simp] theorem State.readMem_mem (s : State) (k n : Nat) : (s.readMem k n).1.mem = s.mem :=
  State.each_mem (fun w t => t.readCheck_mem w false) s _

theorem State.byteAt_writeWord_other (s : State) (k j : Nat) (l : List Byte) (h : j < k ∨ k + l.length ≤ j) :
    (s.writeWord k l).byteAt j = s.byteAt j := by
  have e := State.byteAt_setBytes_other
  unfold State.writeWord
  dsimp only
  split
  · exact e s k j l h
  · split
    · rw [State.byteAt_of_mem (State.eccEvent_mem ..)]; exact e s k j l h
    · rw [e _ k j l h]; exact State.byteAt_of_mem (State.readCheck_mem ..) j
    · exact e s k j l h

theorem State.byteAt_writeMem_other (s : State) (k j : Nat) (l : List Byte) (n : Nat) (h : j < k ∨ k + l.length ≤ j) :
    (s.writeMem k l n).byteAt j = s.byteAt j := by
  induction n generalizing s k l with
  | zero => rfl
  | succ n ih =>
    unfold State.writeMem
    split
    · rfl
    · rename_i ne
      have p : 0 < l.length := by cases l <;> simp_all
      have a : (l.take (8 - k % 8)).length ≤ l.length := by simp
      have b : (l.drop (8 - k % 8)).length = l.length - (8 - k % 8) := by simp
      have c : (l.take (8 - k % 8)).length = min (8 - k % 8) l.length := by simp
      rw [ih, State.byteAt_writeWord_other]
      · omega
      · rw [b]; omega

/-- A store to a device address leaves every byte outside it alone. -/
theorem State.byteAt_storeBytes_other (s : State) (a j : Nat) (l : List Byte)
    (h : j < (s.memKey a).getD 0 ∨ (s.memKey a).getD 0 + l.length ≤ j) : (s.storeBytes a l).byteAt j = s.byteAt j := by
  unfold State.storeBytes
  split
  · exact (State.byteAt_writeMem_other _ _ _ _ _ h).trans (State.byteAt_of_mem (s.breakResv_cores ..).mem j)
  · rfl

end Sys2Proof.Machine
end

