-- ==== Sys2Proof/Laws/MemFrame.lean ====
section
/-! SUPPORT. What an access to memory, a scrubber's visit and an injection may change beside memory: the registers and reports of an
ECC event, the host links' media events, the cores' traps, the scrubbers, what waits at a partition command or at the causeway, and the answer; everything else is as before (R376 to R390). -/

namespace Sys2Proof.Machine

/-- t differs from s at most in memory and its marks, and in what ECC events, misuse and scrubbers touch. -/
def MemTouched (s t : State) : Prop :=
  t = { s with regs := t.regs, logs := t.logs, sent := t.sent, dbg := t.dbg, hostLinks := t.hostLinks, mem := t.mem, poison := t.poison,
               flips := t.flips, scrubbers := t.scrubbers, cores := t.cores, answer := t.answer, partJobs := t.partJobs, cswHalves := t.cswHalves }

theorem MemTouched.refl (s : State) : MemTouched s s := rfl

theorem MemTouched.trans {s t u : State} (h : MemTouched s t) (k : MemTouched t u) : MemTouched s u := by
  unfold MemTouched at *; rw [k, h]

theorem EccReported.touched {s t : State} (h : EccReported s t) : MemTouched s t := by
  unfold EccReported MemTouched at *; rw [h]

theorem CoresOnly.touched {s t : State} (h : CoresOnly s t) : MemTouched s t := by
  unfold CoresOnly MemTouched at *; rw [h]

theorem MemTouched.each {f : Nat → State → State} (h : ∀ n t, MemTouched t (f n t)) (s : State) (l : List Nat) : MemTouched s (s.each l f) := by
  unfold State.each
  induction l generalizing s with
  | nil => exact .refl s
  | cons n r ih => exact (h n s).trans (ih _)

theorem MemTouched.setBytes (s : State) (k : Nat) (l : List Byte) : MemTouched s (s.setBytes k l) := by
  induction l generalizing s k with
  | nil => exact .refl s
  | cons b r ih => exact MemTouched.trans (t := s.setByte k b) rfl (ih _ _)

theorem MemTouched.setFlds (s : State) (l : List (Fld × Nat)) : MemTouched s (s.setFlds l) := (Reported.setFlds s l).ecc.touched

theorem MemTouched.readCheck (s : State) (w : Nat) (scrub : Bool) : MemTouched s (s.readCheck w scrub) := by
  unfold State.readCheck
  split
  · exact MemTouched.trans (t := s.setFlipMask w 0) rfl (State.eccEvent_reported ..).touched
  · exact (State.eccEvent_reported ..).touched
  · exact .refl s

theorem MemTouched.readMem (s : State) (k n : Nat) : MemTouched s (s.readMem k n).1 := .each (fun w t => .readCheck t w false) s _

theorem MemTouched.writeWord (s : State) (k : Nat) (l : List Byte) : MemTouched s (s.writeWord k l) := by
  unfold State.writeWord
  dsimp only
  split
  · exact (MemTouched.setBytes s k l).trans rfl
  · split
    · exact ((MemTouched.setBytes s k l).trans (u := ((s.setBytes k l).setFlipMask (k / 8) 0).setPoisoned (k / 8) true) rfl).trans
        (State.eccEvent_reported ..).touched
    · exact (MemTouched.readCheck s _ _).trans (.setBytes _ _ _)
    · exact .setBytes _ _ _

theorem MemTouched.writeMem (s : State) (k : Nat) (l : List Byte) (n : Nat) : MemTouched s (s.writeMem k l n) := by
  induction n generalizing s k l with
  | zero => exact .refl s
  | succ n ih =>
    unfold State.writeMem
    split
    · exact .refl s
    · exact (MemTouched.writeWord s k _).trans (ih _ _ _)

theorem MemTouched.storeBytes (s : State) (a : Nat) (l : List Byte) : MemTouched s (s.storeBytes a l) := by
  unfold State.storeBytes
  split
  · exact (s.breakResv_cores ..).touched.trans (.writeMem ..)
  · exact .refl s

theorem MemTouched.unmappedOutcome (s : State) (a : Agent) (addr kind : Nat) : MemTouched s (s.unmappedOutcome a addr kind) := by
  have m : MemTouched s (s.unmappedNotice a addr) := (State.misuse_reported ..).ecc.touched
  unfold State.unmappedOutcome
  dsimp only
  split
  · refine m.trans ?_
    split
    · exact (State.coreTrap_cores ..).touched.trans rfl
    · rfl
  all_goals exact m.trans rfl

theorem MemTouched.haltScrub (s : State) (h sel cause : Nat) : MemTouched s (s.haltScrub h sel cause) :=
  (MemTouched.setFlds s _).trans (State.raise_reported _ _).ecc.touched

theorem MemTouched.endPass (s : State) (h sel : Nat) (upset : Bool) : MemTouched s (s.endPass h sel upset) := by
  unfold State.endPass
  dsimp only
  split
  · exact .refl s
  · split
    · exact MemTouched.trans (t := s.setScrubber (scrubKey h sel) _) rfl (.haltScrub ..)
    · rfl

theorem MemTouched.visitLine (s : State) (h sel line : Nat) : MemTouched s (s.visitLine h sel line) :=
  .each (fun w t => by split; exacts [.refl t, .readCheck t w true]) s _

theorem MemTouched.flipBits (s : State) (w m : Nat) : MemTouched s (s.flipBits w m) := by
  unfold State.flipBits
  exact (rfl : MemTouched s (s.setFlipMask w _))

theorem MemTouched.modScrubber (s : State) (k : Nat) (f : Scrubber → Scrubber) : MemTouched s (s.modScrubber k f) := rfl

theorem MemTouched.memInject (s : State) (h sel kind word bit : Nat) : MemTouched s (s.memInject h sel kind word bit) := by
  unfold State.memInject
  dsimp only
  have k := MemTouched.setFlds s [(F.MEM_INJECT_INJECT h, 0), (F.MEM_INJECT_INJ_KIND h, kind), (F.MEM_INJECT_TARGET h, sel), (F.MEM_INJECT_BIT h, bit)]
  generalize s.setFlds [(F.MEM_INJECT_INJECT h, 0), (F.MEM_INJECT_INJ_KIND h, kind), (F.MEM_INJECT_TARGET h, sel), (F.MEM_INJECT_BIT h, bit)] = t at k ⊢
  have r := k.trans (Reported.setReg t (R.MEM_INJ_ADDR h) (BitVec.ofNat 32 word)).ecc.touched
  generalize t.setReg (R.MEM_INJ_ADDR h) (BitVec.ofNat 32 word) = u at r ⊢
  split
  · exact r.trans (Reported.setFld ..).ecc.touched
  · split
    · exact r.trans (.flipBits ..)
    · exact r.trans (.flipBits ..)
    · exact r.trans (.modScrubber ..)
    · exact r.trans (.modScrubber ..)

/-- The commands that wait are as they were. -/
theorem MemTouched.pending {s t : State} (h : MemTouched s t) : t.pending = s.pending := by rw [h]

/-! ## Memory itself under what is no access -/

@[simp] theorem State.unmappedOutcome_mem (s : State) (a : Agent) (addr kind : Nat) : (s.unmappedOutcome a addr kind).mem = s.mem := by
  unfold State.unmappedOutcome
  dsimp only
  split
  · split
    · exact (State.coreTrap_mem ..).trans (State.misuse_mem ..)
    · exact State.misuse_mem ..
  all_goals exact State.misuse_mem ..

@[simp] theorem State.haltScrub_mem (s : State) (h sel cause : Nat) : (s.haltScrub h sel cause).mem = s.mem :=
  (State.raise_mem _ _).trans (State.setFlds_mem _ _)

@[simp] theorem State.endPass_mem (s : State) (h sel : Nat) (upset : Bool) : (s.endPass h sel upset).mem = s.mem := by
  unfold State.endPass
  dsimp only
  split
  · rfl
  · split
    · exact State.haltScrub_mem ..
    · rfl

@[simp] theorem State.visitLine_mem (s : State) (h sel line : Nat) : (s.visitLine h sel line).mem = s.mem :=
  State.each_mem (fun w t => by split; exacts [rfl, State.readCheck_mem t w true]) s _

theorem State.flipBits_mem (s : State) (w m : Nat) : (s.flipBits w m).mem = s.mem := by
  unfold State.flipBits
  exact (rfl : (s.setFlipMask w _).mem = s.mem)

theorem State.modScrubber_mem (s : State) (k : Nat) (f : Scrubber → Scrubber) : (s.modScrubber k f).mem = s.mem := rfl

@[simp] theorem State.memInject_mem (s : State) (h sel kind word bit : Nat) : (s.memInject h sel kind word bit).mem = s.mem := by
  unfold State.memInject
  dsimp only
  have k := State.setFlds_mem s [(F.MEM_INJECT_INJECT h, 0), (F.MEM_INJECT_INJ_KIND h, kind), (F.MEM_INJECT_TARGET h, sel), (F.MEM_INJECT_BIT h, bit)]
  generalize s.setFlds [(F.MEM_INJECT_INJECT h, 0), (F.MEM_INJECT_INJ_KIND h, kind), (F.MEM_INJECT_TARGET h, sel), (F.MEM_INJECT_BIT h, bit)] = t at k ⊢
  have r : (t.setReg (R.MEM_INJ_ADDR h) (BitVec.ofNat 32 word)).mem = s.mem := (State.setReg_mem ..).trans k
  generalize t.setReg (R.MEM_INJ_ADDR h) (BitVec.ofNat 32 word) = u at r ⊢
  split
  · exact (State.setFld_mem ..).trans r
  · split
    · exact (State.flipBits_mem ..).trans r
    · exact (State.flipBits_mem ..).trans r
    · exact (State.modScrubber_mem ..).trans r
    · exact (State.modScrubber_mem ..).trans r

/-! ## The canonical form under accesses, scrubbers, injections and copies -/

theorem State.unmappedOutcome_canonical {s : State} (h : s.memoryCanonical) (a : Agent) (addr kind : Nat) :
    (s.unmappedOutcome a addr kind).memoryCanonical := by
  have m := (State.misuse_reported s a 4 (addr % 2 ^ 32)).canonical h
  unfold State.unmappedOutcome State.unmappedNotice
  dsimp only
  generalize s.misuse a 4 (addr % 2 ^ 32) = t at m ⊢
  split
  · rename_i c
    split
    · have q := State.coreTrap_cores t c (if kind = 2 then 1 else if kind = 1 then 7 else 5) addr (t.core c).pc
      generalize t.coreTrap c (if kind = 2 then 1 else if kind = 1 then 7 else 5) addr (t.core c).pc = v at q ⊢
      unfold CoresOnly at q
      rw [q]; exact m
    · exact m
  all_goals exact m

theorem State.setFlds_canonical {s : State} (h : s.memoryCanonical) (l : List (Fld × Nat)) : (s.setFlds l).memoryCanonical :=
  (Reported.setFlds s l).canonical h

theorem State.assertErr_canonical {s : State} (h : s.memoryCanonical) (n : Nat) : (s.assertErr n).memoryCanonical := by
  unfold State.assertErr
  exact (Reported.setFld ..).canonical h

theorem State.setScrubber_canonical {s : State} (h : s.memoryCanonical) (k : Nat) (x : Scrubber) : (s.setScrubber k x).memoryCanonical := h

theorem State.modScrubber_canonical {s : State} (h : s.memoryCanonical) (k : Nat) (f : Scrubber → Scrubber) :
    (s.modScrubber k f).memoryCanonical := h

theorem State.haltScrub_canonical {s : State} (h : s.memoryCanonical) (a b c : Nat) : (s.haltScrub a b c).memoryCanonical :=
  (State.raise_reported _ _).canonical (State.setFlds_canonical h _)

theorem State.endPass_canonical {s : State} (h : s.memoryCanonical) (a b : Nat) (c : Bool) : (s.endPass a b c).memoryCanonical := by
  unfold State.endPass
  dsimp only
  split
  · exact h
  · split
    · exact State.haltScrub_canonical (State.setScrubber_canonical h _ _) ..
    · exact (Reported.setFld ..).canonical (State.setScrubber_canonical h _ _)

theorem State.visitLine_canonical {s : State} (h : s.memoryCanonical) (a b c : Nat) : (s.visitLine a b c).memoryCanonical :=
  State.each_canonical (fun w t k => by split; exacts [k, State.readCheck_canonical k w true]) h _

theorem State.flipBits_canonical {s : State} (h : s.memoryCanonical) (w m : Nat) : (s.flipBits w m).memoryCanonical := by
  unfold State.flipBits
  exact State.setFlipMask_canonical h _ _

theorem State.memInject_canonical {s : State} (h : s.memoryCanonical) (a b c d e : Nat) : (s.memInject a b c d e).memoryCanonical := by
  have k := State.setFlds_canonical h
    [(F.MEM_INJECT_INJECT a, 0), (F.MEM_INJECT_INJ_KIND a, c), (F.MEM_INJECT_TARGET a, b), (F.MEM_INJECT_BIT a, e)]
  unfold State.memInject
  dsimp only
  generalize s.setFlds [(F.MEM_INJECT_INJECT a, 0), (F.MEM_INJECT_INJ_KIND a, c), (F.MEM_INJECT_TARGET a, b), (F.MEM_INJECT_BIT a, e)] = t at k ⊢
  have r := (Reported.setReg t (R.MEM_INJ_ADDR a) (BitVec.ofNat 32 d)).canonical k
  generalize t.setReg (R.MEM_INJ_ADDR a) (BitVec.ofNat 32 d) = u at r ⊢
  split
  · exact (Reported.setFld ..).canonical r
  · split
    · exact State.flipBits_canonical r ..
    · exact State.flipBits_canonical r ..
    · exact State.modScrubber_canonical r ..
    · exact State.modScrubber_canonical r ..

theorem State.copyBytes_canonical {s : State} (h : s.memoryCanonical) (a b n : Nat) : (s.copyBytes a b n).memoryCanonical := by
  have fo (f : State → Nat × Byte → State) (hf : ∀ u x, u.memoryCanonical → (f u x).memoryCanonical) (l : List (Nat × Byte)) (s : State)
      (h : s.memoryCanonical) : (l.foldl f s).memoryCanonical := by
    induction l generalizing s with
    | nil => exact h
    | cons x r ih => exact ih _ (hf _ _ h)
  have wh (f : State → State) (hf : ∀ u, u.memoryCanonical → (f u).memoryCanonical) (s : State) {c : Bool}
      (h : s.memoryCanonical) : (s.when c f).memoryCanonical := by
    unfold State.when
    split
    · exact hf _ h
    · exact h
  unfold State.copyBytes
  dsimp only
  exact State.each_canonical (fun w t h => State.poisonWords_canonical h _ _)
    (fo _ (fun u x h => State.setByte_canonical h _ _) _ _
      (State.clearMem_canonical (wh _ (fun u h => State.writeWord_canonical h _ _) _
        (wh _ (fun u h => State.writeWord_canonical h _ _) _
          (State.each_canonical (fun w t h => State.readCheck_canonical h w false) h _))) _ _)) _

/-! ## One access (R362, R367, R376, R377) -/

theorem State.mem_of_cores {s t u : State} (h : CoresOnly t u) (k : t.mem = s.mem) : u.mem = s.mem := h.mem.trans k

theorem State.poisonTrap_touched (s : State) (c addr : Nat) : MemTouched s (s.poisonTrap c addr) :=
  ((State.raise_reported _ _).ecc.touched).trans (State.coreTrap_cores ..).touched

theorem State.poisonTrap_canonical {s : State} (h : s.memoryCanonical) (c addr : Nat) : (s.poisonTrap c addr).memoryCanonical :=
  (State.coreTrap_cores ..).canonical ((State.raise_reported _ _).canonical h)

theorem State.portInjectBit_canonical {s : State} (h : s.memoryCanonical) (l : Nat) : (s.portInjectBit l).memoryCanonical := by
  unfold State.portInjectBit
  exact (Reported.setFld ..).canonical h

theorem State.portInjectBit_reported (s : State) (l : Nat) : Reported s (s.portInjectBit l) := by
  unfold State.portInjectBit
  exact .setFld ..

theorem MemTouched.poisonWords (s : State) (k n : Nat) : MemTouched s (s.poisonWords k n) := .each (fun w t => (rfl : MemTouched t (t.setPoisoned w true))) s _

theorem State.poisonWords_mem (s : State) (k n : Nat) : (s.poisonWords k n).mem = s.mem :=
  State.each_mem (fun w t => (rfl : (t.setPoisoned w true).mem = t.mem)) s _

theorem MemTouched.modHostLink (s : State) (l : Nat) (f : HostLink → HostLink) : MemTouched s (s.modHostLink l f) := rfl
theorem MemTouched.reply (s : State) (a : Answer) : MemTouched s (s.reply a) := rfl
theorem State.reply_canonical {s : State} (h : s.memoryCanonical) (a : Answer) : (s.reply a).memoryCanonical := h
theorem State.modHostLink_mem (s : State) (l : Nat) (f : HostLink → HostLink) : (s.modHostLink l f).mem = s.mem := rfl
theorem State.reply_mem (s : State) (a : Answer) : (s.reply a).mem = s.mem := rfl

/-- A data response of a link changes its armed injection, the port's bit and the answer (R429). -/
theorem State.respond_touched (s : State) (l : Nat) (b : List Byte) (p : Bool) :
    MemTouched s (s.respond l b p) ∧ (s.respond l b p).mem = s.mem := by
  unfold State.respond
  dsimp only
  split
  · exact ⟨((MemTouched.modHostLink s l _).trans (State.portInjectBit_reported ..).ecc.touched).trans (.reply ..),
      (State.reply_mem ..).trans ((State.portInjectBit_reported ..).mem.trans (State.modHostLink_mem ..))⟩
  · exact ⟨.reply .., rfl⟩

theorem State.respond_canonical {s : State} (h : s.memoryCanonical) (l : Nat) (b : List Byte) (p : Bool) : (s.respond l b p).memoryCanonical := by
  unfold State.respond
  dsimp only
  split
  · exact State.reply_canonical (State.portInjectBit_canonical (s := s.modHostLink l (fun k => { k with armPoison := false })) h l) _
  · exact h

theorem State.hostStore_touched (s : State) (a : Nat) (b : List Byte) (p : Bool) : MemTouched s (s.hostStore a b p) := by
  unfold State.hostStore
  dsimp only
  have k : MemTouched s ((s.storeBytes a b).reply .done) := (MemTouched.storeBytes s a b).trans (.reply ..)
  split
  · exact k.trans (.poisonWords ..)
  · exact k

theorem State.hostStore_canonical {s : State} (h : s.memoryCanonical) (a : Nat) (b : List Byte) (p : Bool) : (s.hostStore a b p).memoryCanonical := by
  unfold State.hostStore
  dsimp only
  have k : ((s.storeBytes a b).reply .done).memoryCanonical := State.storeBytes_canonical h a b
  split
  · exact State.poisonWords_canonical k ..
  · exact k

theorem State.byteAt_hostStore_other (s : State) (a j : Nat) (b : List Byte) (p : Bool)
    (h : j < (s.memKey a).getD 0 ∨ (s.memKey a).getD 0 + b.length ≤ j) : (s.hostStore a b p).byteAt j = s.byteAt j := by
  unfold State.hostStore
  dsimp only
  have k : ((s.storeBytes a b).reply .done).byteAt j = s.byteAt j := State.byteAt_storeBytes_other s a j b h
  split
  · exact (State.byteAt_of_mem (State.poisonWords_mem ..) j).trans k
  · exact k

/-- A store where no memory is leaves every byte. -/
theorem State.byteAt_hostStore_nowhere (s : State) (a j : Nat) (b : List Byte) (p : Bool) (e : s.memKey a = none) :
    (s.hostStore a b p).byteAt j = s.byteAt j := by
  have q : (s.storeBytes a b).byteAt j = s.byteAt j := by
    unfold State.storeBytes
    split
    · rename_i m
      have z : b.length = 0 := by
        unfold State.mapped at m
        rw [e] at m
        simpa using m
      exact (State.byteAt_writeMem_other _ _ _ _ _ (by omega)).trans (State.byteAt_of_mem (s.breakResv_cores ..).mem j)
    · rfl
  have k : ((s.storeBytes a b).reply .done).byteAt j = s.byteAt j := q
  unfold State.hostStore
  dsimp only
  split
  · exact (State.byteAt_of_mem (State.poisonWords_mem ..) j).trans k
  · exact k

/-- What serving an access may change (R362, R376, R377). -/
theorem State.serve_touched (s : State) (x : HeldAccess) : MemTouched s (s.serve x) := by
  have ld (t : State) (l : List Byte) (bad : Bool) (e : (if s.agentMapped x.agent x.addr x.n then s.loadBytes x.addr x.n else none) = some (t, l, bad)) :
      MemTouched s t := by
    split at e
    · unfold State.loadBytes at e
      split at e
      · rw [show t = (s.readMem _ x.n).1 from (congrArg Prod.fst (Option.some.inj e)).symm]; exact .readMem ..
      · cases e
    · cases e
  unfold State.serve
  split
  · split
    · exact s.hostStore_touched ..
    · exact .unmappedOutcome ..
  · split
    · rename_i e _; exact (ld _ _ _ e).trans (State.respond_touched ..).1
    · rename_i e _
      refine ((ld _ _ _ e).trans ?_).trans (.reply ..)
      split
      · exact State.poisonTrap_touched ..
      · exact .refl _
    · rename_i e _ _; exact (ld _ _ _ e).trans (.reply ..)
    · exact .unmappedOutcome ..

/-- Serving an access keeps memory canonical. -/
theorem State.serve_canonical {s : State} (h : s.memoryCanonical) (x : HeldAccess) : (s.serve x).memoryCanonical := by
  have ld (t : State) (l : List Byte) (bad : Bool) (e : (if s.agentMapped x.agent x.addr x.n then s.loadBytes x.addr x.n else none) = some (t, l, bad)) :
      t.memoryCanonical := by
    split at e
    · unfold State.loadBytes at e
      split at e
      · rw [show t = (s.readMem _ x.n).1 from (congrArg Prod.fst (Option.some.inj e)).symm]; exact State.readMem_canonical h ..
      · cases e
    · cases e
  unfold State.serve
  split
  · split
    · exact State.hostStore_canonical h ..
    · exact State.unmappedOutcome_canonical h ..
  · split
    · rename_i e _; exact State.respond_canonical (ld _ _ _ e) ..
    · rename_i e _
      refine State.reply_canonical ?_ _
      split
      · exact State.poisonTrap_canonical (ld _ _ _ e) ..
      · exact ld _ _ _ e
    · rename_i e _ _; exact State.reply_canonical (ld _ _ _ e) _
    · exact State.unmappedOutcome_canonical h ..

/-- A read leaves every byte as it is. -/
theorem State.serve_read_mem (s : State) (x : HeldAccess) (w : x.write = none) : (s.serve x).mem = s.mem := by
  have ld (t : State) (l : List Byte) (bad : Bool) (e : (if s.agentMapped x.agent x.addr x.n then s.loadBytes x.addr x.n else none) = some (t, l, bad)) :
      t.mem = s.mem := by
    split at e
    · unfold State.loadBytes at e
      split at e
      · rw [show t = (s.readMem _ x.n).1 from (congrArg Prod.fst (Option.some.inj e)).symm]; exact State.readMem_mem ..
      · cases e
    · cases e
  unfold State.serve
  rw [w]
  dsimp only
  split
  · rename_i e _; exact (State.respond_touched ..).2.trans (ld _ _ _ e)
  · rename_i e _
    rw [State.reply_mem]
    split
    · exact ((State.coreTrap_mem ..).trans (State.raise_mem _ _)).trans (ld _ _ _ e)
    · exact ld _ _ _ e
  · rename_i e _ _; exact (State.reply_mem ..).trans (ld _ _ _ e)
  · exact State.unmappedOutcome_mem ..

/-- A write leaves every byte outside the bytes it stores to. -/
theorem State.byteAt_serve_other (s : State) (x : HeldAccess) (b : List Byte) (w : x.write = some b) (j : Nat)
    (h : ∀ k, s.memKey x.addr = some k → j < k ∨ k + b.length ≤ j) : (s.serve x).byteAt j = s.byteAt j := by
  unfold State.serve
  rw [w]
  dsimp only
  split
  · cases e : s.memKey x.addr with
    | some k => exact State.byteAt_hostStore_other _ _ _ _ _ (by rw [e]; exact h k e)
    | none => exact State.byteAt_hostStore_nowhere _ _ _ _ _ e
  · exact State.byteAt_of_mem (State.unmappedOutcome_mem ..) j

/-! ## An access that may cross the causeway (R478) -/

theorem State.landMark_reported (s : State) (h n : Nat) : Reported s (s.landMark h n) := by
  unfold State.landMark State.each
  simp only [List.foldl_cons, List.foldl_nil]
  have a (k : Nat) (t : State) : Reported t (if t.fld (F.CSW_LAND_HIGH k h) < n then t.setFld (F.CSW_LAND_HIGH k h) n else t) := by
    split
    · exact .setFld ..
    · exact .refl t
  exact (a 0 s).trans (a 1 _)

theorem State.showLand_reported (s : State) (h : Nat) : Reported s (s.showLand h) := (Reported.setFld ..).trans (.setFld ..)

/-- A request that waits alone while the causeway carries nothing goes on waiting. -/
theorem State.pumpReq_still {u : State} {g : Nat} (o : (u.cswHalf g).reqOut.length = 1) (l : (u.cswHalf (1 - g)).reqLand = [])
    (c : u.tokensCross = false) : u.pumpReq g = u.showLand (1 - g) := by
  have a : u.landOne g = u := by
    unfold State.landOne
    split
    · rfl
    · simp [c]
  have b : u.enterOne (1 - g) = u := by
    unfold State.enterOne
    rw [l]
  unfold State.pumpReq
  simp only [o, l, List.length_nil, Nat.add_zero, Nat.one_ne_zero, if_false]
  rw [show List.range 1 = [0] from rfl, List.foldl_cons, List.foldl_nil, a, b]

/-- With nothing waiting to cross, a request whose half always has room is served, or waits alone. -/
theorem State.sendReq_quiet {s : State} (q : s.crossQuiet = true) {g h : Nat} (hg : g < 2) (p : CrossReq) (room : ∀ t : State, t.reqRoom h p = true) :
    s.sendReq g h p = s.serveReq h p ∨ s.sendReq g h p = (s.landMark h 1).serveReq h p ∨
      s.sendReq g h p = ((if p.asker.isSome then s.reply .stalled else s).modCswHalf g (fun k => { k with reqOut := k.reqOut ++ [p] })).showLand (1 - g) := by
  have e : ∀ k, k < 2 → (s.cswHalf k).reqOut = [] ∧ (s.cswHalf k).reqLand = [] := by
    intro k hk
    simpa using List.all_eq_true.mp q k (List.mem_range.mpr hk)
  unfold State.sendReq
  split
  · exact .inl rfl
  · rw [room s, Bool.and_true]
    split
    · exact .inr (.inl rfl)
    · right; right
      rename_i n
      have c : s.tokensCross = false := by simpa [State.crossFree, (e g hg).1, (e (1 - g) (by omega)).2] using n
      have ne : 1 - g ≠ g := by omega
      have u : ∀ u : State, (∀ k, u.cswHalf k = s.cswHalf k) → u.tokensCross = false →
          (u.modCswHalf g fun k => { k with reqOut := k.reqOut ++ [p] }).pumpReq g =
            (u.modCswHalf g fun k => { k with reqOut := k.reqOut ++ [p] }).showLand (1 - g) := by
        intro u ku cu
        refine State.pumpReq_still ?_ ?_ cu
        · rw [State.modCswHalf, State.cswHalf_setCswHalf_same, ku, (e g hg).1]; rfl
        · rw [State.modCswHalf, State.cswHalf_setCswHalf_other _ _ _ _ ne, ku, (e (1 - g) (by omega)).2]
      refine u _ (fun k => ?_) ?_
      · split <;> rfl
      · split <;> exact c

theorem State.region_half (s : State) {a h o : Nat} (r : s.region a = .scratch h o ∨ s.region a = .hbm h o) : h < 2 := by
  unfold State.region at r
  repeat' split at r
  all_goals simp at r
  all_goals omega

/-- The landing buffers' marks move no memory. -/
theorem State.memKey_landMark (s : State) (h n a : Nat) (hh : h < 2) : (s.landMark h n).memKey a = s.memKey a := by
  have one (t : State) (k : Nat) (hk : k < 2) :
      ∀ g : Fld, (g = F.MEM_LAG_PART_SCRATCH 0 ∨ g = F.MEM_LAG_PART_SCRATCH 1 ∨ g = F.MEM_HBM_STATUS_STATE 0 ∨ g = F.MEM_HBM_STATUS_STATE 1) →
      (if t.fld (F.CSW_LAND_HIGH k h) < n then t.setFld (F.CSW_LAND_HIGH k h) n else t).fld g = t.fld g := by
    intro g hg
    split
    · refine State.fld_setFld_other _ _ _ _ ?_
      rcases hg with rfl | rfl | rfl | rfl <;> simp only [R.CSW_LAND, R.MEM_LAG_PART, R.MEM_HBM_STATUS] <;> omega
    · rfl
  have e : ∀ g : Fld, (g = F.MEM_LAG_PART_SCRATCH 0 ∨ g = F.MEM_LAG_PART_SCRATCH 1 ∨ g = F.MEM_HBM_STATUS_STATE 0 ∨ g = F.MEM_HBM_STATUS_STATE 1) →
      (s.landMark h n).fld g = s.fld g := by
    intro g hg
    unfold State.landMark State.each
    simp only [List.foldl_cons, List.foldl_nil]
    rw [one _ 1 (by omega) g hg, one _ 0 (by omega) g hg]
  have a0 := e _ (.inl rfl)
  have a1 := e _ (.inr (.inl rfl))
  have a2 := e _ (.inr (.inr (.inl rfl)))
  have a3 := e _ (.inr (.inr (.inr rfl)))
  have b : ∀ k, k < 2 → (s.landMark h n).scratchBytes k = s.scratchBytes k := by
    intro k hk
    have : k = 0 ∨ k = 1 := by omega
    rcases this with rfl | rfl <;> simp only [State.scratchBytes, a0, a1]
  have m0 : (s.landMark h n).stackMapped 0 = s.stackMapped 0 := by unfold State.stackMapped; rw [a2]
  have m1 : (s.landMark h n).stackMapped 1 = s.stackMapped 1 := by unfold State.stackMapped; rw [a3]
  have r : (s.landMark h n).region a = s.region a := by
    unfold State.region
    rw [b 0 (by omega), b 1 (by omega), m0, m1]
  unfold State.memKey
  rw [r]
  cases q : s.region a <;> simp only
  rename_i k o
  rw [b k (s.region_half (.inl q))]

/-- What an access may change. -/
theorem State.access_touched (s : State) (x : HeldAccess) : MemTouched s (s.access x) := by
  unfold State.access
  split
  · exact MemTouched.trans (t := s.modPartJob _ _) rfl (.reply ..)
  · exact s.serve_touched x

theorem State.access_canonical {s : State} (h : s.memoryCanonical) (x : HeldAccess) : (s.access x).memoryCanonical := by
  unfold State.access
  split
  · exact State.reply_canonical (s := s.modPartJob _ _) h _
  · exact State.serve_canonical h x

theorem State.access_read_mem (s : State) (x : HeldAccess) (w : x.write = none) : (s.access x).mem = s.mem := by
  unfold State.access
  split
  · rfl
  · exact s.serve_read_mem x w

theorem State.byteAt_access_other (s : State) (x : HeldAccess) (b : List Byte) (w : x.write = some b) (j : Nat)
    (h : ∀ k, s.memKey x.addr = some k → j < k ∨ k + b.length ≤ j) : (s.access x).byteAt j = s.byteAt j := by
  unfold State.access
  split
  · rfl
  · exact s.byteAt_serve_other x b w j h

/-- With nothing waiting to cross, an access that may cross is made, or waits with nothing else changed but the answer and the marks. -/
theorem State.accessMem_quiet {s : State} (q : s.crossQuiet = true) (x : HeldAccess) :
    (∃ t, Reported s t ∧ (∀ a, t.memKey a = s.memKey a) ∧ s.accessMem x = t.access x) ∨
      (MemTouched s (s.accessMem x) ∧ (s.accessMem x).mem = s.mem ∧ (s.accessMem x).poison = s.poison ∧ (s.accessMem x).flips = s.flips) := by
  have ha : agentHalf x.agent < 2 := by
    cases x.agent <;> simp only [agentHalf] <;> omega
  have go (g : Nat) (hg : g < 2) : (∃ t, Reported s t ∧ (∀ a, t.memKey a = s.memKey a) ∧ s.sendReq (agentHalf x.agent) g (.mem x) = t.access x) ∨
      (MemTouched s (s.sendReq (agentHalf x.agent) g (.mem x)) ∧ (s.sendReq (agentHalf x.agent) g (.mem x)).mem = s.mem ∧
        (s.sendReq (agentHalf x.agent) g (.mem x)).poison = s.poison ∧ (s.sendReq (agentHalf x.agent) g (.mem x)).flips = s.flips) := by
    rcases State.sendReq_quiet q ha (.mem x) (fun _ => rfl) (h := g) with e | e | e
    · exact .inl ⟨s, .refl s, fun _ => rfl, e⟩
    · exact .inl ⟨_, s.landMark_reported g 1, fun a => s.memKey_landMark g 1 a hg, e⟩
    · right
      rw [e]
      have r := State.showLand_reported ((s.reply .stalled).modCswHalf (agentHalf x.agent) (fun k => { k with reqOut := k.reqOut ++ [.mem x] })) (1 - agentHalf x.agent)
      have m : MemTouched s ((s.reply .stalled).modCswHalf (agentHalf x.agent) (fun k => { k with reqOut := k.reqOut ++ [.mem x] })) := rfl
      exact ⟨m.trans r.ecc.touched, r.mem, r.poison, r.flips⟩
  unfold State.accessMem
  split
  · rename_i g o r; exact go g (s.region_half (.inl r))
  · rename_i g o r; exact go g (s.region_half (.inr r))
  · exact .inl ⟨s, .refl s, fun _ => rfl, rfl⟩

/-- What a row of an agent may change: what its effect changes, or the answer alone (R397). -/
theorem MemTouched.fromAgent {s t : State} (k : MemTouched s t) (a : Agent) : MemTouched s (s.fromAgent a t) := by
  unfold State.fromAgent
  split
  · exact .reply ..
  · exact k

theorem State.fromAgent_canonical {s t : State} (h : s.memoryCanonical) (k : t.memoryCanonical) (a : Agent) : (s.fromAgent a t).memoryCanonical := by
  unfold State.fromAgent
  split
  · exact State.reply_canonical h _
  · exact k

theorem State.accessMem_touched {s : State} (q : s.crossQuiet = true) (x : HeldAccess) : MemTouched s (s.accessMem x) := by
  rcases State.accessMem_quiet q x with ⟨t, r, _, e⟩ | ⟨m, _⟩
  · rw [e]; exact r.ecc.touched.trans (t.access_touched x)
  · exact m

theorem State.accessMem_canonical {s : State} (q : s.crossQuiet = true) (h : s.memoryCanonical) (x : HeldAccess) : (s.accessMem x).memoryCanonical := by
  rcases State.accessMem_quiet q x with ⟨t, r, _, e⟩ | ⟨_, a, b, c⟩
  · rw [e]; exact State.access_canonical (r.canonical h) x
  · exact State.memoryCanonical_of h a b c

theorem State.accessMem_read_mem {s : State} (q : s.crossQuiet = true) (x : HeldAccess) (w : x.write = none) : (s.accessMem x).mem = s.mem := by
  rcases State.accessMem_quiet q x with ⟨t, r, _, e⟩ | ⟨_, a, _, _⟩
  · rw [e]; exact (t.access_read_mem x w).trans r.mem
  · exact a

/-- A write that may cross leaves every byte outside the bytes it stores to. -/
theorem State.byteAt_accessMem_other {s : State} (q : s.crossQuiet = true) (x : HeldAccess) (b : List Byte) (w : x.write = some b) (j : Nat)
    (h : ∀ k, s.memKey x.addr = some k → j < k ∨ k + b.length ≤ j) : (s.accessMem x).byteAt j = s.byteAt j := by
  rcases State.accessMem_quiet q x with ⟨t, r, k, e⟩ | ⟨_, a, _, _⟩
  · rw [e]; exact (t.byteAt_access_other x b w j (by rw [k]; exact h)).trans (State.byteAt_of_mem r.mem j)
  · exact State.byteAt_of_mem a j

end Sys2Proof.Machine
end

