-- ==== Sys2Proof/Laws/Protocol.lean ====
section
/-! SUPPORT. What delivering a Cykai command comes to (R508 to R512): a command that passes every check has its effect, and one that a
check refuses changes nothing but its reply. -/

namespace Sys2Proof.Machine

theorem State.startCmd_passes {s : State} {c : Cmd} {p : Packet} {half : Nat} (h : s.passes c p half = true) :
    s.startCmd c p = ends c.opcode p half (c.run s (reqOf p half)) := by
  simp only [State.passes, Bool.and_eq_true, Bool.not_eq_true', beq_iff_eq, Option.isNone_iff_eq_none, Bool.or_eq_true] at h
  obtain ⟨⟨⟨⟨⟨⟨⟨⟨⟨⟨⟨⟨⟨_, _⟩, _⟩, _⟩, _⟩, _⟩, h7⟩, h8⟩, h9⟩, h10⟩, h11⟩, h12⟩, h13⟩, h14⟩ := h
  have e : (if c.opcode = 0x0905 then none else badHeader p) = none := by
    rcases h11 with h | h <;> simp [h]
  unfold State.startCmd
  simp only [h7, h8, if_true]
  rw [h9]
  simp only [e]
  rw [if_neg (by simpa [reqOf] using h10)]
  simp only [reqOf] at h12 h13 h14 ⊢
  simp only [h12]
  simp only [h13]
  rw [if_neg (by simpa using h14)]
  cases c.run s ⟨p, half, indexOf p.target.toNat⟩ <;> rfl

theorem State.deliver_passes {s : State} {c : Cmd} {p : Packet} {half : Nat} (h : s.passes c p half = true) :
    s.deliver c p = ends c.opcode p half (c.run s (reqOf p half)) := by
  have k := State.startCmd_passes h
  simp only [State.passes, Bool.and_eq_true, Bool.not_eq_true', beq_iff_eq, Option.isNone_iff_eq_none, Bool.or_eq_true] at h
  obtain ⟨⟨⟨⟨⟨⟨⟨⟨⟨⟨⟨⟨⟨h1, h2⟩, h3⟩, h4⟩, h5⟩, h6⟩, _⟩, _⟩, _⟩, _⟩, _⟩, _⟩, _⟩, _⟩ := h
  simp [State.deliver, h1, h2, h3, h4, h5, h6, k]

end Sys2Proof.Machine
end

