-- ==== Sys2Proof/Tests/Slice0.lean ====
section
/-! SUPPORT. Tests of this model: well-formedness refuses an ill-formed operand for each of its checks; values of the spec's worked examples and
tables; and, for every obligation with hypotheses, a theorem that shows states and operands that meet them. -/

namespace Sys2Proof.Machine.Tests

set_option Elab.async false
set_option linter.unusedVariables false

/-! ## Well-formedness -/

theorem test_wf_register : (Instr.registerWrite (.mgmt 0) 2 0).wellFormed = false ∧ (Instr.registerWrite (.mgmt 0) 4 0).wellFormed = true := by decide
theorem test_wf_misaligned : (Instr.misalignedAccess (.mgmt 0) 4 2 true).wellFormed = false ∧
    (Instr.misalignedAccess (.mgmt 0) 4 1 true).wellFormed = true := by decide
theorem test_wf_outside : (Instr.outsideAccess (.mgmt 0) 0x01FFFFFC true).wellFormed = false ∧
    (Instr.outsideAccess (.mgmt 0) 0x02000000 true).wellFormed = true := by decide
theorem test_wf_frame : (Instr.reconfigGrant 0 (List.replicate 33 0)).wellFormed = false ∧
    (Instr.reconfigGrant 0 (List.replicate 64 0)).wellFormed = true := by decide
theorem test_wf_partialWrite : (Instr.memoryPartialWrite (.core 0) 0 (List.replicate 65 0)).wellFormed = false ∧
    (Instr.memoryPartialWrite (.core 0) 0 (List.replicate 64 0)).wellFormed = true := by decide
theorem test_wf_slot : (Instr.mailboxSlotWrite 0 (.link 0) 0 120 (List.replicate 9 0)).wellFormed = false ∧
    (Instr.mailboxSlotWrite 0 (.link 0) 0 120 (List.replicate 8 0)).wellFormed = true := by decide
theorem test_wf_sensors : (Instr.govTsenseSample 0 (List.replicate 63 0)).wellFormed = false ∧
    (Instr.govTsenseSample 0 (List.replicate 64 0)).wellFormed = true := by decide
theorem test_wf_preload : (Instr.samplePreload (List.replicate 385 false)).wellFormed = false := by decide +kernel
theorem test_wf_extest : (Instr.extest (List.replicate 385 false)).wellFormed = false := by decide +kernel
theorem test_wf_fragment : (Instr.vdmFragment 0 0 0 0 0 0 (List.replicate 4097 0)).wellFormed = false := by decide +kernel
theorem test_wf_packet : (Instr.dxNop).wellFormed = true ∧
    (Instr.nopCommand { via := .slave, version := 1, flags := 0, seq := 0, target := 0, plen := 9, zeros := 0, params := List.replicate 9 0 }).wellFormed = false := by
  decide

/-! ## The spec's own values -/

/-- No row of the table has bits. -/
theorem test_decodeTableWord : decodeTableWord 0 0 = none ∧ decodeTableWord 32 0x13 = none := by decide
/-- CRC-32 of R251: the standard check value over the ASCII digits 1 to 9. -/
theorem test_crc32 : crc32 [0x31, 0x32, 0x33, 0x34, 0x35, 0x36, 0x37, 0x38, 0x39] = 0xCBF43926 := by decide +kernel
/-- The correlator of 05_rake_datapath.md: segments 1 to 3 of its table. -/
theorem test_shifted : shifted 16 27487790694 = 419430 ∧ shifted 20 27487790694 = 26214 ∧ shifted 20 3435973836 = 3276 := by decide
/-- Its negative sum: a right shift rounds toward minus infinity. -/
theorem test_shifted_negative : shifted 20 (-27487790695) = -26215 ∧ headroom 18 (-26215) = 2 := by decide +kernel
/-- Its headrooms. -/
theorem test_headroom : headroom 18 419430 = -2 ∧ headroom 18 26214 = 2 ∧ headroom 18 3276 = 5 := by decide +kernel
/-- Its clipped output. -/
theorem test_narrow : narrow 18 419430 = 131071 := by decide
/-- A0 returns to 0 after a block of 1,024 words (R178). -/
theorem test_nextAddr : nextAddr 1023 1024 1 = 0 ∧ nextAddr 0 1024 1 = 1 := by decide
/-- The index sum of 10_lagoon_and_hbm.md's example, less the line not visited. -/
theorem test_fullSum : fullSum 262144 - 1000 = 0xFFFDFC18 := by decide
/-- The FINE mapping of 10_lagoon_and_hbm.md's example: x = 0x12_3456 (R370). -/
theorem test_hbmPlace : hbmPlace 0 0x123456 = (5, 37206) ∧ hbmChannel 5 = (2, 1) := by decide +kernel
/-- Token tags compare by the serial-number rule (R40). -/
theorem test_tagOlder : tagOlder 0xFFFFFFFF 0 = true ∧ tagOlder 0 0xFFFFFFFF = false ∧ tagOlder 7 7 = false := by decide
/-- The calendar of R685. -/
theorem test_monthDays : monthDays 2000 2 = 29 ∧ monthDays 2100 2 = 28 ∧ monthDays 2024 2 = 29 ∧ monthDays 2023 11 = 30 := by decide
/-- The run costs of the placement example of 08_dataflow_scheduler.md, in ns. -/
theorem test_runCost : runCost 20000000 1840 = 10870 ∧ runCost 20000000 1860 = 10753 ∧ runCost 20000000 1800 = 11112 := by decide
/-- The cycle times of the governor's example. -/
theorem test_cycleTenths : cycleTenths 900 = 4400 ∧ cycleTenths 890 = 4500 ∧ cycleTenths 880 = 4600 := by decide
/-- The image's preamble CRC, its frames and the reset phase stand as R713 and R715 say. -/
theorem test_reset : State.reset.phase = 0 ∧ State.reset.pending = [] := by decide

/-! ## States for the witnesses -/

/-- The reset state with these fields written. -/
def St (l : List (Fld × Nat)) : State := State.reset.setFlds l

/-- A state in USER with pan 0 loaded and its sluice open. -/
def wRun : State := (St [(F.RST_STATUS_STATE, 7), (F.PAN_IMAGE_ID_VALID 0, 1), (F.PAN_SLUICE_STATUS_STATE 0, 0), (F.PAN_PWR_STATUS_STATE 0, 0)])
/-- Grain 0 is a LUT6 grain whose one input, the output of grain 1, holds a one. -/
def wGrain : State := (wRun.setGrain 0 { mode := .lut6, inputs := [some (2 * 128)], table := 2 }).setChan 2 { word := [.one] }
/-- Grain 0's output is acknowledged by its receiver, and its input has returned. -/
def wGrainOut : State := (wRun.setGrain 0 { mode := .lut6, inputs := [some (2 * 128)], table := 2 }).setChan 0 { word := [.one], acks := [7], high := true }
/-- Grain 0 is a MUTEX grain with its first request raised. -/
def wMutex : State := (wRun.setGrain 0 { mode := .mutex, inputs := [some (2 * 128), some (4 * 128)] }).setChan 2 { word := [.one] }
/-- Rake 0 runs in USER with this program at its pc. -/
def wRake (l : List (Nat × Nat)) : State := (wRun.setFlds [(runBit 0, 1), (activeBit 0, 1)]).setRake 0 { prog := l }
/-- A whole frame: its header fields, its payload, its CRC and zeros. -/
def wFrame (ty pan seq addr : Nat) (p : List Byte) : List Byte :=
  let head := leBytes 1 ty ++ leBytes 1 0 ++ leBytes 2 pan ++ leBytes 4 seq ++ leBytes 4 addr ++ leBytes 4 p.length ++ List.replicate 16 0
  head ++ p ++ leBytes 4 (crc32 (fHead head ++ p)) ++ List.replicate 28 0
/-- A HEADER frame of an image of two frames for pan 1. -/
def wHeader : List Byte := wFrame 1 1 0 0 (leBytes 2 1 ++ leBytes 2 9 ++ leBytes 4 2 ++ List.replicate 248 0)
/-- The agent's HEADER frame has the port of half 0. -/
def wAgent (f : List Byte) : State := (wRun.setAgentFrame 0 f).setGranted 0 7
/-- The agent's load of pan 1 is accepted, and its next frame has the port. -/
def wAgentLoad (j : LoadJob) (f : List Byte) : State := (wAgent f).setLoad 2 (some { j with pan := 1, accepted := true })
/-- An END frame of an image of two frames with nothing between. -/
def wEnd : List Byte := wFrame 15 1 1 0 (leBytes 4 2 ++ leBytes 4 (crc32 []) ++ List.replicate 24 0)
/-- A load whose one frame left is END. -/
def wEndJob : LoadJob := { pan := 1, accepted := true, taken := 1, frames := 2, sigOk := some true, digest := Config.sha384 (fHead wEnd ++ fPayload wEnd ++ fTrailer wEnd) }
set_option maxRecDepth 20000 in
theorem end_passes : endCause wEndJob wEnd = none := by
  have h : (wEndJob.note wEnd false).digested = fHead wEnd ++ fPayload wEnd ++ fTrailer wEnd := by decide +kernel
  have h1 : numAt (fPayload wEnd) 0 4 = 2 := by decide +kernel
  have h2 : numAt (fPayload wEnd) 4 4 = crc32 [] := by decide +kernel
  simp only [endCause, h, h1, h2]
  simp [wEndJob, LoadJob.note, LoadJob.preloadOver]
/-- Queue block 0 of pan 0 holds one word: an OUT queue and an IN queue, bound to core 0. -/
def wQOut : State := wRun.setQueue 0 { kind := 1, seg0 := { words := [{ data := 9, vb := 8, last := true }], wptr := 1 } }
def wQIn : State := wQOut.setFld (F.PAN_QB_CTL_DIR 0 0) 1
/-- A queue bound to the scheduler that holds the first word of a completion packet. -/
def wQComp : State := wRun.setQueue 0 { kind := 2, seg0 := { words := [{ data := 9, vb := 8 }], wptr := 1 } }
/-- A dispatch with one word left to push into queue block 0. -/
def wRec : Record := { number := 3, graph := 1, node := 1, tag := 0, inputs := [], unsent := [7] }
def wDisp : State := ((wRun.setFld (F.PAN_QB_CTL_DIR 0 0) 1).setQueue 0 { kind := 2 }).modSched 0 fun c => { c with records := [wRec] }
/-- A link with one token in transit. -/
def wLink : Link := { id := 7, srcGraph := 1, srcNode := 1, srcPort := 0, dstGraph := 2, dstNode := 1, dstPort := 0, prio := 0, transit := [{ tag := 5 }] }
/-- Core 0 runs in machine mode. -/
def wCore : State := wRun.modCore 0 fun k => { k with live := true, prv := 3 }
def wAssembly : Assembly := { requester := 1, xid := 2 }
/-- The first 64 KB of stack 0 exposed at DPA 0, kind HDM-H. -/
def wExtent : Extent := { dpa := 0, len := 0x10000, off := 0, half := 0, kind := 0 }
/-- Link 0 is up with CXL, and its port is enabled with personality TYPE2. -/
def wUp : State := wRun.setFlds [(F.LINK_STATUS_STATE 0 0, 2), (F.PORT_CTL_EN 0, 1), (F.PORT_CTL_PERS 0, 2), (F.LINK_STATUS_CXL 0 0, 1), (F.LINK_STATUS_FRAMING 0 0, 1)]
def wWarm : State := { State.reset with warm := some { began := 0, keep := false, halves := [0] } }
def wFlush : FlushJob := { items := 0, en := false, port := 0, link := 0 }
def wTable : TableJob := { entries := [], tag := 7, lab := true }
/-- Link 0 exposes the first 64 KB of stack 0 with kind HDM-DB, and serves it. -/
def wExp : State := wUp.modHostLink 0 fun x => { x with extents := [{ wExtent with kind := 2 }] }
/-- The line of that extent, and host memory's first line. -/
def wLine : BitVec 58 := BitVec.ofNat 58 (HBM_BASE 0 / 64)
def wHost : BitVec 58 := BitVec.ofNat 58 (HOST_BASE / 64)
/-- The route of half 0 goes over link 0. -/
def wRoute : State := wUp.setFlds [(F.PORT_ROUTE_EN 0, 1)]
/-- Causeway group 0 is UP in both halves' registers. -/
def wCsw : State := (((State.reset.setGroup 0 0).setGroup 1 2).setGroup 2 2).setGroup 3 2
def wBeat : Beat := { policy := true, bothOk := true, thermal := false, zeroize := false }
/-- The first frame of an image of two frames and 640 bytes with no pans, and a state that waits for it on the slave port. -/
def wDevice : List Byte := wFrame 0x10 0xFFFF 0 0 (leBytes 2 2 ++ leBytes 2 0 ++ leBytes 4 7 ++ leBytes 4 2 ++ leBytes 4 0 ++ leBytes 8 640 ++ List.replicate 488 0)
def wWait : State := St [(F.RST_STATUS_STATE, 2), (F.CFG_STATUS_MODE, 0)]
/-- The image is being loaded, with plenty of bytes left. -/
def wImage : State := { St [(F.RST_STATUS_STATE, 3), (F.CFG_STATUS_STATE, 3), (F.CFG_STATUS_MODE, 0)] with image := { index := 1, bytes := 100000, taken := 576, frames := 9 } }
def wGlobal : List Byte := wFrame 0x11 0xFFFF 1 2 (leBytes 4 (16 * 2 ^ 15) ++ leBytes 4 (16 * 2 ^ 15) ++ List.replicate 24 0)
def wPanHead : List Byte := wFrame 1 3 0 0 (leBytes 2 1 ++ leBytes 2 9 ++ leBytes 4 2 ++ List.replicate 248 0)
def wDeviceEnd : List Byte := wFrame 0x1F 0xFFFF 1 0 (List.replicate 32 0)
/-- An encrypted image with a frame in its running segment, and that segment's tag frame. -/
def wEncImage : State := { wImage with image := { wImage.image with encrypted := true, segFrames := 1 } }
def wSegtag : List Byte := wFrame 9 0xFFFF 1 0 (List.replicate 32 0)
/-- The module serves. -/
def wSec : State := St [(F.RST_STATUS_STATE, 7), (F.SEC_STATUS_STATE, 1), (F.LINK_STATUS_STATE 0 0, 2)]
/-- An image whose checks have passed, with every memory filled and every stack ready. -/
def wVerified : State := (((({ St [(F.RST_STATUS_STATE, 4), (F.MEM_HBM_STATUS_STATE 0, 1), (F.MEM_HBM_STATUS_STATE 1, 1), (F.GOV_STATUS_VFAB_MV 0, 800), (F.GOV_STATUS_VFAB_MV 1, 800)] with image := { ended := true, sigOk := some true } }).setFillDone 0 true).setFillDone 1 true).setFillDone 2 true).setFillDone 3 true
/-- A slice in a phase. -/
def wSlice (k : Nat) : Slice := { phase := k }
/-- Pan 0 has an image with a golden signature, no floor and no FLOP. -/
def wTestable : State := (wRun.setFld (F.PAN_ISLAND_STATUS_FLOOR 0) 0xFF).modPan 0 fun p => { p with golden := some 5 }
/-- A packet with these parameters, its PLEN their number. -/
def wPacket (via : Transport) (target : Nat) (params : List Byte) : Packet :=
  { via := via, version := 1, flags := 0, seq := 7, target := BitVec.ofNat 16 target, plen := BitVec.ofNat 32 params.length, zeros := 0, params := params ++ List.replicate ((8 - params.length % 8) % 8) 0 }
/-- The bytes of a NOP. -/
def wNopBytes : List Byte := leBytes 1 1 ++ leBytes 1 0 ++ leBytes 2 0 ++ leBytes 2 7 ++ leBytes 2 0 ++ leBytes 4 0 ++ List.replicate 20 0
/-- A frame that carries a NOP. -/
def wNopFrame : List Byte := wFrame 0x20 0xFFFF 0 0 wNopBytes
/-- A debugger is attached with every bit of its scope, and core 0 is halted. -/
def wDebug : State := wCore.setFld (F.TCORE_CTL_HALTED 0) 1
/-- Graph 0 is started and has node 1, which has one input port and one output port; the scheduler of half 0 runs. -/
def wGraph : State := ((wRun.setFld (F.SCHED_CTL_EN 0) 1).setGraph 0 (some { home := 0, started := true, ids := [1] })).setNode 0 1 { ins := [{ depth := 4 }], outs := [{}] }
/-- A second graph like it. -/
def wGraphs : State := ((wGraph.setGraph 1 (some { home := 0, started := true, ids := [1] })).setNode 1 1 { ins := [{ depth := 4 }], outs := [{}] }).setFld (F.MEM_LAG_PART_TOKEN 0) 8
/-- The security module serves in USER. -/
def wModule : State := wRun.setFld F.SEC_STATUS_STATE 1
/-- Stack 0 is ready. -/
def wStack : State := wRun.setFld (F.MEM_HBM_STATUS_STATE 0) 1
/-- A LONG command outstanding on the side-band bus. -/
def wJob : Job := { opcode := 0x0801, via := .sideband, seq := 3, half := 0, total := 1 }
/-- Queue blocks 0 and 1 of pan 0 are the ends of core 0 that a coprocessor binding takes. -/
def wBindable : State := ((wRun.setFld (F.PAN_QB_CTL_DIR 0 0) 1).setQueue 0 { kind := 1, width := 2, hiWords := 256 }).setQueue 1 { kind := 1, width := 2 }
/-- The first page of stack 0 is exposed as HDM-D. -/
def wBiased : State := wUp.modHostLink 0 fun x => { x with extents := [{ wExtent with kind := 1 }] }

/-! ## The hypotheses of each obligation are met -/

set_option maxRecDepth 20000 in
theorem witness_GrainPhases :
    (∃ g : Fin 8388608, ∃ s : State, (s.tokensMove (panOfGrain g) = true) ∧ ((s.grain g).mode = .lut6) ∧ (s.mayEvaluate g (s.grain g) = true)) ∧
    (∃ g : Fin 8388608, ∃ s : State, (s.tokensMove (panOfGrain g) = true) ∧ ((s.grain g).mode = .lut6) ∧ (s.outputsAcked g (s.grain g) = true) ∧ (s.inputsEmpty (s.grain g) = true)) ∧
    (∃ g : Fin 4194304, ∃ s : State, (s.tokensMove (panOfGrain g) = true) ∧ ((s.grain g).mode = .mutex) ∧ ((s.heldOf g).grant = 0) ∧ ((s.heldOf g).owed = 0) ∧ (s.requested g 0 = true) ∧ (s.requested g 1 = false)) ∧
    (∃ i : Fin 32, ∃ s : State, (s.treeRuns i = true) ∧ (s.treeHigh i = false)) ∧
    (∃ i : Fin 32, ∃ s : State, (s.awake = true) ∧ (s.treeHigh i = true)) :=
  ⟨⟨0, wGrain, by decide +kernel⟩,
    ⟨0, wGrainOut, by decide +kernel⟩,
    ⟨0, wMutex, by decide +kernel⟩,
    ⟨0, St [(F.RST_STATUS_STATE, 7), (F.CLK_FTREE_CFG_EN 0, 1), (F.CLK_FTREE_CFG_DIV 0, 1)], by decide +kernel⟩,
    ⟨0, (St [(F.RST_STATUS_STATE, 7)]).setTreeHigh 0 true, by decide +kernel⟩⟩

set_option maxRecDepth 20000 in
theorem witness_FabricEvents :
    (∃ n : Fin 256, ∃ wp : Fin 512, ∃ k : Nat, ∃ s : State, (s.fld (F.PAN_STALL_CFG_THRESH_US n) ≠ 0) ∧ (s.suspended n wp = false) ∧ (s.watched n wp = some k) ∧ (s.pointPhase n wp k ≠ 0) ∧ ((s.chan k).told.contains (n.val * 512 + wp.val) = false)) ∧
    (∃ n : Fin 256, ∃ wp : Fin 512, ∃ same : SameCycle, ∃ s : State, (same.clear = true)) ∧
    (∃ n : Fin 256, ∃ wp : Fin 512, ∃ same : SameCycle, ∃ s : State, (same.clear = false)) ∧
    (∃ n : Fin 256, ∃ wp : Fin 512, ∃ s : State, (424 ≤ wp.val)) ∧
    (∃ n : Fin 256, ∃ wp : Fin 512, ∃ k : Nat, ∃ s : State, ((s.setFlds [(F.PAN_STALL_CFG_INJECT n, 0), (F.PAN_STALL_CFG_INJ_POINT n, wp)]).watched n wp = some k) ∧ ((s.setFlds [(F.PAN_STALL_CFG_INJECT n, 0), (F.PAN_STALL_CFG_INJ_POINT n, wp)]).pointPhase n wp k ≠ 0)) ∧
    (∃ n : Fin 256, ∃ wp : Fin 512, ∃ k : Nat, ∃ s : State, ((s.setFlds [(F.PAN_STALL_CFG_INJECT n, 0), (F.PAN_STALL_CFG_INJ_POINT n, wp)]).watched n wp = some k) ∧ ((s.setFlds [(F.PAN_STALL_CFG_INJECT n, 0), (F.PAN_STALL_CFG_INJ_POINT n, wp)]).pointPhase n wp k = 0)) ∧
    (∃ i : Fin 384, ∃ s : State, (s.awake = true) ∧ (s.fabricPin i = true) ∧ (s.power (panOfPin i) = 0) ∧ ((s.pinChan i).kind = 1) ∧ ((s.chan (chanOfPin i false)).idle = true)) ∧
    (∃ i : Fin 384, ∃ v : Bool, ∃ s : State, ((s.drivers (chanOfPin i true)) = []) ∧ ((s.pinChan i).kind = 3) ∧ (s.tokensMove (panOfPin i) = true) ∧ (s.sluice (panOfPin i) = OPEN) ∧ (s.fabricPin i = true)) ∧
    (∃ g : Fin 8388608, ∃ o : Fin 2, ∃ s : State, (s.power (panOfGrain g) = 0)) :=
  ⟨⟨0, 0, chanOfPoint 0 0, ((St [(F.PAN_STALL_CFG_THRESH_US 0, 1)]).setFlds [(F.PAN_SLUICE_STATUS_STATE 0, 0), (F.PAN_PWR_STATUS_STATE 0, 0)]).setChan (chanOfPoint 0 0) { word := [.one] }, by decide +kernel⟩,
    ⟨0, 0, ⟨[3], true⟩, State.reset, by decide +kernel⟩,
    ⟨0, 0, ⟨[3], false⟩, State.reset, by decide +kernel⟩,
    ⟨0, 424, State.reset, by decide +kernel⟩,
    ⟨0, 0, chanOfPoint 0 0, State.reset.setChan (chanOfPoint 0 0) { word := [.one] }, by decide +kernel⟩,
    ⟨0, 0, chanOfPoint 0 0, State.reset, by decide +kernel⟩,
    ⟨0, (St [(F.RST_STATUS_STATE, 7), (F.PIN_CFG_FUNC 0, 9), (F.PIN_CFG_OWNER 0, 2), (F.PAN_PWR_STATUS_STATE 0, 0)]).setPinChan 0 { kind := 1 }, by decide +kernel⟩,
    ⟨0, true, (wRun.setFlds [(F.PIN_CFG_FUNC 0, 9), (F.PIN_CFG_OWNER 0, 2)]).setPinChan 0 { kind := 3 }, by decide +kernel⟩,
    ⟨0, 0, wRun, by decide +kernel⟩⟩

set_option maxRecDepth 20000 in
theorem witness_BlockMemories :
    (∃ b : Fin 8192, ∃ a : BmemAccess, ∃ s : State, (s.tokensMove (b.val / 32) = true) ∧ ((s.bmem b).reqA = []) ∧ ((s.bmem b).rspA = []) ∧ ((s.bmem b).reqB = []) ∧ (s.drivers (bmemPort b 0) = []) ∧ ((s.chan (bmemPort b 0)).complete = false) ∧ (a.write = true)) ∧
    (∃ b : Fin 8192, ∃ waited : Bool, ∃ s : State, ((s.bmem b).mode = 10) ∧ ((s.bmem b).scrubOff = false) ∧ (s.power (b.val / 32) = 0) ∧ (s.loadsPan (b.val / 32) = false) ∧ (waited = true)) ∧
    (∃ n : Fin 256, ∃ m : Fin 32, ∃ addr : BitVec 13, ∃ bit : BitVec 7, ∃ double : Bool, ∃ s : State, ((s.bmem (n.val * 32 + m.val)).mode = 0)) ∧
    (∃ n : Fin 256, ∃ m : Fin 32, ∃ addr : BitVec 13, ∃ bit : BitVec 7, ∃ double : Bool, ∃ s : State, ((s.bmem (n.val * 32 + m.val)).mode = 10) ∧ (s.power n ≠ 2) ∧ (s.loadsPan n = false) ∧ (addr.toNat < wordCount 10) ∧ (bit.toNat + bnat double < storedBits 10)) :=
  ⟨⟨0, ⟨true, 0, 0⟩, wRun, by decide +kernel⟩,
    ⟨0, true, wRun.setBmem 0 { mode := 10 }, by decide +kernel⟩,
    ⟨0, 0, 0, 0, false, State.reset, by decide +kernel⟩,
    ⟨0, 0, 0, 0, false, wRun.setBmem 0 { mode := 10 }, by decide +kernel⟩⟩

set_option maxRecDepth 20000 in
theorem witness_QueueBlocks :
    (∃ d : Fin 1024, ∃ data : Word, ∃ last : Bool, ∃ cls : Bool, ∃ null : Bool, ∃ u : QUnit, ∃ t : State, ∃ s : State, (s.fabricEnd d = .writeEnd) ∧ ((s.queue d).waiting = none) ∧ (s.writeEndPasses d = true) ∧ (s.offeredUnit d { data := data, last := last, cls := cls, null := null } = some u) ∧ (s.writeUnit d u = (t, true))) ∧
    (∃ d : Fin 1024, ∃ u : QUnit, ∃ t : State, ∃ s : State, ((s.queue d).waiting = some u) ∧ (s.writeEndPasses d = true) ∧ (s.writeUnit d u = (t, true))) ∧
    (∃ d : Fin 1024, ∃ cls : Bool, ∃ w : QWord, ∃ r : QBlock, ∃ s : State, (s.fabricEnd d = .readEnd) ∧ ((s.queue d).sync = none) ∧ (s.portFree (queuePort d 1) = true) ∧ (s.sluice (panOfQueue d) = OPEN) ∧ ((s.queue d).takeWord = some (cls, w, r))) ∧
    (∃ d : Fin 1024, ∃ a : Agent, ∃ cls : Bool, ∃ w : QWord, ∃ r : QBlock, ∃ s : State, (s.asleep (a) = false) ∧ (s.mayEnter (agentHalf a) (halfOfQueue d) = true) ∧ ((s.entering (agentHalf a) (halfOfQueue d)).queueCutOff d a = false) ∧ ((s.entering (agentHalf a) (halfOfQueue d)).mayAccess d a false = true) ∧ ((s.entering (agentHalf a) (halfOfQueue d)).fabricEnd d = .writeEnd) ∧ (((s.entering (agentHalf a) (halfOfQueue d)).queue d).sync = none) ∧ (((s.entering (agentHalf a) (halfOfQueue d)).queue d).takeWord = some (cls, w, r))) ∧
    (∃ d : Fin 1024, ∃ a : Agent, ∃ s : State, (s.asleep (a) = false) ∧ (s.mayEnter (agentHalf a) (halfOfQueue d) = true) ∧ ((s.entering (agentHalf a) (halfOfQueue d)).queueCutOff d a = false) ∧ ((s.entering (agentHalf a) (halfOfQueue d)).mayAccess d a false = true) ∧ ((s.entering (agentHalf a) (halfOfQueue d)).fabricEnd d = .writeEnd) ∧ (((s.entering (agentHalf a) (halfOfQueue d)).queue d).sync = none) ∧ (((s.entering (agentHalf a) (halfOfQueue d)).queue d).takeWord = none) ∧ ((s.entering (agentHalf a) (halfOfQueue d)).qbService d = true)) ∧
    (∃ d : Fin 1024, ∃ a : Agent, ∃ off : Fin 8, ∃ s : State, (s.asleep (a) = false) ∧ (s.mayEnter (agentHalf a) (halfOfQueue d) = true) ∧ ((s.entering (agentHalf a) (halfOfQueue d)).queueCutOff d a = false) ∧ (off.val ≠ 0) ∧ ((s.entering (agentHalf a) (halfOfQueue d)).mayAccess d a false = true)) ∧
    (∃ d : Fin 1024, ∃ rd : WindowRead, ∃ s : State, (s.asleep (rd.agent) = false) ∧ (s.isSplit (agentHalf rd.agent) = true) ∧ (s.queueCutOff d rd.agent = true)) ∧
    (∃ d : Fin 1024, ∃ a : Agent, ∃ v : Dword, ∃ t : State, ∃ s : State, (s.asleep (a) = false) ∧ (s.mayEnter (agentHalf a) (halfOfQueue d) = true) ∧ ((s.entering (agentHalf a) (halfOfQueue d)).queueCutOff d a = false) ∧ ((s.entering (agentHalf a) (halfOfQueue d)).mayAccess d a true = true) ∧ ((s.entering (agentHalf a) (halfOfQueue d)).fabricEnd d = .readEnd) ∧ ((s.entering (agentHalf a) (halfOfQueue d)).sluice (panOfQueue d) = OPEN) ∧ (((s.entering (agentHalf a) (halfOfQueue d)).queue d).pushes = []) ∧ ((s.entering (agentHalf a) (halfOfQueue d)).writeUnit d (pushUnit v 0) = (t, true))) ∧
    (∃ d : Fin 1024, ∃ u : QUnit, ∃ r : List QUnit, ∃ t : State, ∃ s : State, (s.sluice (panOfQueue d) = OPEN) ∧ ((s.queue d).pushes = u :: r) ∧ (s.writeUnit d u = (t, true))) ∧
    (∃ d : Fin 1024, ∃ u : QUnit, ∃ r : List QUnit, ∃ s : State, ((s.queue d).pushes = u :: r)) ∧
    (∃ d : Fin 1024, ∃ a : Agent, ∃ off : Fin 64, ∃ push : Bool, ∃ s : State, (s.asleep a = false)) ∧
    (∃ d : Fin 1024, ∃ a : Agent, ∃ off : Fin 64, ∃ push : Bool, ∃ s : State, (s.asleep a = false) ∧ (s.mayAccess d a push = false)) ∧
    (∃ d : Fin 1024, ∃ a : Agent, ∃ s : State, (s.asleep (a) = false) ∧ (s.mayEnter (agentHalf a) (halfOfQueue d) = true) ∧ ((s.entering (agentHalf a) (halfOfQueue d)).queueCutOff d a = false) ∧ ((s.entering (agentHalf a) (halfOfQueue d)).mayAccess d a true = true)) ∧
    (∃ d : Fin 1024, ∃ a : Agent, ∃ v : Dword, ∃ s : State, (s.asleep (a) = false) ∧ (s.mayEnter (agentHalf a) (halfOfQueue d) = true) ∧ ((s.entering (agentHalf a) (halfOfQueue d)).queueCutOff d a = false) ∧ ((s.entering (agentHalf a) (halfOfQueue d)).mayAccess d a true = true)) ∧
    (∃ d : Fin 1024, ∃ e : QEnd, ∃ s : State, ((s.queue d).sync = some e)) ∧
    (∃ d : Fin 1024, ∃ r : Rebind, ∃ x : Rebind, ∃ s : State, ((s.queue d).rebind = some x) ∧ (((s.saveWords d 1024).queue d).rebind = some r) ∧ (r.left.total = 0)) ∧
    (∃ d : Fin 1024, ∃ r : Rebind, ∃ x : Rebind, ∃ s : State, ((s.queue d).rebind = some x) ∧ (((s.saveWords d 1024).queue d).rebind = some r) ∧ (s.fabricEnd d = .writeEnd)) :=
  ⟨⟨0, 5, true, false, false, { data := 5, last := true, cls := false, null := false }, (wQOut.writeUnit 0 { data := 5, last := true, cls := false, null := false }).1, wQOut, by decide +kernel⟩,
    ⟨0, { data := 5, last := true, cls := false, null := false }, ((wQOut.modQueue 0 fun q => { q with waiting := some { data := 5, last := true, cls := false, null := false } }).writeUnit 0 { data := 5, last := true, cls := false, null := false }).1, wQOut.modQueue 0 fun q => { q with waiting := some { data := 5, last := true, cls := false, null := false } }, by decide +kernel⟩,
    ⟨0, false, { data := 9, vb := 8, last := true }, ((wQIn.queue 0).takeWord.getD (false, {}, {})).2.2, wQIn, by decide +kernel⟩,
    ⟨0, .core 0, false, { data := 9, vb := 8, last := true }, ((wQOut.queue 0).takeWord.getD (false, {}, {})).2.2, wQOut, by decide +kernel⟩,
    ⟨0, .core 0, wQOut.setQueue 0 { kind := 1 }, by decide +kernel⟩,
    ⟨0, .core 0, 3, wQOut, by decide +kernel⟩,
    ⟨0, ⟨.core 8, 0⟩, St [(F.CSW_STATUS_STATE 1, 2)], by decide +kernel⟩,
    ⟨0, .core 0, 5, (wQIn.writeUnit 0 (pushUnit 5 0)).1, wQIn, by decide +kernel⟩,
    ⟨0, { data := 5, last := true, cls := false, null := false }, [], ((wQIn.modQueue 0 fun q => { q with pushes := [{ data := 5, last := true, cls := false, null := false }] }).writeUnit 0 { data := 5, last := true, cls := false, null := false }).1, wQIn.modQueue 0 fun q => { q with pushes := [{ data := 5, last := true, cls := false, null := false }] }, by decide +kernel⟩,
    ⟨0, { data := 5, last := true, cls := false, null := false }, [], wQIn.modQueue 0 fun q => { q with pushes := [{ data := 5, last := true, cls := false, null := false }] }, by decide +kernel⟩,
    ⟨0, .core 1, 0, true, wQIn, by decide +kernel⟩,
    ⟨0, .core 1, 0, true, wQIn, by decide +kernel⟩,
    ⟨0, .core 0, wQIn, by decide +kernel⟩,
    ⟨0, .core 0, 5, wQIn, by decide +kernel⟩,
    ⟨0, .readEnd, wQIn.modQueue 0 fun q => { q with sync := some .readEnd }, by decide +kernel⟩,
    ⟨0, { oldKind := 1, oldIndex := 0 }, { oldKind := 1, oldIndex := 0 }, wQIn.modQueue 0 fun q => { q with rebind := some { oldKind := 1, oldIndex := 0 } }, by decide +kernel⟩,
    ⟨0, { oldKind := 1, oldIndex := 0, items := 1 }, { oldKind := 1, oldIndex := 0, items := 1 }, wQOut.modQueue 0 fun q => { q with rebind := some { oldKind := 1, oldIndex := 0, items := 1 } }, by decide +kernel⟩⟩

set_option maxRecDepth 20000 in
theorem witness_RakeFlow :
    (∃ r : Fin 4096, ∃ s : State, (s.startsStep r = true)) ∧
    (∃ r : Fin 4096, ∃ s : State, (s.issuesOp r 0 = true)) ∧
    (∃ r : Fin 4096, ∃ s : State, (s.issuesOp r 1 = true)) ∧
    (∃ r : Fin 4096, ∃ s : State, (s.issuesOp r 2 = true)) ∧
    (∃ r : Fin 4096, ∃ s : State, (s.issuesOp r 3 = true)) ∧
    (∃ r : Fin 4096, ∃ s : State, (s.issuesOp r 4 = true)) ∧
    (∃ r : Fin 4096, ∃ s : State, (s.issuesOp r 5 = true)) ∧
    (∃ r : Fin 4096, ∃ s : State, (s.issuesOp r 6 = true)) :=
  ⟨⟨0, wRake [(0, 2 ^ 39)], by decide +kernel⟩,
    ⟨0, wRake [], by decide +kernel⟩,
    ⟨0, wRake [(0, 2 ^ 34)], by decide +kernel⟩,
    ⟨0, wRake [(0, 2 * 2 ^ 34)], by decide +kernel⟩,
    ⟨0, wRake [(0, 3 * 2 ^ 34)], by decide +kernel⟩,
    ⟨0, wRake [(0, 4 * 2 ^ 34)], by decide +kernel⟩,
    ⟨0, wRake [(0, 5 * 2 ^ 34)], by decide +kernel⟩,
    ⟨0, wRake [(0, 6 * 2 ^ 34)], by decide +kernel⟩⟩

set_option maxRecDepth 20000 in
theorem witness_RakeAtoms :
    (∃ r : Fin 4096, ∃ s : State, (s.issuesOp r 7 = true)) ∧
    (∃ r : Fin 4096, ∃ s : State, (s.issuesOp r 8 = true)) ∧
    (∃ r : Fin 4096, ∃ s : State, (s.issuesOp r 9 = true)) ∧
    (∃ r : Fin 4096, ∃ s : State, (s.issuesOp r 10 = true)) ∧
    (∃ r : Fin 4096, ∃ s : State, (s.issuesOp r 11 = true)) ∧
    (∃ r : Fin 4096, ∃ s : State, (s.issuesOp r 12 = true)) ∧
    (∃ r : Fin 4096, ∃ s : State, (s.issuesOp r 13 = true)) ∧
    (∃ r : Fin 4096, ∃ s : State, (s.issuesOp r 14 = true)) :=
  ⟨⟨0, wRake [(0, 7 * 2 ^ 34)], by decide +kernel⟩,
    ⟨0, wRake [(0, 8 * 2 ^ 34)], by decide +kernel⟩,
    ⟨0, (wRake [(0, 9 * 2 ^ 34)]).modRake 0 fun k => { k with sq := { k.sq with handler := true } }, by decide +kernel⟩,
    ⟨0, (wRake [(0, 10 * 2 ^ 34)]).modRake 0 fun k => { k with save := k.save.set 15 (2 ^ 31), sq := { k.sq with handler := true } }, by decide +kernel⟩,
    ⟨0, wRake [(0, 11 * 2 ^ 34)], by decide +kernel⟩,
    ⟨0, wRake [(0, 12 * 2 ^ 34)], by decide +kernel⟩,
    ⟨0, wRake [(0, 13 * 2 ^ 34)], by decide +kernel⟩,
    ⟨0, wRake [(0, 14 * 2 ^ 34)], by decide +kernel⟩⟩

set_option maxRecDepth 20000 in
theorem witness_RakeAttention :
    (∃ r : Fin 4096, ∃ s : State, (s.issues r = true) ∧ ((s.rake r).illegal = true)) ∧
    (∃ r : Fin 4096, ∃ src : Nat, ∃ code : Nat, ∃ s : State, ((s.rake r).event = some (src, code)) ∧ (s.executes r = true) ∧ ((s.rake r).takes = true)) ∧
    (∃ r : Fin 4096, ∃ src : Nat, ∃ code : Nat, ∃ s : State, ((s.rake r).event = some (src, code)) ∧ (s.executes r = true) ∧ ((s.rake r).commits = true)) ∧
    (∃ r : Fin 4096, ∃ data : BitVec 36, ∃ s : State, ((s.rake r).inbound = none) ∧ ((s.rake r).stopping = none) ∧ (s.panRuns (panOfRake r) = true) ∧ (s.drivers (rakePort r 0) = []) ∧ (({ s.rake r with inbound := some (data.toNat, false) } : Rake).absorb.inbound = none)) ∧
    (∃ r : Fin 4096, ∃ data : BitVec 36, ∃ s : State, ((s.rake r).inbound = none) ∧ ((s.rake r).stopping = none) ∧ (s.panRuns (panOfRake r) = true) ∧ (s.drivers (rakePort r 0) = []) ∧ (({ s.rake r with inbound := some (data.toNat, true) } : Rake).absorb.inbound = none)) ∧
    (∃ r : Fin 4096, ∃ data : BitVec 36, ∃ x : Nat, ∃ s : State, ((s.rake r).inbound = none) ∧ ((s.rake r).stopping = none) ∧ (s.panRuns (panOfRake r) = true) ∧ (s.drivers (rakePort r 0) ≠ []) ∧ (s.portToken (rakePort r 0) 0 = some x)) ∧
    (∃ r : Fin 4096, ∃ d : Nat, ∃ x : Bool, ∃ l : List (Nat × Bool), ∃ s : State, (s.panRuns (panOfRake r) = true) ∧ (s.portFree (rakePort r 1) = true) ∧ ((s.rake r).resBuf = (d, x) :: l) ∧ ((s.rake r).sq.segDue = 0)) ∧
    (∃ r : Fin 4096, ∃ a : Agent, ∃ v : Dword, ∃ s : State, (s.asleep (a) = false) ∧ (s.mayEnter (agentHalf a) (halfOfRake r) = true) ∧ ((agentHalf a != halfOfRake r && (s.entering (agentHalf a) (halfOfRake r)).isSplit (agentHalf a)) = false) ∧ (ringsPan (panOfRake r) a = true) ∧ ((s.entering (agentHalf a) (halfOfRake r)).sluice (panOfRake r) = OPEN) ∧ (((s.entering (agentHalf a) (halfOfRake r)).rake r).stopping = none) ∧ (((s.entering (agentHalf a) (halfOfRake r)).rake r).extQ.length < 4)) ∧
    (∃ r : Fin 4096, ∃ a : Agent, ∃ v : Dword, ∃ s : State, (s.asleep (a) = false) ∧ (s.mayEnter (agentHalf a) (halfOfRake r) = true) ∧ ((agentHalf a != halfOfRake r && (s.entering (agentHalf a) (halfOfRake r)).isSplit (agentHalf a)) = false) ∧ (ringsPan (panOfRake r) a = true)) ∧
    (∃ r : Fin 4096, ∃ a : Agent, ∃ w : Bool, ∃ v : Dword, ∃ s : State, (s.asleep (a) = false) ∧ (s.isSplit (agentHalf a) = true) ∧ (agentHalf a ≠ halfOfRake r) ∧ (ringsPan (panOfRake r) a = true)) ∧
    (∃ r : Fin 4096, ∃ a : Agent, ∃ off : Fin 8, ∃ s : State, (s.asleep a = false)) ∧
    (∃ r : Fin 4096, ∃ s : State, ((s.rake r).stopping.isSome = true) ∧ ((s.rake r).resBuf = [])) ∧
    (∃ r : Fin 4096, ∃ s : State, ((s.rake r).stopping.isSome = true)) :=
  ⟨⟨0, wRake [(0, 31 * 2 ^ 34)], by decide +kernel⟩,
    ⟨0, 1, 3, (wRake []).modRake 0 fun k => { k with latch := some 3, sq := { k.sq with ie := 31 } }, by decide +kernel⟩,
    ⟨0, 1, 3, (wRake []).modRake 0 fun k => { k with latch := some 3, sq := { k.sq with ie := 31, atomic := true, commitDue := true } }, by decide +kernel⟩,
    ⟨0, 5, wRun, by decide +kernel⟩,
    ⟨0, 5, wRun, by decide +kernel⟩,
    ⟨0, 5, 1, (wRun.setDrivers (rakePort 0 0) [0]).setChan 0 { word := [.one] }, by decide +kernel⟩,
    ⟨0, 5, false, [], wRun.setRake 0 { resBuf := [(5, false)] }, by decide +kernel⟩,
    ⟨0, .core 0, 7, wRun, by decide +kernel⟩,
    ⟨0, .core 0, 7, wRun, by decide +kernel⟩,
    ⟨0, .core 8, true, 7, St [(F.CSW_STATUS_STATE 1, 2)], by decide +kernel⟩,
    ⟨0, .core 0, 7, wRun, by decide +kernel⟩,
    ⟨0, wRun.setRake 0 { stopping := some 0 }, by decide +kernel⟩,
    ⟨0, wRun.setRake 0 { stopping := some 0 }, by decide +kernel⟩⟩

set_option maxRecDepth 20000 in
theorem witness_RakeInjections :
    (∃ r : Fin 4096, ∃ s : State, ((s.injFields r 0).rakeInjectRefused r = false)) ∧
    (∃ r : Fin 4096, ∃ s : State, ((s.injFields r 1).rakeInjectRefused r = false)) ∧
    (∃ r : Fin 4096, ∃ s : State, ((s.injFields r 2).rakeInjectRefused r = false)) ∧
    (∃ r : Fin 4096, ∃ s : State, ((s.injFields r 3).rakeInjectRefused r = false)) ∧
    (∃ r : Fin 4096, ∃ s : State, ((s.injFields r 4).rakeInjectRefused r = false)) ∧
    (∃ r : Fin 4096, ∃ s : State, ((s.injFields r 0).rakeInjectRefused r = true)) :=
  ⟨⟨0, wRake [], by decide +kernel⟩,
    ⟨0, wRake [], by decide +kernel⟩,
    ⟨0, wRake [], by decide +kernel⟩,
    ⟨0, wRake [], by decide +kernel⟩,
    ⟨0, wRake [], by decide +kernel⟩,
    ⟨0, State.reset, by decide +kernel⟩⟩

set_option maxRecDepth 20000 in
theorem witness_RakeDebugging :
    (∃ n : Fin 256, ∃ k : Fin 16, ∃ all : Bool, ∃ s : State, (bitOf (s.setFlds [(F.DBG_RAKE_CTL_ALL, bnat all), (F.DBG_RAKE_CTL_PAN, n), (F.DBG_RAKE_CTL_RAKE, k)]).dbgScope 2 = true)) ∧
    (∃ n : Fin 256, ∃ k : Fin 16, ∃ all : Bool, ∃ s : State, (bitOf (s.setFlds [(F.DBG_RAKE_CTL_ALL, bnat all), (F.DBG_RAKE_CTL_PAN, n), (F.DBG_RAKE_CTL_RAKE, k)]).dbgScope 2 = false)) ∧
    (∃ n : Fin 256, ∃ k : Fin 16, ∃ all : Bool, ∃ s : State, (bitOf (s.setFlds [(F.DBG_RAKE_CTL_ALL, bnat all), (F.DBG_RAKE_CTL_PAN, n), (F.DBG_RAKE_CTL_RAKE, k)]).dbgScope 2 = true)) ∧
    (∃ n : Fin 256, ∃ k : Fin 16, ∃ s : State, (bitOf (s.setFlds [(F.DBG_RAKE_CTL_ALL, bnat (s.on F.DBG_RAKE_CTL_ALL)), (F.DBG_RAKE_CTL_PAN, n), (F.DBG_RAKE_CTL_RAKE, k)]).dbgScope 2 = true)) ∧
    (∃ s : State, (s.executes s.dbgRake = true) ∧ (s.breaks s.dbgRake = true) ∧ ((s.rake s.dbgRake).takes = false) ∧ ((s.rake s.dbgRake).commits = false) ∧ ((s.rake s.dbgRake).sq.segDue = 0) ∧ ((s.rake s.dbgRake).sq.noteDue = none) ∧ ((s.rake s.dbgRake).sq.inWait = false)) ∧
    (∃ x : List Byte, ∃ rest : List (List Byte), ∃ s : State, (s.on F.DBG_TRACE_CTL_EN = true) ∧ (bitOf s.dbgScope 0 = true) ∧ (s.dbg.trace = x :: rest)) :=
  ⟨⟨0, 0, false, wRake [], by decide +kernel⟩,
    ⟨0, 0, false, St [(F.SEC_STATUS_APPROVED, 1)], by decide +kernel⟩,
    ⟨0, 0, false, wRake [], by decide +kernel⟩,
    ⟨0, 0, wRake [], by decide +kernel⟩,
    ⟨(wRake []).setFlds [(F.DBG_RAKE_BP_EN0, 1)], by decide +kernel⟩,
    ⟨[1], [], { St [(F.DBG_TRACE_CTL_EN, 1)] with dbg := { trace := [[1]] } }, by decide +kernel⟩⟩

set_option maxRecDepth 20000 in
theorem witness_SluicesAndGating :
    (∃ n : Fin 256, ∃ k : CloseJob, ∃ s : State, ((s.pan n).close = some k) ∧ (s.itemsLeft n = false)) ∧
    (∃ n : Fin 256, ∃ k : CloseJob, ∃ s : State, ((s.pan n).close = some k)) ∧
    (∃ n : Fin 256, ∃ side : Fin 4, ∃ k : Fin 64, ∃ word : BitVec 16, ∃ m : Nat, ∃ sd : Nat, ∃ j : Nat, ∃ w : Nat, ∃ s : State, (laneInbound side k = true) ∧ (farLane n side k = some (m, sd, j)) ∧ (s.awake = true) ∧ (s.passesOut m = true) ∧ (s.portToken (chanOfPoint m (sd * 64 + j)) word.toNat = some w) ∧ (s.discarding n = true)) ∧
    (∃ n : Fin 256, ∃ side : Fin 4, ∃ k : Fin 64, ∃ word : BitVec 16, ∃ m : Nat, ∃ sd : Nat, ∃ j : Nat, ∃ w : Nat, ∃ s : State, (laneInbound side k = true) ∧ (farLane n side k = some (m, sd, j)) ∧ (s.awake = true) ∧ (s.passesOut m = true) ∧ (s.portToken (chanOfPoint m (sd * 64 + j)) word.toNat = some w) ∧ (s.discarding n = false) ∧ ((s.chan (laneStage n side k)).idle = true)) ∧
    (∃ n : Fin 256, ∃ side : Fin 4, ∃ k : Fin 64, ∃ s : State, (s.sluice n = SEALED) ∧ (s.on (F.PAN_SLUICE_STATUS_HOLD_DEBUG n) = true) ∧ ((farLane n side k).isSome = true)) ∧
    (∃ n : Fin 256, ∃ word : BitVec 16, ∃ side : Nat, ∃ k : Nat, ∃ s : State, ((s.pan n).armed = some (side, k)) ∧ (laneInbound side k = true) ∧ ((s.chan (laneStage n side k)).complete = true) ∧ ((s.chan (laneStage n side k)).passed = false)) ∧
    (∃ n : Fin 256, ∃ word : BitVec 16, ∃ side : Nat, ∃ k : Nat, ∃ m : Nat, ∃ sd : Nat, ∃ j : Nat, ∃ w : Nat, ∃ s : State, ((s.pan n).armed = some (side, k)) ∧ (laneInbound side k = false) ∧ (farLane n side k = some (m, sd, j)) ∧ (s.portToken (chanOfPoint n (side * 64 + k)) word.toNat = some w) ∧ (s.discarding m = false) ∧ ((s.chan (laneStage m sd j)).idle = true)) ∧
    (∃ n : Fin 256, ∃ s : State, (s.power n = 1)) ∧
    (∃ n : Fin 256, ∃ s : State, (s.on (F.PAN_PWR_CTL_AUTO n) = true) ∧ (s.power n = 0) ∧ (s.gateRefusal n = none)) ∧
    (∃ h : Fin 2, ∃ n : Nat, ∃ r : List Nat, ∃ s : State, (s.wakes h = n :: r) ∧ (s.waking h < 2) ∧ (s.stopped h = false)) ∧
    (∃ h : Fin 2, ∃ n : Nat, ∃ r : List Nat, ∃ s : State, (s.wakes h = n :: r) ∧ (s.waking h < 2) ∧ (s.stopped h = true)) ∧
    (∃ n : Fin 256, ∃ s : State, (s.power n = 3)) :=
  ⟨⟨0, { items := 1, drained := 1 }, State.reset.modPan 0 fun p => { p with close := some { items := 1, drained := 1 } }, by decide +kernel⟩,
    ⟨0, { items := 2 }, State.reset.modPan 0 fun p => { p with close := some { items := 2 } }, by decide +kernel⟩,
    ⟨0, 1, 32, 5, 1, 3, 32, 5, St [(F.RST_STATUS_STATE, 7), (F.PAN_SLUICE_STATUS_STATE 0, 2), (F.PAN_SLUICE_CTL_DISCARD 0, 1), (F.PAN_SLUICE_STATUS_STATE 1, 0), (F.PAN_PWR_STATUS_STATE 1, 0)], by decide +kernel⟩,
    ⟨0, 1, 32, 5, 1, 3, 32, 5, St [(F.RST_STATUS_STATE, 7), (F.PAN_SLUICE_STATUS_STATE 1, 0), (F.PAN_PWR_STATUS_STATE 1, 0)], by decide +kernel⟩,
    ⟨0, 1, 0, St [(F.PAN_SLUICE_STATUS_STATE 0, 2), (F.PAN_SLUICE_STATUS_HOLD_DEBUG 0, 1)], by decide +kernel⟩,
    ⟨0, 0, 1, 32, (State.reset.modPan 0 fun p => { p with armed := some (1, 32) }).setChan (laneStage 0 1 32) { word := railsOf 16 7 }, by decide +kernel⟩,
    ⟨0, 5, 1, 0, 1, 3, 0, 5, State.reset.modPan 0 fun p => { p with armed := some (1, 0) }, by decide +kernel⟩,
    ⟨0, St [(F.PAN_PWR_STATUS_STATE 0, 1)], by decide +kernel⟩,
    ⟨0, St [(F.PAN_PWR_CTL_AUTO 0, 1), (F.PAN_PWR_STATUS_STATE 0, 0)], by decide +kernel⟩,
    ⟨0, 4, [], State.reset.setWakes 0 [4], by decide +kernel⟩,
    ⟨0, 4, [], (St [(F.GOV_STATUS_STOP 0, 1)]).setWakes 0 [4], by decide +kernel⟩,
    ⟨0, St [(F.PAN_PWR_STATUS_STATE 0, 3)], by decide +kernel⟩⟩

set_option maxRecDepth 20000 in
theorem witness_PanLoads :
    (∃ h : Fin 2, ∃ m : Nat, ∃ s : State, ((s.giveResult h).portMaster h = none) ∧ ((s.giveResult h).nextMaster h = some m)) ∧
    (∃ h : Fin 2, ∃ m : Nat, ∃ i : LoadJob, ∃ j : LoadJob, ∃ t : State, ∃ f : List Byte, ∃ s : State, (s.portMaster h = some m) ∧ (s.load (loadKey h m) = some i) ∧ (i.accepted = false) ∧ (s.power i.pan = 0) ∧ (s.fetchFrame h m = (t, .frame f)) ∧ (t.load (loadKey h m) = some j) ∧ (fType f = 1) ∧ (t.claimRefused h m j.pan = false) ∧ (badHeaderFrame f = false) ∧ (fCrc f = true) ∧ (t.headerCause j.pan (fPayload f) false = none)) ∧
    (∃ h : Fin 2, ∃ m : Nat, ∃ j : LoadJob, ∃ t : State, ∃ f : List Byte, ∃ s : State, (s.portMaster h = some m) ∧ (s.load (loadKey h m) = some j) ∧ (j.accepted = true) ∧ (j.waitFloor = false) ∧ (s.fetchFrame h m = (t, .frame f)) ∧ (fType f ≠ 15) ∧ (t.load (loadKey h m) = some j)) ∧
    (∃ h : Fin 2, ∃ m : Fin 3, ∃ j : LoadJob, ∃ k : List Byte, ∃ s : State, (s.load (loadKey h m) = some j) ∧ (j.accepted = true) ∧ (j.sigOk = none) ∧ (s.moduleOf h = true) ∧ (s.sec.pubkey = some k)) ∧
    (∃ h : Fin 2, ∃ m : Nat, ∃ j : LoadJob, ∃ t : State, ∃ f : List Byte, ∃ s : State, (s.portMaster h = some m) ∧ (s.load (loadKey h m) = some j) ∧ (j.accepted = true) ∧ (j.waitFloor = false) ∧ (j.sigOk = some true) ∧ (s.fetchFrame h m = (t, .frame f)) ∧ (fType f = 15) ∧ (t.load (loadKey h m) = some j) ∧ (frameCause j f = none) ∧ (framePayload 15 (fPayload f) = true) ∧ (endCause j f = none) ∧ (t.atFloor h j.floor = true)) ∧
    (∃ h : Fin 2, ∃ m : Fin 3, ∃ j : LoadJob, ∃ s : State, (s.load (loadKey h m) = some j) ∧ (j.waitFloor = true) ∧ (j.sigOk = some true) ∧ (s.atFloor h j.floor = true)) ∧
    (∃ h : Fin 2, ∃ m : Fin 3, ∃ j : LoadJob, ∃ s : State, (s.load (loadKey h m) = some j) ∧ (j.waitFloor = false)) ∧
    (∃ h : Fin 2, ∃ s : State, (s.load (loadKey h 2) = none) ∧ (s.agentFrame h ≠ [])) :=
  ⟨⟨0, 2, wRun.setAgentFrame 0 wHeader, by decide +kernel⟩,
    ⟨0, 2, { pan := 1 }, { pan := 1 }, ((wAgent wHeader).setLoad 2 (some { pan := 1 })).setAgentFrame 0 [], wHeader, (wAgent wHeader).setLoad 2 (some { pan := 1 }), by decide +kernel⟩,
    ⟨0, 2, { pan := 1, accepted := true }, (wAgentLoad {} (wFrame 8 1 0 0 [])).setAgentFrame 0 [], wFrame 8 1 0 0 [], wAgentLoad {} (wFrame 8 1 0 0 []), by decide +kernel⟩,
    ⟨0, 0, { accepted := true }, [1, 2], { (St [(F.SEC_STATUS_STATE, 1)]).setLoad 0 (some { accepted := true }) with sec := { State.reset.sec with pubkey := some [1, 2] } }, by decide +kernel⟩,
    ⟨0, 2, wEndJob, (wAgentLoad wEndJob wEnd).setAgentFrame 0 [], wEnd, wAgentLoad wEndJob wEnd, by refine ⟨?_, ?_, ?_, ?_, ?_, ?_, ?_, ?_, ?_, ?_, ?_, ?_⟩ <;> first | rfl | decide +kernel | exact end_passes⟩,
    ⟨0, 0, { waitFloor := true, sigOk := some true }, wRun.setLoad 0 (some { waitFloor := true, sigOk := some true }), by decide +kernel⟩,
    ⟨0, 0, {}, (wRun.setLoad 0 (some {})).setGranted 0 5, by decide +kernel⟩,
    ⟨0, wAgent wHeader, by decide +kernel⟩⟩

set_option maxRecDepth 20000 in
theorem witness_MemoryAccesses :
    (∃ a : Agent, ∃ addr : Dword, ∃ n : Byte, ∃ t : State, ∃ l : List Byte, ∃ bad : Bool, ∃ g : Nat, ∃ x : Nat, ∃ s : State, (s.asleep a = false) ∧ (s.region (addr.toNat) = .hbm g x ∨ s.region (addr.toNat) = .scratch g x) ∧ (s.mayEnter (agentHalf a) g = true) ∧ ((s.entering (agentHalf a) g).scratchHeld (addr.toNat) = false) ∧ ((s.entering (agentHalf a) g).agentMapped a addr.toNat n.toNat = true) ∧ ((s.entering (agentHalf a) g).loadBytes addr.toNat n.toNat = some (t, l, bad)) ∧ ((∀ k, a ≠ .link k)) ∧ ((∀ k, a ≠ .core k) ∨ bad = false)) ∧
    (∃ k : Fin 16, ∃ addr : Dword, ∃ n : Byte, ∃ t : State, ∃ l : List Byte, ∃ bad : Bool, ∃ g : Nat, ∃ x : Nat, ∃ s : State, (s.asleep (.link k) = false) ∧ (s.region addr.toNat = .hbm g x ∨ s.region addr.toNat = .scratch g x) ∧ (s.mayEnter (k.val / 8) g = true) ∧ ((s.entering (k.val / 8) g).scratchHeld addr.toNat = false) ∧ ((s.entering (k.val / 8) g).agentMapped (.link k) addr.toNat n.toNat = true) ∧ ((s.entering (k.val / 8) g).loadBytes addr.toNat n.toNat = some (t, l, bad))) ∧
    (∃ k : Fin 16, ∃ addr : Dword, ∃ n : Byte, ∃ t : State, ∃ l : List Byte, ∃ g : Nat, ∃ x : Nat, ∃ s : State, (s.region addr.toNat = .hbm g x ∨ s.region addr.toNat = .scratch g x) ∧ (s.mayEnter (k.val / 8) g = true) ∧ ((s.entering (k.val / 8) g).scratchHeld addr.toNat = false) ∧ ((s.entering (k.val / 8) g).agentMapped (.core k) addr.toNat n.toNat = true) ∧ ((s.entering (k.val / 8) g).loadBytes addr.toNat n.toNat = some (t, l, true)) ∧ ((t.core k).live = true)) ∧
    (∃ a : Agent, ∃ addr : Dword, ∃ n : Byte, ∃ s : State, (s.asleep a = false) ∧ ((∃ p, s.region addr.toNat = .host p) ∨ s.region addr.toNat = .unmapped) ∧ (s.scratchHeld addr.toNat = false) ∧ (s.agentMapped a addr.toNat n.toNat = false)) ∧
    (∃ a : Agent, ∃ addr : Dword, ∃ data : List Byte, ∃ g : Nat, ∃ x : Nat, ∃ s : State, (s.asleep a = false) ∧ (s.region (addr.toNat) = .hbm g x ∨ s.region (addr.toNat) = .scratch g x) ∧ (s.mayEnter (agentHalf a) g = true) ∧ ((s.entering (agentHalf a) g).scratchHeld (addr.toNat) = false) ∧ ((s.entering (agentHalf a) g).agentMapped a addr.toNat data.length = true)) ∧
    (∃ a : Agent, ∃ addr : Dword, ∃ data : Dword, ∃ g : Nat, ∃ x : Nat, ∃ s : State, (s.asleep a = false) ∧ (s.region (addr.toNat / 8 * 8) = .hbm g x ∨ s.region (addr.toNat / 8 * 8) = .scratch g x) ∧ (s.mayEnter (agentHalf a) g = true) ∧ ((s.entering (agentHalf a) g).scratchHeld (addr.toNat / 8 * 8) = false) ∧ ((s.entering (agentHalf a) g).agentMapped a (addr.toNat / 8 * 8) 8 = true)) ∧
    (∃ a : Agent, ∃ addr : Dword, ∃ kind : Fin 3, ∃ s : State, (s.asleep a = false) ∧ (s.region addr.toNat = .unmapped)) :=
  ⟨⟨.core 0, BitVec.ofNat 64 (HBM_BASE 0), 8, State.reset, List.replicate 8 0, false, 0, 0, State.reset, by decide +kernel⟩,
    ⟨0, BitVec.ofNat 64 (HBM_BASE 0), 8, State.reset, List.replicate 8 0, false, 0, 0, State.reset, by decide +kernel⟩,
    ⟨0, BitVec.ofNat 64 (HBM_BASE 0), 8, wCore.setPoisoned (HBM_BASE 0 / 8) true, List.replicate 8 0, 0, 0, wCore.setPoisoned (HBM_BASE 0 / 8) true, by decide +kernel⟩,
    ⟨.core 0, 0x50000000, 8, State.reset, ⟨by decide +kernel, .inr (by decide +kernel), by decide +kernel, by decide +kernel⟩⟩,
    ⟨.core 0, BitVec.ofNat 64 (HBM_BASE 0), [1, 2], 0, 0, State.reset, by decide +kernel⟩,
    ⟨.core 0, BitVec.ofNat 64 (HBM_BASE 0), 7, 0, 0, State.reset, by decide +kernel⟩,
    ⟨.core 0, 0x50000000, 1, State.reset, by decide +kernel⟩⟩

set_option maxRecDepth 20000 in
theorem witness_MemoryUpkeep :
    (∃ h : Fin 2, ∃ sel : Fin 2, ∃ upset : Bool, ∃ s : State, (s.scrubHalted h sel = false) ∧ (s.scrubStopped h sel = false) ∧ (s.memReady h sel = true) ∧ ((s.scrubber (scrubKey h sel)).skip = false)) ∧
    (∃ h : Fin 2, ∃ sel : Fin 2, ∃ upset : Bool, ∃ s : State, (s.scrubHalted h sel = false) ∧ (s.scrubStopped h sel = false) ∧ (s.memReady h sel = true) ∧ ((s.scrubber (scrubKey h sel)).skip = false) ∧ (s.lineCorrects h sel (s.scrubber (scrubKey h sel)).line = true)) ∧
    (∃ h : Fin 2, ∃ sel : Fin 2, ∃ s : State, ((s.scrubber (scrubKey h sel)).badPar = true) ∧ (s.scrubHalted h sel = false)) ∧
    (∃ h : Fin 2, ∃ sel : Fin 2, ∃ word : Word, ∃ bit : BitVec 7, ∃ s : State, (s.memInjectRefused h sel 0 word.toNat bit.toNat = false)) ∧
    (∃ h : Fin 2, ∃ sel : Fin 2, ∃ word : Word, ∃ bit : BitVec 7, ∃ s : State, (s.memInjectRefused h sel 1 word.toNat bit.toNat = false)) ∧
    (∃ h : Fin 2, ∃ sel : Fin 2, ∃ s : State, (s.memInjectRefused h sel 2 (s.reg (R.MEM_INJ_ADDR h)).toNat (s.fld (F.MEM_INJECT_BIT h)) = false)) ∧
    (∃ h : Fin 2, ∃ sel : Fin 2, ∃ s : State, (s.memInjectRefused h sel 3 (s.reg (R.MEM_INJ_ADDR h)).toNat (s.fld (F.MEM_INJECT_BIT h)) = false)) ∧
    (∃ h : Fin 2, ∃ s : State, (s.fld (F.MEM_HBM_STATUS_STATE h) = 0)) ∧
    (∃ h : Fin 2, ∃ s : State, (s.fld (F.MEM_HBM_STATUS_STATE h) = 0)) ∧
    (∃ h : Fin 2, ∃ sel : Fin 2, ∃ s : State, (s.fillDone (scrubKey h sel) = false) ∧ (s.memReady h sel = true)) :=
  ⟨⟨0, 0, false, St [(F.MEM_SCRUB_LAG_EN 0, 1), (F.MEM_SCRUB_LAG_INTERVAL 0, 1), (F.MEM_HBM_STATUS_STATE 0, 1)], by decide +kernel⟩,
    ⟨0, 0, false, (St [(F.MEM_SCRUB_LAG_EN 0, 1), (F.MEM_SCRUB_LAG_INTERVAL 0, 1), (F.MEM_HBM_STATUS_STATE 0, 1)]).setFlipMask (SCRATCH_BASE 0 / 8) 1, by decide +kernel⟩,
    ⟨0, 0, (St [(F.MEM_SCRUB_LAG_EN 0, 1), (F.MEM_SCRUB_LAG_INTERVAL 0, 1), (F.MEM_HBM_STATUS_STATE 0, 1)]).setScrubber 0 { badPar := true }, by decide +kernel⟩,
    ⟨0, 0, 3, 5, St [(F.MEM_SCRUB_LAG_EN 0, 1), (F.MEM_SCRUB_LAG_INTERVAL 0, 1), (F.MEM_HBM_STATUS_STATE 0, 1)], by decide +kernel⟩,
    ⟨0, 0, 3, 5, St [(F.MEM_SCRUB_LAG_EN 0, 1), (F.MEM_SCRUB_LAG_INTERVAL 0, 1), (F.MEM_HBM_STATUS_STATE 0, 1)], by decide +kernel⟩,
    ⟨0, 0, St [(F.MEM_SCRUB_LAG_EN 0, 1), (F.MEM_SCRUB_LAG_INTERVAL 0, 1), (F.MEM_HBM_STATUS_STATE 0, 1)], by decide +kernel⟩,
    ⟨0, 0, St [(F.MEM_SCRUB_LAG_EN 0, 1), (F.MEM_SCRUB_LAG_INTERVAL 0, 1), (F.MEM_HBM_STATUS_STATE 0, 1)], by decide +kernel⟩,
    ⟨0, State.reset, by decide +kernel⟩,
    ⟨0, State.reset, by decide +kernel⟩,
    ⟨0, 0, State.reset, by decide +kernel⟩⟩

set_option maxRecDepth 20000 in
theorem witness_SchedulerRun :
    (∃ h : Fin 2, ∃ s : State, (s.on (F.SCHED_CTL_HALT h) = false) ∧ ((s.schedSettle h).mayDispatch h = true)) ∧
    (∃ h : Fin 2, ∃ s : State, (s.on (F.SCHED_CTL_HALT h) = true)) ∧
    (∃ h : Fin 2, ∃ s : State, (s.on (F.SCHED_CTL_HALT h) = true)) ∧
    (∃ h : Fin 2, ∃ number : BitVec 16, ∃ r : Record, ∃ w : Dword, ∃ l : List Dword, ∃ t : State, ∃ s : State, ((s.endCuts h).findRecord h (fun r => r.number == number.toNat && !r.unsent.isEmpty && ((s.endCuts h).sched h).cutting.all fun x => x.1 != r.dq) = some r) ∧ (r.unsent = w :: l) ∧ ((s.endCuts h).pushWord r.dq r.cls l.isEmpty w (dispKey h r.id) = (t, true))) ∧
    (∃ d : Fin 1024, ∃ cls : Bool, ∃ w : QWord, ∃ q : QBlock, ∃ s : State, ((s.queue d).kind = 2) ∧ ((s.queue d).sync = none) ∧ (s.fabricEnd d = .writeEnd) ∧ ((s.queue d).takeWord = some (cls, w, q)) ∧ ((s.queue d).cut = false) ∧ (w.last = false)) ∧
    (∃ a : Agent, ∃ k : Fin 16, ∃ stores : List (BitVec 14 × Byte), ∃ s : State, (s.asleep a = false) ∧ (reachesWindow k a = true)) ∧
    (∃ a : Agent, ∃ k : Fin 16, ∃ off : BitVec 14, ∃ write : Bool, ∃ s : State, (s.asleep a = false) ∧ (reachesWindow k a = false) ∧ ((agentHalf a != halfOfCore k && s.isSplit (agentHalf a)) = false)) ∧
    (∃ h : Fin 2, ∃ g : Nat, ∃ n : Nat, ∃ p : Nat, ∃ k : Nat, ∃ f : Nat, ∃ s : State, ((s.sched h).reload = some (g, n, p, k)) ∧ ((s.sched h).reloadEnd = some (0, f))) ∧
    (∃ n : Fin 256, ∃ s : State, (((s.sched (halfOfPan n)).ready.any fun e => e.work == .slice n.val) = true)) ∧
    (∃ id : BitVec 16, ∃ l : Link, ∃ t : Token, ∃ r : List Token, ∃ s : State, ((s.links.find? fun l => l.id == id.toNat) = some l) ∧ (l.transit = t :: r) ∧ (s.tokensCross = true)) ∧
    (∃ h : Fin 2, ∃ graph : Option (Fin 256), ∃ cores : Byte, ∃ p : Stop, ∃ s : State, (((s.sched h).stops.find? fun p => p.graph == graph.map (·.val) && p.cores == cores.toNat) = some p)) ∧
    (∃ h : Fin 2, ∃ kind : Fin 8, ∃ s : State, (kind.val ≤ 5)) ∧
    (∃ h : Fin 2, ∃ kind : Fin 8, ∃ s : State, (5 < kind.val)) :=
  ⟨⟨0, St [(F.RST_STATUS_STATE, 7), (F.SCHED_CTL_EN 0, 1)], by decide +kernel⟩,
    ⟨0, St [(F.SCHED_CTL_HALT 0, 1)], by decide +kernel⟩,
    ⟨0, St [(F.SCHED_CTL_HALT 0, 1)], by decide +kernel⟩,
    ⟨0, 3, wRec, 7, [], ((wDisp.endCuts 0).pushWord 0 false true 7 (dispKey 0 wRec.id)).1, wDisp, by decide +kernel⟩,
    ⟨0, false, { data := 9, vb := 8 }, ((wQComp.queue 0).takeWord.getD (false, {}, {})).2.2, wQComp, by decide +kernel⟩,
    ⟨.core 0, 0, [(0x2000, 1)], State.reset, by decide +kernel⟩,
    ⟨.core 1, 0, 0, true, State.reset, by decide +kernel⟩,
    ⟨0, 1, 1, 0, 0, 5, State.reset.modSched 0 fun c => { c with reload := some (1, 1, 0, 0), reloadEnd := some (0, 5) }, by decide +kernel⟩,
    ⟨0, State.reset.modSched 0 fun c => { c with ready := [⟨0, .slice 0⟩] }, by decide +kernel⟩,
    ⟨7, wLink, { tag := 5 }, [], { St [(F.CSW_STATUS_UP 0, 1)] with links := [wLink] }, by decide +kernel⟩,
    ⟨0, some 3, 0, { graph := some 3 }, State.reset.modSched 0 fun c => { c with stops := [{ graph := some 3 }] }, by decide +kernel⟩,
    ⟨0, 2, State.reset, by decide +kernel⟩,
    ⟨0, 6, State.reset, by decide +kernel⟩⟩

set_option maxRecDepth 20000 in
theorem witness_CoprocessorOps :
    (∃ k : Fin 16, ∃ w : Word, ∃ s : State, ((s.core k).live = true) ∧ (s.isHalted k = false) ∧ (isCustom01 w.toNat = true) ∧ (isCustom23 w.toNat = false) ∧ (s.copPermitted k = true) ∧ ((s.core k).outstanding < 8) ∧ ((s.core k).owes (bitsOf w.toNat 19 15) = false) ∧ ((s.core k).owes (bitsOf w.toNat 24 20) = false) ∧ (bitsOf w.toNat 6 0 = 0x0B)) ∧
    (∃ k : Fin 16, ∃ w : Word, ∃ s : State, ((s.core k).live = true) ∧ (s.isHalted k = false) ∧ (isCustom01 w.toNat = true) ∧ (isCustom23 w.toNat = false) ∧ (s.copPermitted k = true) ∧ ((s.core k).ops = []) ∧ ((s.core k).kills.length < 8) ∧ (bitsOf w.toNat 6 0 = 0x2B)) ∧
    (∃ k : Fin 16, ∃ w : Word, ∃ x : Nat, ∃ s : State, ((s.core k).live = true) ∧ (s.isHalted k = false) ∧ (isCustom01 w.toNat = true) ∧ (isCustom23 w.toNat = false) ∧ (s.copPermitted k = true) ∧ ((s.core k).ops = []) ∧ ((s.core k).kills = []) ∧ (bitsOf w.toNat 6 0 = 0x2B) ∧ (s.copRefusal k true = some x)) ∧
    (∃ k : Fin 16, ∃ w : Word, ∃ s : State, ((s.core k).live = true) ∧ (s.isHalted k = false) ∧ ((s.core k).ops = []) ∧ (isCustom01 w.toNat = true) ∧ (s.copPermitted k = false)) ∧
    (∃ k : Fin 16, ∃ s : State, (s.on (F.TCORE_COP_BIND_EN k) = true) ∧ ((s.queue (s.rspQ k)).hasPacket = true)) ∧
    (∃ k : Fin 16, ∃ rid : BitVec 16, ∃ s : State, (s.fld (F.TCORE_COP_CFG_TIMEOUT_US k) = 0)) ∧
    (∃ k : Fin 16, ∃ n : Fin 8, ∃ target : Dword, ∃ s : State, ((s.core k).live = true) ∧ ((((s.core k).ops.drop n).any (·.effecting)) = false)) ∧
    (∃ k : Fin 16, ∃ s : State, ((s.core k).draining = true)) ∧
    (∃ k : Fin 16, ∃ rid : BitVec 16, ∃ s : State, (s.fld (F.TCORE_COP_CFG_TIMEOUT_US k) ≠ 0) ∧ ((s.core k).ops.any (fun o : CopOp => o.rid == rid.toNat && o.sent) = true)) :=
  ⟨⟨0, 0x0B, wCore, by decide +kernel⟩,
    ⟨0, 0x2B, wCore, by decide +kernel⟩,
    ⟨0, 0x2B, 1, wCore, by decide +kernel⟩,
    ⟨0, 0x0B, wCore.modCore 0 fun k => { k with prv := 0 }, by decide +kernel⟩,
    ⟨0, (wCore.setFld (F.TCORE_COP_BIND_EN 0) 1).setQueue 0 { seg0 := { words := [{ data := 0, vb := 8, last := true }] } }, by decide +kernel⟩,
    ⟨0, 0, St [(F.TCORE_COP_CFG_TIMEOUT_US 0, 0)], by decide +kernel⟩,
    ⟨0, 0, 64, wCore, by decide +kernel⟩,
    ⟨0, wCore.modCore 0 fun k => { k with draining := true }, by decide +kernel⟩,
    ⟨0, 3, (wCore.setFld (F.TCORE_COP_CFG_TIMEOUT_US 0) 1).modCore 0 fun k => { k with ops := [{ rid := 3, effecting := false, rd := 1, pc := 0 }] }, by decide +kernel⟩⟩

set_option maxRecDepth 20000 in
theorem witness_CoreEvents :
    (∃ a : Fin 16, ∃ k : Fin 16, ∃ high : Bool, ∃ v : Word, ∃ s : State, ((s.core a).live = true) ∧ (s.isHalted a = false) ∧ ((s.core a).ops = []) ∧ ((s.core a).prv = 3)) ∧
    (∃ a : Fin 16, ∃ k : Fin 16, ∃ v : Bool, ∃ s : State, ((s.core a).live = true) ∧ (s.isHalted a = false) ∧ ((s.core a).ops = []) ∧ ((s.core a).prv = 3)) ∧
    (∃ a : Fin 16, ∃ k : Fin 16, ∃ v : Bool, ∃ s : State, ((s.core a).live = true) ∧ (s.isHalted a = false) ∧ ((s.core a).ops = []) ∧ ((s.core a).prv ≠ 3)) ∧
    (∃ k : Fin 16, ∃ s : State, (s.mtimecmp k ≤ s.mtime)) ∧
    (∃ k : Fin 16, ∃ s : State, (s.mtime < s.mtimecmp k)) ∧
    (∃ k : Fin 16, ∃ target : Fin 3, ∃ addr : Dword, ∃ s : State, ((s.core k).live = true)) ∧
    (∃ k : Fin 16, ∃ target : Fin 3, ∃ addr : Dword, ∃ s : State, ((s.core k).live = true) ∧ ((s.core k).holds (addr.toNat / 64) ≠ 0)) ∧
    (∃ k : Fin 16, ∃ target : Fin 4, ∃ double : Bool, ∃ s : State, (target.val ≠ 3) ∧ ((s.core k).live = true) ∧ (double = false ∨ target.val ≠ 0)) ∧
    (∃ k : Fin 16, ∃ target : Fin 4, ∃ double : Bool, ∃ s : State, (target.val = 3 ∨ (s.core k).live = false)) ∧
    (∃ h : Fin 2, ∃ s : State, (s.isRestarting h = true)) :=
  ⟨⟨0, 1, false, 5, wCore, by decide +kernel⟩,
    ⟨0, 1, true, wCore, by decide +kernel⟩,
    ⟨0, 1, true, wCore.modCore 0 fun k => { k with prv := 1 }, by decide +kernel⟩,
    ⟨0, St [(F.TCORE_MTIMECMP_CMP 0 0, 0), (F.TCORE_MTIMECMP_CMP 0 1, 0)], by decide +kernel⟩,
    ⟨0, St [(F.TCORE_MTIMECMP_CMP 0 0, 5)], by decide +kernel⟩,
    ⟨0, 1, 0, wCore, by decide +kernel⟩,
    ⟨0, 1, 64, wCore.modCore 0 fun k => { k with lines := [(1, 2)] }, by decide +kernel⟩,
    ⟨0, 1, false, wCore, by decide +kernel⟩,
    ⟨0, 3, false, State.reset, by decide +kernel⟩,
    ⟨0, State.reset.setIsRestarting 0 true, by decide +kernel⟩⟩

set_option maxRecDepth 20000 in
theorem witness_LinkEvents :
    (∃ l : Fin 16, ∃ fec : Bool, ∃ s : State, (s.linkUp l = true) ∧ (s.fld (F.LINK_STATUS_FRAMING (l / 4) (l % 4)) ≠ 0) ∧ ((s.hostLink l).armCrc = false) ∧ ((s.hostLink l).armFec = false)) ∧
    (∃ l : Fin 16, ∃ fec : Bool, ∃ crc : Bool, ∃ s : State, (s.linkUp l = true) ∧ (s.fld (F.LINK_STATUS_FRAMING (l / 4) (l % 4)) ≠ 0) ∧ ((s.hostLink l).armCrc = true)) ∧
    (∃ l : Fin 16, ∃ fec : Bool, ∃ s : State, (s.linkUp l = true) ∧ (s.fld (F.LINK_STATUS_FRAMING (l / 4) (l % 4)) ≠ 0) ∧ ((s.hostLink l).armCrc = false) ∧ ((s.hostLink l).armFec = true)) ∧
    (∃ l : Fin 16, ∃ s : State, (s.linkUp l = true) ∧ (s.fld (F.LINK_STATUS_FRAMING (l / 4) (l % 4)) ≠ 0) ∧ ((s.hostLink l).armCrc = false) ∧ ((s.hostLink l).armFec = false)) ∧
    (∃ l : Fin 16, ∃ s : State, (s.linkUp l = true) ∧ (s.fld (F.LINK_STATUS_FRAMING (l / 4) (l % 4)) ≠ 0) ∧ ((s.hostLink l).armCrc = false) ∧ ((s.hostLink l).armFec = false)) ∧
    (∃ l : Fin 16, ∃ s : State, (s.linkUp l = true) ∧ ((((s.count (F.LINK_ERRCNT_RETRAIN (l / 4) (l % 4)) none).hostLink l).rollovers.filter (fun a => decide ((s.count (F.LINK_ERRCNT_RETRAIN (l / 4) (l % 4)) none).ns.toNat < a + 1000000000)) ++ [(s.count (F.LINK_ERRCNT_RETRAIN (l / 4) (l % 4)) none).ns.toNat]).length < 4)) ∧
    (∃ l : Fin 16, ∃ s : State, (s.linkUp l = true) ∧ (4 ≤ (((s.count (F.LINK_ERRCNT_RETRAIN (l / 4) (l % 4)) none).hostLink l).rollovers.filter (fun a => decide ((s.count (F.LINK_ERRCNT_RETRAIN (l / 4) (l % 4)) none).ns.toNat < a + 1000000000)) ++ [(s.count (F.LINK_ERRCNT_RETRAIN (l / 4) (l % 4)) none).ns.toNat]).length)) ∧
    (∃ l : Fin 16, ∃ s : State, (s.linkState l = L_HOLD)) ∧
    (∃ l : Fin 16, ∃ s : State, (s.linkUp l = true)) ∧
    (∃ l : Fin 16, ∃ s : State, (s.linkExists l = true) ∧ (s.warm = none) ∧ (s.linkState l ≠ L_IDLE)) ∧
    (∃ l : Fin 16, ∃ s : State, ((s.hostLink l).drain.isSome = true)) ∧
    (∃ l : Fin 16, ∃ stream : Fin 6, ∃ s : State, (bitOf (s.hostLink l).secure stream = true)) ∧
    (∃ l : Fin 16, ∃ requester : BitVec 16, ∃ xid : BitVec 16, ∃ s : State, ((s.hostLink l).assemblies.any (fun x : Assembly => x.requester == requester.toNat && x.xid == xid.toNat) = true)) ∧
    (∃ p : Fin 4, ∃ l : Fin 4, ∃ s : State, (s.linkUp (4 * p + l) = true) ∧ (s.fld (F.LINK_STATUS_FRAMING p l) ≠ 0)) ∧
    (∃ p : Fin 4, ∃ l : Fin 4, ∃ s : State, (s.linkUp (4 * p + l) = true) ∧ (s.fld (F.LINK_STATUS_FRAMING p l) ≠ 0)) ∧
    (∃ p : Fin 4, ∃ l : Fin 4, ∃ s : State, (s.linkUp (4 * p + l) = true)) ∧
    (∃ p : Fin 4, ∃ l : Fin 4, ∃ s : State, (s.linkUp (4 * p + l) = true)) :=
  ⟨⟨0, false, wUp, by decide +kernel⟩,
    ⟨0, false, false, wUp.modHostLink 0 fun x => { x with armCrc := true }, by decide +kernel⟩,
    ⟨0, false, wUp.modHostLink 0 fun x => { x with armFec := true }, by decide +kernel⟩,
    ⟨0, wUp, by decide +kernel⟩,
    ⟨0, wUp, by decide +kernel⟩,
    ⟨0, wUp, by decide +kernel⟩,
    ⟨0, wUp.modHostLink 0 fun x => { x with rollovers := [0, 0, 0] }, by decide +kernel⟩,
    ⟨0, St [(F.LINK_STATUS_STATE 0 0, 4)], by decide +kernel⟩,
    ⟨0, wUp, by decide +kernel⟩,
    ⟨0, wUp, by decide +kernel⟩,
    ⟨0, wUp.modHostLink 0 fun x => { x with drain := some 1 }, by decide +kernel⟩,
    ⟨0, 1, wUp.modHostLink 0 fun x => { x with secure := 2 }, by decide +kernel⟩,
    ⟨0, 1, 2, wUp.modHostLink 0 fun x => { x with assemblies := [wAssembly] }, by decide +kernel⟩,
    ⟨0, 0, wUp, by decide +kernel⟩,
    ⟨0, 0, wUp, by decide +kernel⟩,
    ⟨0, 0, wUp, by decide +kernel⟩,
    ⟨0, 0, wUp, by decide +kernel⟩⟩

set_option maxRecDepth 20000 in
theorem witness_LinkTraining :
    (∃ l : Fin 16, ∃ rate : Fin 6, ∃ width : Fin 5, ∃ framing : Fin 4, ∃ s : State, (s.linkState l = L_TRAINING) ∧ (s.linkExists l = true) ∧ (s.personality l = 0) ∧ (2 ≤ rate.val) ∧ (2 ≤ s.maxRate (l / 4)) ∧ (s.lanesOf l ≤ 2 ^ width.val) ∧ ((s.hostLink l).memOff = false) ∧ ((s.hostLink l).viral = false)) :=
  ⟨0, 4, 4, 1, St [(F.LINK_STATUS_STATE 0 0, 1), (F.PORT_CTL_MAXRATE 0, 4)], by decide +kernel⟩

set_option maxRecDepth 20000 in
theorem witness_HostAccesses :
    (∃ l : Fin 16, ∃ dpa : Dword, ∃ d : BitVec 512, ∃ poison : Bool, ∃ e : Extent, ∃ g : Nat, ∃ x : Nat, ∃ s : State, (s.asleep (.link l) = false) ∧ (s.region (HBM_BASE e.half + e.off + (dpa.toNat / 64 * 64 - e.dpa)) = .hbm g x ∨ s.region (HBM_BASE e.half + e.off + (dpa.toNat / 64 * 64 - e.dpa)) = .scratch g x) ∧ (s.mayEnter (l.val / 8) g = true) ∧ (s.cxlLink l = true) ∧ (s.turnedAway l = false) ∧ ((s.hostLink l).memOff = false) ∧ (bitOf (s.hostLink l).refusing 5 = false) ∧ (s.extentFor l (dpa.toNat / 64 * 64) = some e) ∧ (e.kind = 0) ∧ (s.reaches (l / 8) (HBM_BASE e.half + e.off + (dpa.toNat / 64 * 64 - e.dpa)) 64 = true) ∧ ((s.entering (l.val / 8) g).scratchHeld (HBM_BASE e.half + e.off + (dpa.toNat / 64 * 64 - e.dpa)) = false) ∧ ((s.entering (l.val / 8) g).agentMapped (.link l) (HBM_BASE e.half + e.off + (dpa.toNat / 64 * 64 - e.dpa)) 64 = true)) ∧
    (∃ l : Fin 16, ∃ dpa : Dword, ∃ poison : Bool, ∃ e : Extent, ∃ t : State, ∃ b : List Byte, ∃ bad : Bool, ∃ g : Nat, ∃ x : Nat, ∃ s : State, (s.asleep (.link l) = false) ∧ (s.region (HBM_BASE e.half + e.off + (dpa.toNat / 64 * 64 - e.dpa)) = .hbm g x ∨ s.region (HBM_BASE e.half + e.off + (dpa.toNat / 64 * 64 - e.dpa)) = .scratch g x) ∧ (s.mayEnter (l.val / 8) g = true) ∧ (s.cxlLink l = true) ∧ (s.turnedAway l = false) ∧ ((s.hostLink l).memOff = false) ∧ (bitOf (s.hostLink l).refusing 5 = false) ∧ (s.extentFor l (dpa.toNat / 64 * 64) = some e) ∧ (e.kind = 0) ∧ (s.reaches (l / 8) (HBM_BASE e.half + e.off + (dpa.toNat / 64 * 64 - e.dpa)) 64 = true) ∧ ((s.entering (l.val / 8) g).scratchHeld (HBM_BASE e.half + e.off + (dpa.toNat / 64 * 64 - e.dpa)) = false) ∧ ((s.entering (l.val / 8) g).agentMapped (.link l) (HBM_BASE e.half + e.off + (dpa.toNat / 64 * 64 - e.dpa)) 64 = true) ∧ ((s.entering (l.val / 8) g).loadBytes (HBM_BASE e.half + e.off + (dpa.toNat / 64 * 64 - e.dpa)) 64 = some (t, b, bad))) ∧
    (∃ l : Fin 16, ∃ off : BitVec 25, ∃ b : List Byte, ∃ n : Byte, ∃ poison : Bool, ∃ g : Nat, ∃ x : Nat, ∃ s : State, (s.asleep (.link l) = false) ∧ (s.region (bar2Addr off.toNat) = .hbm g x ∨ s.region (bar2Addr off.toNat) = .scratch g x) ∧ (s.mayEnter (l.val / 8) g = true) ∧ (s.linkUp l = true) ∧ (s.turnedAway l = false) ∧ ((s.entering (l.val / 8) g).scratchHeld (bar2Addr off.toNat) = false) ∧ ((s.entering (l.val / 8) g).agentMapped (.link l) (bar2Addr off.toNat) b.length = true)) ∧
    (∃ l : Fin 16, ∃ off : BitVec 25, ∃ n : Byte, ∃ poison : Bool, ∃ t : State, ∃ b : List Byte, ∃ bad : Bool, ∃ g : Nat, ∃ x : Nat, ∃ s : State, (s.asleep (.link l) = false) ∧ (s.region (bar2Addr off.toNat) = .hbm g x ∨ s.region (bar2Addr off.toNat) = .scratch g x) ∧ (s.mayEnter (l.val / 8) g = true) ∧ (s.linkUp l = true) ∧ (s.turnedAway l = false) ∧ ((s.entering (l.val / 8) g).scratchHeld (bar2Addr off.toNat) = false) ∧ ((s.entering (l.val / 8) g).agentMapped (.link l) (bar2Addr off.toNat) n.toNat = true) ∧ ((s.entering (l.val / 8) g).loadBytes (bar2Addr off.toNat) n.toNat = some (t, b, bad))) ∧
    (∃ l : Fin 16, ∃ off : BitVec 20, ∃ write : Bool, ∃ s : State, (s.asleep (.link l) = false) ∧ (s.bar0Content l off.toNat = false)) ∧
    (∃ l : Fin 16, ∃ k : Fin 16, ∃ addr : Dword, ∃ s : State, (((s.portReport l ERROR 4 0).core k).live = true)) ∧
    (∃ l : Fin 16, ∃ a : Agent, ∃ slot : Fin 32, ∃ off : Fin 128, ∃ data : List Byte, ∃ s : State, (s.asleep a = false) ∧ (s.linkExists l = true) ∧ (reachesMailbox l a = true) ∧ (bitOf (s.reg (R.MBX_BUSY (l / 4) (l % 4))).toNat slot = false)) ∧
    (∃ l : Fin 16, ∃ a : Agent, ∃ slot : Fin 32, ∃ off : Fin 128, ∃ data : List Byte, ∃ s : State, (s.asleep a = false) ∧ (s.linkExists l = true) ∧ (reachesMailbox l a = true) ∧ (bitOf (s.reg (R.MBX_BUSY (l / 4) (l % 4))).toNat slot = true)) :=
  ⟨⟨0, 0, 5, false, wExtent, 0, 0, wUp.modHostLink 0 fun x => { x with extents := [wExtent] }, by decide +kernel⟩,
    ⟨0, 0, false, wExtent, wUp.modHostLink 0 fun x => { x with extents := [wExtent] }, List.replicate 64 0, false, 0, 0, wUp.modHostLink 0 fun x => { x with extents := [wExtent] }, by decide +kernel⟩,
    ⟨0, 0, [1], 0, false, 0, 0, wUp.setFld (F.MEM_LAG_PART_SCRATCH 0) 4, by decide +kernel⟩,
    ⟨0, 0, 4, false, wUp.setFld (F.MEM_LAG_PART_SCRATCH 0) 4, List.replicate 4 0, false, 0, 0, wUp.setFld (F.MEM_LAG_PART_SCRATCH 0) 4, by decide +kernel⟩,
    ⟨0, 0x22000, true, State.reset, by decide +kernel⟩,
    ⟨0, 0, 64, wCore, by decide +kernel⟩,
    ⟨0, .core 0, 3, 0, [1], State.reset, by decide +kernel⟩,
    ⟨0, .core 0, 3, 0, [1], St [(⟨R.MBX_BUSY 0 0, 3, 3⟩, 1)], by decide +kernel⟩⟩

set_option maxRecDepth 20000 in
theorem witness_CxlMailbox :
    (∃ l : Fin 16, ∃ s : State, (s.asleep (.link l) = false) ∧ (s.linkUp l = true) ∧ (s.personality l ≠ 0)) ∧
    (∃ l : Fin 16, ∃ s : State, (s.asleep (.link l) = false) ∧ (s.linkUp l = true) ∧ (s.personality l ≠ 0)) ∧
    (∃ l : Fin 16, ∃ s : State, (s.asleep (.link l) = false) ∧ (s.linkUp l = true) ∧ (s.personality l ≠ 0)) ∧
    (∃ l : Fin 16, ∃ log : BitVec 128, ∃ offset : Word, ∃ len : Word, ∃ s : State, (s.asleep (.link l) = false) ∧ (s.linkUp l = true) ∧ (s.personality l ≠ 0) ∧ (log.toNat = CEL_UUID) ∧ (offset.toNat + len.toNat ≤ effectsLog.length)) ∧
    (∃ l : Fin 16, ∃ log : Byte, ∃ s : State, (s.asleep (.link l) = false) ∧ (s.linkUp l = true) ∧ (s.personality l ≠ 0)) ∧
    (∃ l : Fin 16, ∃ log : Byte, ∃ n : Byte, ∃ s : State, (s.asleep (.link l) = false) ∧ (s.linkUp l = true) ∧ (s.personality l ≠ 0)) ∧
    (∃ l : Fin 16, ∃ dpa : Dword, ∃ len : Dword, ∃ s : State, (s.asleep (.link l) = false) ∧ (s.linkUp l = true) ∧ (s.personality l ≠ 0)) ∧
    (∃ l : Fin 16, ∃ s : State, (s.asleep (.link l) = false) ∧ (s.linkUp l = true) ∧ (s.personality l ≠ 0)) ∧
    (∃ l : Fin 16, ∃ s : State, (s.asleep (.link l) = false) ∧ (s.linkUp l = true) ∧ (s.personality l ≠ 0)) ∧
    (∃ l : Fin 16, ∃ v : Dword, ∃ s : State, (s.asleep (.link l) = false) ∧ (s.linkUp l = true) ∧ (s.personality l ≠ 0)) ∧
    (∃ l : Fin 16, ∃ opcode : BitVec 16, ∃ s : State, (s.asleep (.link l) = false) ∧ (s.linkUp l = true) ∧ (s.personality l ≠ 0) ∧ (cxlOpcodes.contains opcode.toNat = false)) :=
  ⟨⟨0, wUp, by decide +kernel⟩,
    ⟨0, wUp, by decide +kernel⟩,
    ⟨0, wUp, by decide +kernel⟩,
    ⟨0, BitVec.ofNat 128 CEL_UUID, 0, 4, wUp, by decide +kernel⟩,
    ⟨0, 0, wUp, by decide +kernel⟩,
    ⟨0, 0, 1, wUp, by decide +kernel⟩,
    ⟨0, 0, 64, wUp, by decide +kernel⟩,
    ⟨0, wUp, by decide +kernel⟩,
    ⟨0, wUp, by decide +kernel⟩,
    ⟨0, 5, wUp, by decide +kernel⟩,
    ⟨0, 0x1234, wUp, by decide +kernel⟩⟩

set_option maxRecDepth 20000 in
theorem witness_CoherenceRequests :
    (∃ k : Fin 16, ∃ line : BitVec 58, ∃ h : Nat, ∃ role : Nat, ∃ s : State, (((s.core k).holds line.toNat != 0 || (s.core k).fills.contains line.toNat) = true) ∧ (s.xhomeBlocked (k / 8) (lineAddr line.toNat) = false) ∧ (s.engineOf (k / 8) line.toNat = some (h, role)) ∧ (s.mayEnter (k.val / 8) h = true) ∧ (k.val / 8 = h ∨ s.inputHolds h { role := role, ev := 0, line := line.toNat, who := k.val, data := none } = false)) ∧
    (∃ k : Fin 16, ∃ line : BitVec 58, ∃ h : Nat, ∃ role : Nat, ∃ s : State, ((s.engineOf (k / 8) line.toNat).isSome = true) ∧ ((s.core k).holds line.toNat = 0) ∧ ((s.core k).fills.contains line.toNat = false) ∧ (((s.core k).l2Held line.toNat).length + ((s.core k).l2Asked line.toNat).length < cacheWays 2) ∧ ((s.modCore k fun x => { x with fills := x.fills ++ [line.toNat] }).xhomeBlocked (k / 8) (lineAddr line.toNat) = false) ∧ ((s.modCore k fun x => { x with fills := x.fills ++ [line.toNat] }).engineOf (k / 8) line.toNat = some (h, role)) ∧ ((s.modCore k fun x => { x with fills := x.fills ++ [line.toNat] }).mayEnter (k.val / 8) h = true) ∧ (k.val / 8 = h ∨ (s.modCore k fun x => { x with fills := x.fills ++ [line.toNat] }).inputHolds h { role := role, ev := 0, line := line.toNat, who := k.val, data := none } = false)) ∧
    (∃ k : Fin 16, ∃ line : BitVec 58, ∃ h : Nat, ∃ role : Nat, ∃ s : State, (((s.core k).holds line.toNat != 0 || (s.core k).fills.contains line.toNat) = true) ∧ (s.xhomeBlocked (k / 8) (lineAddr line.toNat) = false) ∧ (s.engineOf (k / 8) line.toNat = some (h, role)) ∧ (s.mayEnter (k.val / 8) h = true) ∧ (k.val / 8 = h ∨ s.inputHolds h { role := role, ev := 1, line := line.toNat, who := k.val, data := none } = false)) ∧
    (∃ k : Fin 16, ∃ line : BitVec 58, ∃ h : Nat, ∃ role : Nat, ∃ s : State, ((s.engineOf (k / 8) line.toNat).isSome = true) ∧ ((s.core k).holds line.toNat = 0) ∧ ((s.core k).fills.contains line.toNat = false) ∧ (((s.core k).l2Held line.toNat).length + ((s.core k).l2Asked line.toNat).length < cacheWays 2) ∧ ((s.modCore k fun x => { x with fills := x.fills ++ [line.toNat] }).xhomeBlocked (k / 8) (lineAddr line.toNat) = false) ∧ ((s.modCore k fun x => { x with fills := x.fills ++ [line.toNat] }).engineOf (k / 8) line.toNat = some (h, role)) ∧ ((s.modCore k fun x => { x with fills := x.fills ++ [line.toNat] }).mayEnter (k.val / 8) h = true) ∧ (k.val / 8 = h ∨ (s.modCore k fun x => { x with fills := x.fills ++ [line.toNat] }).inputHolds h { role := role, ev := 1, line := line.toNat, who := k.val, data := none } = false)) ∧
    (∃ k : Fin 16, ∃ line : BitVec 58, ∃ data : BitVec 512, ∃ h : Nat, ∃ role : Nat, ∃ s : State, ((s.coreDrops k line.toNat).xhomeBlocked (k / 8) (lineAddr line.toNat) = false) ∧ ((s.coreDrops k line.toNat).engineOf (k / 8) line.toNat = some (h, role)) ∧ ((s.coreDrops k line.toNat).mayEnter (k.val / 8) h = true) ∧ (k.val / 8 = h ∨ (s.coreDrops k line.toNat).inputHolds h { role := role, ev := 2, line := line.toNat, who := k.val, data := some data } = false)) ∧
    (∃ k : Fin 16, ∃ line : BitVec 58, ∃ h : Nat, ∃ role : Nat, ∃ s : State, ((s.coreDrops k line.toNat).xhomeBlocked (k / 8) (lineAddr line.toNat) = false) ∧ ((s.coreDrops k line.toNat).engineOf (k / 8) line.toNat = some (h, role)) ∧ ((s.coreDrops k line.toNat).mayEnter (k.val / 8) h = true) ∧ (k.val / 8 = h ∨ (s.coreDrops k line.toNat).inputHolds h { role := role, ev := 3, line := line.toNat, who := k.val, data := none } = false)) ∧
    (∃ g : Fin 2, ∃ mgmt : Bool, ∃ line : BitVec 58, ∃ h : Nat, ∃ role : Nat, ∃ s : State, (s.engineOf g line.toNat = some (h, role)) ∧ (s.mayEnter (g.val) h = true) ∧ (g.val = h ∨ s.inputHolds h { role := role, ev := 6, line := line.toNat, who := 32 + bnat mgmt, data := none } = false)) ∧
    (∃ g : Fin 2, ∃ mgmt : Bool, ∃ line : BitVec 58, ∃ data : BitVec 512, ∃ h : Nat, ∃ role : Nat, ∃ s : State, (s.engineOf g line.toNat = some (h, role)) ∧ (s.mayEnter (g.val) h = true) ∧ (g.val = h ∨ s.inputHolds h { role := role, ev := 7, line := line.toNat, who := 32 + bnat mgmt, data := some data } = false)) ∧
    (∃ l : Fin 16, ∃ line : BitVec 58, ∃ h : Nat, ∃ s : State, (s.asleep (.link l) = false) ∧ (bitOf (s.hostLink l).refusing 5 = false) ∧ (s.linkServes l = true) ∧ ((s.hostLink l).memOff = false) ∧ (s.on (F.LINK_STATUS_FENCED (l / 4) (l % 4)) = false) ∧ (s.exposedBy l line.toNat = some h) ∧ (s.mayEnter (l.val / 8) h = true) ∧ (l.val / 8 = h ∨ s.inputHolds h { role := 0, ev := 8, line := line.toNat, who := 16 + l.val, data := none } = false)) ∧
    (∃ l : Fin 16, ∃ line : BitVec 58, ∃ h : Nat, ∃ s : State, (s.asleep (.link l) = false) ∧ (bitOf (s.hostLink l).refusing 5 = false) ∧ (s.linkServes l = true) ∧ ((s.hostLink l).memOff = false) ∧ (s.on (F.LINK_STATUS_FENCED (l / 4) (l % 4)) = false) ∧ (s.exposedBy l line.toNat = some h) ∧ (s.mayEnter (l.val / 8) h = true) ∧ (l.val / 8 = h ∨ s.inputHolds h { role := 0, ev := 9, line := line.toNat, who := 16 + l.val, data := none } = false)) ∧
    (∃ l : Fin 16, ∃ line : BitVec 58, ∃ h : Nat, ∃ s : State, (s.asleep (.link l) = false) ∧ (bitOf (s.hostLink l).refusing 5 = false) ∧ (s.linkServes l = true) ∧ ((s.hostLink l).memOff = false) ∧ (s.on (F.LINK_STATUS_FENCED (l / 4) (l % 4)) = false) ∧ (s.exposedBy l line.toNat = some h) ∧ (s.mayEnter (l.val / 8) h = true) ∧ (l.val / 8 = h ∨ s.inputHolds h { role := 0, ev := 0x0A, line := line.toNat, who := 16 + l.val, data := none } = false)) ∧
    (∃ l : Fin 16, ∃ line : BitVec 58, ∃ data : BitVec 512, ∃ h : Nat, ∃ s : State, (s.asleep (.link l) = false) ∧ (bitOf (s.hostLink l).refusing 5 = false) ∧ (s.linkServes l = true) ∧ ((s.hostLink l).memOff = false) ∧ (s.on (F.LINK_STATUS_FENCED (l / 4) (l % 4)) = false) ∧ (s.exposedBy l line.toNat = some h) ∧ (s.mayEnter (l.val / 8) h = true) ∧ (l.val / 8 = h ∨ s.inputHolds h { role := 0, ev := 0x0B, line := line.toNat, who := 16 + l.val, data := some data } = false)) ∧
    (∃ l : Fin 16, ∃ line : BitVec 58, ∃ h : Nat, ∃ s : State, (s.asleep (.link l) = false) ∧ (bitOf (s.hostLink l).refusing 5 = false) ∧ (s.linkServes l = true) ∧ ((s.hostLink l).memOff = false) ∧ (s.on (F.LINK_STATUS_FENCED (l / 4) (l % 4)) = false) ∧ (s.exposedBy l line.toNat = some h) ∧ (s.mayEnter (l.val / 8) h = true) ∧ (l.val / 8 = h ∨ s.inputHolds h { role := 0, ev := 0x0C, line := line.toNat, who := 16 + l.val, data := none } = false)) ∧
    (∃ l : Fin 16, ∃ line : BitVec 58, ∃ s : State, (s.asleep (.link l) = false) ∧ (bitOf (s.hostLink l).refusing 5 = false) ∧ (s.linkServes l = true) ∧ ((s.hostLink l).memOff = false) ∧ (s.on (F.LINK_STATUS_FENCED (l / 4) (l % 4)) = false) ∧ (s.exposedBy l line.toNat = none)) ∧
    (∃ l : Fin 16, ∃ line : BitVec 58, ∃ h : Nat, ∃ s : State, (s.exposedBy l line.toNat = some h)) :=
  ⟨⟨0, wLine, 0, 0, wExp.modCore 0 fun x => { x with fills := [wLine.toNat] }, by decide +kernel⟩,
    ⟨0, wLine, 0, 0, wExp, by decide +kernel⟩,
    ⟨0, wLine, 0, 0, wExp.modCore 0 fun x => { x with fills := [wLine.toNat] }, by decide +kernel⟩,
    ⟨0, wLine, 0, 0, wExp, by decide +kernel⟩,
    ⟨0, wLine, 5, 0, 0, wExp, by decide +kernel⟩,
    ⟨0, wLine, 0, 0, wExp, by decide +kernel⟩,
    ⟨0, true, wLine, 0, 0, wExp, by decide +kernel⟩,
    ⟨0, true, wLine, 5, 0, 0, wExp, by decide +kernel⟩,
    ⟨0, wLine, 0, wExp, by decide +kernel⟩,
    ⟨0, wLine, 0, wExp, by decide +kernel⟩,
    ⟨0, wLine, 0, wExp, by decide +kernel⟩,
    ⟨0, wLine, 5, 0, wExp, by decide +kernel⟩,
    ⟨0, wLine, 0, wExp, by decide +kernel⟩,
    ⟨0, wLine, wUp, by decide +kernel⟩,
    ⟨0, wLine, 0, wExp, by decide +kernel⟩⟩

set_option maxRecDepth 20000 in
theorem witness_CoherenceResponses :
    (∃ k : Fin 16, ∃ line : BitVec 58, ∃ data : Option (BitVec 512), ∃ p : Nat × Nat, ∃ s : State, (([(0, 0), (1, 0), (0, 1), (1, 1)].find? fun p => bitOf (s.lineOf p.1 p.2 line.toNat).snoops k) = some p)) ∧
    (∃ l : Fin 16, ∃ line : BitVec 58, ∃ data : Option (BitVec 512), ∃ h : Nat, ∃ s : State, (((List.range 2).find? fun h => bitOf (s.lineOf h 0 line.toNat).bisnp l) = some h)) ∧
    (∃ l : Fin 16, ∃ line : BitVec 58, ∃ data : Option (BitVec 512), ∃ h : Nat, ∃ s : State, (((List.range 2).find? fun h => bitOf (s.lineOf h 0 line.toNat).bisnp l) = some h)) ∧
    (∃ h : Fin 2, ∃ role : Fin 2, ∃ line : BitVec 58, ∃ q : CohReq, ∃ r : List CohReq, ∃ s : State, ((s.lineOf h role line.toNat).held = q :: r) ∧ (s.waitOver h role line.toNat = true)) :=
  ⟨⟨0, wLine, none, (0, 0), wExp.modLine 0 0 wLine.toNat fun x => { x with snoops := 1 }, by decide +kernel⟩,
    ⟨0, wLine, none, 0, wExp.modLine 0 0 wLine.toNat fun x => { x with bisnp := 1 }, by decide +kernel⟩,
    ⟨0, wLine, none, 0, wExp.modLine 0 0 wLine.toNat fun x => { x with bisnp := 1 }, by decide +kernel⟩,
    ⟨0, 0, wLine, { role := 0, ev := 0, line := wLine.toNat, who := 0 }, [], wExp.modLine 0 0 wLine.toNat fun x => { x with held := [{ role := 0, ev := 0, line := wLine.toNat, who := 0 }] }, by decide +kernel⟩⟩

set_option maxRecDepth 20000 in
theorem witness_CachingAgent :
    (∃ h : Fin 2, ∃ line : BitVec 58, ∃ s : State, (hostLine line.toNat = true) ∧ (s.routeAlive h = true)) ∧
    (∃ h : Fin 2, ∃ line : BitVec 58, ∃ s : State, (hostLine line.toNat = true) ∧ (s.routeAlive h = true)) ∧
    (∃ h : Fin 2, ∃ line : BitVec 58, ∃ s : State, (hostLine line.toNat = true) ∧ (s.routeAlive h = true)) ∧
    (∃ h : Fin 2, ∃ line : BitVec 58, ∃ s : State, (hostLine line.toNat = true) ∧ (s.routeAlive h = true)) ∧
    (∃ h : Fin 2, ∃ line : BitVec 58, ∃ data : BitVec 512, ∃ s : State, (hostLine line.toNat = true) ∧ (s.routeAlive h = true)) ∧
    (∃ h : Fin 2, ∃ line : BitVec 58, ∃ data : BitVec 512, ∃ s : State, (hostLine line.toNat = true) ∧ (s.routeAlive h = true)) ∧
    (∃ h : Fin 2, ∃ line : BitVec 58, ∃ data : BitVec 512, ∃ s : State, (hostLine line.toNat = true) ∧ (s.routeAlive h = true)) ∧
    (∃ h : Fin 2, ∃ line : BitVec 58, ∃ s : State, (hostLine line.toNat = true) ∧ (s.routeAlive h = true)) ∧
    (∃ h : Fin 2, ∃ line : BitVec 58, ∃ s : State, (hostLine line.toNat = true) ∧ (s.routeAlive h = true)) :=
  ⟨⟨0, wHost, wRoute, by decide +kernel⟩,
    ⟨0, wHost, wRoute, by decide +kernel⟩,
    ⟨0, wHost, wRoute, by decide +kernel⟩,
    ⟨0, wHost, wRoute, by decide +kernel⟩,
    ⟨0, wHost, 5, wRoute, by decide +kernel⟩,
    ⟨0, wHost, 5, wRoute, by decide +kernel⟩,
    ⟨0, wHost, 5, wRoute, by decide +kernel⟩,
    ⟨0, wHost, wRoute, by decide +kernel⟩,
    ⟨0, wHost, wRoute, by decide +kernel⟩⟩

set_option maxRecDepth 20000 in
theorem witness_CoherenceUpkeep :
    (∃ h : Fin 2, ∃ s : State, (s.cohWarmRuns h = true)) ∧
    (∃ h : Fin 2, ∃ f : FlushJob, ∃ s : State, ((s.coh h).flush = some f)) ∧
    (∃ h : Fin 2, ∃ j : TableJob, ∃ s : State, ((s.coh h).load = some j) ∧ (s.engineQuiet h = true)) ∧
    (∃ h : Fin 2, ∃ s : State, (s.quiescing h = true) ∧ (s.engineQuiet h = false)) ∧
    (∃ h : Fin 2, ∃ kind : Fin 4, ∃ s : State, (kind.val < 2)) ∧
    (∃ h : Fin 2, ∃ kind : Fin 4, ∃ s : State, (2 ≤ kind.val)) :=
  ⟨⟨0, wWarm, by decide +kernel⟩,
    ⟨0, wFlush, State.reset.modCoh 0 fun x => { x with flush := some wFlush }, by decide +kernel⟩,
    ⟨0, wTable, State.reset.modCoh 0 fun x => { x with load := some wTable }, by decide +kernel⟩,
    ⟨0, (wExp.modLine 0 0 5 fun x => { x with held := [{ role := 0, ev := 0, line := 5, who := 0 }] }).modCoh 0 fun x => { x with load := some wTable }, by decide +kernel⟩,
    ⟨0, 1, State.reset, by decide +kernel⟩,
    ⟨0, 2, State.reset, by decide +kernel⟩⟩

set_option maxRecDepth 20000 in
theorem witness_CausewayGroups :
    (∃ h : Fin 2, ∃ g : Fin 4, ∃ s : State, (s.groupUp g = true) ∧ ((s.cswGroup g).armCrc = false)) ∧
    (∃ h : Fin 2, ∃ g : Fin 4, ∃ s : State, (s.groupUp g = true) ∧ ((s.cswGroup g).armCrc = false)) ∧
    (∃ h : Fin 2, ∃ g : Fin 4, ∃ good : Bool, ∃ s : State, (s.groupUp g = true) ∧ ((s.cswGroup g).armCrc = true)) ∧
    (∃ g : Fin 4, ∃ s : State, (s.groupUp g = true)) ∧
    (∃ g : Fin 4, ∃ trained : Bool, ∃ s : State, (s.groupState g = G_TRAINING) ∧ (s.restoring = false)) ∧
    (∃ g : Fin 4, ∃ s : State, (s.groupState g = G_DOWN)) ∧
    (∃ mask : BitVec 4, ∃ s : State, (s.restoring = true)) ∧
    (∃ g : Fin 4, ∃ s : State, (((s.cswSet 0 F.CSW_INJECT_INJ_KIND 0).cswSet 0 F.CSW_INJECT_INJ_GROUP g).groupUp g = true)) ∧
    (∃ g : Fin 4, ∃ s : State, (((s.cswSet 0 F.CSW_INJECT_INJ_KIND 1).cswSet 0 F.CSW_INJECT_INJ_GROUP g).groupUp g = true) ∧ (((s.cswSet 0 F.CSW_INJECT_INJ_KIND 1).cswSet 0 F.CSW_INJECT_INJ_GROUP g).onlyUp g = false)) ∧
    (∃ h : Fin 2, ∃ g : Fin 4, ∃ s : State, (((s.cswSet h F.CSW_INJECT_INJ_KIND 2).cswSet h F.CSW_INJECT_INJ_GROUP g).groupUp g = true)) :=
  ⟨⟨0, 0, wCsw, by decide +kernel⟩,
    ⟨0, 0, wCsw, by decide +kernel⟩,
    ⟨0, 0, true, wCsw.modCswGroup 0 fun k => { k with armCrc := true }, by decide +kernel⟩,
    ⟨0, wCsw, by decide +kernel⟩,
    ⟨1, true, wCsw.setGroup 1 G_TRAINING, by decide +kernel⟩,
    ⟨1, wCsw.setGroup 1 G_DOWN, by decide +kernel⟩,
    ⟨1, St [(F.CSW_STATUS_STATE 0, 5)], by decide +kernel⟩,
    ⟨0, wCsw, by decide +kernel⟩,
    ⟨0, wCsw.setGroup 1 G_UP, by decide +kernel⟩,
    ⟨0, 0, wCsw, by decide +kernel⟩⟩

set_option maxRecDepth 20000 in
theorem witness_CausewaySplit :
    (∃ h : Fin 2, ∃ b : Beat, ∃ s : State, ((s.cswHalf (1 - h.val)).wire = some b) ∧ (((s.modCswHalf (1 - h.val) fun k => { k with wire := none }).cswHalf h).drop ≤ 1)) ∧
    (∃ h : Fin 2, ∃ b : Beat, ∃ s : State, ((s.cswHalf (1 - h.val)).wire = some b) ∧ (1 < ((s.modCswHalf (1 - h.val) fun k => { k with wire := none }).cswHalf h).drop)) ∧
    (∃ h : Fin 2, ∃ s : State, (s.groupsUp = 0)) ∧
    (∃ h : Fin 2, ∃ s : State, (s.groupsUp ≠ 0)) ∧
    (∃ h : Fin 2, ∃ s : State, (s.groupsUp = 0) ∧ (s.isSplit h = false) ∧ (s.fld (F.CSW_STATUS_STATE h) ≠ 5)) ∧
    (∃ h : Fin 2, ∃ s : State, (s.groupsUp ≠ 0) ∧ (s.isSplit h = true) ∧ ((s.setFld (F.CSW_STATUS_REJOIN_READY h) 1).on (F.CSW_CTL_AUTO_REJOIN h) = false)) ∧
    (∃ h : Fin 2, ∃ s : State, (s.groupsUp ≠ 0) ∧ (s.isSplit h = true) ∧ ((s.setFld (F.CSW_STATUS_REJOIN_READY h) 1).on (F.CSW_CTL_AUTO_REJOIN h) = true) ∧ ((s.setFld (F.CSW_STATUS_REJOIN_READY h) 1).fld (F.CSW_STATUS_STATE h) = 2) ∧ ((s.setFld (F.CSW_STATUS_REJOIN_READY h) 1).mayRejoin = true)) :=
  ⟨⟨0, wBeat, wCsw.modCswHalf 1 fun k => { k with wire := some wBeat }, by decide +kernel⟩,
    ⟨0, wBeat, (wCsw.modCswHalf 1 fun k => { k with wire := some wBeat }).modCswHalf 0 fun k => { k with drop := 3 }, by decide +kernel⟩,
    ⟨0, State.reset, by decide +kernel⟩,
    ⟨0, wCsw, by decide +kernel⟩,
    ⟨0, State.reset, by decide +kernel⟩,
    ⟨0, wCsw.setFld (F.CSW_STATUS_STATE 0) 2, by decide +kernel⟩,
    ⟨0, wCsw.setFlds [(F.CSW_STATUS_STATE 0, 2), (F.CSW_STATUS_STATE 1, 2), (F.CSW_CTL_AUTO_REJOIN 0, 1)], by decide +kernel⟩⟩

set_option maxRecDepth 20000 in
theorem witness_ImageFrames :
    (∃ f : List Byte, ∃ s : State, (s.fld F.CFG_STATUS_MODE ≠ 2) ∧ (s.fld F.CFG_STATUS_MODE < 4) ∧ (s.phase = CONFIG_WAIT) ∧ (fType f = 0x10) ∧ (fCrc f = true) ∧ (deviceFrame f 0 false = true) ∧ (fAddr f = 0) ∧ (fLen f = 512) ∧ (s.deviceCause (fPayload f) = none)) ∧
    (∃ f : List Byte, ∃ s : State, (s.fld F.CFG_STATUS_MODE ≠ 2) ∧ (s.fld F.CFG_STATUS_MODE < 4) ∧ (s.phase = LOADING) ∧ (fCrc f = true) ∧ (s.image.taken + f.length ≤ s.image.bytes) ∧ (s.image.segFrames ≠ 64) ∧ (¬ (s.image.lastSeg = true ∧ fFlags f % 2 = 1)) ∧ (fType f = 0x11) ∧ (deviceFrame f s.image.index s.image.encrypted = true) ∧ (s.image.current = none) ∧ (1 ≤ fAddr f) ∧ (fAddr f ≤ 6) ∧ (fLen f = globalLen (fAddr f)) ∧ (globalOk (fAddr f) (s.imagePlain f) = true)) ∧
    (∃ f : List Byte, ∃ s : State, (s.fld F.CFG_STATUS_MODE ≠ 2) ∧ (s.fld F.CFG_STATUS_MODE < 4) ∧ (s.phase = LOADING) ∧ (fCrc f = true) ∧ (s.image.taken + f.length ≤ s.image.bytes) ∧ (s.image.segFrames ≠ 64) ∧ (¬ (s.image.lastSeg = true ∧ fFlags f % 2 = 1)) ∧ (fType f = 9) ∧ (deviceFrame f s.image.index false = true) ∧ (s.image.encrypted = true) ∧ (fAddr f = s.image.segNo) ∧ (fLen f = 32) ∧ (1 ≤ s.image.segFrames) ∧ (zeroAt (fPayload f) 16 16 = true)) ∧
    (∃ f : List Byte, ∃ s : State, (s.fld F.CFG_STATUS_MODE ≠ 2) ∧ (s.fld F.CFG_STATUS_MODE < 4) ∧ (s.phase = LOADING) ∧ (fCrc f = true) ∧ (s.image.taken + f.length ≤ s.image.bytes) ∧ (s.image.segFrames ≠ 64) ∧ (¬ (s.image.lastSeg = true ∧ fFlags f % 2 = 1)) ∧ (fType f = 1) ∧ (fFormed f = true) ∧ (fFlags f = bnat s.image.encrypted) ∧ (fPan f < 256) ∧ (s.image.current = none) ∧ (badHeaderFrame (plainFrame f (s.imagePlain f)) = false) ∧ (s.image.done.contains (fPan f) = false) ∧ (s.headerCause (fPan f) (s.imagePlain f) s.image.signed = none) ∧ (bitOf (numAt (s.imagePlain f) 10 1) 1 = false)) ∧
    (∃ f : List Byte, ∃ s : State, (s.fld F.CFG_STATUS_MODE ≠ 2) ∧ (s.fld F.CFG_STATUS_MODE < 4) ∧ (s.phase = LOADING) ∧ (fCrc f = true) ∧ (s.image.taken + f.length ≤ s.image.bytes) ∧ (fType f = 0x1F) ∧ (deviceFrame f s.image.index false = true) ∧ (fAddr f = 0) ∧ (fLen f = 32) ∧ (s.image.current = none) ∧ (s.image.segFrames = 0) ∧ (¬ (s.image.lastSeg = true ∧ fFlags f % 2 = 1))) :=
  ⟨⟨wDevice, wWait, by decide +kernel⟩,
    ⟨wGlobal, wImage, by decide +kernel⟩,
    ⟨wSegtag, wEncImage, by decide +kernel⟩,
    ⟨wPanHead, wImage, by decide +kernel⟩,
    ⟨wDeviceEnd, wImage, by decide +kernel⟩⟩

set_option maxRecDepth 20000 in
theorem witness_ImageEnd :
    (∃ s : State, (s.phase = LOADING ∨ s.phase = VERIFY) ∧ (s.image.sigOk = none) ∧ (s.secOperational = true) ∧ (bitOf (s.fld F.SEC_KEYS_CTRL) 2 = true)) ∧
    (∃ s : State, (s.phase = VERIFY) ∧ (s.image.ended = true) ∧ (s.image.sigOk = some true) ∧ (s.waitsOver = true)) ∧
    (∃ s : State, (s.phase = DONE_WAIT)) ∧
    (∃ s : State, (s.phase = LOADING)) ∧
    (∃ r : List Byte, ∃ l : List (List Byte), ∃ s : State, (s.cfgReplies = r :: l)) ∧
    (∃ s : State, (s.cfgReplies = [])) :=
  ⟨⟨wImage.setFlds [(F.SEC_STATUS_STATE, 1), (F.SEC_KEYS_CTRL, 4)], by decide +kernel⟩,
    ⟨wVerified, by decide +kernel⟩,
    ⟨St [(F.RST_STATUS_STATE, 5)], by decide +kernel⟩,
    ⟨wImage, by decide +kernel⟩,
    ⟨[1], [], { State.reset with cfgReplies := [[1]] }, by decide +kernel⟩,
    ⟨State.reset, by decide +kernel⟩⟩

set_option maxRecDepth 20000 in
theorem witness_SecurityEvents :
    (∃ s : State, (s.secState = SELFTEST) ∧ (s.phase = 1)) ∧
    (∃ cause : Fin 7, ∃ s : State, (s.secState = SELFTEST) ∧ (s.phase = 1) ∧ (cause.val ≠ 0)) ∧
    (∃ cause : Fin 3, ∃ s : State, (s.secState = OPERATIONAL)) ∧
    (∃ s : State, (s.secState = OPERATIONAL)) ∧
    (∃ s : State, (s.sec.zeroizing = 1) ∧ (((s.modSec fun m => { m with zeroizing := 0 }).setFld F.SEC_COUNTS_ZCOUNT (s.fld F.SEC_COUNTS_ZCOUNT + 1)).secState = ZEROIZING)) ∧
    (∃ s : State, (s.sec.zeroizing = 2) ∧ ((((s.setFld F.SEC_KEYS_CTRL (s.fld F.SEC_KEYS_CTRL ||| 0x18)).modSec fun m => { m with zeroizing := 0 }).setFld F.SEC_COUNTS_ZCOUNT (s.fld F.SEC_COUNTS_ZCOUNT + 1)).secState = ZEROIZING)) ∧
    (∃ f : FuseJob, ∃ s : State, (s.sec.fuse = some f) ∧ (f.done + 1 < f.words)) ∧
    (∃ f : FuseJob, ∃ s : State, (s.sec.fuse = some f) ∧ (¬ f.done + 1 < f.words) ∧ (f.field ≠ 3)) ∧
    (∃ f : FuseJob, ∃ s : State, (s.sec.fuse = some f)) ∧
    (∃ h : Fin 2, ∃ s : State, (s.patch (2 * h + 1) ≠ 0) ∧ (s.isRestarting h = false) ∧ (s.jobs.any (fun j => j.half == h.val && j.opcode != 0x0906) = false)) ∧
    (∃ src : Fin 7, ∃ s : State, (s.tamperWatched src = true) ∧ (s.fld F.SEC_TAMPER_LATCH_LATCH ≠ 0) ∧ (s.phase ≠ 0)) ∧
    (∃ src : Fin 7, ∃ s : State, (s.tamperWatched src = true) ∧ (s.fld F.SEC_TAMPER_LATCH_LATCH = 0) ∧ (s.phase ≠ 0)) ∧
    (∃ s : State, (s.on F.SEC_STATUS_DBG_GRANTED = true)) :=
  ⟨⟨St [(F.RST_STATUS_STATE, 1)], by decide +kernel⟩,
    ⟨3, St [(F.RST_STATUS_STATE, 1)], by decide +kernel⟩,
    ⟨1, wSec, by decide +kernel⟩,
    ⟨wSec, by decide +kernel⟩,
    ⟨{ wSec.setFld F.SEC_STATUS_STATE 3 with sec := { State.reset.sec with zeroizing := 1 } }, by decide +kernel⟩,
    ⟨{ wSec.setFld F.SEC_STATUS_STATE 3 with sec := { State.reset.sec with zeroizing := 2 } }, by decide +kernel⟩,
    ⟨{ field := 0, value := 5, words := 8 }, { State.reset with sec := { State.reset.sec with fuse := some { field := 0, value := 5, words := 8 } } }, by decide +kernel⟩,
    ⟨{ field := 0, value := 5, words := 8, done := 7 }, { State.reset with sec := { State.reset.sec with fuse := some { field := 0, value := 5, words := 8, done := 7 } } }, by decide +kernel⟩,
    ⟨{ field := 0, value := 5, words := 8 }, { State.reset with sec := { State.reset.sec with fuse := some { field := 0, value := 5, words := 8 } } }, by decide +kernel⟩,
    ⟨0, State.reset.setPatch 1 4, by decide +kernel⟩,
    ⟨1, St [(F.RST_STATUS_STATE, 7), (F.SEC_TAMPER_CFG_EN, 127), (F.SEC_TAMPER_LATCH_LATCH, 1)], by decide +kernel⟩,
    ⟨1, St [(F.RST_STATUS_STATE, 7), (F.SEC_TAMPER_CFG_EN, 127), (F.SEC_TAMPER_LATCH_LATCH, 0)], by decide +kernel⟩,
    ⟨St [(F.SEC_STATUS_DBG_GRANTED, 1)], by decide +kernel⟩⟩

set_option maxRecDepth 20000 in
theorem witness_Attestation :
    (∃ l : Fin 16, ∃ s : State, (s.linkUp l = true) ∧ (s.secState = OPERATIONAL) ∧ (l.val < 8 ∨ s.causewayUp 0 = true)) ∧
    (∃ l : Fin 16, ∃ s : State, (s.linkUp l = true) ∧ (s.secState = OPERATIONAL) ∧ (l.val < 8 ∨ s.causewayUp 0 = true)) ∧
    (∃ l : Fin 16, ∃ s : State, (s.linkUp l = true) ∧ (s.secState = OPERATIONAL) ∧ (l.val < 8 ∨ s.causewayUp 0 = true)) ∧
    (∃ l : Fin 16, ∃ s : State, (s.linkUp l = true) ∧ (s.secState = OPERATIONAL) ∧ (l.val < 8 ∨ s.causewayUp 0 = true)) ∧
    (∃ l : Fin 16, ∃ offset : BitVec 16, ∃ len : BitVec 16, ∃ s : State, (s.linkUp l = true) ∧ (s.secState = OPERATIONAL) ∧ (l.val < 8 ∨ s.causewayUp 0 = true)) ∧
    (∃ l : Fin 16, ∃ nonce : BitVec 256, ∃ s : State, (s.linkUp l = true) ∧ (s.secState = OPERATIONAL) ∧ (l.val < 8 ∨ s.causewayUp 0 = true)) ∧
    (∃ l : Fin 16, ∃ s : State, (s.linkUp l = true) ∧ (s.secState = OPERATIONAL) ∧ (l.val < 8 ∨ s.causewayUp 0 = true)) ∧
    (∃ l : Fin 16, ∃ s : State, (s.linkUp l = true) ∧ (s.secState = OPERATIONAL) ∧ (l.val < 8 ∨ s.causewayUp 0 = true)) ∧
    (∃ l : Fin 16, ∃ s : State, (s.linkUp l = true) ∧ (s.secState = OPERATIONAL) ∧ (l.val < 8 ∨ s.causewayUp 0 = true) ∧ (s.sessionsOf l < 2) ∧ (s.fld F.SEC_STATUS_SESSIONS < 16)) ∧
    (∃ l : Fin 16, ∃ s : State, (s.linkUp l = true) ∧ (s.secState = OPERATIONAL) ∧ (l.val < 8 ∨ s.causewayUp 0 = true) ∧ (0 < s.sessionsOf l)) ∧
    (∃ l : Fin 16, ∃ s : State, (s.linkUp l = true) ∧ (s.secState = OPERATIONAL) ∧ (l.val < 8 ∨ s.causewayUp 0 = true) ∧ (0 < s.sessionsOf l)) ∧
    (∃ l : Fin 16, ∃ s : State, (s.linkUp l = true) ∧ (s.secState = OPERATIONAL) ∧ (l.val < 8 ∨ s.causewayUp 0 = true) ∧ (0 < s.sessionsOf l)) ∧
    (∃ l : Fin 16, ∃ s : State, (s.linkUp l = true) ∧ (s.secState = OPERATIONAL) ∧ (l.val < 8 ∨ s.causewayUp 0 = true) ∧ (0 < s.sessionsOf l) ∧ (s.sessionsOf l = 1)) ∧
    (∃ l : Fin 16, ∃ stream : Fin 6, ∃ s : State, (s.linkUp l = true) ∧ (s.secState = OPERATIONAL) ∧ (l.val < 8 ∨ s.causewayUp 0 = true) ∧ (0 < s.sessionsOf l) ∧ (s.streamOffered l stream = true)) ∧
    (∃ l : Fin 16, ∃ stream : Fin 6, ∃ key : BitVec 256, ∃ s : State, (s.linkUp l = true) ∧ (s.secState = OPERATIONAL) ∧ (l.val < 8 ∨ s.causewayUp 0 = true) ∧ (0 < s.sessionsOf l) ∧ (stream.val ≠ 0) ∧ (Bank.get (fun _ => []) s.sec.generated (8 * l + stream) = leBytes 32 key.toNat)) :=
  ⟨⟨0, wSec, by decide +kernel⟩,
    ⟨0, wSec, by decide +kernel⟩,
    ⟨0, wSec, by decide +kernel⟩,
    ⟨0, wSec, by decide +kernel⟩,
    ⟨0, 0, 16, wSec, by decide +kernel⟩,
    ⟨0, 7, wSec, by decide +kernel⟩,
    ⟨0, wSec, by decide +kernel⟩,
    ⟨0, wSec, by decide +kernel⟩,
    ⟨0, wSec, by decide +kernel⟩,
    ⟨0, wSec.setSessions 0 1, by decide +kernel⟩,
    ⟨0, wSec.setSessions 0 1, by decide +kernel⟩,
    ⟨0, wSec.setSessions 0 1, by decide +kernel⟩,
    ⟨0, wSec.setSessions 0 1, by decide +kernel⟩,
    ⟨0, 1, wSec.setSessions 0 1, by decide +kernel⟩,
    ⟨0, 1, 9, { (wSec.setSessions 0 1) with sec := { (wSec.setSessions 0 1).sec with generated := Bank.set (fun _ => []) [] 1 (leBytes 32 9) } }, by decide +kernel⟩⟩

set_option maxRecDepth 20000 in
theorem witness_GovernorReadings :
    (∃ h : Fin 2, ∃ k : Fin 64, ∃ s : State, (0 < k.val) ∧ (k.val < 63) ∧ (320 < (s.sensorTemp h k - s.sensorTemp h (k.val - 1)).natAbs) ∧ (320 < (s.sensorTemp h k - s.sensorTemp h (k.val + 1)).natAbs)) ∧
    (∃ h : Fin 2, ∃ s : State, (320 < (s.sensorTemp h 0 - s.sensorTemp h 1).natAbs)) ∧
    (∃ h : Fin 2, ∃ s : State, (320 < (s.sensorTemp h 63 - s.sensorTemp h 62).natAbs)) ∧
    (∃ h : Fin 2, ∃ c : Fin 24, ∃ code : BitVec 12, ∃ s : State, (0 < c.val) ∧ (c.val < 13)) ∧
    (∃ h : Fin 2, ∃ c : Fin 24, ∃ code : BitVec 12, ∃ s : State, (13 ≤ c.val) ∧ (c.val < 16)) ∧
    (∃ h : Fin 2, ∃ c : Fin 24, ∃ code : BitVec 12, ∃ s : State, (16 ≤ c.val)) ∧
    (∃ h : Fin 2, ∃ temp : Byte, ∃ s : State, (105 ≤ temp.toNat)) ∧
    (∃ h : Fin 2, ∃ temp : Byte, ∃ s : State, (temp.toNat < 105)) ∧
    (∃ h : Fin 2, ∃ r : Fin 8, ∃ status : BitVec 16, ∃ iout : BitVec 12, ∃ pout : BitVec 16, ∃ s : State, (s.on (F.GOV_REG_CFG_EN h r) = true) ∧ ((s.signalPin h 7 6).isSome = true) ∧ ((s.signalPin h 7 7).isSome = true)) ∧
    (∃ h : Fin 2, ∃ r : Fin 8, ∃ acked : Bool, ∃ status : BitVec 16, ∃ iout : BitVec 12, ∃ pout : BitVec 16, ∃ s : State, (s.on (F.GOV_REG_CFG_EN h r) = true) ∧ ((acked && (s.signalPin h 7 6).isSome && (s.signalPin h 7 7).isSome) = false) ∧ (3 ≤ ((s.modSlot h r fun x => { x with naks := min 3 (x.naks + 1) }).slot h r).naks)) ∧
    (∃ h : Fin 2, ∃ r : Fin 8, ∃ acked : Bool, ∃ status : BitVec 16, ∃ iout : BitVec 12, ∃ pout : BitVec 16, ∃ s : State, (s.on (F.GOV_REG_CFG_EN h r) = true) ∧ ((acked && (s.signalPin h 7 6).isSome && (s.signalPin h 7 7).isSome) = false) ∧ (((s.modSlot h r fun x => { x with naks := min 3 (x.naks + 1) }).slot h r).naks < 3)) ∧
    (∃ h : Fin 2, ∃ r : Fin 8, ∃ s : State, (s.avsSlot h r = true) ∧ (((List.range 8).any fun k => k != r.val && s.avsSlot h k) = false)) ∧
    (∃ h : Fin 2, ∃ r : Fin 8, ∃ s : State, (s.avsSlot h r = false ∨ ((List.range 8).any fun k => k != r.val && s.avsSlot h k) = true) ∧ (s.on (F.GOV_REG_CFG_EN h r) = true)) ∧
    (∃ h : Fin 2, ∃ s : State, ((s.gov h).rail < s.vfabGoal h)) ∧
    (∃ h : Fin 2, ∃ s : State, (s.vfabGoal h < (s.gov h).rail)) ∧
    (∃ h : Fin 2, ∃ r : Fin 8, ∃ s : State, (s.avsSlot h r = true) ∧ ((s.gov h).rail = s.fld (F.GOV_STATUS_VFAB_MV h)) ∧ (50 < ((s.fld (F.GOV_ADC_CODE h 0) : Int) - 2 * (s.fld (F.GOV_STATUS_VFAB_MV h) : Nat)).natAbs)) ∧
    (∃ h : Fin 2, ∃ j : Fin 4, ∃ rpm : Word, ∃ s : State, (s.hasTach h j = true) ∧ ((s.signalPin h 6 j).isSome = true) ∧ (300 ≤ rpm.toNat)) ∧
    (∃ h : Fin 2, ∃ j : Fin 4, ∃ rpm : Word, ∃ s : State, (s.hasTach h j = true) ∧ ((s.signalPin h 6 j).isSome = true) ∧ (rpm.toNat < 300)) ∧
    (∃ h : Fin 2, ∃ j : Fin 4, ∃ rpm : Word, ∃ s : State, (s.hasTach h j = true) ∧ ((s.signalPin h 6 j).isSome = false)) ∧
    (∃ h : Fin 2, ∃ j : Fin 4, ∃ s : State, (s.hasTach h j = true) ∧ (s.fld (F.GOV_FAN_ROLE h j) ≠ 0) ∧ (s.fld (F.GOV_FAN_RPM h j) < 300) ∧ (min 100 (s.fld (F.GOV_COOL_DUTY_MIN h)) ≤ s.fld (F.GOV_FAN_DUTY h j)) ∧ ((s.gov h).stalled.contains j.val = false)) :=
  ⟨⟨0, 5, St [(F.GOV_TSENSE_TEMP 0 5, 800), (F.GOV_TSENSE_TEMP 0 4, 100), (F.GOV_TSENSE_TEMP 0 6, 100)], by decide +kernel⟩,
    ⟨0, St [(F.GOV_TSENSE_TEMP 0 0, 800)], by decide +kernel⟩,
    ⟨0, St [(F.GOV_TSENSE_TEMP 0 63, 800)], by decide +kernel⟩,
    ⟨0, 3, 7, State.reset, by decide +kernel⟩,
    ⟨0, 14, 7, State.reset, by decide +kernel⟩,
    ⟨0, 17, 7, State.reset, by decide +kernel⟩,
    ⟨0, 110, State.reset, by decide +kernel⟩,
    ⟨0, 60, State.reset, by decide +kernel⟩,
    ⟨0, 1, 2, 3, 4, St [(F.GOV_REG_CFG_EN 0 1, 1)], by decide +kernel⟩,
    ⟨0, 1, false, 2, 3, 4, (St [(F.GOV_REG_CFG_EN 0 1, 1)]).modSlot 0 1 fun x => { x with naks := 2 }, by decide +kernel⟩,
    ⟨0, 1, false, 2, 3, 4, (St [(F.GOV_REG_CFG_EN 0 1, 1)]), by decide +kernel⟩,
    ⟨0, 1, St [(F.GOV_REG_CFG_EN 0 0, 0), (F.GOV_REG_CFG_EN 0 1, 1), (F.GOV_REG_CFG_AVS 0 1, 1), (F.GOV_REG_CFG_RAIL 0 1, 0), (F.GOV_REG_CFG_EN 0 2, 0), (F.GOV_REG_CFG_EN 0 3, 0), (F.GOV_REG_CFG_EN 0 4, 0), (F.GOV_REG_CFG_EN 0 5, 0), (F.GOV_REG_CFG_EN 0 6, 0), (F.GOV_REG_CFG_EN 0 7, 0)], by decide +kernel⟩,
    ⟨0, 1, St [(F.GOV_REG_CFG_EN 0 1, 1), (F.GOV_REG_CFG_AVS 0 1, 0)], by decide +kernel⟩,
    ⟨0, St [(F.GOV_STATUS_VFAB_MV 0, 950)], by decide +kernel⟩,
    ⟨0, St [(F.GOV_STATUS_VFAB_MV 0, 550)], by decide +kernel⟩,
    ⟨0, 1, St [(F.GOV_REG_CFG_EN 0 1, 1), (F.GOV_REG_CFG_AVS 0 1, 1), (F.GOV_STATUS_VFAB_MV 0, 800)], by decide +kernel⟩,
    ⟨0, 1, 900, St [(F.GOV_FAN_PPR 0 1, 2)], by decide +kernel⟩,
    ⟨0, 1, 9, St [(F.GOV_FAN_PPR 0 1, 2)], by decide +kernel⟩,
    ⟨0, 1, 9, St [(F.GOV_FAN_PPR 0 1, 2), (F.PIN_CFG_FUNC 189, 0), (F.RST_STATUS_STATE, 7)], by decide +kernel⟩,
    ⟨0, 1, St [(F.GOV_FAN_PPR 0 1, 2), (F.GOV_FAN_ROLE 0 1, 2), (F.GOV_FAN_DUTY 0 1, 100), (F.GOV_FAN_RPM 0 1, 0)], by decide +kernel⟩⟩

set_option maxRecDepth 20000 in
theorem witness_GovernorControl :
    (∃ h : Fin 2, ∃ i : Fin 8, ∃ s : State, (s.flowLow h i = true)) ∧
    (∃ h : Fin 2, ∃ s : State, (((s.gov h).stalled.any fun j => s.fld (F.GOV_FAN_ROLE h j) == 2) = false) ∧ ((List.range 8).any (s.flowLow h) = false)) ∧
    (∃ s : State, (s.causewayUp 0 = true) ∧ (s.causewayUp 1 = true)) ∧
    (∃ s : State, (s.causewayUp 0 = false ∨ s.causewayUp 1 = false)) ∧
    (∃ s : State, (s.stopCondition 0 = false) ∧ (s.stopCondition 1 = false)) ∧
    (∃ h : Fin 2, ∃ kind : Fin 8, ∃ unit : Fin 64, ∃ cls : Nat, ∃ code : Nat, ∃ n : Nat, ∃ s : State, (govKind kind = some (cls, code, n)) ∧ (unit.val < n)) ∧
    (∃ h : Fin 2, ∃ kind : Fin 8, ∃ unit : Fin 64, ∃ cls : Nat, ∃ code : Nat, ∃ n : Nat, ∃ s : State, (govKind kind = some (cls, code, n)) ∧ (n ≤ unit.val)) ∧
    (∃ h : Fin 2, ∃ kind : Fin 8, ∃ unit : Fin 64, ∃ s : State, (6 ≤ kind.val)) :=
  ⟨⟨0, 1, St [(F.GOV_AIN_CFG_ROLE 0 1, 3), (F.GOV_AIN_CFG_LOW_CODE 0 1, 9)], by decide +kernel⟩,
    ⟨0, State.reset, by decide +kernel⟩,
    ⟨wCsw, by decide +kernel⟩,
    ⟨State.reset, by decide +kernel⟩,
    ⟨State.reset, by decide +kernel⟩,
    ⟨0, 1, 2, 1, 2, 4, State.reset, by decide +kernel⟩,
    ⟨0, 1, 8, 1, 2, 4, State.reset, by decide +kernel⟩,
    ⟨0, 7, 8, State.reset, by decide +kernel⟩⟩

set_option maxRecDepth 20000 in
theorem witness_PinEvents :
    (∃ b : Fin 12, ∃ mask : Word, ∃ l : Fin 16, ∃ s : State, (s.asleep (.link l) = false) ∧ (s.on (F.PIN_BANK_CTL_HOST_EN b) = true)) ∧
    (∃ b : Fin 12, ∃ mask : Word, ∃ l : Fin 16, ∃ s : State, (s.asleep (.link l) = false) ∧ (s.on (F.PIN_BANK_CTL_HOST_EN b) = false)) ∧
    (∃ b : Fin 12, ∃ mask : Word, ∃ l : Fin 16, ∃ s : State, (s.asleep (.link l) = false) ∧ (s.on (F.PIN_BANK_CTL_HOST_EN b) = true)) ∧
    (∃ b : Fin 12, ∃ mask : Word, ∃ l : Fin 16, ∃ s : State, (s.asleep (.link l) = false) ∧ (s.on (F.PIN_BANK_CTL_HOST_EN b) = false)) ∧
    (∃ b : Fin 12, ∃ mask : Word, ∃ l : Fin 16, ∃ s : State, (s.asleep (.link l) = false) ∧ (s.on (F.PIN_BANK_CTL_HOST_EN b) = true)) ∧
    (∃ b : Fin 12, ∃ mask : Word, ∃ l : Fin 16, ∃ s : State, (s.asleep (.link l) = false) ∧ (s.on (F.PIN_BANK_CTL_HOST_EN b) = false)) ∧
    (∃ l : Fin 16, ∃ off : BitVec 16, ∃ write : Bool, ∃ s : State, (s.asleep (.link l) = false) ∧ (mirrorOffset off.toNat = false)) ∧
    (∃ kind : Fin 4, ∃ s : State, (2 ≤ kind.val)) :=
  ⟨⟨1, 3, 0, St [(F.PIN_BANK_CTL_HOST_EN 1, 1)], by decide +kernel⟩,
    ⟨1, 3, 0, St [(F.PIN_BANK_CTL_HOST_EN 1, 0)], by decide +kernel⟩,
    ⟨1, 3, 0, St [(F.PIN_BANK_CTL_HOST_EN 1, 1)], by decide +kernel⟩,
    ⟨1, 3, 0, St [(F.PIN_BANK_CTL_HOST_EN 1, 0)], by decide +kernel⟩,
    ⟨1, 3, 0, St [(F.PIN_BANK_CTL_HOST_EN 1, 1)], by decide +kernel⟩,
    ⟨1, 3, 0, St [(F.PIN_BANK_CTL_HOST_EN 1, 0)], by decide +kernel⟩,
    ⟨0, 0x14, true, State.reset, by decide +kernel⟩,
    ⟨3, State.reset, by decide +kernel⟩⟩

set_option maxRecDepth 20000 in
theorem witness_SerialEngines :
    (∃ c : Fin 16, ∃ v : Dword, ∃ e : Nat, ∃ s : State, ((s.core c).live = true) ∧ (s.isHalted c = false) ∧ ((s.core c).prv = 3) ∧ (s.serialOf c = some e)) ∧
    (∃ c : Fin 16, ∃ e : Nat, ∃ s : State, ((s.core c).live = true) ∧ (s.isHalted c = false) ∧ ((s.core c).prv = 3) ∧ (s.serialOf c = some e)) ∧
    (∃ c : Fin 16, ∃ v : Dword, ∃ e : Nat, ∃ s : State, ((s.core c).live = true) ∧ (s.isHalted c = false) ∧ ((s.core c).prv = 3) ∧ (s.serialOf c = some e)) ∧
    (∃ c : Fin 16, ∃ v : Dword, ∃ e : Nat, ∃ s : State, ((s.core c).live = true) ∧ (s.isHalted c = false) ∧ ((s.core c).prv = 3) ∧ (s.serialOf c = some e)) ∧
    (∃ c : Fin 16, ∃ v : Dword, ∃ s : State, ((s.core c).live = true) ∧ (s.isHalted c = false) ∧ ((s.core c).prv = 3) ∧ (s.serialOf c = none)) ∧
    (∃ c : Fin 16, ∃ v : Dword, ∃ s : State, ((s.core c).live = true) ∧ (s.isHalted c = false) ∧ ((s.core c).prv = 3) ∧ (s.serialOf c = none)) ∧
    (∃ c : Fin 16, ∃ v : Dword, ∃ s : State, ((s.core c).live = true) ∧ (s.isHalted c = false) ∧ ((s.core c).prv = 3) ∧ (s.serialOf c = none)) ∧
    (∃ c : Fin 16, ∃ s : State, ((s.core c).live = true) ∧ (s.isHalted c = false) ∧ ((s.core c).prv = 3) ∧ (s.serialOf c = none)) ∧
    (∃ c : Fin 16, ∃ v : Dword, ∃ s : State, ((s.core c).live = true) ∧ (s.isHalted c = false) ∧ ((s.core c).prv = 3)) ∧
    (∃ c : Fin 16, ∃ v : Dword, ∃ s : State, ((s.core c).live = true) ∧ (s.isHalted c = false) ∧ ((s.core c).prv = 3)) ∧
    (∃ c : Fin 16, ∃ v : Dword, ∃ s : State, ((s.core c).live = true) ∧ (s.isHalted c = false) ∧ ((s.core c).prv = 3)) ∧
    (∃ c : Fin 16, ∃ v : Dword, ∃ s : State, ((s.core c).live = true) ∧ (s.isHalted c = false) ∧ ((s.core c).prv ≠ 3)) ∧
    (∃ c : Fin 16, ∃ s : State, ((s.core c).live = true) ∧ (s.isHalted c = false) ∧ ((s.core c).prv ≠ 3)) ∧
    (∃ c : Fin 16, ∃ v : Dword, ∃ s : State, ((s.core c).live = true) ∧ (s.isHalted c = false) ∧ ((s.core c).prv ≠ 3)) ∧
    (∃ c : Fin 16, ∃ v : Dword, ∃ s : State, ((s.core c).live = true) ∧ (s.isHalted c = false) ∧ ((s.core c).prv ≠ 3)) ∧
    (∃ c : Fin 16, ∃ v : Dword, ∃ s : State, ((s.core c).live = true) ∧ (s.isHalted c = false) ∧ ((s.core c).prv ≠ 3)) ∧
    (∃ c : Fin 16, ∃ v : Dword, ∃ s : State, ((s.core c).live = true) ∧ (s.isHalted c = false) ∧ ((s.core c).prv ≠ 3)) ∧
    (∃ c : Fin 16, ∃ v : Dword, ∃ s : State, ((s.core c).live = true) ∧ (s.isHalted c = false) ∧ ((s.core c).prv ≠ 3)) ∧
    (∃ e : Fin 12, ∃ data : Byte, ∃ err : Bool, ∃ lost : Bool, ∃ w : Nat, ∃ s : State, (serialKind e ≠ 2) ∧ ((s.serial e).current = some w)) ∧
    (∃ e : Fin 12, ∃ data : Byte, ∃ err : Bool, ∃ lost : Bool, ∃ s : State, (serialKind e = 2)) ∧
    (∃ e : Fin 12, ∃ data : Byte, ∃ err : Bool, ∃ lost : Bool, ∃ w : Nat, ∃ s : State, (serialKind e = 2) ∧ ((s.serial e).current = some w)) :=
  ⟨⟨0, 9, 0, wCore, by decide +kernel⟩,
    ⟨0, 0, wCore, by decide +kernel⟩,
    ⟨0, 9, 0, wCore, by decide +kernel⟩,
    ⟨0, 9, 0, wCore, by decide +kernel⟩,
    ⟨0, 9, wCore.setCsr 0 0x7C7 7, by decide +kernel⟩,
    ⟨0, 9, wCore.setCsr 0 0x7C7 7, by decide +kernel⟩,
    ⟨0, 9, wCore.setCsr 0 0x7C7 7, by decide +kernel⟩,
    ⟨0, wCore.setCsr 0 0x7C7 7, by decide +kernel⟩,
    ⟨0, 9, wCore, by decide +kernel⟩,
    ⟨0, 9, wCore, by decide +kernel⟩,
    ⟨0, 9, wCore, by decide +kernel⟩,
    ⟨0, 9, wCore.modCore 0 fun k => { k with prv := 0 }, by decide +kernel⟩,
    ⟨0, wCore.modCore 0 fun k => { k with prv := 0 }, by decide +kernel⟩,
    ⟨0, 9, wCore.modCore 0 fun k => { k with prv := 0 }, by decide +kernel⟩,
    ⟨0, 9, wCore.modCore 0 fun k => { k with prv := 0 }, by decide +kernel⟩,
    ⟨0, 9, wCore.modCore 0 fun k => { k with prv := 0 }, by decide +kernel⟩,
    ⟨0, 9, wCore.modCore 0 fun k => { k with prv := 0 }, by decide +kernel⟩,
    ⟨0, 9, wCore.modCore 0 fun k => { k with prv := 0 }, by decide +kernel⟩,
    ⟨0, 1, false, false, 5, State.reset.setSerial 0 { current := some 5 }, by decide +kernel⟩,
    ⟨4, 1, false, false, State.reset, by decide +kernel⟩,
    ⟨4, 1, false, false, 5, State.reset.setSerial 4 { current := some 5 }, by decide +kernel⟩⟩

set_option maxRecDepth 20000 in
theorem witness_LogAndClock :
    (∃ h : Fin 2, ∃ good : Bool, ∃ s : State, (s.takeReport h = none)) ∧
    (∃ h : Fin 2, ∃ good : Bool, ∃ s : State, (s.takeReport h ≠ none) ∧ ((s.log h).wrapDue = false)) ∧
    (∃ h : Fin 2, ∃ good : Bool, ∃ s : State, (s.takeReport h ≠ none) ∧ ((s.log h).wrapDue = true)) ∧
    (∃ h : Fin 2, ∃ b : Fin 2, ∃ s : State, ((s.setFlds [(F.ERR_INJECT_INJ_KIND h, 0), (F.ERR_INJECT_BANK h, b), (F.ERR_INJECT_COUNT h, 0)]).bankServes h b = true)) ∧
    (∃ h : Fin 2, ∃ b : Fin 2, ∃ s : State, ((s.setFlds [(F.ERR_INJECT_INJ_KIND h, 0), (F.ERR_INJECT_BANK h, b), (F.ERR_INJECT_COUNT h, 0)]).bankServes h b = false)) ∧
    (∃ h : Fin 2, ∃ b : Fin 2, ∃ s : State, ((s.setFlds [(F.ERR_INJECT_INJ_KIND h, 1), (F.ERR_INJECT_BANK h, b), (F.ERR_INJECT_COUNT h, 0)]).bankServes h b = true)) ∧
    (∃ h : Fin 2, ∃ b : Fin 2, ∃ s : State, ((s.setFlds [(F.ERR_INJECT_INJ_KIND h, 1), (F.ERR_INJECT_BANK h, b), (F.ERR_INJECT_COUNT h, 0)]).bankServes h b = false)) ∧
    (∃ h : Fin 2, ∃ word : Word, ∃ ctx : Word, ∃ s : State, (wordRefused (((((s.setReg (R.ERR_INJ_WORD h) word).setReg (R.ERR_INJ_CTX h) ctx).setFlds [(F.ERR_INJECT_INJ_KIND h, 2), (F.ERR_INJECT_BANK h, 0), (F.ERR_INJECT_COUNT h, 0)]).reg (R.ERR_INJ_WORD h)).toNat) = false)) ∧
    (∃ h : Fin 2, ∃ word : Word, ∃ ctx : Word, ∃ s : State, (wordRefused (((((s.setReg (R.ERR_INJ_WORD h) word).setReg (R.ERR_INJ_CTX h) ctx).setFlds [(F.ERR_INJECT_INJ_KIND h, 2), (F.ERR_INJECT_BANK h, 0), (F.ERR_INJECT_COUNT h, 0)]).reg (R.ERR_INJ_WORD h)).toNat) = true)) ∧
    (∃ h : Fin 2, ∃ word : Word, ∃ ctx : Word, ∃ n : BitVec 16, ∃ s : State, (wordRefused (((((s.setReg (R.ERR_INJ_WORD h) word).setReg (R.ERR_INJ_CTX h) ctx).setFlds [(F.ERR_INJECT_INJ_KIND h, 3), (F.ERR_INJECT_BANK h, 0), (F.ERR_INJECT_COUNT h, n.toNat)]).reg (R.ERR_INJ_WORD h)).toNat) = false)) ∧
    (∃ h : Fin 2, ∃ word : Word, ∃ ctx : Word, ∃ n : BitVec 16, ∃ s : State, (wordRefused (((((s.setReg (R.ERR_INJ_WORD h) word).setReg (R.ERR_INJ_CTX h) ctx).setFlds [(F.ERR_INJECT_INJ_KIND h, 3), (F.ERR_INJECT_BANK h, 0), (F.ERR_INJECT_COUNT h, n.toNat)]).reg (R.ERR_INJ_WORD h)).toNat) = true)) ∧
    (∃ s : State, (s.on F.RTC_STATUS_EXHAUSTED = true)) ∧
    (∃ s : State, (s.on F.RTC_STATUS_EXHAUSTED = false) ∧ (s.fld F.RTC_STATUS_SUBSEC < 32767)) ∧
    (∃ s : State, (s.on F.RTC_STATUS_EXHAUSTED = false) ∧ (32767 ≤ s.fld F.RTC_STATUS_SUBSEC)) ∧
    (∃ s : State, (s.rtc.stopped = false) ∧ (s.supplyLow = false)) ∧
    (∃ s : State, (s.causewayUp 1 = true) ∧ (s.joined = true)) :=
  ⟨⟨0, true, State.reset, by decide +kernel⟩,
    ⟨0, true, State.reset.modLog 0 fun l => { l with notices := [{ word := 1, ctx := 2, ns := 3 }] }, by decide +kernel⟩,
    ⟨0, true, State.reset.modLog 0 fun l => { l with notices := [{ word := 1, ctx := 2, ns := 3 }], wrapDue := true }, by decide +kernel⟩,
    ⟨0, 1, State.reset, by decide +kernel⟩,
    ⟨0, 1, St [(F.ERR_LOG_BANK1 0, 1)], by decide +kernel⟩,
    ⟨0, 1, State.reset, by decide +kernel⟩,
    ⟨0, 1, St [(F.ERR_LOG_BANK1 0, 1)], by decide +kernel⟩,
    ⟨0, 0x00010000, 5, State.reset, by decide +kernel⟩,
    ⟨0, 0xC0000000, 5, State.reset, by decide +kernel⟩,
    ⟨0, 0x00010000, 5, 3, State.reset, by decide +kernel⟩,
    ⟨0, 0xC0000000, 5, 3, State.reset, by decide +kernel⟩,
    ⟨St [(F.RTC_STATUS_EXHAUSTED, 1)], by decide +kernel⟩,
    ⟨State.reset, by decide +kernel⟩,
    ⟨St [(F.RTC_STATUS_SUBSEC, 32767)], by decide +kernel⟩,
    ⟨State.reset, by decide +kernel⟩,
    ⟨wCsw, by decide +kernel⟩⟩

set_option maxRecDepth 20000 in
theorem witness_ResetEvents :
    (∃ mode : Fin 8, ∃ s : State, (s.poresetLow = true)) ∧
    (∃ s : State, (s.phase = 0) ∧ (s.poresetLow = false) ∧ (s.supplyLow = false) ∧ (s.sec.canaryLost = false)) ∧
    (∃ s : State, (s.phase = 0) ∧ (s.poresetLow = false) ∧ (s.supplyLow = false) ∧ (s.sec.canaryLost = true)) ∧
    (∃ s : State, (s.bootDone = true) ∧ (s.afterBoot = 5)) ∧
    (∃ s : State, (s.bootDone = true) ∧ (s.afterBoot ≠ 5) ∧ (s.modeInvalid = true)) ∧
    (∃ s : State, (s.bootDone = true) ∧ (s.afterBoot ≠ 5) ∧ (s.modeInvalid = false)) ∧
    (∃ s : State, (s.phase = 1) ∧ (s.bootDone = false)) ∧
    (∃ loop : Fin 7, ∃ s : State, (s.phase ≠ 0)) ∧
    (∃ loop : Fin 7, ∃ s : State, (s.phase ≠ 0) ∧ (loop.val ≤ 2)) ∧
    (∃ loop : Fin 7, ∃ s : State, (s.phase ≠ 0) ∧ (3 ≤ loop.val)) ∧
    (∃ h : Fin 2, ∃ w : WarmRun, ∃ s : State, (s.warm = some w) ∧ (w.halves.contains h.val = true) ∧ (w.logDone.contains h.val = false)) ∧
    (∃ w : WarmRun, ∃ s : State, (s.warm = some w) ∧ ((w.halves.all fun h => w.logOver s h && w.cohDone.contains h) = true)) ∧
    (∃ w : WarmRun, ∃ s : State, (s.warm = some w) ∧ ((w.halves.all fun h => w.logOver s h && w.cohDone.contains h) = false)) :=
  ⟨⟨2, { State.reset with poresetLow := true }, by decide +kernel⟩,
    ⟨State.reset, by decide +kernel⟩,
    ⟨{ State.reset with sec := { State.reset.sec with canaryLost := true } }, by decide +kernel⟩,
    ⟨{ St [(F.RST_STATUS_STATE, 1), (F.SEC_STATUS_STATE, 1), (F.MEM_HBM_STATUS_STATE 0, 1), (F.MEM_HBM_STATUS_STATE 1, 1)] with afterBoot := 5 }, by decide +kernel⟩,
    ⟨(St [(F.RST_STATUS_STATE, 1), (F.SEC_STATUS_STATE, 1), (F.MEM_HBM_STATUS_STATE 0, 1), (F.MEM_HBM_STATUS_STATE 1, 1)]).setFld F.CFG_STATUS_MODE 6, by decide +kernel⟩,
    ⟨St [(F.RST_STATUS_STATE, 1), (F.SEC_STATUS_STATE, 1), (F.MEM_HBM_STATUS_STATE 0, 1), (F.MEM_HBM_STATUS_STATE 1, 1)], by decide +kernel⟩,
    ⟨St [(F.RST_STATUS_STATE, 1)], by decide +kernel⟩,
    ⟨4, wRun, by decide +kernel⟩,
    ⟨1, wRun, by decide +kernel⟩,
    ⟨4, wRun, by decide +kernel⟩,
    ⟨0, { began := 0, keep := false, halves := [0] }, wWarm, by decide +kernel⟩,
    ⟨{ began := 0, keep := false, halves := [0], cohDone := [0] }, { State.reset with warm := some { began := 0, keep := false, halves := [0], cohDone := [0] } }, by decide +kernel⟩,
    ⟨{ began := 0, keep := false, halves := [0] }, wWarm, by decide +kernel⟩⟩

set_option maxRecDepth 20000 in
theorem witness_SelftestEvents :
    (∃ h : Fin 2, ∃ s : State, (s.on (F.ST_CTL_EN h) = true) ∧ ((s.sweep h).kind = 0)) ∧
    (∃ h : Fin 2, ∃ s : State, (s.on (F.ST_CTL_EN h) = true) ∧ ((s.sweep h).kind = 1)) ∧
    (∃ h : Fin 2, ∃ s : State, (s.on (F.ST_CTL_EN h) = true) ∧ (2 ≤ (s.sweep h).kind)) ∧
    (∃ n : Fin 256, ∃ x : Slice, ∃ s : State, (s.slice n = some x) ∧ (x.phase = 2)) ∧
    (∃ n : Fin 256, ∃ x : Slice, ∃ signature : Dword, ∃ s : State, (s.slice n = some x) ∧ (x.phase = 3) ∧ (s.invertedAt n = false) ∧ (signature = (s.pan n).golden.getD 0)) ∧
    (∃ n : Fin 256, ∃ x : Slice, ∃ signature : Dword, ∃ s : State, (s.slice n = some x) ∧ (x.phase = 3) ∧ (s.invertedAt n = true ∨ signature ≠ (s.pan n).golden.getD 0)) ∧
    (∃ n : Fin 256, ∃ x : Slice, ∃ s : State, (s.slice n = some x) ∧ (x.phase = 4)) ∧
    (∃ n : Fin 256, ∃ x : Slice, ∃ s : State, (s.slice n = some x) ∧ (x.phase = 4)) ∧
    (∃ h : Fin 2, ∃ pan : BitVec 8, ∃ s : State, (halfOfPan pan.toNat = h.val)) ∧
    (∃ h : Fin 2, ∃ pan : BitVec 8, ∃ s : State, (halfOfPan pan.toNat ≠ h.val)) ∧
    (∃ h : Fin 2, ∃ pan : BitVec 8, ∃ s : State, (halfOfPan pan.toNat = h.val) ∧ (s.testable pan.toNat = true)) ∧
    (∃ h : Fin 2, ∃ pan : BitVec 8, ∃ s : State, (halfOfPan pan.toNat ≠ h.val ∨ s.testable pan.toNat = false)) :=
  ⟨⟨0, St [(F.ST_CTL_EN 0, 1)], by decide +kernel⟩,
    ⟨0, (St [(F.ST_CTL_EN 0, 1)]).modSweep 0 fun w => { w with kind := 1 }, by decide +kernel⟩,
    ⟨0, (St [(F.ST_CTL_EN 0, 1)]).modSweep 0 fun w => { w with kind := 2 }, by decide +kernel⟩,
    ⟨0, wSlice 2, State.reset.setSlice 0 (some (wSlice 2)), by decide +kernel⟩,
    ⟨0, wSlice 3, 0, State.reset.setSlice 0 (some (wSlice 3)), by decide +kernel⟩,
    ⟨0, wSlice 3, 1, State.reset.setSlice 0 (some (wSlice 3)), by decide +kernel⟩,
    ⟨0, wSlice 4, State.reset.setSlice 0 (some (wSlice 4)), by decide +kernel⟩,
    ⟨0, wSlice 4, State.reset.setSlice 0 (some (wSlice 4)), by decide +kernel⟩,
    ⟨0, 1, State.reset, by decide +kernel⟩,
    ⟨1, 1, State.reset, by decide +kernel⟩,
    ⟨0, 0, wTestable, by decide +kernel⟩,
    ⟨1, 1, State.reset, by decide +kernel⟩⟩

set_option maxRecDepth 20000 in
theorem witness_SpaceAccesses :
    (∃ h : Fin 2, ∃ addr : BitVec 25, ∃ v : Word, ∃ s : State, (addr.toNat % 4 = 0) ∧ (s.regCutOff h addr.toNat = false) ∧ (mailboxAt addr.toNat = none)) ∧
    (∃ h : Fin 2, ∃ addr : BitVec 25, ∃ v : Word, ∃ l : Nat, ∃ off : Nat, ∃ s : State, (addr.toNat % 4 = 0) ∧ (s.regCutOff h addr.toNat = false) ∧ (mailboxAt addr.toNat = some (l, off))) ∧
    (∃ h : Fin 2, ∃ addr : BitVec 25, ∃ v : Word, ∃ s : State, (addr.toNat % 4 = 0) ∧ (s.regCutOff h addr.toNat = true)) ∧
    (∃ addr : BitVec 25, ∃ v : Word, ∃ s : State, (addr.toNat % 4 = 0) ∧ (0x00E01000 ≤ addr.toNat) ∧ (addr.toNat < 0x00F00000)) ∧
    (∃ addr : BitVec 25, ∃ v : Word, ∃ s : State, (addr.toNat % 4 = 0) ∧ (addr.toNat < 0x00E01000 ∨ 0x00F00000 ≤ addr.toNat) ∧ (mailboxAt addr.toNat = none)) ∧
    (∃ addr : BitVec 25, ∃ v : Word, ∃ l : Fin 16, ∃ s : State, (s.asleep (.link l) = false) ∧ (addr.toNat % 4 = 0) ∧ (mailboxAt addr.toNat = none)) ∧
    (∃ addr : BitVec 25, ∃ v : Word, ∃ l : Fin 16, ∃ k : Nat, ∃ off : Nat, ∃ s : State, (s.asleep (.link l) = false) ∧ (addr.toNat % 4 = 0) ∧ (mailboxAt addr.toNat = some (k, off)) ∧ (reachesMailbox k (.link l) = true)) ∧
    (∃ addr : BitVec 25, ∃ v : Word, ∃ l : Fin 16, ∃ k : Nat, ∃ off : Nat, ∃ s : State, (s.asleep (.link l) = false) ∧ (addr.toNat % 4 = 0) ∧ (mailboxAt addr.toNat = some (k, off)) ∧ (reachesMailbox k (.link l) = false)) ∧
    (∃ addr : BitVec 25, ∃ v : Word, ∃ c : Fin 16, ∃ s : State, (addr.toNat % 4 = 0) ∧ ((s.core c).live = true) ∧ (s.isHalted c = false) ∧ (mailboxAt addr.toNat = none) ∧ (coreWritable addr.toNat = none)) ∧
    (∃ addr : BitVec 25, ∃ v : Word, ∃ c : Fin 16, ∃ k : Nat, ∃ w : Nat, ∃ s : State, (addr.toNat % 4 = 0) ∧ ((s.core c).live = true) ∧ (s.isHalted c = false) ∧ (mailboxAt addr.toNat = none) ∧ (coreWritable addr.toNat = some (k, w)) ∧ ((s.core c).prv = 3)) ∧
    (∃ addr : BitVec 25, ∃ v : Word, ∃ c : Fin 16, ∃ k : Nat, ∃ w : Nat, ∃ s : State, (addr.toNat % 4 = 0) ∧ ((s.core c).live = true) ∧ (s.isHalted c = false) ∧ (mailboxAt addr.toNat = none) ∧ (coreWritable addr.toNat = some (k, w)) ∧ ((s.core c).prv ≠ 3)) ∧
    (∃ h : Fin 2, ∃ addr : BitVec 25, ∃ v : Word, ∃ s : State, (addr.toNat % 4 = 0)) ∧
    (∃ h : Fin 2, ∃ addr : BitVec 25, ∃ v : Word, ∃ s : State, (addr.toNat % 4 = 0)) ∧
    (∃ a : Agent, ∃ addr : BitVec 25, ∃ v : Word, ∃ s : State, (s.asleep a = false) ∧ (addr.toNat % 4 ≠ 0)) ∧
    (∃ a : Agent, ∃ addr : BitVec 25, ∃ size : Fin 4, ∃ write : Bool, ∃ s : State, (s.asleep a = false) ∧ (size ≠ 2 ∨ addr.toNat % 4 ≠ 0)) ∧
    (∃ a : Agent, ∃ addr : Word, ∃ write : Bool, ∃ s : State, (s.asleep a = false) ∧ (0x02000000 ≤ addr.toNat)) ∧
    (∃ l : Fin 16, ∃ addr : BitVec 25, ∃ v : Word, ∃ s : State, (s.asleep (.link l) = false) ∧ (addr.toNat % 4 ≠ 0)) ∧
    (∃ l : Fin 16, ∃ addr : BitVec 25, ∃ v : Word, ∃ s : State, (s.asleep (.link l) = false) ∧ (addr.toNat % 4 = 0) ∧ (mailboxAt addr.toNat = none)) ∧
    (∃ l : Fin 16, ∃ addr : BitVec 25, ∃ v : Word, ∃ k : Nat, ∃ off : Nat, ∃ s : State, (s.asleep (.link l) = false) ∧ (addr.toNat % 4 = 0) ∧ (mailboxAt addr.toNat = some (k, off)) ∧ (k ≠ l.val)) :=
  ⟨⟨0, 0x00300800, 5, State.reset, by decide +kernel⟩,
    ⟨0, 0x00910000, 5, 0, 0, State.reset, by decide +kernel⟩,
    ⟨0, 2621440, 5, St [(F.CSW_STATUS_STATE 0, 3)], by decide +kernel⟩,
    ⟨0x00E01000, 5, State.reset, by decide +kernel⟩,
    ⟨0x00300800, 5, State.reset, by decide +kernel⟩,
    ⟨0x00300800, 5, 1, State.reset, by decide +kernel⟩,
    ⟨0x00910000, 5, 0, 0, 0, State.reset, by decide +kernel⟩,
    ⟨0x00910000, 5, 1, 0, 0, State.reset, by decide +kernel⟩,
    ⟨0x00300800, 5, 0, wCore, by decide +kernel⟩,
    ⟨0x00C00018, 5, 0, 0, 1, wCore, by decide +kernel⟩,
    ⟨0x00C00018, 5, 0, 0, 1, wCore.modCore 0 fun k => { k with prv := 0 }, by decide +kernel⟩,
    ⟨0, 0x00300800, 5, State.reset, by decide +kernel⟩,
    ⟨0, 0x00300800, 5, State.reset, by decide +kernel⟩,
    ⟨.debug, 0x00300801, 5, State.reset, by decide +kernel⟩,
    ⟨.debug, 0x00300801, 2, true, State.reset, by decide +kernel⟩,
    ⟨.debug, 0x02000000, true, State.reset, by decide +kernel⟩,
    ⟨0, 0x00300801, 5, State.reset, by decide +kernel⟩,
    ⟨0, 0x00300800, 5, State.reset, by decide +kernel⟩,
    ⟨1, 0x00910000, 5, 0, 0, State.reset, by decide +kernel⟩⟩

set_option maxRecDepth 20000 in
theorem witness_ControlSpaceCompletes :
    (∃ g : Fin 2, ∃ h : Fin 2, ∃ v : Word, ∃ s : State, (s.regCutOff g (R.ERR_INJ_CTX h) = false)) ∧
    (∃ a : Agent, ∃ addr : Word, ∃ s : State, (s.asleep a = false) ∧ (0x02000000 ≤ addr.toNat)) :=
  ⟨⟨0, 1, 5, State.reset, by decide +kernel⟩,
    ⟨.core 0, 0x02000000, State.reset, by decide +kernel⟩⟩

set_option maxRecDepth 20000 in
theorem witness_DebugPort :
    (∃ s : State, (s.tapRuns = true)) ∧
    (∃ cells : List Bool, ∃ s : State, (s.tapRuns = true)) ∧
    (∃ cells : List Bool, ∃ s : State, (s.tapRuns = true) ∧ (bitOf s.dbgScope 0 = true)) ∧
    (∃ cells : List Bool, ∃ s : State, (s.tapRuns = true) ∧ (bitOf s.dbgScope 0 = false)) ∧
    (∃ s : State, (s.tapRuns = true) ∧ (bitOf s.dbgScope 0 = true)) ∧
    (∃ s : State, (s.tapRuns = true) ∧ (bitOf s.dbgScope 0 = false)) ∧
    (∃ s : State, (s.tapRuns = true) ∧ (bitOf s.dbgScope 0 = true)) ∧
    (∃ s : State, (s.tapRuns = true) ∧ (bitOf s.dbgScope 0 = false)) ∧
    (∃ s : State, (s.tapRuns = true)) ∧
    (∃ a : BitVec 12, ∃ v : Word, ∃ s : State, (s.tapRuns = true)) ∧
    (∃ a : BitVec 12, ∃ v : Word, ∃ s : State, (s.tapRuns = true)) ∧
    (∃ c : Fin 16, ∃ s : State, (s.mayHalt = true)) ∧
    (∃ c : Fin 16, ∃ s : State, (s.mayHalt = true)) ∧
    (∃ c : Fin 16, ∃ s : State, (s.mayHalt = true)) ∧
    (∃ s : State, (s.mayHalt = true)) ∧
    (∃ c : Fin 16, ∃ s : State, (s.mayHalt = true)) ∧
    (∃ c : Fin 16, ∃ s : State, (s.mayHalt = false)) ∧
    (∃ c : Fin 16, ∃ s : State, (s.mayHalt = false)) ∧
    (∃ c : Fin 16, ∃ s : State, (s.mayHalt = false)) ∧
    (∃ c : Fin 16, ∃ s : State, (s.mayHalt = false)) ∧
    (∃ s : State, (s.mayHalt = false)) ∧
    (∃ c : Fin 16, ∃ t : Fin 4, ∃ s : State, ((s.core c).live = true) ∧ (s.isHalted c = false) ∧ (bitsOf (s.tdata1 c t) 63 60 = 6) ∧ (bitsOf (s.tdata1 c t) 2 0 ≠ 0) ∧ (bitOf (s.tdata1 c t) 11 = false) ∧ (bitsOf (s.tdata1 c t) 15 12 = 1)) ∧
    (∃ c : Fin 16, ∃ t : Fin 4, ∃ s : State, ((s.core c).live = true) ∧ (s.isHalted c = false) ∧ (bitsOf (s.tdata1 c t) 63 60 = 6) ∧ (bitsOf (s.tdata1 c t) 2 0 ≠ 0) ∧ (bitOf (s.tdata1 c t) 11 = false) ∧ (bitsOf (s.tdata1 c t) 15 12 = 0)) ∧
    (∃ c : Fin 16, ∃ regno : BitVec 16, ∃ v : Dword, ∃ t : State, ∃ s : State, (s.mayHalt = true) ∧ (s.dbg.cmderr = 0) ∧ (s.isHalted c = true) ∧ (s.hartWrite c regno.toNat v.toNat = some t)) ∧
    (∃ c : Fin 16, ∃ regno : BitVec 16, ∃ v : Dword, ∃ s : State, (s.mayHalt = true) ∧ (s.dbg.cmderr = 0) ∧ (s.isHalted c = true) ∧ (s.hartWrite c regno.toNat v.toNat = none)) ∧
    (∃ c : Fin 16, ∃ regno : BitVec 16, ∃ v : Dword, ∃ s : State, (s.mayHalt = true) ∧ (s.dbg.cmderr = 0) ∧ (s.isHalted c = true) ∧ ((s.hartRead c regno.toNat).2 ≠ none)) ∧
    (∃ c : Fin 16, ∃ regno : BitVec 16, ∃ v : Dword, ∃ write : Bool, ∃ s : State, (s.mayHalt = true) ∧ (s.dbg.cmderr = 0) ∧ (s.isHalted c = false)) ∧
    (∃ addr : Dword, ∃ size : Fin 8, ∃ v : Dword, ∃ s : State, (bitOf s.dbgScope 1 = true) ∧ (size.val < 4) ∧ (addr.toNat % 2 ^ size.val = 0) ∧ ((s.busWrite .debug addr.toNat (2 ^ size.val) v.toNat).2 = .ok)) ∧
    (∃ addr : Dword, ∃ size : Fin 8, ∃ v : Dword, ∃ s : State, (bitOf s.dbgScope 1 = true) ∧ (size.val < 4) ∧ (addr.toNat % 2 ^ size.val = 0) ∧ ((s.busRead .debug addr.toNat (2 ^ size.val)).2.2 = .ok)) ∧
    (∃ addr : Dword, ∃ size : Fin 8, ∃ v : Dword, ∃ write : Bool, ∃ s : State, (bitOf s.dbgScope 1 = false)) ∧
    (∃ addr : Dword, ∃ size : Fin 8, ∃ v : Dword, ∃ write : Bool, ∃ s : State, (bitOf s.dbgScope 1 = true) ∧ (4 ≤ size.val)) ∧
    (∃ addr : Dword, ∃ size : Fin 8, ∃ v : Dword, ∃ write : Bool, ∃ s : State, (bitOf s.dbgScope 1 = true) ∧ (size.val < 4) ∧ (addr.toNat % 2 ^ size.val ≠ 0)) :=
  ⟨⟨wRun, by decide +kernel⟩,
    ⟨[true], wRun, by decide +kernel⟩,
    ⟨[true], wRun, by decide +kernel⟩,
    ⟨[true], wRun.setFld F.SEC_STATUS_APPROVED 1, by decide +kernel⟩,
    ⟨wRun, by decide +kernel⟩,
    ⟨wRun.setFld F.SEC_STATUS_APPROVED 1, by decide +kernel⟩,
    ⟨wRun, by decide +kernel⟩,
    ⟨wRun.setFld F.SEC_STATUS_APPROVED 1, by decide +kernel⟩,
    ⟨wRun, by decide +kernel⟩,
    ⟨0x10, 1, wRun, by decide +kernel⟩,
    ⟨0x10, 1, wRun, by decide +kernel⟩,
    ⟨0, wRun, by decide +kernel⟩,
    ⟨0, wRun, by decide +kernel⟩,
    ⟨0, wRun, by decide +kernel⟩,
    ⟨wRun, by decide +kernel⟩,
    ⟨0, wRun, by decide +kernel⟩,
    ⟨0, wRun.setFld F.SEC_STATUS_APPROVED 1, by decide +kernel⟩,
    ⟨0, wRun.setFld F.SEC_STATUS_APPROVED 1, by decide +kernel⟩,
    ⟨0, wRun.setFld F.SEC_STATUS_APPROVED 1, by decide +kernel⟩,
    ⟨0, wRun.setFld F.SEC_STATUS_APPROVED 1, by decide +kernel⟩,
    ⟨wRun.setFld F.SEC_STATUS_APPROVED 1, by decide +kernel⟩,
    ⟨0, 0, wCore.modHart 0 fun h => { h with triggers := [(0, 6 * 2 ^ 60 + 4096 + 4)] }, by decide +kernel⟩,
    ⟨0, 0, wCore.modHart 0 fun h => { h with triggers := [(0, 6 * 2 ^ 60 + 4)] }, by decide +kernel⟩,
    ⟨0, 0x7B1, 8, (wDebug.hartWrite 0 0x7B1 8).getD wDebug, wDebug, by decide +kernel⟩,
    ⟨0, 0x2000, 8, wDebug, by decide +kernel⟩,
    ⟨0, 0x7B1, 8, wDebug, by decide +kernel⟩,
    ⟨0, 0x7B1, 8, true, wRun, by decide +kernel⟩,
    ⟨BitVec.ofNat 64 (HBM_BASE 0), 3, 8, wRun.setFld (F.MEM_HBM_STATUS_STATE 0) 1, by decide +kernel⟩,
    ⟨BitVec.ofNat 64 (HBM_BASE 0), 3, 8, wRun.setFld (F.MEM_HBM_STATUS_STATE 0) 1, by decide +kernel⟩,
    ⟨0, 3, 8, true, wRun.setFld F.SEC_STATUS_APPROVED 1, by decide +kernel⟩,
    ⟨0, 4, 8, true, wRun, by decide +kernel⟩,
    ⟨1, 3, 8, true, wRun, by decide +kernel⟩⟩

set_option maxRecDepth 20000 in
theorem witness_CommandDelivery :
    (∃ l : Fin 16, ∃ a : Agent, ∃ slot : BitVec 6, ∃ s : State, (s.asleep a = false) ∧ (s.linkExists l = true) ∧ (reachesMailbox l a = false)) ∧
    (∃ l : Fin 16, ∃ a : Agent, ∃ slot : BitVec 6, ∃ s : State, (s.asleep a = false) ∧ (s.linkExists l = true) ∧ (reachesMailbox l a = true) ∧ (32 ≤ slot.toNat ∨ bitOf (s.reg (R.MBX_BUSY (l / 4) (l % 4))).toNat slot.toNat = true)) ∧
    (∃ l : Fin 16, ∃ a : Agent, ∃ slot : BitVec 6, ∃ s : State, (s.asleep a = false) ∧ (s.linkExists l = true) ∧ (reachesMailbox l a = true) ∧ (slot.toNat < 32) ∧ (bitOf (s.reg (R.MBX_BUSY (l / 4) (l % 4))).toNat slot.toNat = false) ∧ ((s.setCoreSlot (l * 32 + slot.toNat) (coreOf a).isSome).accepts (Transport.mailbox (Fin.ofNat 16 l) (Fin.ofNat 32 slot.toNat)) = true) ∧ (((((s.setCoreSlot (l * 32 + slot.toNat) (coreOf a).isSome).setFld ⟨R.MBX_BUSY (l / 4) (l % 4), slot.toNat, slot.toNat⟩ 1).setFld ⟨R.MBX_DONE (l / 4) (l % 4), slot.toNat, slot.toNat⟩ 0).setFld (F.MBX_STATUS_INFLIGHT (l / 4) (l % 4)) (popcount 32 ((((s.setCoreSlot (l * 32 + slot.toNat) (coreOf a).isSome).setFld ⟨R.MBX_BUSY (l / 4) (l % 4), slot.toNat, slot.toNat⟩ 1).setFld ⟨R.MBX_DONE (l / 4) (l % 4), slot.toNat, slot.toNat⟩ 0).reg (R.MBX_BUSY (l / 4) (l % 4))).toNat)).slotNum l slot.toNat 0 4 < 32 ∨ (((((s.setCoreSlot (l * 32 + slot.toNat) (coreOf a).isSome).setFld ⟨R.MBX_BUSY (l / 4) (l % 4), slot.toNat, slot.toNat⟩ 1).setFld ⟨R.MBX_DONE (l / 4) (l % 4), slot.toNat, slot.toNat⟩ 0).setFld (F.MBX_STATUS_INFLIGHT (l / 4) (l % 4)) (popcount 32 ((((s.setCoreSlot (l * 32 + slot.toNat) (coreOf a).isSome).setFld ⟨R.MBX_BUSY (l / 4) (l % 4), slot.toNat, slot.toNat⟩ 1).setFld ⟨R.MBX_DONE (l / 4) (l % 4), slot.toNat, slot.toNat⟩ 0).reg (R.MBX_BUSY (l / 4) (l % 4))).toNat)).slotNum l slot.toNat 8 8 = 0 ∧ 96 < ((((s.setCoreSlot (l * 32 + slot.toNat) (coreOf a).isSome).setFld ⟨R.MBX_BUSY (l / 4) (l % 4), slot.toNat, slot.toNat⟩ 1).setFld ⟨R.MBX_DONE (l / 4) (l % 4), slot.toNat, slot.toNat⟩ 0).setFld (F.MBX_STATUS_INFLIGHT (l / 4) (l % 4)) (popcount 32 ((((s.setCoreSlot (l * 32 + slot.toNat) (coreOf a).isSome).setFld ⟨R.MBX_BUSY (l / 4) (l % 4), slot.toNat, slot.toNat⟩ 1).setFld ⟨R.MBX_DONE (l / 4) (l % 4), slot.toNat, slot.toNat⟩ 0).reg (R.MBX_BUSY (l / 4) (l % 4))).toNat)).slotNum l slot.toNat 0 4))) ∧
    (∃ l : Fin 16, ∃ a : Agent, ∃ slot : BitVec 6, ∃ s : State, (s.asleep a = false) ∧ (s.linkExists l = true) ∧ (reachesMailbox l a = true) ∧ (slot.toNat < 32) ∧ (bitOf (s.reg (R.MBX_BUSY (l / 4) (l % 4))).toNat slot.toNat = false) ∧ ((s.setCoreSlot (l * 32 + slot.toNat) (coreOf a).isSome).accepts (Transport.mailbox (Fin.ofNat 16 l) (Fin.ofNat 32 slot.toNat)) = true) ∧ (32 ≤ ((((s.setCoreSlot (l * 32 + slot.toNat) (coreOf a).isSome).setFld ⟨R.MBX_BUSY (l / 4) (l % 4), slot.toNat, slot.toNat⟩ 1).setFld ⟨R.MBX_DONE (l / 4) (l % 4), slot.toNat, slot.toNat⟩ 0).setFld (F.MBX_STATUS_INFLIGHT (l / 4) (l % 4)) (popcount 32 ((((s.setCoreSlot (l * 32 + slot.toNat) (coreOf a).isSome).setFld ⟨R.MBX_BUSY (l / 4) (l % 4), slot.toNat, slot.toNat⟩ 1).setFld ⟨R.MBX_DONE (l / 4) (l % 4), slot.toNat, slot.toNat⟩ 0).reg (R.MBX_BUSY (l / 4) (l % 4))).toNat)).slotNum l slot.toNat 0 4) ∧ (((((s.setCoreSlot (l * 32 + slot.toNat) (coreOf a).isSome).setFld ⟨R.MBX_BUSY (l / 4) (l % 4), slot.toNat, slot.toNat⟩ 1).setFld ⟨R.MBX_DONE (l / 4) (l % 4), slot.toNat, slot.toNat⟩ 0).setFld (F.MBX_STATUS_INFLIGHT (l / 4) (l % 4)) (popcount 32 ((((s.setCoreSlot (l * 32 + slot.toNat) (coreOf a).isSome).setFld ⟨R.MBX_BUSY (l / 4) (l % 4), slot.toNat, slot.toNat⟩ 1).setFld ⟨R.MBX_DONE (l / 4) (l % 4), slot.toNat, slot.toNat⟩ 0).reg (R.MBX_BUSY (l / 4) (l % 4))).toNat)).slotNum l slot.toNat 0 4 ≤ 96) ∧ (((((s.setCoreSlot (l * 32 + slot.toNat) (coreOf a).isSome).setFld ⟨R.MBX_BUSY (l / 4) (l % 4), slot.toNat, slot.toNat⟩ 1).setFld ⟨R.MBX_DONE (l / 4) (l % 4), slot.toNat, slot.toNat⟩ 0).setFld (F.MBX_STATUS_INFLIGHT (l / 4) (l % 4)) (popcount 32 ((((s.setCoreSlot (l * 32 + slot.toNat) (coreOf a).isSome).setFld ⟨R.MBX_BUSY (l / 4) (l % 4), slot.toNat, slot.toNat⟩ 1).setFld ⟨R.MBX_DONE (l / 4) (l % 4), slot.toNat, slot.toNat⟩ 0).reg (R.MBX_BUSY (l / 4) (l % 4))).toNat)).slotNum l slot.toNat 8 8 = 0)) ∧
    (∃ l : Fin 16, ∃ a : Agent, ∃ slot : BitVec 6, ∃ s : State, (s.asleep a = false) ∧ (s.linkExists l = true) ∧ (reachesMailbox l a = true) ∧ (slot.toNat < 32) ∧ (bitOf (s.reg (R.MBX_BUSY (l / 4) (l % 4))).toNat slot.toNat = false) ∧ ((s.setCoreSlot (l * 32 + slot.toNat) (coreOf a).isSome).accepts (Transport.mailbox (Fin.ofNat 16 l) (Fin.ofNat 32 slot.toNat)) = true) ∧ (32 ≤ ((((s.setCoreSlot (l * 32 + slot.toNat) (coreOf a).isSome).setFld ⟨R.MBX_BUSY (l / 4) (l % 4), slot.toNat, slot.toNat⟩ 1).setFld ⟨R.MBX_DONE (l / 4) (l % 4), slot.toNat, slot.toNat⟩ 0).setFld (F.MBX_STATUS_INFLIGHT (l / 4) (l % 4)) (popcount 32 ((((s.setCoreSlot (l * 32 + slot.toNat) (coreOf a).isSome).setFld ⟨R.MBX_BUSY (l / 4) (l % 4), slot.toNat, slot.toNat⟩ 1).setFld ⟨R.MBX_DONE (l / 4) (l % 4), slot.toNat, slot.toNat⟩ 0).reg (R.MBX_BUSY (l / 4) (l % 4))).toNat)).slotNum l slot.toNat 0 4) ∧ (((((s.setCoreSlot (l * 32 + slot.toNat) (coreOf a).isSome).setFld ⟨R.MBX_BUSY (l / 4) (l % 4), slot.toNat, slot.toNat⟩ 1).setFld ⟨R.MBX_DONE (l / 4) (l % 4), slot.toNat, slot.toNat⟩ 0).setFld (F.MBX_STATUS_INFLIGHT (l / 4) (l % 4)) (popcount 32 ((((s.setCoreSlot (l * 32 + slot.toNat) (coreOf a).isSome).setFld ⟨R.MBX_BUSY (l / 4) (l % 4), slot.toNat, slot.toNat⟩ 1).setFld ⟨R.MBX_DONE (l / 4) (l % 4), slot.toNat, slot.toNat⟩ 0).reg (R.MBX_BUSY (l / 4) (l % 4))).toNat)).slotNum l slot.toNat 8 8 ≠ 0)) ∧
    (∃ l : Fin 16, ∃ requester : BitVec 16, ∃ xid : BitVec 16, ∃ mtype : Byte, ∃ mflags : Byte, ∃ offset : Word, ∃ bytes : List Byte, ∃ s : State, (s.asleep (.link l) = false) ∧ (s.linkUp l = true) ∧ (mtype ≠ 1)) ∧
    (∃ l : Fin 16, ∃ requester : BitVec 16, ∃ xid : BitVec 16, ∃ mflags : Byte, ∃ offset : Word, ∃ bytes : List Byte, ∃ s : State, (s.asleep (.link l) = false) ∧ (s.linkUp l = true) ∧ (s.accepts (.message l requester) = true)) ∧
    (∃ opcode : BitVec 16, ∃ p : Packet, ∃ s : State, (s.cmdOf opcode.toNat p = none) ∧ (s.accepts p.via = true) ∧ (p.via = .sideband) ∧ (s.outstanding .sideband < 31) ∧ (badLength p = false) ∧ (p.version = 1)) ∧
    (∃ w : Waiting, ∃ rest : List Waiting, ∃ k : Cmd, ∃ s : State, (s.firstStart [] s.waiting = some (w, rest)) ∧ (s.cmdOf w.opcode w.packet = some k)) ∧
    (∃ s : State, (s.firstStart [] s.waiting = none)) ∧
    (∃ f : List Byte, ∃ s : State, (CONFIG_WAIT ≤ s.phase) ∧ (fType f = 0x20) ∧ (fCrc f = true) ∧ (fFormed f = true) ∧ (fPan f = 0xFFFF) ∧ (fSeq f = 0) ∧ (fAddr f = 0) ∧ (fFlags f = 0)) ∧
    (∃ data : Dword, ∃ s : State, (s.tapRuns = true) ∧ (s.dbg.overlong = false) ∧ ((s.dbg.inbound ++ leBytes 8 data.toNat).length ≤ 4096)) ∧
    (∃ data : Dword, ∃ s : State, (s.tapRuns = true) ∧ (s.dbg.overlong = false) ∧ ((s.dbg.inbound ++ leBytes 8 data.toNat).length ≤ 4096)) ∧
    (∃ r : List Byte, ∃ l : List (List Byte), ∃ s : State, (s.tapRuns = true) ∧ (s.dbg.replies = r :: l)) ∧
    (∃ s : State, (s.tapRuns = true) ∧ (s.dbg.replies = [])) ∧
    (∃ s : State, (s.tapRuns = true)) ∧
    (∃ s : State, (s.tapRuns = true)) ∧
    (∃ s : State, (s.tapRuns = false)) ∧
    (∃ m : List Byte, ∃ s : State, (2 ≤ m.length)) :=
  ⟨⟨0, .link 1, 0, wUp, by decide +kernel⟩,
    ⟨0, .link 0, 33, wUp, by decide +kernel⟩,
    ⟨0, .link 0, 0, wUp, by decide +kernel⟩,
    ⟨0, .link 0, 0, wUp.setSlotByte 0 32, by decide +kernel⟩,
    ⟨0, .link 0, 0, (wUp.setSlotByte 0 32).setSlotByte 8 1, by decide +kernel⟩,
    ⟨0, 3, 1, 2, 3, 0, wNopBytes, wUp, by decide +kernel⟩,
    ⟨0, 3, 1, 3, 0, wNopBytes, wUp, by decide +kernel⟩,
    ⟨0xFFFF, wPacket .sideband 0 [], wRun, by decide +kernel⟩,
    ⟨⟨0, wPacket .sideband 0 [], 0⟩, [], cmdNop, { wRun with waiting := [⟨0, wPacket .sideband 0 [], 0⟩] }, by constructor <;> rfl⟩,
    ⟨State.reset, by decide +kernel⟩,
    ⟨wNopFrame, wRun, by decide +kernel⟩,
    ⟨1, wRun, by decide +kernel⟩,
    ⟨1, wRun, by decide +kernel⟩,
    ⟨[1], [], { wRun with dbg := { wRun.dbg with replies := [[1]] } }, by decide +kernel⟩,
    ⟨wRun, by decide +kernel⟩,
    ⟨wRun, by decide +kernel⟩,
    ⟨wRun, by decide +kernel⟩,
    ⟨State.reset, by decide +kernel⟩,
    ⟨[0, 0], wRun, by decide +kernel⟩⟩

set_option maxRecDepth 20000 in
theorem witness_DeviceCommands :
    (∃ p : Packet, ∃ half : Nat, ∃ s : State, (s.passes cmdNop p half = true)) ∧
    (∃ p : Packet, ∃ half : Nat, ∃ s : State, (s.passes cmdIdentify p half = true)) ∧
    (∃ p : Packet, ∃ half : Nat, ∃ s : State, (s.passes cmdDeviceStatus p half = true)) ∧
    (∃ p : Packet, ∃ half : Nat, ∃ s : State, (s.passes cmdRegRead p half = true)) ∧
    (∃ p : Packet, ∃ half : Nat, ∃ s : State, (s.passes (cmdRegWrite (s.regWriteLong p)) p half = true)) ∧
    (∃ p : Packet, ∃ half : Nat, ∃ s : State, (s.passes cmdWarmReset p half = true)) ∧
    (∃ p : Packet, ∃ half : Nat, ∃ s : State, (s.passes cmdAbort p half = true)) ∧
    (∃ p : Packet, ∃ half : Nat, ∃ s : State, (s.passes cmdCoreStart p half = true)) ∧
    (∃ p : Packet, ∃ half : Nat, ∃ s : State, (s.passes cmdCoreStop p half = true)) ∧
    (∃ p : Packet, ∃ half : Nat, ∃ s : State, (s.passes cmdCopBind p half = true)) ∧
    (∃ p : Packet, ∃ half : Nat, ∃ s : State, (s.passes cmdCopUnbind p half = true)) :=
  ⟨⟨wPacket .sideband 0 ([]), 0, wRun, by decide +kernel⟩,
    ⟨wPacket .sideband 0 ([]), 0, wRun, by decide +kernel⟩,
    ⟨wPacket .sideband 0 ([]), 0, wRun, by decide +kernel⟩,
    ⟨wPacket .sideband 0 (leBytes 4 0 ++ leBytes 4 1), 0, wRun, by decide +kernel⟩,
    ⟨wPacket .sideband 0 (leBytes 4 (R.GOV_TARGET 0) ++ leBytes 4 0xFFFFFFFF ++ leBytes 4 700), 0, wRun, by decide +kernel⟩,
    ⟨wPacket .sideband 0 ([]), 0, wRun, by decide +kernel⟩,
    ⟨wPacket .sideband 0 (leBytes 1 1 ++ leBytes 1 0 ++ leBytes 2 3), 0, { wRun with jobs := [wJob] }, by decide +kernel⟩,
    ⟨wPacket .sideband 0x4000 (leBytes 8 0), 0, wRun, by decide +kernel⟩,
    ⟨wPacket .sideband 0x4000 ([]), 0, wRun.setFld (F.TCORE_CTL_RUN 0) 1, by decide +kernel⟩,
    ⟨wPacket .sideband 0x4000 (leBytes 1 0 ++ leBytes 1 0 ++ leBytes 1 1 ++ leBytes 1 0), 0, wBindable, by decide +kernel⟩,
    ⟨wPacket .sideband 0x4000 ([]), 0, wRun.setFld (F.TCORE_COP_STATUS_STATE 0) 1, by decide +kernel⟩⟩

set_option maxRecDepth 20000 in
theorem witness_PanCommands :
    (∃ p : Packet, ∃ half : Nat, ∃ s : State, (s.passes cmdPanLoad p half = true)) ∧
    (∃ p : Packet, ∃ half : Nat, ∃ s : State, (s.passes cmdPanOpen p half = true)) ∧
    (∃ p : Packet, ∃ half : Nat, ∃ s : State, (s.passes cmdPanClose p half = true)) ∧
    (∃ p : Packet, ∃ half : Nat, ∃ s : State, (s.passes cmdPanPower p half = true)) ∧
    (∃ p : Packet, ∃ half : Nat, ∃ s : State, (s.passes cmdPanReset p half = true)) ∧
    (∃ p : Packet, ∃ half : Nat, ∃ s : State, (s.passes cmdQueueFlush p half = true)) ∧
    (∃ p : Packet, ∃ half : Nat, ∃ s : State, (s.passes cmdQueueBind p half = true)) ∧
    (∃ p : Packet, ∃ half : Nat, ∃ s : State, (s.passes cmdRakeRun p half = true)) ∧
    (∃ p : Packet, ∃ half : Nat, ∃ s : State, (s.passes cmdCfgLoad p half = true)) :=
  ⟨⟨wPacket .sideband 0x2001 (leBytes 8 0 ++ leBytes 8 32), 0, wRun, by decide +kernel⟩,
    ⟨wPacket .sideband 0x2000 ([]), 0, wRun.setFld (F.PAN_SLUICE_STATUS_STATE 0) 1, by decide +kernel⟩,
    ⟨wPacket .sideband 0x2000 ([]), 0, wRun, by decide +kernel⟩,
    ⟨wPacket .sideband 0x2000 (leBytes 1 2 ++ leBytes 3 0 ++ leBytes 4 100), 0, wRun, by decide +kernel⟩,
    ⟨wPacket .sideband 0x2000 ([]), 0, wRun, by decide +kernel⟩,
    ⟨wPacket .sideband 0x3000 (leBytes 4 0), 0, wQOut, by decide +kernel⟩,
    ⟨wPacket .sideband 0x3000 (leBytes 1 3 ++ leBytes 7 0 ++ leBytes 8 0 ++ leBytes 8 0), 0, wQOut, by decide +kernel⟩,
    ⟨wPacket .sideband 0x2000 (leBytes 2 1 ++ leBytes 2 0), 0, wRun, by decide +kernel⟩,
    ⟨wPacket (.mailbox 0 0) 0 (leBytes 8 HOST_BASE ++ leBytes 8 64), 0, St [(F.RST_STATUS_STATE, 2), (F.CFG_STATUS_MODE, 2)], by decide +kernel⟩⟩

set_option maxRecDepth 20000 in
theorem witness_GraphCommands :
    (∃ p : Packet, ∃ half : Nat, ∃ s : State, (s.passes cmdKernelRegister p half = true)) ∧
    (∃ p : Packet, ∃ half : Nat, ∃ s : State, (s.passes cmdKernelUnregister p half = true)) ∧
    (∃ p : Packet, ∃ half : Nat, ∃ s : State, (s.passes cmdGraphLoad p half = true)) ∧
    (∃ p : Packet, ∃ half : Nat, ∃ s : State, (s.passes cmdGraphStart p half = true)) ∧
    (∃ p : Packet, ∃ half : Nat, ∃ s : State, (s.passes cmdGraphStop p half = true)) ∧
    (∃ p : Packet, ∃ half : Nat, ∃ s : State, (s.passes cmdGraphUnload p half = true)) ∧
    (∃ p : Packet, ∃ half : Nat, ∃ s : State, (s.passes cmdGraphStatus p half = true)) ∧
    (∃ p : Packet, ∃ half : Nat, ∃ s : State, (s.passes cmdGraphLink p half = true)) ∧
    (∃ p : Packet, ∃ half : Nat, ∃ s : State, (s.passes cmdGraphUnlink p half = true)) ∧
    (∃ p : Packet, ∃ half : Nat, ∃ s : State, (s.passes cmdTokenInject p half = true)) ∧
    (∃ p : Packet, ∃ half : Nat, ∃ s : State, (s.passes cmdTokenDrain p half = true)) ∧
    (∃ p : Packet, ∃ half : Nat, ∃ s : State, (s.passes cmdNodeFire p half = true)) ∧
    (∃ p : Packet, ∃ half : Nat, ∃ s : State, (s.passes cmdNodeClear p half = true)) ∧
    (∃ p : Packet, ∃ half : Nat, ∃ s : State, (s.passes cmdSchedResources p half = true)) ∧
    (∃ p : Packet, ∃ half : Nat, ∃ s : State, (s.passes cmdSchedEnable p half = true)) :=
  ⟨⟨wPacket .sideband 0x1000 (leBytes 8 0 ++ leBytes 4 13 ++ leBytes 2 0 ++ leBytes 1 0 ++ leBytes 1 0 ++ leBytes 1 0 ++ leBytes 1 1 ++ leBytes 1 0 ++ leBytes 1 0 ++ leBytes 44 0), 0, wStack, by decide +kernel⟩,
    ⟨wPacket .sideband 0x1000 (leBytes 2 5 ++ leBytes 2 0), 0, wRun.modSched 0 fun c => { c with directory := [(5, some {})] }, by decide +kernel⟩,
    ⟨wPacket .sideband 0 (leBytes 8 (HBM_BASE 0) ++ leBytes 8 64), 0, wStack, by decide +kernel⟩,
    ⟨wPacket .sideband 0x6000 ([]), 0, wRun.setGraph 0 (some {}), by decide +kernel⟩,
    ⟨wPacket .sideband 0x6000 ([]), 0, wGraph, by decide +kernel⟩,
    ⟨wPacket .sideband 0x6000 ([]), 0, wGraph, by decide +kernel⟩,
    ⟨wPacket .sideband 0x6000 (leBytes 2 0 ++ leBytes 2 1 ++ leBytes 4 0 ++ leBytes 8 0), 0, wGraph, by decide +kernel⟩,
    ⟨wPacket .sideband 0 (leBytes 2 1 ++ leBytes 2 1 ++ leBytes 1 0 ++ leBytes 1 0 ++ leBytes 1 1 ++ leBytes 1 0 ++ leBytes 1 2 ++ leBytes 7 0), 0, wGraphs, by decide +kernel⟩,
    ⟨wPacket .sideband 0 (leBytes 2 7 ++ leBytes 2 0), 0, { wRun with links := [wLink] }, by decide +kernel⟩,
    ⟨wPacket .sideband 0x6000 (leBytes 2 1 ++ leBytes 1 0 ++ leBytes 1 1 ++ leBytes 64 0), 0, wGraph, by decide +kernel⟩,
    ⟨wPacket .sideband 0x6000 (leBytes 2 1 ++ leBytes 1 0 ++ leBytes 1 1), 0, wGraph, by decide +kernel⟩,
    ⟨wPacket .sideband 0x6000 (leBytes 2 1 ++ leBytes 2 0), 0, wGraph, by decide +kernel⟩,
    ⟨wPacket .sideband 0x6000 (leBytes 2 1 ++ leBytes 2 0), 0, wGraph.modNode 0 1 fun x => { x with faulted := true }, by decide +kernel⟩,
    ⟨wPacket .sideband 0x1000 (leBytes 1 3 ++ leBytes 3 0 ++ leBytes 16 0), 0, wRun, by decide +kernel⟩,
    ⟨wPacket .sideband 0x1000 (leBytes 1 1 ++ leBytes 1 0 ++ leBytes 2 0 ++ leBytes 2 0 ++ leBytes 2 0 ++ leBytes 4 5), 0, wRun, by decide +kernel⟩⟩

set_option maxRecDepth 20000 in
theorem witness_MemoryPortCommands :
    (∃ p : Packet, ∃ half : Nat, ∃ s : State, (s.passes cmdLagoonPartition p half = true)) ∧
    (∃ p : Packet, ∃ half : Nat, ∃ s : State, (s.passes cmdMemClear p half = true)) ∧
    (∃ p : Packet, ∃ half : Nat, ∃ s : State, (s.passes cmdMemRead p half = true)) ∧
    (∃ p : Packet, ∃ half : Nat, ∃ s : State, (s.passes cmdMemWrite p half = true)) ∧
    (∃ p : Packet, ∃ half : Nat, ∃ s : State, (s.passes cmdMemCopy p half = true)) ∧
    (∃ p : Packet, ∃ half : Nat, ∃ s : State, (s.passes cmdPortEnable p half = true)) ∧
    (∃ p : Packet, ∃ half : Nat, ∃ s : State, (s.passes cmdMemExpose p half = true)) ∧
    (∃ p : Packet, ∃ half : Nat, ∃ s : State, (s.passes cmdPortRoute p half = true)) ∧
    (∃ p : Packet, ∃ half : Nat, ∃ s : State, (s.passes cmdBiasToDevice p half = true)) ∧
    (∃ p : Packet, ∃ half : Nat, ∃ s : State, (s.passes cmdCohTableRead p half = true)) ∧
    (∃ p : Packet, ∃ half : Nat, ∃ s : State, (s.passes cmdCohTableLoad p half = true)) ∧
    (∃ p : Packet, ∃ half : Nat, ∃ s : State, (s.passes cmdCohTableRestore p half = true)) :=
  ⟨⟨wPacket .sideband 0x1000 (leBytes 1 4 ++ leBytes 1 4 ++ leBytes 1 4 ++ leBytes 1 4), 0, wRun, by decide +kernel⟩,
    ⟨wPacket .sideband 0 (leBytes 8 (HBM_BASE 0) ++ leBytes 8 64), 0, wStack, by decide +kernel⟩,
    ⟨wPacket .sideband 0 (leBytes 8 (HBM_BASE 0) ++ leBytes 4 4 ++ leBytes 4 0), 0, wStack, by decide +kernel⟩,
    ⟨wPacket .sideband 0 (leBytes 8 (HBM_BASE 0) ++ leBytes 4 4 ++ leBytes 4 0 ++ leBytes 4 9), 0, wStack, by decide +kernel⟩,
    ⟨wPacket .sideband 0 (leBytes 8 (HBM_BASE 0) ++ leBytes 8 (HBM_BASE 0) ++ leBytes 8 4), 0, wStack, by decide +kernel⟩,
    ⟨wPacket .sideband 0x5000 (leBytes 1 (1 - wRun.fld (F.PORT_CTL_EN 0)) ++ leBytes 3 0), 0, wRun, by decide +kernel⟩,
    ⟨wPacket .sideband 0x5000 (leBytes 1 1 ++ leBytes 7 0 ++ leBytes 8 0 ++ leBytes 8 0x10000000 ++ leBytes 8 0 ++ leBytes 1 0 ++ leBytes 1 0 ++ leBytes 6 0), 0, (wUp.setFlds [(F.MEM_HBM_STATUS_STATE 0, 1)]), by decide +kernel⟩,
    ⟨wPacket .sideband 0x1000 (leBytes 1 1 ++ leBytes 1 0 ++ leBytes 1 0 ++ leBytes 1 0), 0, wUp, by decide +kernel⟩,
    ⟨wPacket .sideband 0x1000 (leBytes 8 0 ++ leBytes 4 1 ++ leBytes 4 0), 0, wBiased, by decide +kernel⟩,
    ⟨wPacket .sideband 0x1000 (leBytes 8 (HBM_BASE 0)), 0, wStack, by decide +kernel⟩,
    ⟨wPacket .sideband 0x1000 (leBytes 8 (HBM_BASE 0)), 0, wStack, by decide +kernel⟩,
    ⟨wPacket .sideband 0x1000 ([]), 0, wRun.setFld (F.COH_STATUS_LAB 0) 1, by decide +kernel⟩⟩

set_option maxRecDepth 20000 in
theorem witness_GovernorPinCommands :
    (∃ p : Packet, ∃ half : Nat, ∃ s : State, (s.passes cmdGovProfile p half = true)) ∧
    (∃ p : Packet, ∃ half : Nat, ∃ s : State, (s.passes cmdGovCap p half = true)) ∧
    (∃ p : Packet, ∃ half : Nat, ∃ s : State, (s.passes cmdGovFixed p half = true)) ∧
    (∃ p : Packet, ∃ half : Nat, ∃ s : State, (s.passes cmdGovTarget p half = true)) ∧
    (∃ p : Packet, ∃ half : Nat, ∃ s : State, (s.passes cmdGovStatus p half = true)) ∧
    (∃ p : Packet, ∃ half : Nat, ∃ s : State, (s.passes cmdThermalStop p half = true)) ∧
    (∃ p : Packet, ∃ half : Nat, ∃ s : State, (s.passes cmdThermalClear p half = true)) ∧
    (∃ p : Packet, ∃ half : Nat, ∃ s : State, (s.passes cmdPinConfig p half = true)) ∧
    (∃ p : Packet, ∃ half : Nat, ∃ s : State, (s.passes cmdPinOwner p half = true)) ∧
    (∃ p : Packet, ∃ half : Nat, ∃ s : State, (s.passes cmdPinWrite p half = true)) ∧
    (∃ p : Packet, ∃ half : Nat, ∃ s : State, (s.passes cmdPinRead p half = true)) ∧
    (∃ p : Packet, ∃ half : Nat, ∃ s : State, (s.passes cmdPinIrq p half = true)) :=
  ⟨⟨wPacket .sideband 0 (leBytes 1 2 ++ leBytes 3 0), 0, wRun, by decide +kernel⟩,
    ⟨wPacket .sideband 0 (leBytes 2 100 ++ leBytes 2 0), 0, wRun, by decide +kernel⟩,
    ⟨wPacket .sideband 0 (leBytes 2 800 ++ leBytes 1 50 ++ leBytes 1 0), 0, wRun, by decide +kernel⟩,
    ⟨wPacket .sideband 0x1000 (leBytes 4 700), 0, wRun, by decide +kernel⟩,
    ⟨wPacket .sideband 0x1000 ([]), 0, wRun, by decide +kernel⟩,
    ⟨wPacket .sideband 0 ([]), 0, wRun, by decide +kernel⟩,
    ⟨wPacket .sideband 0 ([]), 0, wRun.setFlds [(F.GOV_STATUS_STOP 0, 1)], by decide +kernel⟩,
    ⟨wPacket .sideband 0x8000 (leBytes 4 1), 0, wRun, by decide +kernel⟩,
    ⟨wPacket .sideband 0x8000 (leBytes 1 1 ++ leBytes 3 0), 0, wRun, by decide +kernel⟩,
    ⟨wPacket .sideband 0x8000 (leBytes 4 1 ++ leBytes 4 0 ++ leBytes 4 0), 0, wRun, by decide +kernel⟩,
    ⟨wPacket .sideband 0x8000 ([]), 0, wRun, by decide +kernel⟩,
    ⟨wPacket .sideband 0 (leBytes 1 1 ++ leBytes 1 2 ++ leBytes 1 0 ++ leBytes 1 0), 0, wRun, by decide +kernel⟩⟩

set_option maxRecDepth 20000 in
theorem witness_LogTestCommands :
    (∃ p : Packet, ∃ half : Nat, ∃ s : State, (s.passes cmdLogRead p half = true)) ∧
    (∃ p : Packet, ∃ half : Nat, ∃ s : State, (s.passes cmdLogStatus p half = true)) ∧
    (∃ p : Packet, ∃ half : Nat, ∃ s : State, (s.passes cmdErrClear p half = true)) ∧
    (∃ p : Packet, ∃ half : Nat, ∃ s : State, (s.passes cmdErrInjectSecure p half = true)) ∧
    (∃ p : Packet, ∃ half : Nat, ∃ s : State, (s.passes cmdTimeSet p half = true)) ∧
    (∃ p : Packet, ∃ half : Nat, ∃ s : State, (s.passes cmdTimeGet p half = true)) ∧
    (∃ p : Packet, ∃ half : Nat, ∃ s : State, (s.passes cmdTestConfig p half = true)) ∧
    (∃ p : Packet, ∃ half : Nat, ∃ s : State, (s.passes cmdTestRun p half = true)) ∧
    (∃ p : Packet, ∃ half : Nat, ∃ s : State, (s.passes cmdTestStatus p half = true)) ∧
    (∃ p : Packet, ∃ half : Nat, ∃ s : State, (s.passes cmdQuarantineRelease p half = true)) :=
  ⟨⟨wPacket .sideband 0 (leBytes 8 0 ++ leBytes 4 1 ++ leBytes 4 0 ++ leBytes 8 0), 0, wRun, by decide +kernel⟩,
    ⟨wPacket .sideband 0 ([]), 0, wRun, by decide +kernel⟩,
    ⟨wPacket .sideband 0 (leBytes 1 1 ++ leBytes 3 0), 0, wRun, by decide +kernel⟩,
    ⟨wPacket .sideband 0 (leBytes 2 2 ++ leBytes 2 1), 0, wRun, by decide +kernel⟩,
    ⟨wPacket .sideband 0 (leBytes 2 2024 ++ leBytes 1 2 ++ leBytes 1 29 ++ leBytes 1 1 ++ leBytes 1 2 ++ leBytes 1 3 ++ leBytes 1 0), 0, wRun, by decide +kernel⟩,
    ⟨wPacket .sideband 0 ([]), 0, wRun, by decide +kernel⟩,
    ⟨wPacket .sideband 0x1000 (leBytes 1 1 ++ leBytes 3 0 ++ leBytes 4 60), 0, wRun, by decide +kernel⟩,
    ⟨wPacket .sideband 0x2000 ([]), 0, wTestable, by decide +kernel⟩,
    ⟨wPacket .sideband 0x1000 ([]), 0, wRun, by decide +kernel⟩,
    ⟨wPacket .sideband 0x2000 ([]), 0, wRun.setFld (F.PAN_SLUICE_STATUS_STATE 0) QUARANTINED, by decide +kernel⟩⟩

set_option maxRecDepth 20000 in
theorem witness_SecurityCommands :
    (∃ p : Packet, ∃ half : Nat, ∃ s : State, (s.passes cmdSecStatus p half = true)) ∧
    (∃ p : Packet, ∃ half : Nat, ∃ s : State, (s.passes cmdApprovedEnter p half = true)) ∧
    (∃ p : Packet, ∃ half : Nat, ∃ s : State, (s.passes cmdApprovedLeave p half = true)) ∧
    (∃ p : Packet, ∃ half : Nat, ∃ s : State, (s.passes cmdKeyLoad p half = true)) ∧
    (∃ p : Packet, ∃ half : Nat, ∃ s : State, (s.passes cmdFuseProgram p half = true)) ∧
    (∃ p : Packet, ∃ half : Nat, ∃ s : State, (s.passes cmdZeroize p half = true)) ∧
    (∃ p : Packet, ∃ half : Nat, ∃ s : State, (s.passes cmdPatchLoad p half = true)) ∧
    (∃ p : Packet, ∃ half : Nat, ∃ s : State, (s.passes cmdTamperConfig p half = true)) ∧
    (∃ p : Packet, ∃ half : Nat, ∃ s : State, (s.passes cmdDbgChallenge p half = true)) ∧
    (∃ p : Packet, ∃ half : Nat, ∃ s : State, (s.passes cmdDbgResponse p half = true)) ∧
    (∃ p : Packet, ∃ half : Nat, ∃ s : State, (s.passes cmdDbgRevoke p half = true)) ∧
    (∃ p : Packet, ∃ half : Nat, ∃ s : State, (s.passes cmdCswPolicy p half = true)) ∧
    (∃ p : Packet, ∃ half : Nat, ∃ s : State, (s.passes cmdCswXhome p half = true)) ∧
    (∃ p : Packet, ∃ half : Nat, ∃ s : State, (s.passes cmdCswRetire p half = true)) ∧
    (∃ p : Packet, ∃ half : Nat, ∃ s : State, (s.passes cmdCswRestore p half = true)) ∧
    (∃ p : Packet, ∃ half : Nat, ∃ s : State, (s.passes cmdCswRejoin p half = true)) :=
  ⟨⟨wPacket .sideband 0 ([]), 0, wRun, by decide +kernel⟩,
    ⟨wPacket .sideband 0 ([]), 0, wModule.setFlds [(F.GOV_CTL_PROFILE 0, 4), (F.GOV_CTL_PROFILE 1, 4), (F.CFG_STATUS_SIGNED, 1), (F.SEC_STATUS_UNSIGNED_PANS, 0), (F.SEC_TAMPER_CFG_EN, 0x7F)], by decide +kernel⟩,
    ⟨wPacket .sideband 0 ([]), 0, wModule.setFld F.SEC_STATUS_APPROVED 1, by decide +kernel⟩,
    ⟨wPacket .sideband 0 (leBytes 32 5), 0, wModule, by decide +kernel⟩,
    ⟨wPacket .sideband 0 (leBytes 1 0 ++ leBytes 3 0 ++ leBytes 48 5), 0, wModule, by decide +kernel⟩,
    ⟨wPacket .sideband 0 (leBytes 4 0), 0, wModule, by decide +kernel⟩,
    ⟨wPacket .sideband 0x1000 (leBytes 8 (HBM_BASE 0) ++ leBytes 8 512), 0, wModule.setFld (F.MEM_HBM_STATUS_STATE 0) 1, by decide +kernel⟩,
    ⟨wPacket .sideband 0 (leBytes 1 127 ++ leBytes 1 0 ++ leBytes 1 0 ++ leBytes 1 0), 0, wModule, by decide +kernel⟩,
    ⟨wPacket .sideband 0 (leBytes 1 7 ++ leBytes 7 0), 0, wModule, by decide +kernel⟩,
    ⟨wPacket .sideband 0 (leBytes 1 7 ++ leBytes 3 0 ++ leBytes 4 60 ++ leBytes 192 0), 0, wModule, by decide +kernel⟩,
    ⟨wPacket .sideband 0 ([]), 0, wModule.setFld F.SEC_STATUS_DBG_GRANTED 1, by decide +kernel⟩,
    ⟨wPacket .sideband 0 (leBytes 1 1 ++ leBytes 1 1 ++ leBytes 2 0), 0, wRun, by decide +kernel⟩,
    ⟨wPacket .sideband 0 (leBytes 1 1 ++ leBytes 3 0), 0, wRun, by decide +kernel⟩,
    ⟨wPacket .sideband 0x7003 ([]), 0, (((((wRun.setGroup 0 2).setGroup 1 2).setGroup 2 2).setGroup 3 2)).setGroup 0 0, by decide +kernel⟩,
    ⟨wPacket .sideband 0 ([]), 0, wRun, by decide +kernel⟩,
    ⟨wPacket .sideband 0 ([]), 0, ((((wRun.setGroup 0 0).setGroup 1 0).setGroup 2 0).setGroup 3 0).setFlds [(F.CSW_STATUS_STATE 0, 3), (F.CSW_STATUS_STATE 1, 3)], by decide +kernel⟩⟩

theorem witness_StepTakesFront : (∃ (c : Instr) (l : List Instr) (s : State), s.pending = c :: l) ∧ (∃ s : State, s.pending = []) :=
  ⟨⟨.dxNop, [], { State.reset with pending := [.dxNop] }, rfl⟩, ⟨State.reset, rfl⟩⟩

theorem witness_MemoryStaysCanonical : ∃ (s t : State) (c : Instr), s.memoryCanonical ∧ s.crossQuiet = true ∧ s.pending.head? = some c ∧ memoryRow c = true ∧ step s = .next t :=
  ⟨{ State.reset with pending := [.memoryFillDone 0 0] }, _, .memoryFillDone 0 0, ⟨rfl, rfl, rfl⟩, rfl, rfl, rfl, rfl⟩

theorem witness_MisalignedAccess : ∃ (a : Agent) (addr : BitVec 25) (size : Fin 4) (s : State), s.asleep a = false ∧ ¬ (size = 2 ∧ addr.toNat % 4 = 0) :=
  ⟨.link 0, 1, 2, State.reset, by decide +kernel⟩

theorem witness_ReportEvents : (∃ (s : State) (r : Raise) (l : Nat), r.half < 2 ∧ l < 16 ∧ r.cls = ERROR ∧ (l / 8 = r.half ∨ s.fld (F.CSW_STATUS_UP r.half) ≠ 0)) ∧
    (∃ (s : State) (r : Raise) (l : Nat), r.half < 2 ∧ l < 16 ∧ r.cls = FATAL ∧ (l / 8 = r.half ∨ s.fld (F.CSW_STATUS_UP r.half) ≠ 0)) ∧
    (∃ (s : State) (r : Raise) (l : Nat), r.half < 2 ∧ l < 16 ∧ (r.cls = NOTICE ∨ (l / 8 ≠ r.half ∧ s.fld (F.CSW_STATUS_UP r.half) = 0))) ∧
    (∃ (s : State) (r : Raise) (l : Nat), r.half < 2 ∧ l < 16 ∧ r.cls = FATAL ∧ l / 8 ≠ r.half ∧ s.fld (F.CSW_STATUS_UP r.half) ≠ 0) :=
  ⟨⟨State.reset, { half := 1, cls := 1, src := 0, code := 0, unit := 0 }, 15, by decide +kernel⟩,
    ⟨State.reset, { half := 1, cls := 2, src := 0, code := 0, unit := 0 }, 15, by decide +kernel⟩,
    ⟨St [(F.CSW_STATUS_UP 1, 0)], { half := 1, cls := 2, src := 0, code := 0, unit := 0 }, 0, by decide +kernel⟩,
    ⟨St [(F.CSW_STATUS_UP 0, 1)], { half := 0, cls := 2, src := 0, code := 0, unit := 0 }, 15, by decide +kernel⟩⟩

theorem witness_NarrowedResults : (∃ (w : Nat) (u : Int), 1 ≤ w ∧ -(2 : Int) ^ (w - 1) ≤ u ∧ u ≤ (2 : Int) ^ (w - 1) - 1) ∧
    (∃ (w : Nat) (u : Int), 1 ≤ w ∧ u < -(2 : Int) ^ (w - 1)) ∧ (∃ (w : Nat) (u : Int), 1 ≤ w ∧ (2 : Int) ^ (w - 1) - 1 < u) ∧
    (∃ (k : Rake) (i n w : Nat), (n, w) ∈ fmtFields (stepFmt i) (bitsOf i 12 11) ∧
      (2 : Int) ^ (w - 1) - 1 < shifted (k.dp.shiftOf i) (nth k.dp.acc n 0)) :=
  ⟨⟨1, -1, by decide⟩, ⟨1, -2, by decide⟩, ⟨1, 1, by decide⟩,
    ⟨{ dp := { acc := [2 ^ 50, 0, 0, 0] } }, 0x100, 0, 32, by decide +kernel⟩⟩

theorem witness_FrameRegisters : (∃ (temp : Byte) (t : State), temp.toNat < 105 ∧ exec (.hbmTemperatureRead 0 temp) State.reset = .next t) ∧
    (∃ (c : Fin 24) (t : State), 0 < c.val ∧ c.val < 16 ∧ exec (.adcConversion 0 c 7) State.reset = .next t) ∧
    (∃ t, exec (.bmemCeClear 0) State.reset = .next t) ∧ (∃ t, exec (.memEccCeClear 0) State.reset = .next t) ∧
    (∃ t, exec (.stCountsClear 0) State.reset = .next t) ∧ (∃ t, exec (.schedCountsClear 0) State.reset = .next t) :=
  ⟨⟨60, _, by decide, rfl⟩, ⟨3, _, by decide, by decide, rfl⟩, ⟨_, rfl⟩, ⟨_, rfl⟩, ⟨_, rfl⟩, ⟨_, rfl⟩⟩

theorem witness_FrameMemory : State.reset.crossQuiet = true ∧ (∃ t, exec (.memoryPartialWrite (.core 0) (BitVec.ofNat 64 (HBM_BASE 0)) [1, 2]) State.reset = .next t) ∧
    (∃ t, exec (.memoryFullWrite (.core 0) (BitVec.ofNat 64 (HBM_BASE 0)) 7) State.reset = .next t) ∧
    (∃ t, exec (.memoryRead (.core 0) (BitVec.ofNat 64 (HBM_BASE 0)) 8) State.reset = .next t) ∧
    (∃ t, exec (.scrubLine 0 0 false false) State.reset = .next t) ∧ (∃ t, exec (.memInjectFlip 0 0 3 5) State.reset = .next t) ∧
    (∃ t, exec (.memInjectFlipDouble 0 0 3 5) State.reset = .next t) :=
  ⟨rfl, ⟨_, rfl⟩, ⟨_, rfl⟩, ⟨_, rfl⟩, ⟨_, rfl⟩, ⟨_, rfl⟩, ⟨_, rfl⟩⟩

/-- A state with n commands outstanding on the side-band bus, all with one SEQ. -/
def wBusy (n : Nat) : State := { wRun with jobs := List.replicate n wJob }
theorem witness_ChecksInOrder :
    (∃ (p : Packet) (s : State), s.accepts p.via = false) ∧
    (∃ (c : Cmd) (p : Packet) (s : State), s.accepts p.via = true ∧ s.noPlace c.cls p.via = true) ∧
    (∃ (c : Cmd) (p : Packet) (s : State), s.accepts p.via = true ∧ s.noPlace c.cls p.via = false ∧ badLength p = true) ∧
    (∃ (c : Cmd) (p : Packet) (s : State), s.accepts p.via = true ∧ s.noPlace c.cls p.via = false ∧ badLength p = false ∧ p.version ≠ 1) ∧
    (∃ (c : Cmd) (p : Packet) (s : State), s.accepts p.via = true ∧ s.noPlace c.cls p.via = false ∧ badLength p = false ∧ p.version = 1 ∧
      s.seqTaken p.via p.seq.toNat = true) ∧
    (∃ (c : Cmd) (p : Packet) (s : State), s.accepts p.via = true ∧ s.noPlace c.cls p.via = false ∧ badLength p = false ∧ p.version = 1 ∧
      s.seqTaken p.via p.seq.toNat = false ∧ s.mustWait c p = true) ∧
    (∃ (c : Cmd) (p : Packet) (s : State), s.accepts p.via = true ∧ s.noPlace c.cls p.via = false ∧ badLength p = false ∧ p.version = 1 ∧
      s.seqTaken p.via p.seq.toNat = false ∧ s.mustWait c p = false) :=
  ⟨⟨wPacket .slave 0 [], State.reset, by decide +kernel⟩, ⟨cmdNop, wPacket .sideband 0 [], wBusy 31, by decide +kernel⟩,
    ⟨cmdNop, { wPacket .sideband 0 [] with plen := 8 }, wRun, by decide +kernel⟩, ⟨cmdNop, { wPacket .sideband 0 [] with version := 2 }, wRun, by decide +kernel⟩,
    ⟨cmdNop, { wPacket .sideband 0 [] with seq := 3 }, wBusy 1, by decide +kernel⟩, ⟨cmdNop, { wPacket .sideband 0 [] with flags := 1 }, wBusy 1, by decide +kernel⟩,
    ⟨cmdNop, wPacket .sideband 0 [], wRun, by decide +kernel⟩⟩
theorem witness_ChecksInOrder_start :
    (∃ (c : Cmd) (p : Packet) (s : State), c.scopes.contains (scopeOf p.target.toNat) = false ∨ s.execHalf (receivingHalf p.via) p.target.toNat = none) ∧
    (∃ (c : Cmd) (p : Packet) (s : State), c.scopes.contains (scopeOf p.target.toNat) = true ∧ s.execHalf (receivingHalf p.via) p.target.toNat = some 0 ∧
      s.refused513 c.opcode c.cls p.via (receivingHalf p.via) 0 = some (S_NOT_USER, 0)) ∧
    (∃ (c : Cmd) (p : Packet) (s : State), c.scopes.contains (scopeOf p.target.toNat) = true ∧ s.execHalf (receivingHalf p.via) p.target.toNat = some 0 ∧
      s.refused513 c.opcode c.cls p.via (receivingHalf p.via) 0 = none ∧ p.plen.toNat ≠ c.size (reqOf p 0)) ∧
    (∃ (c : Cmd) (p : Packet) (s : State), c.scopes.contains (scopeOf p.target.toNat) = true ∧ s.execHalf (receivingHalf p.via) p.target.toNat = some 0 ∧
      s.refused513 c.opcode c.cls p.via (receivingHalf p.via) 0 = none ∧ p.plen.toNat = c.size (reqOf p 0) ∧ c.opcode ≠ 0x0905 ∧
      badHeader p = some (S_FIELD, 0x4001)) ∧
    (∃ (c : Cmd) (p : Packet) (s : State), c.scopes.contains (scopeOf p.target.toNat) = true ∧ s.execHalf (receivingHalf p.via) p.target.toNat = some 0 ∧
      s.refused513 c.opcode c.cls p.via (receivingHalf p.via) 0 = none ∧ p.plen.toNat = c.size (reqOf p 0) ∧ badHeader p = none ∧
      (badField s (reqOf p 0) c.fields).map (fun f => (f.off, f.addr, f.status)) = some (0, 0, S_FIELD)) ∧
    (∃ (c : Cmd) (p : Packet) (s : State), c.scopes.contains (scopeOf p.target.toNat) = true ∧ s.execHalf (receivingHalf p.via) p.target.toNat = some 0 ∧
      s.refused513 c.opcode c.cls p.via (receivingHalf p.via) 0 = none ∧ p.plen.toNat = c.size (reqOf p 0) ∧ badHeader p = none ∧
      badField s (reqOf p 0) c.fields = none ∧ c.check s (reqOf p 0) = some (S_STATE, 0, [])) ∧
    (∃ (c : Cmd) (p : Packet) (s : State), c.scopes.contains (scopeOf p.target.toNat) = true ∧ s.execHalf (receivingHalf p.via) p.target.toNat = some 0 ∧
      s.refused513 c.opcode c.cls p.via (receivingHalf p.via) 0 = none ∧ p.plen.toNat = c.size (reqOf p 0) ∧ badHeader p = none ∧
      badField s (reqOf p 0) c.fields = none ∧ c.check s (reqOf p 0) = none ∧ c.cls = .short ∧ s.heldUnit (c.touches s (reqOf p 0)) = true) :=
  ⟨⟨cmdNop, wPacket .sideband 0x9000 [], wRun, by decide +kernel⟩, ⟨cmdCoreStart, wPacket .sideband 0x4000 (leBytes 8 0), State.reset, by decide +kernel⟩,
    ⟨cmdCoreStart, wPacket .sideband 0x4000 [], wRun, by decide +kernel⟩, ⟨cmdNop, { wPacket .sideband 0 [] with flags := 2 }, wRun, by decide +kernel⟩,
    ⟨cmdGovProfile, wPacket .sideband 0 (leBytes 4 9), wRun, by decide +kernel⟩,
    ⟨cmdCoreStart, wPacket .sideband 0x4000 (leBytes 8 0), wRun.setFld (F.TCORE_CTL_RUN 0) 1, by decide +kernel⟩,
    ⟨cmdCoreStart, wPacket .sideband 0x4000 (leBytes 8 0), { wRun with jobs := [{ wJob with holds := [0x4000] }] }, by decide +kernel⟩⟩

theorem witness_AccumulatorWraps :
    (∃ (d : Datapath) (n : Nat) (p : Int), n < d.acc.length ∧ n < d.ovf.length ∧ nth d.acc n 0 + p = (2 : Int) ^ 55 - 1) ∧
    (∃ (d : Datapath) (n : Nat) (p : Int), n < d.acc.length ∧ n < d.ovf.length ∧ nth d.acc n 0 + p = (2 : Int) ^ 55) ∧
    (∃ (d : Datapath) (n : Nat) (p : Int), n < d.acc.length ∧ n < d.ovf.length ∧ nth d.acc n 0 - p = -(2 : Int) ^ 55) ∧
    (∃ (d : Datapath) (n : Nat) (p : Int), n < d.acc.length ∧ n < d.ovf.length ∧ nth d.acc n 0 - p = -(2 : Int) ^ 55 - 1) :=
  ⟨⟨{ acc := [1, 0, 0, 0] }, 0, 2 ^ 55 - 2, by decide +kernel⟩, ⟨{ acc := [1, 0, 0, 0] }, 0, 2 ^ 55 - 1, by decide +kernel⟩,
    ⟨{ acc := [0, 0, 0, -1] }, 3, 2 ^ 55 - 1, by decide +kernel⟩, ⟨{ acc := [0, 0, 0, -1] }, 3, 2 ^ 55, by decide +kernel⟩⟩

end Sys2Proof.Machine.Tests
end

