-- ==== Sys2Proof/Proofs/Scope.lean ====
section
/-! PROOFS. What an access to the control address space does (R8 to R11, R26, R31, R324, R326), the state after reset (R7), and the
statements of the scope family. -/

namespace Sys2Proof.Machine

/-! ## The rows that these statements name -/

theorem exec_registerWrite (a : Agent) (addr : BitVec 25) (v : Word) (s : State) : exec (.registerWrite a addr v) s = execRegisterWrite a addr v s := rfl
theorem exec_misalignedAccess (a : Agent) (addr : BitVec 25) (size : Fin 4) (write : Bool) (s : State) : exec (.misalignedAccess a addr size write) s = execMisalignedAccess a addr size write s := rfl
theorem exec_outsideAccess (a : Agent) (addr : Word) (write : Bool) (s : State) : exec (.outsideAccess a addr write) s = execOutsideAccess a addr write s := rfl
theorem exec_hostWriteRefused (l : Fin 16) (addr : BitVec 25) (v : Word) (s : State) : exec (.hostWriteRefused l addr v) s = execHostWriteRefused l addr v s := rfl
theorem exec_secureBootEnd (s : State) : exec .secureBootEnd s = execSecureBootEnd s := rfl
theorem exec_bootTimeout (s : State) : exec .bootTimeout s = execBootTimeout s := rfl
theorem exec_pllLockLoss (loop : Fin 7) (long : Bool) (s : State) : exec (.pllLockLoss loop long) s = execPllLockLoss loop long s := rfl
theorem exec_warmLogFlushTimeout (h : Fin 2) (s : State) : exec (.warmLogFlushTimeout h) s = execWarmLogFlushTimeout h s := rfl
theorem exec_warmResetBegin (s : State) : exec .warmResetBegin s = execWarmResetBegin s := rfl

/-! ## A write by a host, a core or the debugger's bus (R10, R324, R326, R499) -/

section
variable {s : State} {a : Agent} {addr v : Nat}

theorem State.outerWrite_mailbox {l off : Nat} (m : mailboxAt addr = some (l, off)) (r : reachesMailbox l a = true) :
    s.outerWrite a addr v = (s.mailboxWrite l off a v, .ok) := by
  simp [State.outerWrite, m, r]

theorem State.outerWrite_mailbox_unreached {l off : Nat} (m : mailboxAt addr = some (l, off)) (r : reachesMailbox l a = false) :
    s.outerWrite a addr v = (s.misuse a 3 addr, .refused) := by
  simp [State.outerWrite, m, r]

theorem State.outerWrite_refused_of_not_core (m : mailboxAt addr = none) (n : ∀ c, a ≠ .core c) :
    s.outerWrite a addr v = (s.misuse a 3 addr, .refused) := by
  cases a with
  | core c => exact absurd rfl (n c)
  | _ => simp [State.outerWrite, m]

theorem State.outerWrite_core_elsewhere {c : Fin 16} (m : mailboxAt addr = none) (w : coreWritable addr = none) :
    s.outerWrite (.core c) addr v = (s.misuse (.core c) 3 addr, .refused) := by
  simp [State.outerWrite, m, w]

theorem State.outerWrite_core_denied {c : Fin 16} {k w : Nat} (m : mailboxAt addr = none) (e : coreWritable addr = some (k, w))
    (p : (s.core c).prv ≠ 3) : s.outerWrite (.core c) addr v = (s, .denied) := by
  simp [State.outerWrite, m, e, p]

theorem State.outerWrite_core_writable {c : Fin 16} {k w : Nat} (m : mailboxAt addr = none) (e : coreWritable addr = some (k, w))
    (p : (s.core c).prv = 3) :
    s.outerWrite (.core c) addr v = (if w = 0 then s.writeMsip k (bitOf v 0) else s.writeMtimecmp k (w == 2) v, .ok) := by
  simp [State.outerWrite, m, e, p]

/-! ## An aligned write, by its agent (R31) -/

theorem State.controlWrite_mgmt_cut {h : Fin 2} (x : s.regCutOff h addr = true) : s.controlWrite (.mgmt h) addr v = s := by
  simp [State.controlWrite, x]

theorem State.controlWrite_mgmt_mailbox {h : Fin 2} {l off : Nat} (x : s.regCutOff h addr = false) (m : mailboxAt addr = some (l, off)) :
    s.controlWrite (.mgmt h) addr v = s.mailboxWrite l off (.mgmt h) v := by
  simp [State.controlWrite, x, m]

theorem State.controlWrite_mgmt_register {h : Fin 2} (x : s.regCutOff h addr = false) (m : mailboxAt addr = none) :
    s.controlWrite (.mgmt h) addr v = s.writeReg h addr v := by
  simp [State.controlWrite, x, m]

theorem State.controlWrite_debug_block (lo : 0x00E01000 ≤ addr) (hi : addr < 0x00F00000) :
    s.controlWrite .debug addr v = s.writeDebugReg addr v := by
  simp [State.controlWrite, lo, hi]

theorem State.controlWrite_debug_outer (x : addr < 0x00E01000 ∨ 0x00F00000 ≤ addr) :
    s.controlWrite .debug addr v = (s.outerWrite .debug addr v).1 := by
  have n : ¬ (0x00E01000 ≤ addr ∧ addr < 0x00F00000) := by omega
  simp [State.controlWrite, n]

theorem State.controlWrite_link {l : Fin 16} : s.controlWrite (.link l) addr v = (s.outerWrite (.link l) addr v).1 := rfl

theorem State.controlWrite_core {c : Fin 16} {t : State} {f : Fate} (l : (s.core c).live = true) (h : s.isHalted c = false)
    (o : s.outerWrite (.core c) addr v = (t, f)) (n : f ≠ .denied) : s.controlWrite (.core c) addr v = t := by
  simp only [State.controlWrite, l, h, o]
  cases f with
  | denied => exact absurd rfl n
  | _ => rfl

theorem State.controlWrite_core_denied {c : Fin 16} (l : (s.core c).live = true) (h : s.isHalted c = false)
    (d : s.outerWrite (.core c) addr v = (s, .denied)) :
    s.controlWrite (.core c) addr v = s.coreTrap c 7 addr (s.core c).pc := by
  simp [State.controlWrite, l, h, d]

end

/-! ## The rows of the control address space (R8, R10, R26) -/

theorem exec_registerWrite_aligned {a : Agent} {addr : BitVec 25} {v : Word} {s : State} (w : s.asleep a = false) (n : addr.toNat % 4 = 0) :
    exec (.registerWrite a addr v) s = .next (s.controlWrite a addr.toNat v.toNat) := by
  simp [exec_registerWrite, execRegisterWrite, State.fromAgent_awake w, n]

theorem exec_registerWrite_misaligned {a : Agent} {addr : BitVec 25} {v : Word} {s : State} (w : s.asleep a = false)
    (n : addr.toNat % 4 ≠ 0) : exec (.registerWrite a addr v) s = .next (s.misuse a 1 addr.toNat) := by
  simp [exec_registerWrite, execRegisterWrite, State.fromAgent_awake w, n]

theorem exec_misalignedAccess_refused {a : Agent} {addr : BitVec 25} {size : Fin 4} {write : Bool} {s : State} (w : s.asleep a = false)
    (n : ¬ (size = 2 ∧ addr.toNat % 4 = 0)) :
    exec (.misalignedAccess a addr size write) s = .next ((s.misuse a 1 addr.toNat).reply (if write then .none else .word 0)) := by
  simp [exec_misalignedAccess, execMisalignedAccess, State.fromAgent_awake w, n]

theorem exec_outsideAccess_refused {a : Agent} {addr : Word} {write : Bool} {s : State} (w : s.asleep a = false)
    (n : 0x02000000 ≤ addr.toNat) :
    exec (.outsideAccess a addr write) s = .next ((s.misuse a 2 addr.toNat).reply (if write then .none else .word 0)) := by
  simp [exec_outsideAccess, execOutsideAccess, State.fromAgent_awake w, Nat.not_lt.mpr n]

theorem exec_hostWriteRefused_misaligned {l : Fin 16} {addr : BitVec 25} {v : Word} {s : State} (w : s.asleep (.link l) = false)
    (n : addr.toNat % 4 ≠ 0) : exec (.hostWriteRefused l addr v) s = .next (s.misuse (.link l) 1 addr.toNat) := by
  simp [exec_hostWriteRefused, execHostWriteRefused, State.fromAgent_awake w, n]

/-- An aligned host write that no mailbox of the host's own takes is refused. -/
theorem exec_hostWriteRefused_aligned {l : Fin 16} {addr : BitVec 25} {v : Word} {s : State} (w : s.asleep (.link l) = false)
    (n : addr.toNat % 4 = 0) (m : ∀ k off, mailboxAt addr.toNat = some (k, off) → k ≠ l.val) :
    exec (.hostWriteRefused l addr v) s = .next (s.misuse (.link l) 3 addr.toNat) := by
  cases e : mailboxAt addr.toNat with
  | none => simp [exec_hostWriteRefused, execHostWriteRefused, State.fromAgent_awake w, n, e]
  | some p => simp [exec_hostWriteRefused, execHostWriteRefused, State.fromAgent_awake w, n, e, m p.1 p.2 e]

/-! ## A register of one read-write field (R11) -/

/-- The write of a read-write field that fills the word stores the value. -/
theorem writeFields_whole_rw (d : Dom) (b : Bool) (r w v : Nat) (h : v < 2 ^ 32) (g : w < 2 ^ 32) :
    writeFields [⟨31, 0, .rw, d, b, r⟩] w v = v := by
  simp only [writeFields, putBits, bitsOf]
  omega

/-- ERR_INJ_CTX (R692) stands in the table as one read-write field of 32 bits, outside every mailbox and every link's registers. -/
theorem findReg_errInjCtx (h : Fin 2) :
    findReg (R.ERR_INJ_CTX h) = some ⟨"ERR_INJ_CTX", 0x400020, [(0x10000, 2)], [⟨31, 0, .rw, .warm, false, 0⟩]⟩ := by
  revert h; decide +kernel

theorem toNat_errInjCtx (h : Fin 2) : (BitVec.ofNat 25 (R.ERR_INJ_CTX h)).toNat = R.ERR_INJ_CTX h := by
  revert h; decide

theorem errInjCtx_aligned (h : Fin 2) : R.ERR_INJ_CTX h % 4 = 0 := by
  revert h; decide

theorem mailboxAt_errInjCtx (h : Fin 2) : mailboxAt (R.ERR_INJ_CTX h) = none := by
  revert h; decide

theorem linkOfAddr_errInjCtx (h : Fin 2) : linkOfAddr (R.ERR_INJ_CTX h) = none := by
  revert h; decide

theorem State.slotWord_errInjCtx (s : State) (h : Fin 2) : s.slotWord (R.ERR_INJ_CTX h) = none := by
  simp [State.slotWord, mailboxAt_errInjCtx]

theorem State.documented_errInjCtx (s : State) (g : Nat) (h : Fin 2) : s.documented g (R.ERR_INJ_CTX h) = true := by
  have k : regKey g (R.ERR_INJ_CTX h) = R.ERR_INJ_CTX h := if_neg (by revert h; decide)
  simp [State.documented, k, linkOfAddr_errInjCtx, findReg_errInjCtx]

theorem State.plain_errInjCtx (s : State) (h : Fin 2) (v : Word) : s.plain (R.ERR_INJ_CTX h) v.toNat = s.setReg (R.ERR_INJ_CTX h) v := by
  simp [State.plain, findReg_errInjCtx, writeFields_whole_rw _ _ _ _ _ v.isLt (s.reg _).isLt]

/-- A documented address of the error block goes to the registers of its half's log. -/
theorem State.writeReg_errorBlock {s : State} {h a v : Nat} (t : s.slotWord a = none) (d : s.documented h a = true)
    (lo : 0x00400000 ≤ a) (hi : a < 0x00480000) :
    s.writeReg h a v = s.writeErr ((a - 0x00400000) / 0x10000) (a % 0x10000) v := by
  have n (b : Nat) (q : 0x00480000 ≤ b) : ¬ b ≤ a := by omega
  simp [State.writeReg, t, d, lo, n]

theorem State.writeReg_errInjCtx (s : State) (g h : Fin 2) (v : Word) :
    s.writeReg g (R.ERR_INJ_CTX h) v.toNat = s.setReg (R.ERR_INJ_CTX h) v := by
  have place : R.ERR_INJ_CTX h = 0x00400000 + h * 0x10000 + 0x20 := by revert h; decide
  have block : 0x00400000 ≤ R.ERR_INJ_CTX h ∧ R.ERR_INJ_CTX h < 0x00480000 := by revert h; decide
  have half : (R.ERR_INJ_CTX h - 0x00400000) / 0x10000 = h := by revert h; decide
  have offset : R.ERR_INJ_CTX h % 0x10000 = 0x20 := by revert h; decide
  calc s.writeReg g (R.ERR_INJ_CTX h) v.toNat
      = s.writeErr h 0x20 v.toNat := by
        rw [State.writeReg_errorBlock (s.slotWord_errInjCtx h) (s.documented_errInjCtx g h) block.1 block.2, half, offset]
    _ = s.plain (0x00400000 + h * 0x10000 + 0x20) v.toNat := rfl
    _ = s.setReg (R.ERR_INJ_CTX h) v := by rw [← place, s.plain_errInjCtx h v]

/-! ## The state after reset (R7) -/

@[simp] theorem State.reset_reg (a : Nat) : State.reset.reg a = resetWord a := rfl

theorem resetWord_rstStatus : resetWord R.RST_STATUS = 0 := by decide +kernel

theorem State.reset_phase : State.reset.phase = 0 := by
  simp [State.phase, State.fld, resetWord_rstStatus, bitsOf]

/-! ## POWER_UP ends (R713) -/

/-- What POWER_UP_END does once the canary is checked (R713). -/
def State.bootFrom (s : State) : State := ((s.setFld F.CLK_STATUS_ROOT_LOCK 1).oweTamper.forceApproved.bootPorts).setPhase 1

/-- With the supplies good and PORESETn high, COLD_CAUSE is shown, the canary is checked and SECURE_BOOT begins. -/
theorem exec_powerUpEnd_ready {s : State} (phase : s.phase = 0) (poreset : s.poresetLow = false) (supply : s.supplyLow = false) :
    exec .powerUpEnd s = .next (State.bootFrom (if s.sec.canaryLost then (s.setFld F.RST_STATUS_COLD_CAUSE s.coldCause).freshBattery
      else s.setFld F.RST_STATUS_COLD_CAUSE s.coldCause)) := by
  have ready : (decide (s.phase ≠ 0) || s.poresetLow || s.supplyLow) = false := by simp [phase, poreset, supply]
  -- Rewritten, not left to reduction: comparing the two states by reduction would evaluate the register table.
  have canary : s.sec = (s.setFld F.RST_STATUS_COLD_CAUSE s.coldCause).sec := by rw [State.setFld_sec]
  rw [canary]
  exact congrArg Host.Outcome.next (if_neg (ne_true_of_eq_false ready))

/-! ## The statements -/

/-- Settles O50: the meaning of every row is written as a next state, a row of the CXL mailbox through State.cxlCmd, which is one. -/
theorem everyCommandGoesOn : Obligations.EveryCommandGoesOn := by
  intro c s
  cases c <;> exact ⟨_, rfl⟩

/-- Settles O51: the state after reset has every field at its default, and an unlisted register reads its reset word. -/
theorem resetState : Obligations.ResetState :=
  ⟨rfl, rfl, fun _ => rfl, State.reset_reg, State.reset_phase, State.reset_canonical, rfl⟩

/-- Settles O53: the row's two forms, its report written out as R660 and R661 give it. -/
theorem misalignedAccess : Obligations.MisalignedAccess :=
  fun _ _ _ _ w n => ⟨exec_misalignedAccess_refused w n, exec_misalignedAccess_refused w n⟩

/-- Settles O38: each clause is an aligned write to its agent's branch of the control space, or one of the three refusals. -/
theorem spaceAccesses : Obligations.SpaceAccesses := by
  refine ⟨?mgmtRegister, ?mgmtMailbox, ?mgmtCut, ?debugBlock, ?debugElsewhere, ?linkElsewhere, ?linkOwn, ?linkOther, ?coreElsewhere,
    ?coreWritable, ?coreDenied, ?sched, ?coh, ?misalignedWrite, ?misaligned, ?outside, ?hostMisaligned, ?hostElsewhere, ?hostOther⟩
  case mgmtRegister =>
    intro h addr v s n x m
    rw [exec_registerWrite_aligned rfl n, State.controlWrite_mgmt_register x m]
  case mgmtMailbox =>
    intro h addr v l off s n x m
    rw [exec_registerWrite_aligned rfl n, State.controlWrite_mgmt_mailbox x m]
  case mgmtCut =>
    intro h addr v s n x
    rw [exec_registerWrite_aligned rfl n, State.controlWrite_mgmt_cut x]
  case debugBlock =>
    intro addr v s n lo hi
    rw [exec_registerWrite_aligned rfl n, State.controlWrite_debug_block lo hi]
  case debugElsewhere =>
    intro addr v s n x m
    rw [exec_registerWrite_aligned rfl n, State.controlWrite_debug_outer x, State.outerWrite_refused_of_not_core m (by simp)]
  case linkElsewhere =>
    intro addr v l s w n m
    rw [exec_registerWrite_aligned w n, State.controlWrite_link, State.outerWrite_refused_of_not_core m (by simp)]
  case linkOwn =>
    intro addr v l k off s w n m r
    rw [exec_registerWrite_aligned w n, State.controlWrite_link, State.outerWrite_mailbox m r]
  case linkOther =>
    intro addr v l k off s w n m r
    rw [exec_registerWrite_aligned w n, State.controlWrite_link, State.outerWrite_mailbox_unreached m r]
  case coreElsewhere =>
    intro addr v c s n live run m e
    rw [exec_registerWrite_aligned rfl n, State.controlWrite_core live run (State.outerWrite_core_elsewhere m e) (by simp)]
  case coreWritable =>
    intro addr v c k w s n live run m e p
    rw [exec_registerWrite_aligned rfl n, State.controlWrite_core live run (State.outerWrite_core_writable m e p) (by simp)]
  case coreDenied =>
    intro addr v c k w s n live run m e p
    rw [exec_registerWrite_aligned rfl n, State.controlWrite_core_denied live run (State.outerWrite_core_denied m e p)]
  case sched => exact fun h addr v s n => exec_registerWrite_aligned rfl n
  case coh => exact fun h addr v s n => exec_registerWrite_aligned rfl n
  case misalignedWrite => exact fun a addr v s w n => exec_registerWrite_misaligned w n
  case misaligned =>
    intro a addr size write s w n
    exact exec_misalignedAccess_refused w (by tauto)
  case outside => exact fun a addr write s w n => exec_outsideAccess_refused w n
  case hostMisaligned => exact fun l addr v s w n => exec_hostWriteRefused_misaligned w n
  case hostElsewhere =>
    intro l addr v s w n m
    exact exec_hostWriteRefused_aligned w n (by simp [m])
  case hostOther =>
    intro l addr v k off s w n m ne
    refine exec_hostWriteRefused_aligned w n fun k' off' m' => ?_
    obtain ⟨rfl, rfl⟩ : k = k' ∧ off = off' := by simpa [m] using m'
    exact ne

/-- Settles O39: every row goes on (O50), and the write of ERR_INJ_CTX reaches its word by the table. -/
theorem controlSpaceCompletes : Obligations.ControlSpaceCompletes := by
  refine ⟨fun _ _ _ _ => everyCommandGoesOn _ _, ?write, fun _ _ _ _ => everyCommandGoesOn _ _, ?read,
    fun _ _ _ _ => everyCommandGoesOn _ _⟩
  case write =>
    intro g h v s x
    have e := toNat_errInjCtx h
    have aligned := (congrArg (· % 4) e).trans (errInjCtx_aligned h)
    rw [exec_registerWrite_aligned rfl aligned, e, State.controlWrite_mgmt_register x (mailboxAt_errInjCtx h), State.writeReg_errInjCtx]
  case read => exact fun a addr s w n => ⟨_, exec_outsideAccess_refused w n, rfl⟩

/-- Settles O36: each clause is the branch of the row that its conditions select. -/
theorem resetEvents : Obligations.ResetEvents := by
  refine ⟨fun _ => rfl, ?release, fun _ => rfl, fun _ => rfl, fun _ => rfl, ?powerUp, ?powerUpCanary, ?bootKeeps, ?bootInvalid,
    ?boot, ?timeout, ?lossRecorded, ?lossResets, ?lossRetrains, ?logFlush, ?warmBegins, ?warmWaits⟩
  case release => exact fun mode s low => congrArg Host.Outcome.next (if_pos low)
  case powerUp =>
    intro s phase poreset supply canary
    rw [exec_powerUpEnd_ready phase poreset supply, if_neg (ne_true_of_eq_false canary), State.bootFrom]
  case powerUpCanary =>
    intro s phase poreset supply canary
    rw [exec_powerUpEnd_ready phase poreset supply, if_pos canary, State.bootFrom]
  case bootKeeps =>
    intro s done keep
    simp [exec_secureBootEnd, execSecureBootEnd, done, keep]
  case bootInvalid =>
    intro s done keep invalid
    exact congrArg Host.Outcome.next ((if_neg (by rw [done]; decide)).trans ((if_neg keep).trans (if_pos invalid)))
  case boot =>
    intro s done keep valid
    exact congrArg Host.Outcome.next ((if_neg (by rw [done]; decide)).trans ((if_neg keep).trans (if_neg (ne_true_of_eq_false valid))))
  case timeout =>
    intro s phase running
    simp [exec_bootTimeout, execBootTimeout, phase, running]
  case lossRecorded =>
    intro loop s phase
    simp [exec_pllLockLoss, execPllLockLoss, phase]
  case lossResets =>
    intro loop s phase rootOrStack
    simp [exec_pllLockLoss, execPllLockLoss, phase, rootOrStack]
  case lossRetrains =>
    intro loop s phase port
    simp [exec_pllLockLoss, execPllLockLoss, phase, Nat.not_le.mpr port]
  case logFlush =>
    intro h w s warm mine waits
    simp only [exec_warmLogFlushTimeout, execWarmLogFlushTimeout, warm]
    exact congrArg Host.Outcome.next (if_neg (by rw [mine, waits]; decide))
  case warmBegins =>
    intro w s warm flushed
    simp only [exec_warmResetBegin, execWarmResetBegin, warm]
    exact congrArg Host.Outcome.next (if_pos flushed)
  case warmWaits =>
    intro w s warm flushing
    simp only [exec_warmResetBegin, execWarmResetBegin, warm]
    exact congrArg Host.Outcome.next (if_neg (ne_true_of_eq_false flushing))

end Sys2Proof.Machine
end

