-- ==== Sys2Proof/Proofs/Readings.lean ====
section
/-! PROOFS. What the governor's readings, its regulators and its pumps and fans do (R599 to R609, R613), one lemma per form of a row,
and the statement about them. -/

namespace Sys2Proof.Machine

section
variable {s : State} {h : Fin 2}

/-! ## Sensors and converters (R600 to R602, R606) -/

/-- A sensor that is more than 40 °C from each neighbour it has fails (R602); the first and the last sensor have one. -/
theorem exec_sensorDisagreeExpiry_far {k : Fin 64} (below : 0 < k.val → 320 < (s.sensorTemp h k - s.sensorTemp h (k.val - 1)).natAbs)
    (above : k.val < 63 → 320 < (s.sensorTemp h k - s.sensorTemp h (k.val + 1)).natAbs) :
    exec (.sensorDisagreeExpiry h k) s = .next ((s.sensorFails h k).sensorStop h) := by
  refine congrArg Host.Outcome.next (if_pos ?_)
  rw [List.all_append, Bool.and_eq_true]
  constructor
  · split
    · rfl
    · simpa using below (by omega)
  · split
    · rfl
    · simpa using above (by omega)

theorem exec_adcConversion (c : Fin 24) (code : BitVec 12) : exec (.adcConversion h c code) s = execAdcConversion h c code s := rfl

/-- A channel of the part itself keeps its code, and the sensed rail in its window ends that condition (R600, R606). -/
theorem exec_adcConversion_internal {c : Fin 24} {code : BitVec 12} (internal : c.val < 13) :
    exec (.adcConversion h c code) s = .next (if c.val = 0 ∧ 1060 ≤ code.toNat ∧ code.toNat ≤ 1940 then
      (s.setFld (F.GOV_ADC_CODE h c) code.toNat).modGov h fun g => { g with windowBad := false }
      else s.setFld (F.GOV_ADC_CODE h c) code.toNat) := by
  have unreserved : ¬ 13 ≤ c.val := Nat.not_le.mpr internal
  have notExternal : ¬ 16 ≤ c.val := by omega
  simp [exec_adcConversion, execAdcConversion, unreserved, notExternal, and_assoc]

/-- Channels 13 to 15 read 0 (R600). -/
theorem exec_adcConversion_reserved {c : Fin 24} {code : BitVec 12} (lo : 13 ≤ c.val) (hi : c.val < 16) :
    exec (.adcConversion h c code) s = .next (s.setFld (F.GOV_ADC_CODE h c) 0) := by
  simp [exec_adcConversion, execAdcConversion, lo, hi, Nat.not_le.mpr hi]

/-- An external channel without a pin reads 0, and its code is calibrated (R600, R601). -/
theorem exec_adcConversion_external {c : Fin 24} {code : BitVec 12} (external : 16 ≤ c.val) :
    exec (.adcConversion h c code) s = .next ((s.setFld (F.GOV_ADC_CODE h c)
      (if (s.signalPin h 8 (c.val - 16)).isNone then 0 else code.toNat)).takeCode h (c.val - 16)
      (if (s.signalPin h 8 (c.val - 16)).isNone then 0 else code.toNat)) := by
  simp [exec_adcConversion, execAdcConversion, external, Nat.not_lt.mpr external]

/-! ## Regulators (R604, R605, R607) -/

/-- A poll of an enabled slot that is acknowledged with both bus pins there takes the slot's figures (R604). -/
theorem exec_regulatorPoll_answered {r : Fin 8} {status pout : BitVec 16} {iout : BitVec 12} (en : s.on (F.GOV_REG_CFG_EN h r) = true)
    (clock : (s.signalPin h 7 6).isSome = true) (data : (s.signalPin h 7 7).isSome = true) :
    exec (.regulatorPoll h r true status iout pout) s = .next
      ((((s.setFlds [(F.GOV_REG_STATUS_STATUS_WORD h r, status.toNat), (F.GOV_REG_STATUS_IOUT h r, iout.toNat)]).modSlot h r
        fun x => { x with pout := pout.toNat, naks := 0 }).setSlotState h r (polledState status.toNat)).showPower h) := by
  have answered : (true && (s.signalPin h 7 6).isSome && (s.signalPin h 7 7).isSome) = true := by simp [clock, data]
  exact congrArg Host.Outcome.next ((if_neg (by simp [en])).trans (if_pos answered))

/-- Slot r of half h did not answer one poll more (R604). -/
def State.missPoll (s : State) (h r : Nat) : State := s.modSlot h r fun x => { x with naks := min 3 (x.naks + 1) }

/-- A poll of an enabled slot without an answer is counted, and the third in a row is a FAULT (R604). -/
theorem exec_regulatorPoll_unanswered {r : Fin 8} {acked : Bool} {status pout : BitVec 16} {iout : BitVec 12}
    (en : s.on (F.GOV_REG_CFG_EN h r) = true) (silent : (acked && (s.signalPin h 7 6).isSome && (s.signalPin h 7 7).isSome) = false) :
    exec (.regulatorPoll h r acked status iout pout) s = .next
      (if 3 ≤ ((s.missPoll h r).slot h r).naks then (s.missPoll h r).setSlotState h r 3 else s.missPoll h r) :=
  congrArg Host.Outcome.next ((if_neg (by simp [en])).trans (if_neg (ne_true_of_eq_false silent)))

/-- The last slot that carries VFAB is not disabled (R607). -/
theorem State.disableSlot_last {h r : Nat} (avs : s.avsSlot h r = true) (alone : ((List.range 8).any fun k => k != r && s.avsSlot h k) = false) :
    s.disableSlot h r = none :=
  if_pos (by rw [avs, alone]; rfl)

/-- Slot r of half h is disabled and drains the writes it owes (R607). -/
def State.startDrain (s : State) (h r : Nat) : State :=
  ((s.setFld (F.GOV_REG_CFG_EN h r) 0).modSlot h r fun x =>
    { x with queued := s.writesDue h r, drain := some (s.writesDue h r), naks := 0, pout := 0 }).showPower h

/-- Another enabled slot ends at once where it owes no write or has no drain time, and drains otherwise (R607). -/
theorem State.disableSlot_enabled {h r : Nat} (other : s.avsSlot h r = false ∨ ((List.range 8).any fun k => k != r && s.avsSlot h k) = true)
    (en : s.on (F.GOV_REG_CFG_EN h r) = true) : s.disableSlot h r = some
      (if s.writesDue h r = 0 ∨ (s.startDrain h r).fld (F.GOV_DRAIN_DRAIN_US h) = 0 then (s.startDrain h r).endSlot h r
      else s.startDrain h r) := by
  have allowed : ¬ (s.avsSlot h r && !((List.range 8).any fun k => k != r && s.avsSlot h k)) = true := by
    rcases other with off | more
    · simp [off]
    · rw [more]; simp
  simp only [State.disableSlot, if_neg allowed, en, Bool.not_true, Bool.or_eq_true, decide_eq_true_eq]
  rfl

/-- A rail that is not where its slots shall take it moves there by one write of at most 10 mV (R605). -/
theorem exec_vfabStep_moves (away : (s.gov h).rail ≠ s.vfabGoal h) {mv : Nat}
    (write : (if (s.gov h).rail < s.vfabGoal h then min ((s.gov h).rail + 10) (s.vfabGoal h)
      else max ((s.gov h).rail - 10) (s.vfabGoal h)) = mv) :
    exec (.vfabStep h) s = .next ((List.range 8).foldl (fun t r => t.avsWrite h r mv) (s.modGov h fun g => { g with rail := mv })) := by
  subst write
  exact congrArg Host.Outcome.next (if_neg away)

/-! ## Pumps and fans (R609, R613) -/

/-- A tachometer shows the speed that its pin brings, 0 without one, and 300 rpm or more end a stall (R609, R649). -/
theorem exec_tachMeasure_shows {j : Fin 4} {rpm : Word} {v : Nat} (tach : s.hasTach h j = true)
    (speed : (if (s.signalPin h 6 j).isSome then rpm.toNat else 0) = v) :
    exec (.tachMeasure h j rpm) s = .next (if 300 ≤ v then (s.setFld (F.GOV_FAN_RPM h j) (min 65535 v)).modGov h fun g =>
      { g with stalled := g.stalled.filter (· != j.val) } else s.setFld (F.GOV_FAN_RPM h j) (min 65535 v)) := by
  subst speed
  exact congrArg Host.Outcome.next (if_neg (by simp [tach]))

end

/-- Settles O31: each clause is one form of its row. -/
theorem governorReadings : Obligations.GovernorReadings := by
  refine ⟨fun _ _ _ => rfl, ?sensor, ?firstSensor, ?lastSensor, fun _ _ _ => rfl, fun _ _ => rfl, ?kept, ?sensedRail, ?reserved, ?external,
    ?hbmStop, ?hbmCool, ?polled, ?pollFault, ?pollSilent, ?lastSlot, ?slotDrains, fun _ _ _ => rfl, ?railUp, ?railDown, ?trackFault,
    fun _ _ => rfl, ?spins, ?slow, ?noPin, ?stall⟩
  case sensor => exact fun h k s _ _ below above => exec_sensorDisagreeExpiry_far (fun _ => below) (fun _ => above)
  case firstSensor => exact fun h s above => exec_sensorDisagreeExpiry_far (fun low => absurd low (by decide)) (fun _ => above)
  case lastSensor => exact fun h s below => exec_sensorDisagreeExpiry_far (fun _ => below) (fun high => absurd high (by decide))
  case kept =>
    intro h c code s lo hi
    rw [exec_adcConversion_internal hi, if_neg fun w => lo.ne' w.1]
  case sensedRail =>
    intro h code s
    rw [exec_adcConversion_internal (c := 0) (by decide)]
    exact congrArg Host.Outcome.next (if_congr (and_iff_right rfl) rfl rfl)
  case reserved => exact fun h c code s lo hi => exec_adcConversion_reserved lo hi
  case external => exact fun h c code s external => exec_adcConversion_external external
  case hbmStop => exact fun h temp s hot => congrArg Host.Outcome.next (if_pos hot)
  case hbmCool => exact fun h temp s cool => congrArg Host.Outcome.next (if_neg (Nat.not_le.mpr cool))
  case polled => exact fun h r status iout pout s en clock data => exec_regulatorPoll_answered en clock data
  case pollFault =>
    intro h r acked status iout pout s en silent third
    exact (exec_regulatorPoll_unanswered en silent).trans (congrArg Host.Outcome.next (if_pos third))
  case pollSilent =>
    intro h r acked status iout pout s en silent early
    exact (exec_regulatorPoll_unanswered en silent).trans (congrArg Host.Outcome.next (if_neg (Nat.not_le.mpr early)))
  case lastSlot =>
    intro h r s avs alone
    exact congrArg (fun o => Host.Outcome.next (o.getD (s.reply .refused))) (State.disableSlot_last avs alone)
  case slotDrains =>
    intro h r s other en
    exact congrArg (fun o => Host.Outcome.next (o.getD (s.reply .refused))) (State.disableSlot_enabled other en)
  case railUp => exact fun h s low => exec_vfabStep_moves low.ne (if_pos low)
  case railDown => exact fun h s high => exec_vfabStep_moves high.ne' (if_neg high.not_gt)
  case trackFault =>
    intro h r s avs reached off
    exact congrArg Host.Outcome.next (if_pos (by simp [avs, reached, off]))
  case spins =>
    intro h j rpm s tach pin fast
    rw [exec_tachMeasure_shows tach (if_pos pin), if_pos fast]
  case slow =>
    intro h j rpm s tach pin slow
    rw [exec_tachMeasure_shows tach (if_pos pin), if_neg (Nat.not_le.mpr slow)]
  case noPin =>
    intro h j rpm s tach pin
    exact exec_tachMeasure_shows tach (if_neg (ne_true_of_eq_false pin))
  case stall =>
    intro h j s tach role slow duty fresh
    have unlisted : j.val ∉ (s.gov h).stalled := by simpa using fresh
    refine congrArg Host.Outcome.next (if_neg ?_)
    simp [tach, role, slow, unlisted]
    omega

end Sys2Proof.Machine
end

