-- ==== Sys2Proof/Proofs/Fabric.lean ====
section
/-! PROOFS. What grains, MUTEX grains, clock trees, stall watchdogs, pin channels and upsets do (R43 to R61, R73 to R81, R89, R90, R103 to
R109), one lemma per operation in the mode or state that a statement names, and the statements about them. -/

namespace Sys2Proof.Machine

section
variable {s : State}

/-! ## LUT6 grains (R43, R45) -/

section
variable {g : Nat} (lut6 : (s.grain g).mode = .lut6)
include lut6

/-- A grain outside CARRY mode evaluates alone. -/
theorem State.evalGroup_lut6 : s.evalGroup g = [g] := by
  simp [State.evalGroup, lut6]

theorem State.evalGrain_lut6 (ready : s.mayEvaluate g (s.grain g) = true) :
    s.evalGrain g = (s.drive g 0 (bitOf (s.grain g).table (s.inputsValue (s.grain g)))).ackInputs g (s.grain g) := by
  simp [State.evalGrain, lut6, ready]

/-- A LUT6 grain has one output to return. -/
theorem State.clearGrain_lut6 : s.clearGrain g (s.grain g) =
    ((s.modChan (chanOfGrain g 0) (·.offer [])).freePorts (chanOfGrain g 0)).releaseInputs g (s.grain g) := by
  simp [State.clearGrain, GrainCfg.outputs, lut6]

theorem State.returnGrain_lut6 (acked : s.outputsAcked g (s.grain g) = true) (empty : s.inputsEmpty (s.grain g) = true) :
    s.returnGrain g = s.clearGrain g (s.grain g) := by
  simp [State.returnGrain, GrainMode.buffers, lut6, acked, empty]

end

/-! ## MUTEX grains (R60, R61) -/

/-- With no grant raised and neither side owed one, the request that alone is raised is granted. -/
theorem State.mutexStep_first {g : Nat} (ungranted : (s.heldOf g).grant = 0) (unowed : (s.heldOf g).owed = 0)
    (first : s.requested g 0 = true) (second : s.requested g 1 = false) : s.mutexStep g = s.grant g 0 := by
  simp [State.mutexStep, State.grantNext, ungranted, unowed, first, second]

/-! ## Stall watchdogs (R72 to R81) -/

/-- The points of one cycle report in ascending order, after a write of 1 to STALLED in that cycle (R81). -/
theorem exec_stallThresholdExpiry (n : Fin 256) (wp : Fin 512) (same : SameCycle) (s : State) :
    exec (.stallThresholdExpiry n wp same) s =
      .next (((List.range 512).filter fun w => w = wp.val || same.points.any (·.val = w)).foldl (fun u w => u.stallExpiry n w)
        (if same.clear then s.clearStalled n else s)) := rfl

/-- An expiry without others in its cycle names its own watch point alone. -/
theorem expiring_alone {m k : Nat} (inside : k < m) :
    ((List.range m).filter fun w => w = k || ([] : List (Fin 512)).any (·.val = w)) = [k] := by
  have once : (List.range m).count k = 1 := List.count_eq_one_of_mem List.nodup_range (List.mem_range.mpr inside)
  simp [List.filter_eq, once]

/-- A watch point whose channel waits and has not told of it records the episode (R73). -/
theorem State.stallExpiry_reports {n wp k : Nat} (on : s.fld (F.PAN_STALL_CFG_THRESH_US n) ≠ 0) (runs : s.suspended n wp = false)
    (watched : s.watched n wp = some k) (busy : s.pointPhase n wp k ≠ 0) (untold : (s.chan k).told.contains (n * 512 + wp) = false) :
    s.stallExpiry n wp =
      (s.modChan k fun x => { x with told := (n * 512 + wp) :: x.told }).stall n wp (s.pointPhase n wp k) false := by
  simp only [State.stallExpiry, on, runs, watched, busy, untold, decide_false, Bool.or_self, Bool.false_eq_true, if_false]

/-- No channel stands behind the codes from 424 on (R72). -/
theorem State.watched_beyond {n wp : Nat} (beyond : 424 ≤ wp) : s.watched n wp = none := by
  have border : ¬ wp < 256 := by omega
  have queue : ¬ wp < 328 := by omega
  have hard : ¬ wp < 360 := by omega
  simp [State.watched, border, queue, hard, Nat.not_lt.mpr beyond]

/-- The fields that a write of 1 to INJECT sets before the report. -/
def State.injecting (s : State) (n wp : Nat) : State :=
  s.setFlds [(F.PAN_STALL_CFG_INJECT n, 0), (F.PAN_STALL_CFG_INJ_POINT n, wp)]

theorem State.stallInjectWrite_refused {n wp : Nat} (unwatched : (s.injecting n wp).watched n wp = none) :
    s.stallInjectWrite n wp = (s.injecting n wp).setFld (F.PAN_STALL_STATUS_INJ_REFUSED n) 1 := by
  unfold State.injecting at unwatched ⊢
  simp only [State.stallInjectWrite, unwatched]

theorem State.stallInjectWrite_watched {n wp k : Nat} (watched : (s.injecting n wp).watched n wp = some k) :
    s.stallInjectWrite n wp =
      if (s.injecting n wp).pointPhase n wp k = 0
      then (s.injecting n wp).useFree.stall n wp (1 + (s.injecting n wp).freeVal % 5) true
      else (s.injecting n wp).stall n wp ((s.injecting n wp).pointPhase n wp k) true := by
  unfold State.injecting at watched ⊢
  simp only [State.stallInjectWrite, watched]

/-! ## Pin channels (R89, R90) -/

/-- A port that the image gives no drivers brings the value that the row carries (Assumption 23). -/
theorem State.portToken_undriven {k : Nat} (v : Nat) (undriven : s.drivers k = []) : s.portToken k v = some v := by
  simp [State.portToken, undriven]

theorem bitOf_bnat_zero (b : Bool) : bitOf (bnat b) 0 = b := by
  cases b <;> rfl

theorem exec_pinChannelInput_level {i : Fin 384} (awake : s.awake = true) (fabric : s.fabricPin i = true)
    (powered : s.power (panOfPin i) = 0) (level : (s.pinChan i).kind = 1) (idle : (s.chan (chanOfPin i false)).idle = true) :
    exec (.pinChannelInput i) s = .next (s.offerPin i (s.pinLevel i)) := by
  change execPinChannelInput i s = _
  simp [execPinChannelInput, awake, fabric, powered, level, idle]

theorem exec_pinChannelOutput_undriven {i : Fin 384} {v : Bool} (undriven : s.drivers (chanOfPin i true) = [])
    (output : (s.pinChan i).kind = 3) (moves : s.tokensMove (panOfPin i) = true) (isOpen : s.sluice (panOfPin i) = OPEN)
    (fabric : s.fabricPin i = true) :
    exec (.pinChannelOutput i v) s = .next (((s.takeToken (chanOfPin i true)).setLatch i v).reply .done) := by
  change execPinChannelOutput i v s = _
  simp [execPinChannelOutput, s.portToken_undriven (bnat v) undriven, output, moves, isOpen, fabric, bitOf_bnat_zero]

end

/-! ## The statements -/

/-- Settles O1: each clause is the form of its row that the grain's mode, or the tree's phase, selects. -/
theorem grainPhases : Obligations.GrainPhases := by
  refine ⟨?evaluate, ?spacerReturn, ?grant, ?rise, ?fall⟩
  case evaluate =>
    intro g s moves lut6 ready
    change Host.Outcome.next _ = _
    rw [if_pos moves, State.evalGroup_lut6 lut6, State.evalGrain_lut6 lut6 ready]
    rfl
  case spacerReturn =>
    intro g s moves lut6 acked empty
    change Host.Outcome.next _ = _
    rw [if_neg (by simp [moves]), if_neg (by simp [lut6]), State.returnGrain_lut6 lut6 acked empty, State.clearGrain_lut6 lut6]
  case grant =>
    intro g s moves mutex ungranted unowed first second
    change Host.Outcome.next _ = _
    rw [if_pos (by simp [moves, mutex]), State.mutexStep_first ungranted unowed first second]
  case rise =>
    exact fun i s runs low => congrArg Host.Outcome.next ((if_pos rfl).trans (if_pos (by simp [runs, low])))
  case fall =>
    exact fun i s awake high => congrArg Host.Outcome.next ((if_neg Bool.false_ne_true).trans (if_pos (by simp [awake, high])))

/-- Settles O2: each clause is one form of its row. -/
theorem fabricEvents : Obligations.FabricEvents := by
  refine ⟨?expiry, ?sameCycleClear, ?sameCycle, ?injectRefused, ?injectBusy, ?injectIdle, fun _ _ => rfl, ?pinInput, ?pinOutput, ?upset,
    fun _ _ _ _ _ => rfl, fun _ _ => rfl⟩
  case expiry =>
    intro n wp k s on runs watched busy untold
    rw [exec_stallThresholdExpiry, expiring_alone wp.isLt, List.foldl_cons, List.foldl_nil, if_neg Bool.false_ne_true,
      State.stallExpiry_reports on runs watched busy untold]
  case sameCycleClear =>
    intro n wp same s clear
    rw [exec_stallThresholdExpiry, if_pos clear]
  case sameCycle =>
    intro n wp same s unclear
    rw [exec_stallThresholdExpiry, if_neg (ne_true_of_eq_false unclear)]
  case injectRefused =>
    exact fun n wp s beyond => congrArg Host.Outcome.next (State.stallInjectWrite_refused (State.watched_beyond beyond))
  case injectBusy =>
    exact fun n wp k s watched busy =>
      congrArg Host.Outcome.next ((State.stallInjectWrite_watched watched).trans (if_neg busy))
  case injectIdle =>
    exact fun n wp k s watched idle =>
      congrArg Host.Outcome.next ((State.stallInjectWrite_watched watched).trans (if_pos idle))
  case pinInput => exact fun i s awake fabric powered level idle => exec_pinChannelInput_level awake fabric powered level idle
  case pinOutput => exact fun i v s undriven output moves isOpen fabric => exec_pinChannelOutput_undriven undriven output moves isOpen fabric
  case upset =>
    intro g o s powered
    exact congrArg Host.Outcome.next (if_neg (not_not.mpr powered))

end Sys2Proof.Machine
end

