-- ==== Sys2Proof/Proofs/PanResources.lean ====
section
/-! PROOFS. Which register a row of the register tables may change, what one access cycle does to a block memory (R93 to R99, R125), how
tokens pass a sluice's lanes (R235 to R246) and how pans are gated and woken (R115 to R118, R128), with the statements about them. -/

namespace Sys2Proof.Machine

/-! ## Rows that write fields of registers alone -/

/-- A register that no write of a list names keeps its word. -/
theorem State.reg_setFlds_other (s : State) (l : List (Fld × Nat)) {a : Nat} (h : ∀ x ∈ l, a ≠ x.1.addr) : (s.setFlds l).reg a = s.reg a := by
  induction l generalizing s with
  | nil => rfl
  | cons x r ih =>
    obtain ⟨f, v⟩ := x
    obtain ⟨hf, hr⟩ := List.forall_mem_cons.mp h
    rw [State.setFlds, ih _ hr, State.setFld, State.reg_setReg_other _ _ _ _ hf]

/-- A row that writes fields of one register changes the registers alone, and of them only that one. -/
theorem setFlds_row_frame {c : Instr} {s t : State} {l : List (Fld × Nat)} {r : Nat} (row : exec c s = .next (s.setFlds l))
    (one : ∀ x ∈ l, x.1.addr = r) (goesOn : exec c s = .next t) : t = { s with regs := t.regs } ∧ ∀ a, a ≠ r → t.reg a = s.reg a := by
  obtain rfl : s.setFlds l = t := Host.Outcome.next.inj (row.symm.trans goesOn)
  exact ⟨s.setFlds_eq l, fun a other => s.reg_setFlds_other l fun x mem => (one x mem).symm ▸ other⟩

section
variable {s : State} {h : Fin 2}

/-- Below 105 °C a temperature is shown and starts no stop (R369). -/
theorem exec_hbmTemperatureRead_cool {temp : Byte} (cool : temp.toNat < 105) :
    exec (.hbmTemperatureRead h temp) s = .next (s.setFlds [(F.MEM_HBM_STATUS_TEMP h, temp.toNat)]) :=
  congrArg Host.Outcome.next (if_neg (Nat.not_le.mpr cool))

/-- A channel of the part itself other than VFAB, or one that reads 0, shows its code alone (R600). -/
theorem exec_adcConversion_shows {c : Fin 24} {code : BitVec 12} (notVfab : 0 < c.val) (internal : c.val < 16) :
    exec (.adcConversion h c code) s = .next (s.setFlds [(F.GOV_ADC_CODE h c, if c.val < 13 then code.toNat else 0)]) := by
  by_cases kept : c.val < 13
  · rw [exec_adcConversion_internal kept, if_neg fun w => notVfab.ne' w.1, if_pos kept]; rfl
  · rw [exec_adcConversion_reserved (Nat.not_lt.mp kept) internal, if_neg kept]; rfl

end

/-- Settles O56: each row writes a list of fields of one register. The three counts of the self-test share theirs (R705). -/
theorem frameRegisters : Obligations.FrameRegisters := by
  refine ⟨fun n s t => setFlds_row_frame rfl ?bmem, fun h s t => setFlds_row_frame rfl ?ecc, ?selftest,
    fun h s t => setFlds_row_frame rfl ?sched, fun h temp s t cool => setFlds_row_frame (exec_hbmTemperatureRead_cool cool) ?hbm,
    fun h c code s t notVfab internal => setFlds_row_frame (exec_adcConversion_shows notVfab internal) ?adc⟩
  case selftest =>
    intro h s t goesOn
    obtain ⟨regs, others⟩ := setFlds_row_frame (r := R.ST_COUNTS h) rfl (by simp) goesOn
    exact ⟨regs, fun a passed _ _ => others a passed⟩
  all_goals simp

/-! ## A write at port A of a block memory (R93, R94, R96) -/

section
variable {s : State} {d e : Nat}

/-- A port that the image gives no drivers has none to acknowledge. -/
theorem State.takeToken_undriven {k : Nat} (undriven : s.drivers k = []) : s.takeToken k = s := by
  rw [State.takeToken, undriven]; rfl

/-- Nothing is in flight at a port with no request, no response and no response on its channel. -/
theorem State.inFlight_idle (complete : (s.chan (bmemPort d e)).complete = false) : s.inFlight d e [] [] = 0 := by
  simp [State.inFlight, complete, bnat]

/-- A port without drivers and with nothing in flight accepts the request that the row carries, in the width of its mode. -/
theorem State.bmemAccept_undriven {mode : Nat} {op : BmemAccess} (undriven : s.drivers (bmemPort d e) = [])
    (complete : (s.chan (bmemPort d e)).complete = false) :
    s.bmemAccept d e mode (some op) [] [] = some ⟨op.write, op.addr.toNat % wordCount mode, op.data.toNat % 2 ^ dataBits mode⟩ := by
  simp [State.bmemAccept, State.bmemRequest, State.inFlight_idle complete, undriven]

/-- A port at which no request arrives accepts none. -/
theorem State.bmemAccept_none {mode : Nat} {req : List BmemReq} {rsp : List BmemRsp} : s.bmemAccept d e mode none req rsp = none :=
  ite_self none

/-- An accepted request at a port without drivers moves its channel's watch point alone, where no response leaves. -/
theorem State.bmemMoves_accepted {mode : Nat} {rsp : List BmemRsp} (undriven : s.drivers (bmemPort d e) = []) :
    s.bmemMoves d e mode true false rsp = s.portMoved (d / 32) (bmemPoint d e) := by
  simp [State.bmemMoves, State.takeToken_undriven undriven]

theorem State.bmemMoves_still {mode : Nat} {rsp : List BmemRsp} : s.bmemMoves d e mode false false rsp = s := rfl

/-- A lone write of port A is stored and answered with its data. -/
theorem Bmem.cycle_writeA (b : Bmem) (bWins : Bool) {r : BmemReq} (write : r.write = true) :
    b.cycle bWins (some r) none =
      { b.setWord r.addr { data := r.data } with rspA := b.rspA ++ [⟨r.data, 0⟩], reqA := b.reqA.drop 1 } := by
  simp only [Bmem.cycle, Bmem.serve, write, if_true]
  rfl

/-- A write finds no stored word to check. -/
theorem State.cycleEvents_writeA {b : Bmem} {r : BmemReq} (write : r.write = true) : s.cycleEvents d b (some r) none = s := by
  simp [State.cycleEvents, write]

end

/-- A cycle in which port A accepts a request, none waits and none arrives at port B serves that one; while neither channel takes a
response, none leaves. -/
theorem exec_bmemAccessCycle_acceptsA {b : Fin 8192} {op : BmemAccess} {r : BmemReq} {s : State} (moves : s.tokensMove (b.val / 32) = true)
    (reqA : (s.bmem b).reqA = []) (reqB : (s.bmem b).reqB = [])
    (accepts : s.bmemAccept b 0 (s.bmem b).mode (some op) [] (s.bmem b).rspA = some r) :
    exec (.bmemAccessCycle b (some op) none false false false) s = .next
      ((((s.setBmem b (({ s.bmem b with reqA := [r] } : Bmem).cycle (bitOf (s.fld (F.PAN_BMEM_POLICY_B_WINS (b.val / 32))) (b.val % 32))
        (some r) none)).bmemMoves b 0 (s.bmem b).mode true false (s.bmem b).rspA).cycleEvents b { s.bmem b with reqA := [r] }
        (some r) none).reply .done) := by
  change execBmemAccessCycle b (some op) none false false false s = _
  simp [execBmemAccessCycle, moves, reqA, reqB, accepts, State.bmemAccept_none, State.bmemMoves_still]

/-! ## Scrubs and injections (R99, R125, R126) -/

section
variable {s : State}

/-- A scrub that has waited 64 µs takes the cycle, whatever requests are pending (R99). -/
theorem exec_bmemScrubWord_waited {b : Fin 8192} (mode : (s.bmem b).mode = 10) (runs : (s.bmem b).scrubOff = false)
    (powered : s.power (b.val / 32) = 0) (unloaded : s.loadsPan (b.val / 32) = false) :
    exec (.bmemScrubWord b true) s = .next (s.scrubWord b) := by
  change execBmemScrubWord b true s = _
  simp [execBmemScrubWord, mode, runs, powered, unloaded]

/-- The fields that a write of 1 to INJECT sets before anything is flipped. -/
def State.bmemInjecting (s : State) (n m addr bit : Nat) (double : Bool) : State :=
  s.setFlds [(F.PAN_BMEM_INJECT_INJECT n, 0), (F.PAN_BMEM_INJECT_DOUBLE n, bnat double), (F.PAN_BMEM_INJECT_MEM n, m),
    (F.PAN_BMEM_INJECT_ADDR n, addr), (F.PAN_BMEM_INJECT_BIT n, bit)]

/-- A memory in a mode without check bits takes no injection (R126). -/
theorem State.bmemInjectWrite_unchecked {n m addr bit : Nat} {double : Bool}
    (unchecked : (parityMode (s.bmem (n * 32 + m)).mode || (s.bmem (n * 32 + m)).mode == 10) = false) :
    s.bmemInjectWrite n m addr bit double = (s.bmemInjecting n m addr bit double).setFld (F.PAN_BMEM_INJECT_INJ_REFUSED n) 1 :=
  if_pos (by simp [unchecked])

/-- In a mode with check bits a stored bit of a stored word is inverted, or two neighbours, and the word is marked as injected (R125). -/
theorem State.bmemInjectWrite_flips {n m addr bit : Nat} {double : Bool}
    (checked : (parityMode (s.bmem (n * 32 + m)).mode || (s.bmem (n * 32 + m)).mode == 10) = true) (ungated : s.power n ≠ 2)
    (unloaded : s.loadsPan n = false) (word : addr < wordCount (s.bmem (n * 32 + m)).mode)
    (bits : bit + bnat double < storedBits (s.bmem (n * 32 + m)).mode) :
    s.bmemInjectWrite n m addr bit double = (s.bmemInjecting n m addr bit double).modBmem (n * 32 + m) fun b =>
      b.setWord addr { b.word addr with
        flips := (((b.word addr).flips % 2 ^ 72) ^^^ (2 ^ bit + (if double then 2 ^ (bit + 1) else 0))) + 2 ^ 72 } :=
  if_neg (by simp [checked, ungated, unloaded, word, bits])

end

/-- Settles O3: each clause is one form of its row. -/
theorem blockMemories : Obligations.BlockMemories := by
  refine ⟨?writeA, ?scrub, ?injectRefused, ?injectFlips, fun _ _ => rfl⟩
  case writeA =>
    intro b op s moves reqA rspA reqB undriven complete write
    have accepts := State.bmemAccept_undriven (mode := (s.bmem b).mode) (op := op) undriven complete
    rw [exec_bmemAccessCycle_acceptsA moves reqA reqB (rspA.symm ▸ accepts), Bmem.cycle_writeA _ _ write,
      State.bmemMoves_accepted (s := s.setBmem _ _) undriven, State.cycleEvents_writeA write, rspA, ← reqB]
    rfl
  case scrub =>
    rintro b _ s mode runs powered unloaded rfl
    exact exec_bmemScrubWord_waited mode runs powered unloaded
  case injectRefused =>
    exact fun n m addr bit double s mode => congrArg Host.Outcome.next (State.bmemInjectWrite_unchecked (by rw [mode]; rfl))
  case injectFlips =>
    exact fun n m addr bit double s mode ungated unloaded word bits =>
      congrArg Host.Outcome.next (State.bmemInjectWrite_flips (by rw [mode]; rfl) ungated unloaded (mode.symm ▸ word) (mode.symm ▸ bits))

/-! ## Tokens at a sluice (R235 to R246) -/

section
variable {s : State} {n side k m sd j word w : Nat}

/-- A close whose items are drained ends (R244). -/
theorem State.closeIfDrained_drained {c : CloseJob} (closing : (s.pan n).close = some c) (drained : s.itemsLeft n = false) :
    s.closeIfDrained n = s.endClose n false :=
  if_pos (by simp [closing, drained])

theorem State.writeDebug_sets : s.writeDebug n true =
    ((s.put (F.PAN_SLUICE_CTL_DEBUG n) true).setHold n (F.PAN_SLUICE_STATUS_HOLD_DEBUG n)).testPump (halfOfPan n) := by
  rw [State.writeDebug, if_pos rfl]

theorem State.writeDebug_clears : s.writeDebug n false = (((s.put (F.PAN_SLUICE_CTL_DEBUG n) false).modPan n
    fun p => { p with armed := none }).setFld (F.PAN_SLUICE_CTL_STEP n) 0).clearHold n (F.PAN_SLUICE_STATUS_HOLD_DEBUG n) := by
  rw [State.writeDebug, if_neg Bool.false_ne_true]

/-- A pan that discards counts the token that its neighbour sends (R237, R238). -/
theorem State.sendLane_discarded (token : s.portToken (chanOfPoint m (sd * 64 + j)) word = some w) (discards : s.discarding n = true) :
    s.sendLane m sd j n side k word = some ((s.takeToken (chanOfPoint m (sd * 64 + j))).countDrop n) := by
  simp [State.sendLane, token, discards]

/-- A stage that is idle takes the token that the neighbour sends (R235). -/
theorem State.sendLane_enters (token : s.portToken (chanOfPoint m (sd * 64 + j)) word = some w) (keeps : s.discarding n = false)
    (idle : (s.chan (laneStage n side k)).idle = true) :
    s.sendLane m sd j n side k word =
      some ((s.takeToken (chanOfPoint m (sd * 64 + j))).modChan (laneStage n side k) (·.offer (railsOf 16 w))) := by
  simp [State.sendLane, token, keeps, idle]

/-- A token that the far end of an inbound lane sends is taken (R235). -/
theorem State.offerLane_sent {t : State} (inbound : laneInbound side k = true) (far : farLane n side k = some (m, sd, j))
    (awake : s.awake = true) (passes : s.passesOut m = true) (sent : s.sendLane m sd j n side k word = some t) :
    s.offerLane n side k word = t.reply .done := by
  simp [State.offerLane, inbound, far, awake, passes, sent]

/-- A step of a pan that DEBUG holds sealed arms its lane (R246). -/
theorem State.writeStep_arms (isSealed : s.sluice n = SEALED) (held : s.on (F.PAN_SLUICE_STATUS_HOLD_DEBUG n) = true)
    (lane : (farLane n side k).isSome = true) :
    s.writeStep n side k = ((s.setFlds [(F.PAN_SLUICE_CTL_STEP_SIDE n, side), (F.PAN_SLUICE_CTL_STEP_LANE n, k)]).modPan n
      fun p => { p with armed := some (side, k) }).setFld (F.PAN_SLUICE_CTL_STEP n) 1 :=
  if_pos (by simp [isSealed, held, lane])

/-- An armed inbound lane hands the token of its stage to the pan (R246). -/
theorem State.stepToken_inbound (inbound : laneInbound side k = true) (complete : (s.chan (laneStage n side k)).complete = true)
    (kept : (s.chan (laneStage n side k)).passed = false) :
    s.stepToken n side k word = some (s.modChan (laneStage n side k) fun x => { x with passed := true }) := by
  simp [State.stepToken, inbound, complete, kept]

/-- An armed outbound lane sends its next token (R246). -/
theorem State.stepToken_outbound (outbound : laneInbound side k = false) (far : farLane n side k = some (m, sd, j)) :
    s.stepToken n side k word = s.sendLane n side k m sd j word := by
  simp [State.stepToken, outbound, far]

end

/-- The step ends once its armed token has passed (R246). -/
theorem exec_sluiceStepDone_passes {n : Fin 256} {word : BitVec 16} {side k : Nat} {s t : State} (armed : (s.pan n).armed = some (side, k))
    (passes : s.stepToken n side k word.toNat = some t) : exec (.sluiceStepDone n word) s = .next (t.stepEnds n) := by
  change execSluiceStepDone n word s = _
  simp only [execSluiceStepDone, armed, passes]

/-! ## Wakes (R116, R118) -/

/-- While fewer than two pans of a half wake, its oldest request starts, or is refused in a thermal stop. -/
theorem State.startWake_oldest {s : State} {h n : Nat} {r : List Nat} (oldest : s.wakes h = n :: r) (room : s.waking h < 2) :
    s.startWake h = if s.stopped h then ((s.setWakes h r).refusePower n CAUSE_THERMAL).setFld (F.PAN_PWR_CTL_UNGATE n) 0
      else (s.setWakes h r).setFld (F.PAN_PWR_STATUS_STATE n) 3 := by
  simp only [State.startWake, oldest, if_neg (Nat.not_le.mpr room)]

/-- Settles O10: each clause is one form of its row. -/
theorem sluicesAndGating : Obligations.SluicesAndGating := by
  refine ⟨?drained, fun _ _ _ _ => rfl, ?debugSets, ?debugClears, fun _ _ _ => rfl, ?dropped, ?enters, ?arms, ?stepIn, ?stepOut,
    fun _ _ => rfl, fun _ _ gating => congrArg Host.Outcome.next (if_pos gating), ?autoGate, ?wakes, ?wakeRefused,
    fun _ _ waking => congrArg Host.Outcome.next (if_pos waking)⟩
  case drained => exact fun n k s closing drained => congrArg Host.Outcome.next (State.closeIfDrained_drained closing drained)
  case debugSets => exact fun n s => congrArg Host.Outcome.next State.writeDebug_sets
  case debugClears => exact fun n s => congrArg Host.Outcome.next State.writeDebug_clears
  case dropped =>
    exact fun n side k word m sd j w s inbound far awake passes token discards =>
      congrArg Host.Outcome.next (State.offerLane_sent inbound far awake passes (State.sendLane_discarded token discards))
  case enters =>
    exact fun n side k word m sd j w s inbound far awake passes token keeps idle =>
      congrArg Host.Outcome.next (State.offerLane_sent inbound far awake passes (State.sendLane_enters token keeps idle))
  case arms => exact fun n side k s isSealed held lane => congrArg Host.Outcome.next (State.writeStep_arms isSealed held lane)
  case stepIn =>
    exact fun n word side k s armed inbound complete kept =>
      exec_sluiceStepDone_passes armed (State.stepToken_inbound inbound complete kept)
  case stepOut =>
    exact fun n word side k m sd j w s armed outbound far token keeps idle =>
      exec_sluiceStepDone_passes armed ((State.stepToken_outbound outbound far).trans (State.sendLane_enters token keeps idle))
  case autoGate =>
    exact fun n s auto powered allowed => congrArg Host.Outcome.next (if_pos (by simp [auto, powered, allowed]))
  case wakes =>
    intro h n r s oldest room runs
    exact congrArg Host.Outcome.next ((State.startWake_oldest oldest room).trans (if_neg (ne_true_of_eq_false runs)))
  case wakeRefused =>
    intro h n r s oldest room stopped
    exact congrArg Host.Outcome.next ((State.startWake_oldest oldest room).trans (if_pos stopped))

end Sys2Proof.Machine
end

