-- ==== Sys2Proof/Proofs/Queues.lean ====
section
/-! PROOFS. What the fabric ends of a queue block do (R139, R143, R145), what an access to its window comes to (R134, R147, R153, R484),
and how exchanges and changes of binding end (R158, R165), with the statement about them. -/

namespace Sys2Proof.Machine

section
variable {s t : State} {d : Nat}

/-! ## The fabric ends (R139, R143, R145) -/

/-- A unit that the write end passes and takes moves the end's channel and its watch point on. -/
theorem State.offerUnit_taken {u : QUnit} (passes : s.writeEndPasses d = true) (taken : s.writeUnit d u = (t, true)) :
    s.offerUnit d u = (((t.modQueue d fun q => { q with waiting := none }).takeToken (queuePort d 0)).portMoved
      (panOfQueue d) (queuePoint d 0)).reply .done := by
  rw [State.offerUnit, if_pos passes, taken]
  rfl

/-- A stored word goes to the fabric with its tags, before any idle item (R143). -/
theorem State.readFabric_word {cls : Bool} {w : QWord} {r : QBlock} (stored : (s.queue d).takeWord = some (cls, w, r)) :
    s.readFabric d = ((s.setQueue d r).noteDrained d true cls w.last).giveItem d w.data w.vb w.last cls false (s.queue d).cut := by
  simp only [State.readFabric, stored]

end

/-- A write end in the fabric that holds no unit has the one offered to it. -/
theorem exec_queueWriteUnit_offered {d : Fin 1024} {data : Word} {last cls null : Bool} {u : QUnit} {s : State}
    (writes : s.fabricEnd d = .writeEnd) (holdsNone : (s.queue d).waiting = none)
    (offered : s.offeredUnit d { data := data, last := last, cls := cls, null := null } = some u) :
    exec (.queueWriteUnit d data last cls null) s = .next (s.offerUnit d u) := by
  change execQueueWriteUnit d data last cls null s = _
  simp [execQueueWriteUnit, writes, holdsNone, offered]

/-- A unit that a write end holds is offered again. -/
theorem exec_queueCreditAck_held {d : Fin 1024} {u : QUnit} {s : State} (held : (s.queue d).waiting = some u) :
    exec (.queueCreditAck d) s = .next (s.offerUnit d u) := by
  change execQueueCreditAck d s = _
  simp only [execQueueCreditAck, held]

/-- A read end in the fabric whose channel is free reads while no exchange runs and the sluice is open (R165, R235). -/
theorem exec_queueReadWord_open {d : Fin 1024} {s : State} (reads : s.fabricEnd d = .readEnd) (agreed : (s.queue d).sync = none)
    (free : s.portFree (queuePort d 1) = true) (isOpen : s.sluice (panOfQueue d) = OPEN) :
    exec (.queueReadWord d) s = .next (s.readFabric d) :=
  congrArg Host.Outcome.next (if_pos (by simp [reads, agreed, free, isOpen]))

/-! ## Accesses to a queue window (R134, R153, R484) -/

section
variable {s : State} {d : Nat} {a : Agent}

/-- What the request of an agent that is awake comes to in the state that it enters, its row comes to (R397, R478). -/
theorem State.fromAgent_sendReq {h : Nat} {p : CrossReq} {t : State} (awake : s.asleep a = false)
    (enters : s.mayEnter (agentHalf a) h = true) (room : ∀ u : State, u.reqRoom h p = true)
    (served : (s.entering (agentHalf a) h).serveReq h p = t) :
    (.next (s.fromAgent a (s.sendReq (agentHalf a) h p)) : Out) = .next t := by
  rw [State.fromAgent_awake awake, State.sendReq_enter enters p room, served]

section
variable (near : s.queueCutOff d a = false)
include near

/-- A read of DATA of an OUT queue by an agent that may make it pops. -/
theorem State.windowPop_data (may : s.mayAccess d a false = true) (out : s.fabricEnd d = .writeEnd) : s.windowPop d a 0 = s.popWindow d := by
  simp [State.windowPop, near, may, out]

/-- A read of another word of the window changes nothing. -/
theorem State.windowPop_other {off : Nat} (may : s.mayAccess d a false = true) (notData : off ≠ 0) :
    s.windowPop d a off = s.reply (.num (s.readWindow d (8 * off)).2) := by
  simp [State.windowPop, near, may, notData]

/-- A write of DATA of an IN queue by an agent that may make it is a clocked push. -/
theorem State.windowPush_data {v : Dword} (may : s.mayAccess d a true = true) (isIn : s.fabricEnd d = .readEnd) :
    s.windowPush d a v = s.pushClocked d (pushUnit v 0) := by
  simp [State.windowPush, near, may, isIn]

theorem State.lostClear_bound (may : s.mayAccess d a true = true) :
    s.lostClear d a = ((s.modQueue d fun q => { q with lost0 := 0, lost1 := 0, discards := 0 }).setFld
      (F.PAN_QB_STATUS_SAT (panOfQueue d) (qOf d)) 0).reply .done := by
  simp [State.lostClear, near, may]

theorem State.idleSet_bound {v : Dword} (may : s.mayAccess d a true = true) :
    s.idleSet d a v = (s.modQueue d fun q => { q with idle := v }).reply .done := by
  simp [State.idleSet, near, may]

end

/-- Every word of a window that the split has cut off is unmapped. -/
theorem State.windowPop_cutOff {off : Nat} (far : s.queueCutOff d a = true) : s.windowPop d a off = s.windowGone d a (8 * off) :=
  if_pos far

section
variable {d : Fin 1024} {off : Fin 64} {push : Bool} (awake : s.asleep a = false)
include awake

/-- An access that is not an aligned 64-bit one is a misuse, whoever makes it. -/
theorem exec_queueWindowMisuse_form : exec (.queueWindowMisuse d a off false push) s = .next (s.windowMisuse d a 6 off) := by
  change execQueueWindowMisuse d a off false push s = _
  simp [execQueueWindowMisuse, State.fromAgent_awake awake]

/-- So is an aligned access by an agent that may not make it. -/
theorem exec_queueWindowMisuse_unbound (unbound : s.mayAccess d a push = false) :
    exec (.queueWindowMisuse d a off true push) s = .next (s.windowMisuse d a 5 off) := by
  change execQueueWindowMisuse d a off true push s = _
  simp [execQueueWindowMisuse, State.fromAgent_awake awake, unbound]

end

/-! ## What a pop and a clocked push find (R147 to R150) -/

/-- A pop takes the next word where no exchange runs, and shows its tags in TAG. -/
theorem State.popWindow_word {cls : Bool} {w : QWord} {r : QBlock} (agreed : (s.queue d).sync = none)
    (stored : (s.queue d).takeWord = some (cls, w, r)) :
    s.popWindow d = ((s.setQueue d { r with tag := tagWord (s.queue d).cut false false false cls w.last w.vb }).noteDrained d false cls
      w.last).reply (.tagged w.data (tagWord (s.queue d).cut false false false cls w.last w.vb)) := by
  simp [State.popWindow, agreed, stored]

/-- A pop of an empty queue in normal service gives the idle item, and with it a CUT that is due. -/
theorem State.popWindow_idle (agreed : (s.queue d).sync = none) (empty : (s.queue d).takeWord = none) (normal : s.qbService d = true) :
    s.popWindow d = (s.setQueue d { s.queue d with
        cut := false, tag := tagWord (s.queue d).cut true false false ((s.queue d).reading.getD false) false 0 }).reply
      (.tagged (s.queue d).idle (tagWord (s.queue d).cut true false false ((s.queue d).reading.getD false) false 0)) := by
  simp [State.popWindow, agreed, empty, normal]

/-- A push behind no other, at an open sluice, is done once its unit is taken. -/
theorem State.pushClocked_taken {u : QUnit} {t : State} (isOpen : s.sluice (panOfQueue d) = OPEN) (first : (s.queue d).pushes = [])
    (taken : s.writeUnit d u = (t, true)) : s.pushClocked d u = t.reply .done := by
  simp [State.pushClocked, isOpen, first, taken]

end

section
variable {d : Fin 1024} {u : QUnit} {r : List QUnit} {s : State}

/-- The oldest held push completes once its unit is taken. -/
theorem exec_queuePushResume_taken {t : State} (isOpen : s.sluice (panOfQueue d) = OPEN) (held : (s.queue d).pushes = u :: r)
    (taken : s.writeUnit d u = (t, true)) :
    exec (.queuePushResume d) s = .next ((t.modQueue d fun q => { q with pushes := r }).reply .done) := by
  change execQueuePushResume d s = _
  simp [execQueuePushResume, isOpen, held, taken]

/-- The oldest held push is given up. -/
theorem exec_queuePushTimeout_held (held : (s.queue d).pushes = u :: r) :
    exec (.queuePushTimeout d) s = .next (((((s.modQueue d fun q => { q with pushes := r }).setFld
      (F.PAN_QB_STATUS_OVERRUN (panOfQueue d) (qOf d)) 1).raise
        { half := halfOfQueue d, cls := NOTICE, src := 5, code := 3, unit := panOfQueue d, ctx := qOf d }).reply .refused)) := by
  change execQueuePushTimeout d s = _
  simp only [execQueuePushTimeout, held]

end

/-! ## Exchanges and changes of binding (R158, R165) -/

section
variable {d : Fin 1024} {s : State}

theorem exec_queueResyncDone_running {e : QEnd} (running : (s.queue d).sync = some e) :
    exec (.queueResyncDone d) s = .next (((s.agreed d e).flushesDone ((s.agreed d e).dueFlushes d) d).copRoom d) := by
  change execQueueResyncDone d s = _
  simp only [execQueueResyncDone, running]

section
variable {x r : Rebind} (changing : (s.queue d).rebind = some x) (saved : ((s.saveWords d 1024).queue d).rebind = some r)
include changing saved

/-- A change of binding ends where saving what fits leaves no packet to drain. -/
theorem exec_queueRebindDrained_noneLeft (noneLeft : r.left.total = 0) :
    exec (.queueRebindDrained d) s = .next ((s.saveWords d 1024).endRebind d r) := by
  change execQueueRebindDrained d s = _
  simp only [execQueueRebindDrained, changing, saved, if_pos noneLeft]

/-- At the timeout an OUT queue discards what is left before the change of binding ends. -/
theorem State.timeoutRebind_out (out : s.fabricEnd d = .writeEnd) :
    s.timeoutRebind d = ((s.saveWords d 1024).discardRest d).endRebind d r := by
  simp [State.timeoutRebind, changing, saved, out]

end

end

/-- Settles O4: each clause is one form of its row; an access to a window is served in the state that its request enters. -/
theorem queueBlocks : Obligations.QueueBlocks := by
  refine ⟨?write, ?creditAck, ?read, ?pop, ?popIdle, ?readOther, ?popCutOff, ?push, fun _ _ _ _ _ => exec_queuePushResume_taken,
    fun _ _ _ _ => exec_queuePushTimeout_held, fun _ _ _ _ _ => exec_queueWindowMisuse_form,
    fun _ _ _ _ _ => exec_queueWindowMisuse_unbound, ?lostClear, ?idleSet, fun _ _ => rfl, fun _ _ => rfl, fun _ _ => rfl,
    fun _ _ _ => rfl, fun _ _ => rfl, fun _ _ _ => exec_queueResyncDone_running, fun _ _ _ _ => exec_queueRebindDrained_noneLeft,
    ?timeout⟩
  case write =>
    exact fun d data last cls null u t s writes holdsNone passes offered taken =>
      (exec_queueWriteUnit_offered writes holdsNone offered).trans (congrArg Host.Outcome.next (State.offerUnit_taken passes taken))
  case creditAck =>
    exact fun d u t s held passes taken =>
      (exec_queueCreditAck_held held).trans (congrArg Host.Outcome.next (State.offerUnit_taken passes taken))
  case read =>
    exact fun d cls w r s reads agreed free isOpen stored =>
      (exec_queueReadWord_open reads agreed free isOpen).trans (congrArg Host.Outcome.next (State.readFabric_word stored))
  case pop =>
    exact fun d a cls w r s awake enters near may out agreed stored => State.fromAgent_sendReq awake enters (fun _ => rfl)
      ((State.windowPop_data near may out).trans (State.popWindow_word agreed stored))
  case popIdle =>
    exact fun d a s awake enters near may out agreed empty normal => State.fromAgent_sendReq awake enters (fun _ => rfl)
      ((State.windowPop_data near may out).trans (State.popWindow_idle agreed empty normal))
  case readOther =>
    exact fun d a off s awake enters near notData may =>
      State.fromAgent_sendReq awake enters (fun _ => rfl) (State.windowPop_other near may notData)
  case popCutOff =>
    exact fun d rd s awake split far => congrArg Host.Outcome.next
      ((State.fromAgent_awake awake _).trans ((State.sendReq_split split _).trans (State.windowPop_cutOff far)))
  case push =>
    exact fun d a v t s awake enters near may isIn isOpen first taken => State.fromAgent_sendReq awake enters (fun _ => rfl)
      ((State.windowPush_data near may isIn).trans (State.pushClocked_taken isOpen first taken))
  case lostClear =>
    exact fun d a s awake enters near may => State.fromAgent_sendReq awake enters (fun _ => rfl) (State.lostClear_bound near may)
  case idleSet =>
    exact fun d a v s awake enters near may => State.fromAgent_sendReq awake enters (fun _ => rfl) (State.idleSet_bound near may)
  case timeout => exact fun d r x s changing saved out => congrArg Host.Outcome.next (State.timeoutRebind_out changing saved out)

end Sys2Proof.Machine
end

