-- ==== Sys2Proof/Proofs/RakeDatapath.lean ====
section
/-! PROOFS. What a value is in a field of two's complement (R182, R184), what an accumulator takes (R181, R182), what the result path gives
(R184, R185), and the statements about them. -/

namespace Sys2Proof.Machine

/-! ## Two's complement in a field of w bits -/

theorem two_pow_eq_twice {w : Nat} (pos : 1 ≤ w) : (2 : Int) ^ w = 2 * 2 ^ (w - 1) :=
  (mul_pow_sub_one (Nat.one_le_iff_ne_zero.mp pos) 2).symm

/-- The value that a field of w bits gives back is the balanced remainder of the one put there. -/
theorem sgn_uns {w : Nat} (pos : 1 ≤ w) (v : Int) : sgn w (uns w v) = v.bmod (2 ^ w) := by
  have half : (2 : Int) ^ w = 2 * 2 ^ (w - 1) := two_pow_eq_twice pos
  have one : (0 : Int) < 2 ^ (w - 1) := by positivity
  have nonneg : 0 ≤ v % 2 ^ w := Int.emod_nonneg _ (by omega)
  have below : v % 2 ^ w < 2 ^ w := Int.emod_lt_of_pos _ (by omega)
  have field : ((uns w v % 2 ^ w : Nat) : Int) = v % 2 ^ w := by
    simp [uns, Int.toNat_of_nonneg nonneg]
  have border : uns w v % 2 ^ w < 2 ^ (w - 1) ↔ v % 2 ^ w < ((2 : Int) ^ w + 1) / 2 := by
    rw [← Int.ofNat_lt, field, Nat.cast_pow, Nat.cast_ofNat]
    omega
  push_cast at field
  simp only [sgn, Int.bmod_def, border, Nat.cast_pow, Nat.cast_ofNat, field]

/-- What a field gives back is within its range. -/
theorem sgn_uns_range {w : Nat} (pos : 1 ≤ w) (v : Int) :
    -(2 : Int) ^ (w - 1) ≤ sgn w (uns w v) ∧ sgn w (uns w v) ≤ (2 : Int) ^ (w - 1) - 1 := by
  have half : (2 : Int) ^ w = 2 * 2 ^ (w - 1) := two_pow_eq_twice pos
  have lower := Int.le_bmod (x := v) (Nat.two_pow_pos w)
  have upper := Int.bmod_le (x := v) (Nat.two_pow_pos w)
  push_cast at lower upper
  rw [sgn_uns pos]
  omega

/-- A value within the range of a field stands there. -/
theorem sgn_uns_of_range {w : Nat} (pos : 1 ≤ w) {v : Int} (lo : -(2 : Int) ^ (w - 1) ≤ v) (hi : v ≤ (2 : Int) ^ (w - 1) - 1) :
    sgn w (uns w v) = v := by
  have half : (2 : Int) ^ w = 2 * 2 ^ (w - 1) := two_pow_eq_twice pos
  rw [sgn_uns pos]
  apply Int.bmod_eq_of_le_mul_two <;> push_cast <;> omega

/-! ## Accumulators (R181, R182) -/

/-- The wrapped value is congruent to the one it comes from. -/
theorem wrap56_congr (v : Int) : (wrap56 v - v) % (2 : Int) ^ 56 = 0 := by
  rw [wrap56, sgn_uns (by decide)]
  exact Int.emod_eq_zero_of_dvd Int.dvd_bmod_sub_self

theorem wrap56_range (v : Int) : -(2 : Int) ^ 55 ≤ wrap56 v ∧ wrap56 v ≤ (2 : Int) ^ 55 - 1 := sgn_uns_range (by decide) v

theorem wrap56_of_range {v : Int} (lo : -(2 : Int) ^ 55 ≤ v) (hi : v ≤ (2 : Int) ^ 55 - 1) : wrap56 v = v :=
  sgn_uns_of_range (by decide) lo hi

/-- A result outside the range is not what the accumulator takes. -/
theorem wrap56_ne_of_outside {v : Int} (outside : v < -(2 : Int) ^ 55 ∨ (2 : Int) ^ 55 - 1 < v) : wrap56 v ≠ v := by
  have range := wrap56_range v
  omega

/-- ADD and SUB wrap their result r, and overflow where that changes it. -/
theorem accOp_wraps {op : Nat} {acc p r : Int} (sum : op = 3 ∧ r = acc + p ∨ op = 4 ∧ r = acc - p) :
    accOp op acc p = (wrap56 r, wrap56 r != r) := by
  obtain ⟨rfl, rfl⟩ | ⟨rfl, rfl⟩ := sum <;> rfl

section
variable {α : Type} {l : List α} {v d : α}

theorem nth_set_same {n : Nat} (inside : n < l.length) : nth (l.set n v) n d = v := by
  simp [nth, inside]

theorem nth_set_other {m n : Nat} (other : m ≠ n) : nth (l.set n v) m d = nth l m d := by
  simp [nth, List.getElem?_set_ne other.symm]

end

section
variable {d : Datapath} {op n : Nat} {p x : Int}

/-- A step that applies a value without an overflow changes its accumulator alone. -/
theorem Datapath.apply_exact (takes : accOp op (nth d.acc n 0) p = (x, false)) :
    d.apply op n p = ({ d with acc := d.acc.set n x }, false) := by
  simp [Datapath.apply, takes]

/-- With an overflow the accumulator's flag sets too. -/
theorem Datapath.apply_overflows (takes : accOp op (nth d.acc n 0) p = (x, true)) :
    d.apply op n p = ({ d with acc := d.acc.set n x, ovf := d.ovf.set n true }, true) := by
  simp [Datapath.apply, takes]

/-- No other accumulator and no other flag changes. -/
theorem Datapath.apply_other {m : Nat} (other : m ≠ n) :
    nth (d.apply op n p).1.acc m 0 = nth d.acc m 0 ∧ nth (d.apply op n p).1.ovf m false = nth d.ovf m false := by
  rcases takes : accOp op (nth d.acc n 0) p with ⟨x, overflows⟩
  cases overflows with
  | false => simp [Datapath.apply_exact takes, nth_set_other other]
  | true => simp [Datapath.apply_overflows takes, nth_set_other other]

end

/-- Settles O60: ADD and SUB wrap, SET and CLR take a value as it is, and each writes its own accumulator and flag. -/
theorem accumulatorWraps : Obligations.AccumulatorWraps := by
  intro d op n p r acc ovf
  refine ⟨fun sum => ⟨?inside, ?outside⟩, ?clear, ?set, fun m other => Datapath.apply_other other⟩
  case inside =>
    rintro ⟨lo, hi⟩
    have takes : accOp op (nth d.acc n 0) p = (r, false) := by simp [accOp_wraps sum, wrap56_of_range lo hi]
    rw [Datapath.apply_exact takes]
    exact ⟨nth_set_same acc, rfl, rfl⟩
  case outside =>
    intro outside
    have takes : accOp op (nth d.acc n 0) p = (wrap56 r, true) := by simp [accOp_wraps sum, wrap56_ne_of_outside outside]
    have value : nth (d.acc.set n (wrap56 r)) n 0 = wrap56 r := nth_set_same acc
    obtain ⟨lo, hi⟩ := wrap56_range r
    rw [Datapath.apply_overflows takes, value]
    exact ⟨wrap56_congr r, lo, hi, nth_set_same ovf, rfl⟩
  case clear =>
    rintro rfl
    rw [Datapath.apply_exact rfl]
    exact ⟨rfl, nth_set_same acc⟩
  case set =>
    rintro rfl
    rw [Datapath.apply_exact rfl]
    exact ⟨rfl, nth_set_same acc⟩

/-! ## The result path (R184, R185) -/

section
variable {w : Nat} {u : Int}

theorem narrow_of_range (lo : -(2 : Int) ^ (w - 1) ≤ u) (hi : u ≤ (2 : Int) ^ (w - 1) - 1) : narrow w u = u := by
  rw [narrow, clampInt, if_neg lo.not_gt, if_neg hi.not_gt]

theorem narrow_of_below (below : u < -(2 : Int) ^ (w - 1)) : narrow w u = -(2 : Int) ^ (w - 1) := if_pos below

theorem narrow_of_above (above : (2 : Int) ^ (w - 1) - 1 < u) : narrow w u = (2 : Int) ^ (w - 1) - 1 := by
  have one : (0 : Int) < 2 ^ (w - 1) := by positivity
  rw [narrow, clampInt, if_neg (by omega), if_pos above]

/-- A value outside the range of its field is not what the field holds. -/
theorem narrow_ne_of_outside (outside : u < -(2 : Int) ^ (w - 1) ∨ (2 : Int) ^ (w - 1) - 1 < u) : narrow w u ≠ u := by
  rcases outside with below | above
  · rw [narrow_of_below below]; exact below.ne'
  · rw [narrow_of_above above]; exact above.ne

end

/-- A field of the format that clips makes the step saturate. -/
theorem Datapath.stepSat_of_clips {d : Datapath} {i n w : Nat} (field : (n, w) ∈ fmtFields (stepFmt i) (bitsOf i 12 11))
    (clips : d.clips i n w = true) : d.stepSat i = true :=
  Bool.or_eq_true_iff.mpr (.inl (List.any_eq_true.mpr ⟨(n, w), field, clips⟩))

/-- A step that saturates sets SAT. -/
theorem Rake.doStep_sat {k : Rake} {i : Nat} (saturates : k.dp.stepSat i = true) : (k.doStep i).k.dp.sat = true :=
  Bool.or_eq_true_iff.mpr (.inr saturates)

/-- Settles O55: a narrowed value is within the range of its field, so the field gives it back; one that narrowing changes clips. -/
theorem narrowedResults : Obligations.NarrowedResults := by
  refine ⟨fun w u pos => ?field, fun k i n w field => ⟨rfl, fun outside => ?sat⟩⟩
  case field =>
    have one : (0 : Int) < 2 ^ (w - 1) := by positivity
    refine ⟨fun lo hi => ?inside, fun below => ?below, fun above => ?above⟩
    case inside => rw [narrow_of_range lo hi, sgn_uns_of_range pos lo hi]
    case below => rw [narrow_of_below below, sgn_uns_of_range pos le_rfl (by omega)]
    case above => rw [narrow_of_above above, sgn_uns_of_range pos (by omega) le_rfl]
  case sat =>
    exact Rake.doStep_sat (Datapath.stepSat_of_clips field (bne_iff_ne.mpr (narrow_ne_of_outside outside)))

end Sys2Proof.Machine
end

