-- ==== Sys2Proof/Proofs/RakeSequencer.lean ====
section
/-! PROOFS. What a rake that issues does (R200 to R206), how it takes tokens, events and doorbells (R188, R210 to R219), how its results
leave and its stops end (R189, R225, R228), and the statements about them. -/

namespace Sys2Proof.Machine

section
variable {r : Nat} {s : State}

/-! ## Instructions (R172, R200) -/

/-- A STEP that can start passes its boundary, takes its effect and ends a single step that waits on it. -/
theorem State.runStep_starts (starts : s.startsStep r = true) :
    s.runStep r = ((s.modRake r (·.passBoundary)).doStep r).endStep r := if_pos starts

/-- So does a control instruction that issues. -/
theorem State.runControl_issues {op : Nat} (issues : s.issuesOp r op = true) :
    s.runControl r op = ((s.modRake r (·.passBoundary)).doControl r op).endStep r := if_pos issues

/-! ## The inbound channel (R188, R210) -/

/-- A token that the rake absorbs is acknowledged, wherever it comes from. -/
theorem State.takeInbound_absorbed {data : Nat} {attn held : Bool}
    (absorbs : ({ s.rake r with inbound := some (data, attn) } : Rake).absorb.inbound = none) :
    s.takeInbound r data attn held =
      (((s.setRake r ({ s.rake r with inbound := some (data, attn) } : Rake).absorb).takeToken (rakePort r 0)).portMoved (panOfRake r)
        (rakePoint r 0)).reply .done := by
  simp [State.takeInbound, absorbs]

section
variable {data : Nat} {attn : Bool} (free : (s.rake r).inbound = none) (stays : (s.rake r).stopping = none)
  (runs : s.panRuns (panOfRake r) = true)
include free stays runs

/-- A channel that the image gives no drivers brings the token that the row carries (Assumption 23). -/
theorem State.offerRake_undriven (undriven : s.drivers (rakePort r 0) = []) : s.offerRake r data attn = s.takeInbound r data attn true := by
  simp [State.offerRake, free, stays, runs, undriven]

theorem State.offerRake_absorbed (undriven : s.drivers (rakePort r 0) = [])
    (absorbs : ({ s.rake r with inbound := some (data, attn) } : Rake).absorb.inbound = none) :
    s.offerRake r data attn =
      (((s.setRake r ({ s.rake r with inbound := some (data, attn) } : Rake).absorb).takeToken (rakePort r 0)).portMoved (panOfRake r)
        (rakePoint r 0)).reply .done :=
  (State.offerRake_undriven free stays runs undriven).trans (State.takeInbound_absorbed absorbs)

/-- Drivers bring their own, ATTN above DATA. -/
theorem State.offerRake_driven {x : Nat} (driven : s.drivers (rakePort r 0) ≠ []) (token : s.portToken (rakePort r 0) 0 = some x) :
    s.offerRake r data attn = s.takeInbound r (x % 2 ^ 36) (bitOf x 36) false := by
  simp [State.offerRake, free, stays, runs, driven, token]

end

/-! ## Doorbells (R211 to R213) -/

/-- A write with room in the queue, at an open sluice and a rake that drains no stop, queues its code. -/
theorem State.postExt_queues {code : Nat} (isOpen : s.sluice (panOfRake r) = OPEN) (stays : (s.rake r).stopping = none)
    (room : (s.rake r).extQ.length < 4) :
    s.postExt r code = (s.setRake r { s.rake r with extQ := (s.rake r).extQ ++ [code] }).reply .done := by
  simp [State.postExt, isOpen, stays, room]

section
variable {a : Agent} {v : Dword} (rings : ringsPan (panOfRake r) a = true)
include rings

/-- An access to a rake of the agent's half, or with the halves joined, reaches the rake. -/
theorem State.doorbell_reaches {write : Bool} (reaches : (agentHalf a != halfOfRake r && s.isSplit (agentHalf a)) = false) :
    s.doorbell r a write v = if write then s.postExt r (v.toNat % 256) else s.reply (.num (s.doorbellWord r)) := by
  simp only [State.doorbell, rings, reaches, Bool.not_true, Bool.false_eq_true, if_false]

/-- An access to the other half of a split part finds no rake (R484). -/
theorem State.doorbell_cutOff {write : Bool} (split : s.isSplit (agentHalf a) = true) (far : agentHalf a ≠ halfOfRake r) :
    s.doorbell r a write v = (s.unmappedNotice a (doorbellAddr r)).reply (.word 0) := by
  simp [State.doorbell, rings, split, far]

end

end

/-! ## The rows of events, results, doorbells and stops -/

section
variable {r : Fin 4096} {s : State}

theorem exec_attentionEntry_takes {src code : Nat} (event : (s.rake r).event = some (src, code)) (executes : s.executes r = true)
    (takes : (s.rake r).takes = true) : exec (.attentionEntry r) s = .next ((s.modRake r (·.enter src code)).endStep r) := by
  change execAttentionEntry r s = _
  simp [execAttentionEntry, event, executes, takes]

theorem exec_commitEntry_commits {src code : Nat} (event : (s.rake r).event = some (src, code)) (executes : s.executes r = true)
    (commits : (s.rake r).commits = true) : exec (.commitEntry r) s = .next ((s.modRake r (·.commit src code)).endStep r) := by
  change execCommitEntry r s = _
  simp [execCommitEntry, event, executes, commits]

/-- The oldest result leaves, and no segment record waits for its place. -/
theorem exec_rakeResultTaken_oldest {d : Nat} {x : Bool} {l : List (Nat × Bool)} (runs : s.panRuns (panOfRake r) = true)
    (free : s.portFree (rakePort r 1) = true) (oldest : (s.rake r).resBuf = (d, x) :: l) (noneDue : (s.rake r).sq.segDue = 0) :
    exec (.rakeResultTaken r) s = .next (((((s.modRake r fun k => { k with resBuf := l, stopping := k.stopping.map (· + 1) }).giveToken
      (rakePort r 1) 37 (d + bnat x * 2 ^ 36)).portMoved (panOfRake r) (rakePoint r 1)).endStep r).reply (.num (d + bnat x * 2 ^ 36))) := by
  change execRakeResultTaken r s = _
  simp [execRakeResultTaken, runs, free, oldest, noneDue, State.when]

theorem exec_doorbellMisuse_form {a : Agent} {off : Fin 8} (awake : s.asleep a = false) :
    exec (.doorbellMisuse r a off false) s = .next ((s.misuse a 6 (doorbellAddr r + off)).reply (.word 0)) :=
  congrArg Host.Outcome.next ((State.fromAgent_awake awake _).trans (if_pos rfl))

end

/-! ## The statements -/

/-- Settles O5: each row issues its opcode, and the opcode has that effect. -/
theorem rakeFlow : Obligations.RakeFlow :=
  ⟨fun _ _ starts => congrArg Host.Outcome.next (State.runStep_starts starts),
    fun _ _ nop => congrArg Host.Outcome.next (State.runControl_issues nop),
    fun _ _ rep => congrArg Host.Outcome.next (State.runControl_issues rep),
    fun _ _ br => congrArg Host.Outcome.next (State.runControl_issues br),
    fun _ _ dbnz => congrArg Host.Outcome.next (State.runControl_issues dbnz),
    fun _ _ setr => congrArg Host.Outcome.next (State.runControl_issues setr),
    fun _ _ rescale => congrArg Host.Outcome.next (State.runControl_issues rescale),
    fun _ _ clrf => congrArg Host.Outcome.next (State.runControl_issues clrf)⟩

/-- Settles O7: each clause is one form of its row; a doorbell is served in the state that its request enters. -/
theorem rakeAttention : Obligations.RakeAttention := by
  refine ⟨?illegal, fun _ _ _ _ => exec_attentionEntry_takes, fun _ _ _ _ => exec_commitEntry_commits, ?token, ?attention, ?driven,
    fun _ _ _ _ _ => exec_rakeResultTaken_oldest, ?ring, ?read, ?cutOff, fun _ _ _ _ => exec_doorbellMisuse_form, ?drained, ?timeout⟩
  case illegal =>
    exact fun r s issues illegal => congrArg Host.Outcome.next (if_pos (by simp [issues, illegal]))
  case token =>
    exact fun r data s free stays runs undriven absorbs =>
      congrArg Host.Outcome.next (State.offerRake_absorbed free stays runs undriven absorbs)
  case attention =>
    exact fun r data s free stays runs undriven absorbs =>
      congrArg Host.Outcome.next (State.offerRake_absorbed free stays runs undriven absorbs)
  case driven =>
    exact fun r data x s free stays runs driven token =>
      congrArg Host.Outcome.next (State.offerRake_driven free stays runs driven token)
  case ring =>
    exact fun r a v s awake enters reaches rings isOpen stays room => State.fromAgent_sendReq awake enters (fun _ => rfl)
      ((State.doorbell_reaches rings reaches).trans (State.postExt_queues isOpen stays room))
  case read =>
    exact fun r a v s awake enters reaches rings => State.fromAgent_sendReq awake enters (fun _ => rfl) (State.doorbell_reaches rings reaches)
  case cutOff =>
    exact fun r a w v s awake split far rings => congrArg Host.Outcome.next
      ((State.fromAgent_awake awake _).trans ((State.sendReq_split split _).trans (State.doorbell_cutOff rings split far)))
  case drained =>
    exact fun r s stops empty => congrArg Host.Outcome.next (if_pos (by simp [stops, empty]))
  case timeout => exact fun r s stops => congrArg Host.Outcome.next (if_pos stops)

end Sys2Proof.Machine
end

section
/-! PROOFS. What the attention, wait, halt and notice instructions of a rake do (R207, R217 to R221, R227), what an injection into it comes
to (R231, R232), which STEPs are illegal (R199), and the statements about them. -/

namespace Sys2Proof.Machine

/-! ## Injections (R231, R232) -/

section
variable {r kind : Nat} {s : State}

/-- An injection that is refused writes its two bits alone, whatever its kind. -/
theorem State.rakeInject_refused (refused : s.rakeInjectRefused r = true) :
    s.rakeInject r kind = s.setFlds [(F.PAN_RAKE_CTL_INJECT (panOfRake r), 0), (F.PAN_RAKE_CTL_INJ_REFUSED (panOfRake r), 1)] :=
  if_pos (by simp [refused])

/-- A rake that takes injections takes every kind of the table: the guard of `State.rakeInject` then gives way to the kind's effect. -/
theorem State.rakeInject_guard_passes (taken : s.rakeInjectRefused r = false) (known : kind < 5) :
    ¬ (s.rakeInjectRefused r || decide (5 ≤ kind)) = true := by
  simp [taken, known]

end

/-! ## The shift field of a STEP (R198, R199) -/

theorem bitsOf_lt (n hi lo : Nat) : bitsOf n hi lo < 2 ^ (hi + 1 - lo) := Nat.mod_lt _ (Nat.two_pow_pos _)

/-- A field read as a number of two's complement: as it is in the lower half of its range, and below zero in the upper. -/
theorem sgn_of_lt {w n : Nat} (inside : n < 2 ^ w) : sgn w n = if n < 2 ^ (w - 1) then (n : Int) else n - 2 ^ w := by
  have field : (n : Int) % 2 ^ w = n := Int.emod_eq_of_lt (Int.natCast_nonneg n) (by exact_mod_cast inside)
  simp only [sgn, Nat.mod_eq_of_lt inside, field]

section
variable {i : Nat}

theorem stepShift_scl (scl : bitsOf i 7 1 = 64) : stepShift i = none := if_pos scl

theorem stepShift_value (value : bitsOf i 7 1 ≠ 64) : stepShift i = some (sgn 7 (bitsOf i 7 1)) := if_neg value

/-- A STEP shifts by an illegal amount exactly where its field stands just above the code of SCL, or at the top of the positive half. -/
theorem stepShift_illegal_iff :
    (∃ v, stepShift i = some v ∧ (v < -55 ∨ 55 < v)) ↔
      (65 ≤ bitsOf i 7 1 ∧ bitsOf i 7 1 ≤ 72) ∨ (56 ≤ bitsOf i 7 1 ∧ bitsOf i 7 1 ≤ 63) := by
  have width : bitsOf i 7 1 < 2 ^ 7 := bitsOf_lt i 7 1
  by_cases scl : bitsOf i 7 1 = 64
  case pos => simp [stepShift_scl scl, scl]
  case neg =>
    rw [stepShift_value scl, sgn_of_lt width]
    simp only [Option.some.injEq, exists_eq_left']
    split <;> omega

end

/-! ## The statements -/

/-- Settles O6: each row issues its opcode, and the opcode has that effect. -/
theorem rakeAtoms : Obligations.RakeAtoms :=
  ⟨fun _ _ atom => congrArg Host.Outcome.next (State.runControl_issues atom),
    fun _ _ endatom => congrArg Host.Outcome.next (State.runControl_issues endatom),
    fun _ _ reta => congrArg Host.Outcome.next (State.runControl_issues reta),
    fun _ _ resume => congrArg Host.Outcome.next (State.runControl_issues resume),
    fun _ _ wait => congrArg Host.Outcome.next (State.runControl_issues wait),
    fun _ _ halt => congrArg Host.Outcome.next (State.runControl_issues halt),
    fun _ _ segend => congrArg Host.Outcome.next (State.runControl_issues segend),
    fun _ _ note => congrArg Host.Outcome.next (State.runControl_issues note)⟩

/-- Settles O8: a rake that takes injections takes each kind with its effect, and any other refuses. -/
theorem rakeInjections : Obligations.RakeInjections :=
  ⟨fun _ _ par => congrArg Host.Outcome.next (if_neg (State.rakeInject_guard_passes par (by decide))),
    fun _ _ ovf => congrArg Host.Outcome.next (if_neg (State.rakeInject_guard_passes ovf (by decide))),
    fun _ _ sat => congrArg Host.Outcome.next (if_neg (State.rakeInject_guard_passes sat (by decide))),
    fun _ _ exptSat => congrArg Host.Outcome.next (if_neg (State.rakeInject_guard_passes exptSat (by decide))),
    fun _ _ ill => congrArg Host.Outcome.next (if_neg (State.rakeInject_guard_passes ill (by decide))),
    fun _ _ refused => congrArg Host.Outcome.next (State.rakeInject_refused refused)⟩

/-- Settles O59: a STEP is checked field by field, and its shift is illegal where its field is. -/
theorem illegalSteps : Obligations.IllegalSteps := by
  intro i
  rw [← stepShift_illegal_iff, show bitsOf i 10 8 = stepFmt i from rfl]
  cases shift : stepShift i with
  | none => simp [stepIllegal, shift, or_assoc]
  | some v => simp [stepIllegal, shift, or_assoc]

end Sys2Proof.Machine
end

section
/-! PROOFS. How the port of a half grants and frees (R248, R250), what a load's frames and its signature come to (R256 to R260, R262), and
the statement about them. -/

namespace Sys2Proof.Machine

section
variable {s t : State} {h m : Nat} {j : LoadJob} {f : List Byte}

/-! ## What a HEADER and an END come to (R257, R260, R261) -/

/-- A HEADER that no check refuses begins its load, with the master that loads shown in the pan's status. -/
theorem State.header_accepted (type : fType f = 1) (claimed : s.claimRefused h m j.pan = false) (formed : badHeaderFrame f = false)
    (crc : fCrc f = true) (uncaused : s.headerCause j.pan (fPayload f) false = none) :
    s.header h m j f = (((s.setLoad (loadKey h m) (some j)).setLoad (loadKey h m) (some (j.header f))).setFld
      (F.PAN_SLUICE_STATUS_LOADER j.pan) (m + 1)).acceptLoad j.pan := by
  simp [State.header, type, claimed, formed, crc, uncaused]

/-- An END that meets every check completes its load at once where the signature is verified and the supply is at its floor. -/
theorem State.endFrame_completes (uncaused : frameCause j f = none) (formed : framePayload 15 (fPayload f) = true)
    (whole : endCause j f = none) (verified : j.sigOk = some true) (floor : s.atFloor h j.floor = true) :
    s.endFrame h m j f = s.completeLoad h m (j.note f false) := by
  simp [State.endFrame, uncaused, formed, whole, verified, floor]

end

/-! ## The port's grant (R248, R249) -/

section
variable {h : Fin 2} {m : Nat} {s : State}

/-- Where the agent pan offers no frame, a free port grants the next master of the rotation, once a result that waits is given. -/
theorem exec_reconfigGrant_next (free : (s.giveResult h).portMaster h = none) (next : (s.giveResult h).nextMaster h = some m) :
    exec (.reconfigGrant h []) s = .next ((s.giveResult h).setGranted h (5 + m)) := by
  change execReconfigGrant h [] s = _
  simp [execReconfigGrant, free, next]

/-! ## The frame granted, by what its load waits for (R256, R259, R260) -/

section
variable {i j : LoadJob} {t : State} {f : List Byte} (granted : s.portMaster h = some m) (loads : s.load (loadKey h m) = some i)
  (fetched : s.fetchFrame h m = (t, .frame f)) (kept : t.load (loadKey h m) = some j)
include granted loads fetched kept

/-- A first frame for a pan that is powered is checked as a HEADER. -/
theorem exec_panLoadHeader_powered (first : i.accepted = false) (powered : s.power i.pan = 0) :
    exec (.panLoadHeader h) s = .next ((t.header h m j f).freePort h m) := by
  change execPanLoadHeader h s = _
  simp [execPanLoadHeader, granted, loads, first, fetched, powered, kept]

section
variable (accepted : i.accepted = true) (frames : i.waitFloor = false)
include accepted frames

/-- A frame other than END of an accepted load is applied. -/
theorem exec_panFrame_later (notEnd : fType f ≠ 15) : exec (.panFrame h) s = .next ((t.laterFrame h m j f).freePort h m) := by
  change execPanFrame h s = _
  simp [execPanFrame, granted, loads, accepted, frames, fetched, notEnd, kept]

/-- The END of an accepted load is checked as one. -/
theorem exec_panLoadEnd_end (isEnd : fType f = 15) : exec (.panLoadEnd h) s = .next ((t.endFrame h m j f).freePort h m) := by
  change execPanLoadEnd h s = _
  simp [execPanLoadEnd, granted, loads, accepted, frames, fetched, isEnd, kept]

end

end

end

/-! ## The signature, the floor and a stall (R250, R258, R262) -/

section
variable {h : Fin 2} {m : Fin 3} {s : State}

section
variable {j : LoadJob} {k : List Byte} (loads : s.load (loadKey h m) = some j)
include loads

/-- A signature that the module's key does not verify ends the load; one that it verifies completes a load that waited for it at its
floor, and otherwise stays with the load. -/
theorem exec_panSignatureDone_verified (accepted : j.accepted = true) (unverified : j.sigOk = none)
    (module : s.moduleOf h = true) (key : s.sec.pubkey = some k) :
    exec (.panSignatureDone h m) s = .next (if Config.ecdsaVerifies k j.signedPart j.signature = false then s.failLoad h m 11
      else if j.waitFloor = true ∧ s.atFloor h j.floor = true then s.completeLoad h m { j with sigOk := some true }
      else s.setLoad (loadKey h m) (some { j with sigOk := some true })) := by
  change execPanSignatureDone h m s = _
  simp [execPanSignatureDone, loads, accepted, unverified, module, key]

/-- A load that waits for its supply alone completes once the supply is at its floor. -/
theorem exec_panLoadFloorReached_completes (waits : j.waitFloor = true) (verified : j.sigOk = some true)
    (floor : s.atFloor h j.floor = true) : exec (.panLoadFloorReached h m) s = .next (s.completeLoad h m j) := by
  change execPanLoadFloorReached h m s = _
  simp [execPanLoadFloorReached, loads, waits, verified, floor]

/-- A master that stalls before its END ends its load and its frame. -/
theorem exec_reconfigMasterStall_load (frames : j.waitFloor = false) :
    exec (.reconfigMasterStall h m) s = .next ((s.failLoad h m 14).abandonFrame h m) := by
  change execReconfigMasterStall h m s = _
  simp [execReconfigMasterStall, loads, frames]

end

/-- An agent that stalls in its HEADER has begun a load of the pan that the frame names, which ends too. -/
theorem exec_reconfigMasterStall_agentHeader (noLoad : s.load (loadKey h 2) = none) (offers : s.agentFrame h ≠ []) :
    exec (.reconfigMasterStall h 2) s =
      .next (((s.setLoad (loadKey h 2) (some { pan := numAt (s.agentFrame h) 2 2 % 256 })).failLoad h 2 14).abandonFrame h 2) := by
  change execReconfigMasterStall h 2 s = _
  simp [execReconfigMasterStall, noLoad, offers]

end

/-! ## The statement -/

/-- Settles O11: each clause is one form of its row; a HEADER and an END are checked in the state that their frame is fetched into. -/
theorem panLoads : Obligations.PanLoads := by
  refine ⟨fun _ _ _ => exec_reconfigGrant_next, ?header, ?later, fun _ _ _ _ _ => exec_panSignatureDone_verified, ?completes,
    fun _ _ _ _ => exec_panLoadFloorReached_completes, fun _ _ _ _ => exec_reconfigMasterStall_load,
    fun _ _ => exec_reconfigMasterStall_agentHeader⟩
  case header =>
    intro h m i j t f s granted loads first powered fetched kept type claimed formed crc uncaused
    rw [exec_panLoadHeader_powered granted loads fetched kept first powered, State.header_accepted type claimed formed crc uncaused]
  case later =>
    exact fun h m j t f s granted loads accepted frames fetched notEnd kept =>
      exec_panFrame_later granted loads fetched kept accepted frames notEnd
  case completes =>
    intro h m j t f s granted loads accepted frames verified fetched isEnd kept uncaused formed whole floor
    rw [exec_panLoadEnd_end granted loads fetched kept accepted frames isEnd,
      State.endFrame_completes uncaused formed whole verified floor]

end Sys2Proof.Machine
end

section
/-! PROOFS. What a round, a step under HALT and the end of a reload come to (R291, R302, R310), what the packets of a dispatch and its
completion move (R295, R297), what a waiting slice, a link and a stop come to (R301, R305, R307) and what an injection raises (R319),
with the statement about the schedulers. -/

namespace Sys2Proof.Machine

section
variable {h : Fin 2} {s : State}

/-! ## Rounds (R291, R310) -/

/-- A scheduler that may dispatch tries its levels, from 7 down. -/
theorem State.round_dispatches {h : Nat} {step : Bool} (may : (s.schedSettle h).mayDispatch h = true) :
    s.round h step = (s.schedSettle h).tryLevels h step 8 :=
  if_pos may

/-- Without HALT a round runs. -/
theorem exec_dispatchRound_running (running : s.on (F.SCHED_CTL_HALT h) = false) :
    exec (.dispatchRound h) s = .next (s.round h false) :=
  congrArg Host.Outcome.next (if_neg (ne_true_of_eq_false running))

/-- Under HALT no round runs: lists come in line and stops end. -/
theorem exec_dispatchRound_halted (halted : s.on (F.SCHED_CTL_HALT h) = true) :
    exec (.dispatchRound h) s = .next (s.schedSettle h) :=
  congrArg Host.Outcome.next (if_pos halted)

/-- Under HALT a step runs one round, and its bit ends clear. -/
theorem exec_schedStep_halted (halted : s.on (F.SCHED_CTL_HALT h) = true) :
    exec (.schedStep h) s = .next ((s.round h true).setFld (F.SCHED_CTL_STEP h) 0) :=
  congrArg (fun t : State => Host.Outcome.next (t.setFld (F.SCHED_CTL_STEP h) 0)) (if_pos halted)

/-! ## The packets of a dispatch (R297) -/

/-- A word that its queue takes leaves the record's words. -/
theorem State.pushNext_taken {h number : Nat} {r : Record} {w : Dword} {l : List Dword} {t : State}
    (sends : s.findRecord h (fun r => r.number == number && !r.unsent.isEmpty &&
      (s.sched h).cutting.all fun x => x.1 != r.dq) = some r) (next : r.unsent = w :: l)
    (taken : s.pushWord r.dq r.cls l.isEmpty w (dispKey h r.id) = (t, true)) :
    s.pushNext h number = t.modRecord h r.id fun y => { y with unsent := l } := by
  simp only [State.pushNext, sends, next, taken, if_true]

/-- A word inside a completion packet is popped: it is answered, and kept until the packet ends. -/
theorem exec_schedCompletionPop_inside {d : Fin 1024} {cls : Bool} {w : QWord} {q : QBlock} (bound : (s.queue d).kind = 2)
    (agreed : (s.queue d).sync = none) (out : s.fabricEnd d = .writeEnd) (stored : (s.queue d).takeWord = some (cls, w, q))
    (uncut : (s.queue d).cut = false) (inside : w.last = false) {t : State}
    (popped : ((s.setQueue d q).noteDrained d false cls false).reply (.item w.data w.vb false false false false) = t) :
    exec (.schedCompletionPop d) s = .next (t.setPopped (halfOfQueue d) d
      (Bank.get (fun _ => []) (t.sched (halfOfQueue d)).popped d ++ [(w, false)])) := by
  subst popped
  change execSchedCompletionPop d s = _
  simp [execSchedCompletionPop, bound, agreed, out, stored, uncut, inside]

/-! ## Dispatch windows (R295) -/

section
variable {a : Agent} {k : Fin 16} {off : BitVec 14} {write : Bool} {stores : List (BitVec 14 × Byte)} (awake : s.asleep a = false)
include awake

/-- An agent that reaches the window stores its completion fields, and the core's dispatch ends. -/
theorem exec_dispatchDoneWrite_reaches (reaches : reachesWindow k a = true) :
    exec (.dispatchDoneWrite a k stores) s = .next ((s.applyStores k stores).coreDone k) := by
  change execDispatchDoneWrite a k stores s = _
  rw [execDispatchDoneWrite, State.fromAgent_awake awake, if_pos reaches]

/-- Another agent that no split cuts off from the window misuses it. -/
theorem exec_dispatchWindowMisuse_near (unreached : reachesWindow k a = false)
    (near : (agentHalf a != halfOfCore k && s.isSplit (agentHalf a)) = false) :
    exec (.dispatchWindowMisuse a k off write) s =
      .next ((s.misuse a 5 (windowAddr k off.toNat)).reply (if write then .none else .word 0)) := by
  change execDispatchWindowMisuse a k off write s = _
  rw [execDispatchWindowMisuse, State.fromAgent_awake awake, if_neg (ne_true_of_eq_false unreached),
    if_neg (ne_true_of_eq_false near)]

end

/-! ## Reloads and slices (R301, R302) -/

/-- A load that ended without a cause goes on to the kernel's bindings, OPEN and the dispatch. -/
theorem exec_schedReloadComplete_loaded {g n p k f : Nat} (reloads : (s.sched h).reload = some (g, n, p, k))
    (ended : (s.sched h).reloadEnd = some (0, f)) :
    exec (.schedReloadComplete h) s = .next ((((s.modSched h fun c => { c with reload := none, reloadEnd := none }).setFld
      (F.SCHED_STATUS_LOADING h) 0).reloaded h g n p k).schedSettle h) := by
  change execSchedReloadComplete h s = _
  simp only [execSchedReloadComplete, reloads, ended, if_true]

/-- A slice in the ready list moves to the tail of level 7. -/
theorem exec_slicePromote_waiting {n : Fin 256}
    (waits : ((s.sched (halfOfPan n)).ready.any fun e => e.work == .slice n.val) = true) :
    exec (.slicePromote n) s = .next (s.modSched (halfOfPan n) fun c =>
      { c with ready := (c.ready.filter fun e => e.work != .slice n.val) ++ [⟨7, .slice n.val⟩] }) :=
  congrArg (fun c => Host.Outcome.next (s.setSched (halfOfPan n) c)) (if_pos waits)

/-! ## Links and stops (R305, R307) -/

/-- The oldest token in transit lands at the link's consumer port while tokens cross the causeway. -/
theorem exec_crossHalfTokenArrive_lands {id : BitVec 16} {l : Link} {t : Token} {r : List Token}
    (link : (s.links.find? fun l => l.id == id.toNat) = some l) (oldest : l.transit = t :: r) (cross : s.tokensCross = true) :
    exec (.crossHalfTokenArrive id) s = .next (((s.modLink l.id fun x => { x with transit := r }).arrive l.dstGraph l.dstNode l.dstPort
      l.srcGraph l.srcNode t l.id).settle) := by
  change execCrossHalfTokenArrive id s = _
  simp [execCrossHalfTokenArrive, link, oldest, cross]

/-- The stop of these graphs and cores ends at its drain time. -/
theorem exec_schedDrainTimeout_stop {graph : Option (Fin 256)} {cores : Byte} {p : Stop}
    (stop : ((s.sched h).stops.find? fun p => p.graph == graph.map (·.val) && p.cores == cores.toNat) = some p) :
    exec (.schedDrainTimeout h graph cores) s = .next (s.timeoutStop h p) := by
  change execSchedDrainTimeout h graph cores s = _
  simp only [execSchedDrainTimeout, stop]

/-! ## Injections (R319) -/

section
variable {h kind : Nat}

/-- A kind of R319 raises its report, marked injected. -/
theorem State.schedInjectWrite_raises {t : State} (known : kind ≤ 5)
    (written : s.setFlds [(F.SCHED_INJECT_INJECT h, 0), (F.SCHED_INJECT_INJ_KIND h, kind)] = t) :
    s.schedInjectWrite h kind = t.useFree.raise
      { half := h, cls := schedKindClass kind, src := 6, code := kind + 1, unit := h * 256 + t.freeVal % 256, ctx := t.freeVal,
        inj := true } := by
  subst written
  exact if_pos known

/-- Another kind is refused. -/
theorem State.schedInjectWrite_refused (unknown : 5 < kind) :
    s.schedInjectWrite h kind = (s.setFlds [(F.SCHED_INJECT_INJECT h, 0), (F.SCHED_INJECT_INJ_KIND h, kind)]).setFld
      (F.SCHED_INJECT_INJ_REFUSED h) 1 :=
  if_neg (Nat.not_le.mpr unknown)

end

end

/-! ## The statement -/

/-- Settles O14: each clause is one form of its row; a round runs in the settled state, and a word is pushed in the state whose cut
packets have ended. -/
theorem schedulerRun : Obligations.SchedulerRun := by
  refine ⟨?round, fun _ _ => exec_dispatchRound_halted, fun _ _ => exec_schedStep_halted, ?push, ?pop,
    fun _ _ _ _ => exec_dispatchDoneWrite_reaches, fun _ _ _ _ _ => exec_dispatchWindowMisuse_near, fun _ _ => rfl,
    fun _ _ _ _ _ _ _ => exec_schedReloadComplete_loaded, fun _ _ => exec_slicePromote_waiting,
    fun _ _ _ _ _ => exec_crossHalfTokenArrive_lands, fun _ _ _ _ _ => exec_schedDrainTimeout_stop, ?inject, ?refuse, fun _ _ => rfl⟩
  case round =>
    intro h s running may
    rw [exec_dispatchRound_running running, State.round_dispatches may]
  case push =>
    exact fun h number r w l t s sends next taken => congrArg Host.Outcome.next (State.pushNext_taken sends next taken)
  case pop =>
    exact fun d cls w q s bound agreed out stored uncut inside =>
      exec_schedCompletionPop_inside bound agreed out stored uncut inside rfl
  case inject => exact fun h kind s known => congrArg Host.Outcome.next (State.schedInjectWrite_raises known rfl)
  case refuse => exact fun h kind s unknown => congrArg Host.Outcome.next (State.schedInjectWrite_refused unknown)

end Sys2Proof.Machine
end

section
/-! PROOFS. When an instruction word of a core issues to its coprocessor port, and what ends its operations (R333, R334, R340, R342, R344),
what a store to the core-writable registers and the cache injections come to (R326, R360), what a CSR instruction of the pin port and of
the serial engines does (R346, R653 to R655), and the statements about the tender cores. -/

namespace Sys2Proof.Machine

/-! ## Operations that a core owes (R334) -/

section
variable {k : Core} (retired : k.ops = [])
include retired

/-- Where every operation has retired, the kills alone are outstanding. -/
theorem Core.outstanding_of_retired : k.outstanding = k.kills.length := by
  simp [Core.outstanding, retired]

/-- Where every operation has retired, no register waits for a result. -/
theorem Core.owes_of_retired (r : Nat) : k.owes r = false := by
  simp [Core.owes, retired]

end

/-! ## Issue (R333, R334, R339) -/

section
variable {s : State} {c w : Nat} (custom : isCustom01 w = true)
include custom

/-- In a mode that COPCTL does not permit, the word is an illegal instruction once the older operations have retired. -/
theorem State.issueWord_illegal (retired : (s.core c).ops = []) (denied : s.copPermitted c = false) :
    s.issueWord c w = s.useFree.coreTrap c 2 s.freeVal (s.core c).pc := by
  simp [State.issueWord, custom, denied, retired]

section
variable (custom' : isCustom23 w = false) (permitted : s.copPermitted c = true)
include custom' permitted

/-- An idempotent operation issues with room among the 8 and its source registers ready. -/
theorem State.issueWord_idempotent (room : (s.core c).outstanding < 8) (first : (s.core c).owes (bitsOf w 19 15) = false)
    (second : (s.core c).owes (bitsOf w 24 20) = false) (idempotent : bitsOf w 6 0 = 0x0B) :
    s.issueWord c w = s.issueCop c w false := by
  simp [State.issueWord, custom, custom', permitted, Nat.not_le.mpr room, first, second, idempotent]

/-- An effecting operation issues once every older one has retired. -/
theorem State.issueWord_effecting (retired : (s.core c).ops = []) (room : (s.core c).kills.length < 8)
    (effecting : bitsOf w 6 0 = 0x2B) : s.issueWord c w = s.issueCop c w true := by
  have room' : ¬ 8 ≤ (s.core c).outstanding := by simpa [Core.outstanding_of_retired retired] using room
  simp [State.issueWord, custom, custom', permitted, room', Core.owes_of_retired retired, retired, effecting]

end

end

/-- An operation that the port refuses has its fault when it issues. -/
theorem State.issueCop_refused {s : State} {c w d : Nat} {effecting : Bool} (refusal : s.copRefusal c true = some d) :
    s.issueCop c w effecting = ((s.addOp c
      { effecting := effecting, rd := bitsOf w 11 7, pc := (s.core c).pc, fault := some (d, 0) }).setFld
      (F.TCORE_COP_STATUS_LAST_DETAIL c) d).copSettle c := by
  simp only [State.issueCop, refusal]

/-! ## A live core that is not halted -/

section
variable {s : State} {c : Fin 16} {addr : Nat} {f : State → State} (live : (s.core c).live = true) (runs : s.isHalted c = false)
include live runs

/-- The word that the row carries comes to the port's issue. -/
theorem exec_copIssue_running {w : Word} : exec (.copIssue c w) s = .next (s.issueWord c w.toNat) :=
  congrArg Host.Outcome.next (if_neg (by simp [live, runs]))

/-! ### Stores to the core-writable registers (R326) -/

section
variable (retired : (s.core c).ops = [])
include retired

/-- From M mode the store is performed. -/
theorem State.coreStore_machine (machine : (s.core c).prv = 3) :
    s.coreStore c addr f = ((f s).useFree).modCore c fun x => { x with pc := x.pc + (if s.freeVal % 2 = 0 then 4 else 2) } := by
  simp [State.coreStore, live, runs, retired, machine]

/-- From another mode it is a store access fault. -/
theorem State.coreStore_denied (lower : (s.core c).prv ≠ 3) : s.coreStore c addr f = s.coreTrap c 7 addr (s.core c).pc := by
  simp [State.coreStore, live, runs, retired, lower]

end

/-! ### CSR instructions of M mode (R346, R653) -/

/-- In M mode the instruction acts and the pc moves on. -/
theorem State.mModeCsr_machine (machine : (s.core c).prv = 3) :
    s.mModeCsr c f = (f s).modCore c fun k => { k with pc := k.pc + 4 } := by
  simp [State.mModeCsr, live, runs, machine]

/-- In another mode the instruction is illegal. -/
theorem State.mModeCsr_illegal (lower : (s.core c).prv ≠ 3) :
    s.mModeCsr c f = s.useFree.coreTrap c 2 s.freeVal (s.core c).pc := by
  simp [State.mModeCsr, live, runs, lower]

/-- The row of an instruction that writes the pin port, in M mode. -/
theorem next_mModeCsr_machine (machine : (s.core c).prv = 3) :
    (.next (s.mModeCsr c f) : Out) = .next ((f s).modCore c fun k => { k with pc := k.pc + 4 }) :=
  congrArg Host.Outcome.next (State.mModeCsr_machine live runs machine)

/-- The row of any such instruction, in another mode. -/
theorem next_mModeCsr_illegal (lower : (s.core c).prv ≠ 3) :
    (.next (s.mModeCsr c f) : Out) = .next (s.useFree.coreTrap c 2 s.freeVal (s.core c).pc) :=
  congrArg Host.Outcome.next (State.mModeCsr_illegal live runs lower)

end

/-! ## Cache checks and injections (R325, R360) -/

section
variable {s : State} {c : Fin 16}

section
variable {target : Fin 3} {addr : Dword} (live : (s.core c).live = true)
include live

/-- Without a fill the line is checked as it stands. -/
theorem exec_coreCacheCheck_stands : exec (.coreCacheCheck c target addr false) s = .next (s.cacheCheck c target addr.toNat) := by
  change execCoreCacheCheck c target addr false s = _
  simp [execCoreCacheCheck, live]

/-- A line that the L2 holds is filled before its check. -/
theorem exec_coreCacheCheck_fills (held : (s.core c).holds (addr.toNat / 64) ≠ 0) :
    exec (.coreCacheCheck c target addr true) s = .next ((if target.val < 2 then s.fillL1 c target (addr.toNat / 64)
      else s.fillLine c 2 (addr.toNat / 64)).cacheCheck c target addr.toNat) := by
  change execCoreCacheCheck c target addr true s = _
  simp [execCoreCacheCheck, live, held]

end

section
variable {target : Fin 4} {double : Bool}

/-- An injection at a cache that can take it is armed. -/
theorem exec_tcoreInject_armed (cache : target.val ≠ 3) (live : (s.core c).live = true) (possible : double = false ∨ target.val ≠ 0) :
    exec (.tcoreInject c target double) s = .next (((s.setFlds [(F.TCORE_INJECT_TARGET c, target),
      (F.TCORE_INJECT_DOUBLE c, bnat double)]).setFld (F.TCORE_INJECT_INJECT c) 1).modCore c fun x =>
        { x with inject := some (target, double) }) := by
  refine congrArg Host.Outcome.next (if_neg ?_)
  rcases possible with single | dataCache
  · simp [cache, live, single]
  · simp [cache, live, dataCache]

/-- An injection at no cache, or at a core in reset, is refused. -/
theorem exec_tcoreInject_refused (impossible : target.val = 3 ∨ (s.core c).live = false) :
    exec (.tcoreInject c target double) s = .next ((s.setFlds [(F.TCORE_INJECT_TARGET c, target),
      (F.TCORE_INJECT_DOUBLE c, bnat double)]).setFlds [(F.TCORE_INJECT_INJECT c, 0), (F.TCORE_INJECT_INJ_REFUSED c, 1)]) := by
  refine congrArg Host.Outcome.next (if_pos ?_)
  rcases impossible with noCache | reset
  · simp [noCache]
  · simp [reset]

end

end

/-! ## The engine that SERSEL names (R653, R655) -/

/-- The engine that SERSEL names for core c, changed by f; no engine where it names none. -/
def State.onEngine (s : State) (c : Nat) (f : Serial → Serial) : State :=
  match s.serialOf c with
  | some e => s.modSerial e f
  | none => s

section
variable {s : State} {c : Fin 16} {e : Nat}

theorem exec_serialPush (v : Dword) : exec (.serialPush c v) s = .next (s.mModeCsr c (·.onEngine c (·.push v.toNat))) := rfl
theorem exec_serialConfig (v : Dword) : exec (.serialConfig c v) s = .next (s.mModeCsr c (·.onEngine c (·.config v.toNat))) := rfl
theorem exec_serstatClear (v : Dword) : exec (.serstatClear c v) s = .next (s.mModeCsr c (·.onEngine c (·.clear v.toNat))) := rfl
theorem exec_serialPop : exec (.serialPop c) s = .next (s.mModeCsr c (·.serialRead c)) := rfl

section
variable (live : (s.core c).live = true) (runs : s.isHalted c = false) (machine : (s.core c).prv = 3)
include live runs machine

section
variable (named : s.serialOf c = some e)
include named

/-- A write acts on the engine that is named. -/
theorem next_onEngine_named {f : Serial → Serial} : (.next (s.mModeCsr c (·.onEngine c f)) : Out) =
    .next ((s.modSerial e f).modCore c fun k => { k with pc := k.pc + 4 }) := by
  simp only [State.mModeCsr_machine live runs machine, State.onEngine, named]

/-- A read of SERDATA pops the engine that is named. -/
theorem exec_serialPop_named : exec (.serialPop c) s = .next (((s.setSerial e (s.serial e).pop.2).reply
    (.num (s.serial e).pop.1)).modCore c fun k => { k with pc := k.pc + 4 }) := by
  simp only [exec_serialPop, State.mModeCsr_machine live runs machine, State.serialRead, named]

end

section
variable (unnamed : s.serialOf c = none)
include unnamed

/-- A write that names no engine only moves the pc. -/
theorem next_onEngine_unnamed {f : Serial → Serial} : (.next (s.mModeCsr c (·.onEngine c f)) : Out) =
    .next (s.modCore c fun k => { k with pc := k.pc + 4 }) := by
  simp only [State.mModeCsr_machine live runs machine, State.onEngine, unnamed]

/-- A read of SERDATA that names no engine gives 0. -/
theorem exec_serialPop_unnamed : exec (.serialPop c) s =
    .next ((s.reply (.num 0)).modCore c fun k => { k with pc := k.pc + 4 }) := by
  simp only [exec_serialPop, State.mModeCsr_machine live runs machine, State.serialRead, unnamed]

end

end

end

/-! ## A byte ends (R654, R655) -/

section
variable {s : State} {e : Fin 12} {data : Byte} {err lost : Bool}

/-- A byte of an SPI or I2C engine is sent and received; where the engine is as it was, nothing leaves it. -/
theorem exec_serialByteDone_clocked {w : Nat} {t : State} (kind : serialKind e ≠ 2) (busy : (s.serial e).current = some w)
    (clocked : s.setSerial e ((s.serial e).clocked (s.serialByte e data err) (lost && serialKind e == 1)) = t) :
    exec (.serialByteDone e false data err lost) s =
      .next (if t.serial e = s.serial e then t else t.send (.line (0x100 + e.val) [w])) := by
  subst clocked
  change execSerialByteDone e false data err lost s = _
  simp only [execSerialByteDone, if_neg kind, busy]

section
variable (uart : serialKind e = 2)
include uart

/-- A UART receives where its RX signal has a pin. -/
theorem exec_serialByteDone_received : exec (.serialByteDone e true data err lost) s =
    .next (if (s.signalPin (e / 6) 4 (serialInput e).2).isSome then s.setSerial e ((s.serial e).received (s.serialByte e data err))
      else s) := by
  change execSerialByteDone e true data err lost s = _
  simp only [execSerialByteDone, uart, if_true]

/-- A UART's entry in progress leaves. -/
theorem exec_serialByteDone_sent {w : Nat} {t : State} (busy : (s.serial e).current = some w) (sent : s.setSerial e (s.serial e).sent = t) :
    exec (.serialByteDone e false data err lost) s =
      .next (if t.serial e = s.serial e then t else t.send (.line (0x100 + e.val) [w])) := by
  subst sent
  change execSerialByteDone e false data err lost s = _
  simp [execSerialByteDone, uart, busy]

end

end

/-! ## The statements -/

/-- Settles O15: each clause is one form of its row; an operation that is refused at its issue is one that issues, with its fault. -/
theorem coprocessorOps : Obligations.CoprocessorOps := by
  refine ⟨?idempotent, ?effecting, ?refused, ?illegal, ?response, ?noTimeout, ?squash, ?cut, fun _ _ => rfl, ?timeout⟩
  case idempotent =>
    intro k w s live runs custom custom' permitted room first second idempotent
    rw [exec_copIssue_running live runs, State.issueWord_idempotent custom custom' permitted room first second idempotent]
  case effecting =>
    intro k w s live runs custom custom' permitted retired room effecting
    rw [exec_copIssue_running live runs, State.issueWord_effecting custom custom' permitted retired room effecting]
  case refused =>
    intro k w d s live runs custom custom' permitted retired noKills effecting refusal
    rw [exec_copIssue_running live runs, State.issueWord_effecting custom custom' permitted retired (by simp [noKills]) effecting,
      State.issueCop_refused refusal]
  case illegal =>
    intro k w s live runs retired custom denied
    rw [exec_copIssue_running live runs, State.issueWord_illegal custom retired denied]
  case response => exact fun k s bound stored => congrArg Host.Outcome.next (if_pos (by simp [bound, stored]))
  case noTimeout => exact fun k rid s off => congrArg Host.Outcome.next (if_pos (by simp [off]))
  case squash => exact fun k n target s live idempotent => congrArg Host.Outcome.next (if_pos (by simp [live, idempotent]))
  case cut => exact fun k s draining => congrArg Host.Outcome.next (if_pos draining)
  case timeout => exact fun k rid s on waits => congrArg Host.Outcome.next (if_neg (by simp [on, waits]))

/-- Settles O16: each clause is one form of its row; the two stores of M mode are one lemma about a core's store. -/
theorem coreEvents : Obligations.CoreEvents := by
  refine ⟨?compare, ?msip, ?msipDenied, ?expires, ?early, fun _ _ _ _ => exec_coreCacheCheck_stands,
    fun _ _ _ _ => exec_coreCacheCheck_fills, fun _ _ => rfl, fun _ _ _ _ => exec_tcoreInject_armed,
    fun _ _ _ _ => exec_tcoreInject_refused, fun _ _ => rfl, ?restart⟩
  case compare =>
    exact fun a k high v s live runs retired machine => congrArg Host.Outcome.next (State.coreStore_machine live runs retired machine)
  case msip =>
    exact fun a k v s live runs retired machine => congrArg Host.Outcome.next (State.coreStore_machine live runs retired machine)
  case msipDenied =>
    exact fun a k v s live runs retired lower => congrArg Host.Outcome.next (State.coreStore_denied live runs retired lower)
  case expires => exact fun k s due => congrArg Host.Outcome.next (if_pos due)
  case early => exact fun k s before => congrArg Host.Outcome.next (if_neg (Nat.not_le.mpr before))
  case restart => exact fun h s restarting => congrArg Host.Outcome.next (if_neg (by simp [restarting]))

/-- Settles O34: an instruction is in M mode or it is not, and SERSEL names an engine or it does not. -/
theorem serialEngines : Obligations.SerialEngines := by
  refine ⟨?push, fun _ _ _ => exec_serialPop_named, ?config, ?clear, ?pushUnnamed, ?configUnnamed, ?clearUnnamed,
    fun _ _ => exec_serialPop_unnamed,
    -- the pin port in M mode
    fun _ _ _ => next_mModeCsr_machine, fun _ _ _ => next_mModeCsr_machine, fun _ _ _ => next_mModeCsr_machine,
    -- each of the seven instructions in another mode
    fun _ _ _ => next_mModeCsr_illegal, fun _ _ => next_mModeCsr_illegal, fun _ _ _ => next_mModeCsr_illegal,
    fun _ _ _ => next_mModeCsr_illegal, fun _ _ _ => next_mModeCsr_illegal, fun _ _ _ => next_mModeCsr_illegal,
    fun _ _ _ => next_mModeCsr_illegal, ?clocked, fun _ _ _ _ _ => exec_serialByteDone_received, ?sent⟩
  case push => exact fun c v e s live runs machine named => (exec_serialPush v).trans (next_onEngine_named live runs machine named)
  case config => exact fun c v e s live runs machine named => (exec_serialConfig v).trans (next_onEngine_named live runs machine named)
  case clear => exact fun c v e s live runs machine named => (exec_serstatClear v).trans (next_onEngine_named live runs machine named)
  case pushUnnamed =>
    exact fun c v s live runs machine unnamed => (exec_serialPush v).trans (next_onEngine_unnamed live runs machine unnamed)
  case configUnnamed =>
    exact fun c v s live runs machine unnamed => (exec_serialConfig v).trans (next_onEngine_unnamed live runs machine unnamed)
  case clearUnnamed =>
    exact fun c v s live runs machine unnamed => (exec_serstatClear v).trans (next_onEngine_unnamed live runs machine unnamed)
  case clocked => exact fun e data err lost w s kind busy => exec_serialByteDone_clocked kind busy rfl
  case sent => exact fun e data err lost w s uart busy => exec_serialByteDone_sent uart busy rfl

end Sys2Proof.Machine
end

section
/-! PROOFS. What an agent's access, a scrubber, an injection and the start of the lagoon and the stacks come to (R361 to R390), the
canonical form that every row of memory keeps and what those rows leave unchanged (R362, R376 to R378, R523), and what the upkeep of the
coherence engines comes to (R367, R441, R464 to R471). -/

namespace Sys2Proof.Machine

/-! ## What a row leaves -/

/-- A row that goes on leaves the one state that its equation names. -/
theorem left_of_row {c : Instr} {s t u : State} (row : exec c s = .next u) (goesOn : exec c s = .next t) : u = t :=
  Host.Outcome.next.inj (row.symm.trans goesOn)

/-- An access that is made, or refused to a sleeping link, leaves the bytes that its effect leaves (R397). -/
theorem State.byteAt_fromAgent {s t : State} {k : Nat} (kept : t.byteAt k = s.byteAt k) (a : Agent) :
    (s.fromAgent a t).byteAt k = s.byteAt k := by
  unfold State.fromAgent
  split
  · rfl
  · exact kept

theorem exec_unmappedAccess (a : Agent) (addr : Dword) (kind : Fin 3) (s : State) :
    exec (.unmappedAccess a addr kind) s = execUnmappedAccess a addr kind s := rfl

theorem exec_scrubLine (h sel : Fin 2) (stuck upset : Bool) (s : State) :
    exec (.scrubLine h sel stuck upset) s = execScrubLine h sel stuck upset s := rfl

/-- A visit of a scrubber finds nothing to do, skips its line, or visits it and halts or goes on (R378, R381). -/
theorem exec_scrubLine_cases (h sel : Fin 2) (stuck upset : Bool) (s : State) :
    exec (.scrubLine h sel stuck upset) s = .next s ∨
      ∃ x, exec (.scrubLine h sel stuck upset) s = .next ((s.setScrubber (scrubKey h sel) x).endPass h sel upset) ∨
        ∃ line, exec (.scrubLine h sel stuck upset) s = .next (((s.visitLine h sel line).setScrubber (scrubKey h sel) x).haltScrub h sel 3) ∨
          exec (.scrubLine h sel stuck upset) s = .next (((s.visitLine h sel line).setScrubber (scrubKey h sel) x).endPass h sel upset) := by
  simp only [exec_scrubLine, execScrubLine]
  split
  · exact .inl rfl
  · split
    · exact .inr ⟨_, .inl rfl⟩
    · split
      · exact .inr ⟨_, .inr ⟨_, .inl rfl⟩⟩
      · exact .inr ⟨_, .inr ⟨_, .inr rfl⟩⟩

/-! ## The canonical form (R361, R376, R377) -/

section
variable {s : State} (canonical : s.memoryCanonical)
include canonical

theorem State.loadBytes_canonical {t : State} {a n : Nat} {l : List Byte} {bad : Bool} (loaded : s.loadBytes a n = some (t, l, bad)) :
    t.memoryCanonical := by
  unfold State.loadBytes at loaded
  split at loaded
  · obtain rfl : (s.readMem _ n).1 = t := congrArg Prod.fst (Option.some.inj loaded)
    exact State.readMem_canonical canonical ..
  · cases loaded

theorem exec_unmappedAccess_canonical {t : State} {a : Agent} {addr : Dword} {kind : Fin 3}
    (goesOn : exec (.unmappedAccess a addr kind) s = .next t) : t.memoryCanonical := by
  obtain rfl := left_of_row rfl goesOn
  refine State.fromAgent_canonical canonical ?_ a
  have outcome := State.unmappedOutcome_canonical canonical a addr.toNat kind
  have checked : (if s.agentMapped a addr.toNat 1 then s else s.unmappedOutcome a addr.toNat kind).memoryCanonical :=
    iteInduction (motive := State.memoryCanonical) (fun _ => canonical) (fun _ => outcome)
  cases s.region addr.toNat with
  | unmapped => exact outcome
  | host => exact checked
  | scratch => exact checked
  | hbm => exact checked
  | _ => exact canonical

theorem exec_scrubLine_canonical {t : State} {h sel : Fin 2} {stuck upset : Bool}
    (goesOn : exec (.scrubLine h sel stuck upset) s = .next t) : t.memoryCanonical := by
  obtain idle | ⟨x, skips | ⟨line, halts | visits⟩⟩ := exec_scrubLine_cases h sel stuck upset s
  · exact left_of_row idle goesOn ▸ canonical
  · exact left_of_row skips goesOn ▸ State.endPass_canonical (State.setScrubber_canonical canonical ..) ..
  · exact left_of_row halts goesOn ▸ State.haltScrub_canonical (State.setScrubber_canonical (State.visitLine_canonical canonical ..) ..) ..
  · exact left_of_row visits goesOn ▸ State.endPass_canonical (State.setScrubber_canonical (State.visitLine_canonical canonical ..) ..) ..

theorem State.enableScrub_canonical (h sel : Nat) (en : Bool) : (s.enableScrub h sel en).memoryCanonical := by
  have repaired : ((s.put (fEn h sel) en).repairPar h sel).memoryCanonical :=
    State.modScrubber_canonical ((Reported.setFld ..).canonical canonical) ..
  unfold State.enableScrub
  split
  · exact State.modScrubber_canonical repaired ..
  · exact repaired

theorem exec_hbmTrainingDone_canonical {t : State} {h : Fin 2} {good : Bool}
    (goesOn : exec (.hbmTrainingDone h good) s = .next t) : t.memoryCanonical := by
  have trained (v : Nat) : ((s.setFld F.CLK_STATUS_HBM_LOCK (putBits (s.fld F.CLK_STATUS_HBM_LOCK) h h 1)).setFld
      (F.MEM_HBM_STATUS_STATE h) v).memoryCanonical := ((Reported.setFld ..).trans (.setFld ..)).canonical canonical
  obtain rfl := left_of_row rfl goesOn
  split
  · exact canonical
  · split
    · exact trained 1
    · exact State.assertErr_canonical ((State.raise_reported ..).canonical (trained 2)) _

theorem exec_memoryFillDone_canonical {t : State} {h sel : Fin 2} (goesOn : exec (.memoryFillDone h sel) s = .next t) :
    t.memoryCanonical := by
  obtain rfl := left_of_row rfl goesOn
  split
  · exact canonical
  · exact (State.clearMem_canonical canonical .. : (s.clearMem (memBase h sel) (linesOf sel * 64)).memoryCanonical)

/-- A command whose effect leaves memory canonical is delivered so, whatever a check finds (R508). -/
theorem State.deliver_ok_canonical {c : Cmd} {effect : Req → State} (runs : ∀ r, c.run s r = ok (effect r))
    (kept : ∀ r, (effect r).memoryCanonical) (p : Packet) : (s.deliver c p).memoryCanonical :=
  State.deliver_canonical (fun r => (runs r).symm ▸ kept r) canonical p

theorem State.memClear_canonical (p : Packet) : (s.deliver cmdMemClear p).memoryCanonical :=
  State.deliver_ok_canonical canonical (fun _ => rfl)
    (fun _ => State.clearMem_canonical ((s.breakResv_cores ..).canonical canonical) ..) p

theorem State.memWrite_canonical (p : Packet) : (s.deliver cmdMemWrite p).memoryCanonical :=
  State.deliver_ok_canonical canonical (fun _ => rfl) (fun _ => State.storeBytes_canonical canonical ..) p

theorem State.memCopy_canonical (p : Packet) : (s.deliver cmdMemCopy p).memoryCanonical :=
  State.deliver_ok_canonical canonical (fun _ => rfl)
    (fun _ => State.copyBytes_canonical ((s.breakResv_cores ..).canonical canonical) ..) p

theorem State.memRead_canonical (p : Packet) : (s.deliver cmdMemRead p).memoryCanonical := by
  refine State.deliver_canonical (fun r => ?_) canonical p
  dsimp only [cmdMemRead]
  split
  · next t l bad loaded =>
    have read := State.loadBytes_canonical canonical loaded
    cases bad <;> exact read
  · exact canonical

/-- Every row of memory keeps memory canonical, where nothing waits to cross the causeway. -/
theorem exec_memoryRow_canonical {c : Instr} {t : State} (quiet : s.crossQuiet = true) (row : memoryRow c = true)
    (goesOn : exec c s = .next t) : t.memoryCanonical := by
  have access (a : Agent) (x : HeldAccess) : (s.fromAgent a (s.accessMem x)).memoryCanonical :=
    State.fromAgent_canonical canonical (State.accessMem_canonical quiet canonical x) a
  cases c with
  | unmappedAccess a addr kind => exact exec_unmappedAccess_canonical canonical goesOn
  | memoryRead a addr n => exact left_of_row rfl goesOn ▸ access a _
  | memoryPartialWrite a addr data => exact left_of_row rfl goesOn ▸ access a _
  | memoryFullWrite a addr data => exact left_of_row rfl goesOn ▸ access a _
  | scrubLine h sel stuck upset => exact exec_scrubLine_canonical canonical goesOn
  | scrubParityCheck h sel =>
    obtain rfl := left_of_row rfl goesOn
    split
    · exact State.haltScrub_canonical canonical ..
    · exact canonical
  | scrubRestart h sel => exact left_of_row rfl goesOn ▸ State.setFlds_canonical (State.modScrubber_canonical canonical ..) _
  | scrubEnable h sel en => exact left_of_row rfl goesOn ▸ State.enableScrub_canonical canonical ..
  | memInjectFlip h sel word bit => exact left_of_row rfl goesOn ▸ State.memInject_canonical canonical ..
  | memInjectFlipDouble h sel word bit => exact left_of_row rfl goesOn ▸ State.memInject_canonical canonical ..
  | memInjectSkipLine h sel => exact left_of_row rfl goesOn ▸ State.memInject_canonical canonical ..
  | memInjectParFlip h sel => exact left_of_row rfl goesOn ▸ State.memInject_canonical canonical ..
  | memEccCeClear h => exact left_of_row rfl goesOn ▸ State.setFlds_canonical canonical _
  | hbmTrainingDone h good => exact exec_hbmTrainingDone_canonical canonical goesOn
  | memoryFillDone h sel => exact exec_memoryFillDone_canonical canonical goesOn
  | memClear p => exact left_of_row rfl goesOn ▸ State.memClear_canonical canonical p
  | memRead p => exact left_of_row rfl goesOn ▸ State.memRead_canonical canonical p
  | memWrite p => exact left_of_row rfl goesOn ▸ State.memWrite_canonical canonical p
  | memCopy p => exact left_of_row rfl goesOn ▸ State.memCopy_canonical canonical p
  | _ => cases row

end

/-- Settles O52: a step takes the row at the front of the queue, and taking it moves no memory and nothing at the causeway. -/
theorem memoryStaysCanonical : Obligations.MemoryStaysCanonical := by
  intro s t c canonical quiet front row steps
  obtain ⟨rest, queue⟩ := List.head?_eq_some_iff.mp front
  have taken : step s = exec c { s with pending := rest } := by unfold step; rw [queue]
  exact exec_memoryRow_canonical (s := { s with pending := rest }) canonical quiet row (taken.symm.trans steps)

/-! ## What the rows of memory leave unchanged -/

/-- What touches memory alone leaves the fabric, the schedulers and the commands that wait. -/
theorem MemTouched.leaves {s t : State} (touched : MemTouched s t) : t.queues = s.queues ∧ t.rakes = s.rakes ∧ t.grains = s.grains ∧
    t.chans = s.chans ∧ t.pans = s.pans ∧ t.graphs = s.graphs ∧ t.nodes = s.nodes ∧ t.pending = s.pending := by
  rw [touched]
  exact ⟨rfl, rfl, rfl, rfl, rfl, rfl, rfl, rfl⟩

theorem MemTouched.setScrubber (s : State) (k : Nat) (x : Scrubber) : MemTouched s (s.setScrubber k x) := rfl

/-- A scrubber's visit touches no more than memory, and no byte of it (R378). -/
theorem exec_scrubLine_touched {s t : State} {h sel : Fin 2} {stuck upset : Bool}
    (goesOn : exec (.scrubLine h sel stuck upset) s = .next t) : MemTouched s t ∧ t.mem = s.mem := by
  have visited (x : Scrubber) (line : Nat) : MemTouched s ((s.visitLine h sel line).setScrubber (scrubKey h sel) x) :=
    (MemTouched.visitLine ..).trans (.setScrubber ..)
  have same (x : Scrubber) (line : Nat) : ((s.visitLine h sel line).setScrubber (scrubKey h sel) x).mem = s.mem :=
    (State.setScrubber_mem ..).trans (State.visitLine_mem ..)
  obtain idle | ⟨x, skips | ⟨line, halts | visits⟩⟩ := exec_scrubLine_cases h sel stuck upset s
  · exact left_of_row idle goesOn ▸ ⟨.refl s, rfl⟩
  · exact left_of_row skips goesOn ▸ ⟨(MemTouched.setScrubber ..).trans (.endPass ..), (State.endPass_mem ..).trans (State.setScrubber_mem ..)⟩
  · exact left_of_row halts goesOn ▸ ⟨(visited x line).trans (.haltScrub ..), (State.haltScrub_mem ..).trans (same x line)⟩
  · exact left_of_row visits goesOn ▸ ⟨(visited x line).trans (.endPass ..), (State.endPass_mem ..).trans (same x line)⟩

/-- Settles O57: an access touches no more than memory and stores only at its key; scrubbers and injections leave every byte. -/
theorem frameMemory : Obligations.FrameMemory := by
  refine ⟨?partialWrite, ?fullWrite, ?read, ?scrub, ?flip, ?flipDouble⟩
  case partialWrite =>
    intro a addr data s t quiet goesOn
    obtain rfl := left_of_row rfl goesOn
    exact ⟨fun k outside => State.byteAt_fromAgent (State.byteAt_accessMem_other quiet _ data rfl k outside) a,
      ((State.accessMem_touched quiet _).fromAgent a).leaves⟩
  case fullWrite =>
    intro a addr data s t quiet goesOn
    obtain rfl := left_of_row rfl goesOn
    exact ⟨fun k outside => State.byteAt_fromAgent (State.byteAt_accessMem_other quiet _ (leBytes 8 data.toNat) rfl k outside) a,
      ((State.accessMem_touched quiet _).fromAgent a).leaves⟩
  case read =>
    intro a addr n s t quiet goesOn
    obtain rfl := left_of_row rfl goesOn
    exact ⟨fun k => State.byteAt_fromAgent (State.byteAt_of_mem (State.accessMem_read_mem quiet _ rfl) k) a,
      ((State.accessMem_touched quiet _).fromAgent a).leaves⟩
  case scrub =>
    intro h sel stuck upset s t goesOn
    obtain ⟨touched, same⟩ := exec_scrubLine_touched goesOn
    exact ⟨State.byteAt_of_mem same, touched.leaves⟩
  case flip =>
    intro h sel word bit s t goesOn
    obtain rfl := left_of_row rfl goesOn
    exact ⟨State.byteAt_of_mem (State.memInject_mem ..), (MemTouched.memInject ..).leaves⟩
  case flipDouble =>
    intro h sel word bit s t goesOn
    obtain rfl := left_of_row rfl goesOn
    exact ⟨State.byteAt_of_mem (State.memInject_mem ..), (MemTouched.memInject ..).leaves⟩

/-! ## Reads and writes (R361, R362, R376, R377) -/

/-- An access where no copy of the scratch is under way is served (R367). -/
theorem State.access_served {s : State} {x : HeldAccess} (free : s.scratchHeld x.addr = false) : s.access x = s.serve x :=
  if_neg (ne_true_of_eq_false free)

/-- An access that enters the half of its memory is served there. -/
theorem State.accessMem_served {s : State} {x : HeldAccess} {g o : Nat} (memory : s.region x.addr = .hbm g o ∨ s.region x.addr = .scratch g o)
    (enters : s.mayEnter (agentHalf x.agent) g = true) (free : (s.entering (agentHalf x.agent) g).scratchHeld x.addr = false) :
    s.accessMem x = (s.entering (agentHalf x.agent) g).serve x :=
  (State.accessMem_enter memory enters).trans (State.access_served free)

section
variable {s : State} {a : Agent} {addr : Nat}

section
variable {n : Nat}

/-- A read of what is not mapped for its agent has the unmapped outcome alone. -/
theorem State.serve_read_unmapped (unmapped : s.agentMapped a addr n = false) :
    s.serve { agent := a, addr := addr, write := none, n := n } = s.unmappedOutcome a addr 0 := by
  simp [State.serve, unmapped]

section
variable {t : State} {l : List Byte} {bad : Bool} (mapped : s.agentMapped a addr n = true) (loaded : s.loadBytes addr n = some (t, l, bad))
include mapped loaded

/-- An agent that is no link, and no core that reads bytes which fail, gets its bytes and the mark of their poison. -/
theorem State.serve_read_plain (notLink : ∀ k, a ≠ .link k) (good : (∀ k, a ≠ .core k) ∨ bad = false) :
    s.serve { agent := a, addr := addr, write := none, n := n } = t.reply (.bytes l bad) := by
  cases a with
  | link k => exact absurd rfl (notLink k)
  | core k =>
    have sound : bad = false := good.resolve_left fun notCore => notCore k rfl
    simp [State.serve, mapped, loaded, sound]
  | _ => simp [State.serve, mapped, loaded]

end

end

/-- A write of what its agent reaches stores its bytes. -/
theorem State.serve_write {b : List Byte} (mapped : s.agentMapped a addr b.length = true) :
    s.serve { agent := a, addr := addr, write := some b } = (s.storeBytes addr b).reply .done := by
  simp [State.serve, State.hostStore, mapped]

end

section
variable {s t : State} {k : Fin 16} {addr n : Nat} {l : List Byte}

/-- A link gets its bytes as a data response (R429). -/
theorem State.serve_read_link {bad : Bool} (mapped : s.agentMapped (.link k) addr n = true)
    (loaded : s.loadBytes addr n = some (t, l, bad)) :
    s.serve { agent := .link k, addr := addr, write := none, n := n } = t.respond k l bad := by
  simp [State.serve, mapped, loaded]

/-- A live core that reads bytes which fail traps (R377). -/
theorem State.serve_read_core_fails (mapped : s.agentMapped (.core k) addr n = true)
    (loaded : s.loadBytes addr n = some (t, l, true)) (live : (t.core k).live = true) :
    s.serve { agent := .core k, addr := addr, write := none, n := n } = (t.poisonTrap k addr).reply (.bytes l true) := by
  simp [State.serve, mapped, loaded, live]

end

/-- A row that makes an access of an agent that is awake comes to what its access comes to. -/
theorem next_accessMem {s t : State} {a : Agent} {x : HeldAccess} (awake : s.asleep a = false) (made : s.accessMem x = t) :
    (.next (s.fromAgent a (s.accessMem x)) : Out) = .next t := by
  rw [State.fromAgent_awake awake, made]

/-- Settles O12: an access reaches the half of its memory and is served there, by what its agent is and what the bytes read as. -/
theorem memoryAccesses : Obligations.MemoryAccesses := by
  refine ⟨?read, ?readLink, ?readCore, ?readUnmapped, ?partialWrite, ?fullWrite, ?unmapped⟩
  case read =>
    intro a addr n t l bad g o s awake memory enters free mapped loaded notLink good
    exact next_accessMem awake ((State.accessMem_served memory enters free).trans (State.serve_read_plain mapped loaded notLink good))
  case readLink =>
    intro k addr n t l bad g o s awake memory enters free mapped loaded
    exact next_accessMem awake ((State.accessMem_served memory enters free).trans (State.serve_read_link mapped loaded))
  case readCore =>
    intro k addr n t l g o s memory enters free mapped loaded live
    exact next_accessMem rfl ((State.accessMem_served memory enters free).trans (State.serve_read_core_fails mapped loaded live))
  case readUnmapped =>
    intro a addr n s awake outside free unmapped
    exact next_accessMem awake
      ((State.accessMem_direct outside).trans ((State.access_served free).trans (State.serve_read_unmapped unmapped)))
  case partialWrite =>
    intro a addr data g o s awake memory enters free mapped
    exact next_accessMem awake ((State.accessMem_served memory enters free).trans (State.serve_write mapped))
  case fullWrite =>
    intro a addr data g o s awake memory enters free mapped
    exact next_accessMem awake ((State.accessMem_served memory enters free).trans (State.serve_write mapped))
  case unmapped =>
    intro a addr kind s awake nowhere
    simp only [exec_unmappedAccess, execUnmappedAccess, State.fromAgent_awake awake, nowhere]

/-! ## Scrubbers, injections and the start of the memories (R371 to R390) -/

/-- A scrubber that runs visits its line; it halts where the verify read finds an error in a line that it corrected, and else goes on. -/
theorem exec_scrubLine_visits {h sel : Fin 2} {stuck upset : Bool} {s : State} (runs : s.scrubHalted h sel = false)
    (started : s.scrubStopped h sel = false) (ready : s.memReady h sel = true) (stays : (s.scrubber (scrubKey h sel)).skip = false)
    {x : Scrubber} (walk : s.scrubber (scrubKey h sel) = x) {t : State}
    (visited : (s.visitLine h sel x.line).setScrubber (scrubKey h sel)
      { x with line := x.line + 1, visited := x.visited + 1, sum := (x.sum + x.line) % 2 ^ 32 } = t) :
    exec (.scrubLine h sel stuck upset) s =
      .next (if stuck && s.lineCorrects h sel x.line then t.haltScrub h sel 3 else t.endPass h sel upset) := by
  subst walk visited
  simp [exec_scrubLine, execScrubLine, runs, started, ready, stays]

/-- Settles O13: each clause is one form of its row. -/
theorem memoryUpkeep : Obligations.MemoryUpkeep := by
  refine ⟨?visits, ?halts, ?parity, fun _ _ _ => rfl, fun _ _ _ => rfl, fun _ _ _ => rfl, ?flip, ?flipDouble, ?skipLine, ?parFlip,
    fun _ _ => rfl, ?trained, ?failed, ?filled⟩
  case visits =>
    intro h sel upset s runs started ready stays
    rw [exec_scrubLine_visits runs started ready stays rfl rfl]
    rfl
  case halts =>
    intro h sel upset s runs started ready stays corrects
    rw [exec_scrubLine_visits runs started ready stays rfl rfl, corrects]
    rfl
  case parity => exact fun h sel s upset runs => congrArg Host.Outcome.next (if_pos (by simp [upset, runs]))
  case flip => exact fun h sel word bit s accepted => congrArg Host.Outcome.next (if_neg (ne_true_of_eq_false accepted))
  case flipDouble => exact fun h sel word bit s accepted => congrArg Host.Outcome.next (if_neg (ne_true_of_eq_false accepted))
  case skipLine => exact fun h sel s accepted => congrArg Host.Outcome.next (if_neg (ne_true_of_eq_false accepted))
  case parFlip => exact fun h sel s accepted => congrArg Host.Outcome.next (if_neg (ne_true_of_eq_false accepted))
  case trained => exact fun h s training => congrArg Host.Outcome.next (if_neg (not_not_intro training))
  case failed => exact fun h s training => congrArg Host.Outcome.next (if_neg (not_not_intro training))
  case filled => exact fun h sel s filling ready => congrArg Host.Outcome.next (if_neg (by simp [filling, ready]))

/-! ## Upkeep of the coherence engines (R367, R441, R464 to R471) -/

section
variable {s : State} {h : Nat}

/-- A flush whose drain time is over drops what the host owes and ends with the lines that are left (R464). -/
theorem State.abortFlush_flushing {f : FlushJob} (flushing : (s.coh h).flush = some f) :
    s.abortFlush h = ((s.dropHost h).endFlush h f (s.dirtyLines h).length).retryInput h := by
  simp only [State.abortFlush, flushing]

/-- A table whose engine waits to become quiet is given up (R466). -/
theorem State.giveUpTable_quiescing (quiescing : s.quiescing h = true) :
    s.giveUpTable h = (s.setFld (F.COH_STATUS_LOADING h) 0).takeInput h := if_pos quiescing

end

/-- A table switches where its engine is quiet (R466). -/
theorem exec_cohTableSwitch_quiet {s : State} {h : Fin 2} {j : TableJob} (loads : (s.coh h).load = some j) (quiet : s.engineQuiet h = true) :
    exec (.cohTableSwitch h) s = .next (s.switchTable h j) := by
  change execCohTableSwitch h s = _
  simp only [execCohTableSwitch, loads, if_pos quiet]

/-- Settles O24: each clause is one form of its row; an injection of another kind than the first two is refused. -/
theorem coherenceUpkeep : Obligations.CoherenceUpkeep := by
  refine ⟨fun _ _ => rfl, ?warm, ?flush, fun _ _ _ => exec_cohTableSwitch_quiet, ?giveUp, ?injected, ?refused, fun _ _ => rfl,
    fun _ _ => rfl⟩
  case warm => exact fun h s runs => congrArg Host.Outcome.next (if_pos runs)
  case flush => exact fun h f s flushing => congrArg Host.Outcome.next (State.abortFlush_flushing flushing)
  case giveUp =>
    intro h s quiescing active
    rw [← State.giveUpTable_quiescing quiescing]
    exact congrArg Host.Outcome.next (if_pos (by simp [quiescing, active]))
  case injected => exact fun h kind s report => congrArg Host.Outcome.next (if_neg (Nat.not_le.mpr report))
  case refused => exact fun h kind s other => congrArg Host.Outcome.next (if_pos other)

end Sys2Proof.Machine
end

section
/-! PROOFS. What the links of the coherent ports do (R393 to R396, R411, R420 to R431), the host's accesses of memory and mailboxes (R401 to
R409, R416), the CXL primary mailbox (R400), and the statements about them. -/

namespace Sys2Proof.Machine

/-! ## Flits (R395, R429) -/

/-- Link l has taken a flit: its injections are used and it leaves L1 (R395, R397). -/
def State.flitTaken (s : State) (l : Nat) : State :=
  s.modHostLink l fun y => { y with armFec := false, armCrc := false, config := { y.config with power := if y.config.power = .l0p then .l0p else .l0 } }

/-- A link that was armed shows that its injection is used (R429). -/
def State.flitShown (s : State) (l : Nat) : State :=
  if (s.hostLink l).armFec || (s.hostLink l).armCrc then (s.flitTaken l).portInjectBit l else s.flitTaken l

section
variable {s : State} {l : Fin 16} {fec crc : Bool} (up : s.linkUp l = true) (framed : s.fld (F.LINK_STATUS_FRAMING (l / 4) (l % 4)) ≠ 0)
include up framed

/-- A flit whose CRC fails, by itself or by an injection, is counted and waits for its replay (R395). -/
theorem exec_flitReceive_fails (fails : (crc || (s.hostLink l).armCrc) = true) :
    exec (.flitReceive l fec crc) s = .next ((s.flitShown l).crcFailure l (s.hostLink l).armCrc) :=
  congrArg Host.Outcome.next ((if_neg (by simp [up, framed])).trans (if_pos fails))

/-- A good flit leaves the replay, and a corrected one is counted (R395). -/
theorem exec_flitReceive_good (good : (crc || (s.hostLink l).armCrc) = false) :
    exec (.flitReceive l fec crc) s = .next (if fec || (s.hostLink l).armFec then
      ((s.flitShown l).modHostLink l fun y => { y with replay := y.replay - 1 }).count (F.LINK_FEC_COUNT (l / 4) (l % 4)) none
      else (s.flitShown l).modHostLink l fun y => { y with replay := y.replay - 1 }) :=
  congrArg Host.Outcome.next ((if_neg (by simp [up, framed])).trans (if_neg (ne_true_of_eq_false good)))

end

section
variable {s : State} {l : Nat}

theorem State.flitShown_armed (armed : ((s.hostLink l).armFec || (s.hostLink l).armCrc) = true) :
    s.flitShown l = (s.flitTaken l).portInjectBit l := if_pos armed

theorem State.flitShown_unarmed (fec : (s.hostLink l).armFec = false) (crc : (s.hostLink l).armCrc = false) :
    s.flitShown l = s.flitTaken l := if_neg (by simp [fec, crc])

end

/-! ## Injections (R429) -/

/-- What a write of INJECT shows before it acts (R429). -/
def State.injectShown (s : State) (p k kind : Nat) : State :=
  (s.setFlds [(F.PORT_INJECT_INJ_KIND p, kind), (F.PORT_INJECT_INJ_LINK p, k)]).portInjectBit (4 * p + k)

/-- An injection of one of the four kinds acts on a link that is up, and framed where it is of a flit (R429). -/
theorem State.portInject_acts {s : State} {p k kind : Nat} (up : s.linkUp (4 * p + k) = true) (known : kind < 4)
    (framed : kind ≤ 1 → s.fld (F.LINK_STATUS_FRAMING p k) ≠ 0) :
    s.portInject p k kind = (match kind with
      | 0 => ((s.injectShown p k 0).modHostLink (4 * p + k) fun x => { x with armFec := true }).portInjectBit (4 * p + k)
      | 1 => ((s.injectShown p k 1).modHostLink (4 * p + k) fun x => { x with armCrc := true }).portInjectBit (4 * p + k)
      | 2 => (s.injectShown p k 2).portReport (4 * p + k) ERROR 3 0 true
      | n => ((s.injectShown p k n).modHostLink (4 * p + k) fun x => { x with armPoison := true }).portInjectBit (4 * p + k)) := by
  have accepted : (!s.linkUp (4 * p + k) || (decide (kind ≤ 1) && s.fld (F.LINK_STATUS_FRAMING p k) == 0) || decide (4 ≤ kind)) = false := by
    simpa [up, known] using framed
  refine (if_neg (ne_true_of_eq_false accepted)).trans ?_
  match kind, known with
  | 0, _ | 1, _ | 2, _ | 3, _ => rfl

/-! ## The statements -/

/-- Settles O17: each clause is one form of its row. -/
theorem linkEvents : Obligations.LinkEvents := by
  refine ⟨?failed, ?injected, ?injectedFec, ?good, ?corrected, ?rollover, ?rolloverDown, ?holdEnds, ?lost, ?reset, ?drained, ?stream, ?stale,
    ?injectFec, ?injectCrc, ?injectReplay, ?injectPoison, fun _ _ => rfl⟩
  case failed =>
    intro l fec s up framed crc noFec
    rw [exec_flitReceive_fails up framed rfl, State.flitShown_unarmed noFec crc, crc]
    rfl
  case injected =>
    intro l fec crc s up framed armed
    rw [exec_flitReceive_fails up framed (by simp [armed]), State.flitShown_armed (by simp [armed]), armed]
    rfl
  case injectedFec =>
    intro l fec s up framed crc armed
    rw [exec_flitReceive_good up framed (by simp [crc]), State.flitShown_armed (by simp [armed]), if_pos (by simp [armed])]
    rfl
  case good =>
    intro l s up framed crc noFec
    rw [exec_flitReceive_good up framed (by simp [crc]), State.flitShown_unarmed noFec crc, if_neg (by simp [noFec])]
    rfl
  case corrected =>
    intro l s up framed crc noFec
    rw [exec_flitReceive_good up framed (by simp [crc]), State.flitShown_unarmed noFec crc, if_pos (Bool.true_or _)]
    rfl
  case rollover =>
    exact fun l s up few => congrArg Host.Outcome.next ((if_neg (by simp [up])).trans (if_neg (Nat.not_le.mpr few)))
  case rolloverDown =>
    exact fun l s up four => congrArg Host.Outcome.next ((if_neg (by simp [up])).trans (if_pos four))
  case holdEnds => exact fun l s hold => congrArg Host.Outcome.next (if_pos hold)
  case lost => exact fun l s up => congrArg Host.Outcome.next (if_pos up)
  case reset => exact fun l s there cold runs => congrArg Host.Outcome.next (if_neg (by simp [there, cold, runs]))
  case drained => exact fun l s drains => congrArg Host.Outcome.next (if_pos drains)
  case stream => exact fun l stream s secure => congrArg Host.Outcome.next (if_pos secure)
  case stale => exact fun l requester xid s mine => congrArg Host.Outcome.next (if_pos mine)
  case injectFec => exact fun p l s up framed => congrArg Host.Outcome.next (State.portInject_acts up (by decide) fun _ => framed)
  case injectCrc => exact fun p l s up framed => congrArg Host.Outcome.next (State.portInject_acts up (by decide) fun _ => framed)
  case injectReplay => exact fun p l s up => congrArg Host.Outcome.next (State.portInject_acts up (by decide) (by simp))
  case injectPoison => exact fun p l s up => congrArg Host.Outcome.next (State.portInject_acts up (by decide) (by simp))

/-- Settles O18: with the full width and a rate of 16 GT/s or more nothing is reduced, and a link of personality PCIe negotiates no CXL. -/
theorem linkTraining : Obligations.LinkTraining := by
  intro l rate width framing s training there pcie fast allowed wide memOn noViral
  have fullWidth : min (2 ^ width.val) (s.lanesOf l) = s.lanesOf l := Nat.min_eq_right wide
  have fullRate : ¬ (rate.val ≤ 1 ∨ s.maxRate (l / 4) ≤ 1) := by omega
  have noViral' (fs : List (Fld × Nat)) : ((s.setFlds fs).hostLink l).viral = false := by
    rw [State.hostLink, State.setFlds_hostLinks]
    exact noViral
  change execLinkTrainingDone l rate width framing false s = _
  simp [execLinkTrainingDone, training, there, pcie, memOn, fullWidth, fullRate, noViral', bnat]

/-! ## The host's accesses (R401, R402, R404, R409, R416) -/

section
variable {s : State} {l : Fin 16} {poison : Bool}

/-- A request at an HDM-H range of a link that serves CXL.mem is an access to the range's stack (R404). -/
theorem exec_cxlMemRequest_stack {dpa : Dword} {write : Option (BitVec 512)} {e : Extent} (awake : s.asleep (.link l) = false)
    (cxl : s.cxlLink l = true) (taken : s.turnedAway l = false) (memOn : (s.hostLink l).memOff = false)
    (stream : bitOf (s.hostLink l).refusing 5 = false) (extent : s.extentFor l (dpa.toNat / 64 * 64) = some e) (kind : e.kind = 0)
    (reach : s.reaches (l / 8) (HBM_BASE e.half + e.off + (dpa.toNat / 64 * 64 - e.dpa)) 64 = true) :
    exec (.cxlMemRequest l dpa write poison) s = .next (s.accessMem
      { agent := .link l, addr := HBM_BASE e.half + e.off + (dpa.toNat / 64 * 64 - e.dpa), write := write.map fun d => leBytes 64 d.toNat, n := 64,
        poison := poison }) := by
  change execCxlMemRequest l dpa write poison s = _
  simp only [execCxlMemRequest, State.fromAgent_awake awake, cxl, taken, memOn, stream, extent, kind, reach]
  rfl

/-- An access through BAR2 is an access to the scratch regions (R402). -/
theorem exec_bar2Access_scratch {off : BitVec 25} {write : Option (List Byte)} {n : Byte} (awake : s.asleep (.link l) = false)
    (up : s.linkUp l = true) (taken : s.turnedAway l = false) : exec (.bar2Access l off write n poison) s =
      .next (s.accessMem { agent := .link l, addr := bar2Addr off.toNat, write := write, n := n.toNat, poison := poison }) := by
  change execBar2Access l off write n poison s = _
  simp only [execBar2Access, State.fromAgent_awake awake, up, taken]
  rfl

end

section
variable {s : State} {x : HeldAccess}

/-- A write of what its agent reaches stores its bytes, with their poison (R408). -/
theorem State.serve_store {b : List Byte} (writes : x.write = some b) (mapped : s.agentMapped x.agent x.addr b.length = true) :
    s.serve x = s.hostStore x.addr b x.poison := by
  simp [State.serve, writes, mapped]

/-- A read of a link gets its bytes as a data response (R429). -/
theorem State.serve_respond {t : State} {l : List Byte} {bad : Bool} {k : Fin 16} (reads : x.write = none) (agent : x.agent = .link k)
    (mapped : s.agentMapped x.agent x.addr x.n = true) (loaded : s.loadBytes x.addr x.n = some (t, l, bad)) :
    s.serve x = t.respond k l bad := by
  rw [agent] at mapped
  simp only [State.serve, reads, agent, if_pos mapped, loaded]

end

section
variable {s : State} {l : Fin 16} {a : Agent} {slot : Fin 32} {off : Fin 128} {data : List Byte}

/-- A write to a mailbox slot by an agent that reaches it is refused while the slot is busy (R416). -/
theorem exec_mailboxSlotWrite_reached (awake : s.asleep a = false) (there : s.linkExists l = true) (reached : reachesMailbox l a = true) :
    exec (.mailboxSlotWrite l a slot off data) s = .next (if bitOf (s.reg (R.MBX_BUSY (l / 4) (l % 4))).toNat slot then
      (s.setFld (F.MBX_STATUS_WRITE_REFUSED (l / 4) (l % 4)) 1).misuse a 7 (slotAddr l slot off)
      else s.setSlot l slot off (data.take (128 - off))) := by
  change execMailboxSlotWrite l a slot off data s = _
  simp only [execMailboxSlotWrite, State.fromAgent_awake awake, there, reached]
  rfl

end

/-- Settles O19: an access enters the half of its memory and is served there; the others are one form of their row. -/
theorem hostAccesses : Obligations.HostAccesses := by
  refine ⟨?cxlWrite, ?cxlRead, ?bar2Write, ?bar2Read, ?bar0, ?timeoutCore, fun _ _ _ _ => rfl, ?slotFree, ?slotBusy⟩
  case cxlWrite =>
    intro l dpa d poison e g x s awake memory enters cxl taken memOn stream extent kind reach free mapped
    rw [exec_cxlMemRequest_stack awake cxl taken memOn stream extent kind reach, State.accessMem_served memory enters free]
    exact congrArg Host.Outcome.next (State.serve_store rfl mapped)
  case cxlRead =>
    intro l dpa poison e t b bad g x s awake memory enters cxl taken memOn stream extent kind reach free mapped loaded
    rw [exec_cxlMemRequest_stack awake cxl taken memOn stream extent kind reach, State.accessMem_served memory enters free]
    exact congrArg Host.Outcome.next (State.serve_respond rfl rfl mapped loaded)
  case bar2Write =>
    intro l off b n poison g x s awake memory enters up taken free mapped
    rw [exec_bar2Access_scratch awake up taken, State.accessMem_served memory enters free]
    exact congrArg Host.Outcome.next (State.serve_store rfl mapped)
  case bar2Read =>
    intro l off n poison t b bad g x s awake memory enters up taken free mapped loaded
    rw [exec_bar2Access_scratch awake up taken, State.accessMem_served memory enters free]
    exact congrArg Host.Outcome.next (State.serve_respond rfl rfl mapped loaded)
  case bar0 =>
    intro l off write s awake empty
    exact congrArg Host.Outcome.next ((State.fromAgent_awake awake _).trans (if_neg (ne_true_of_eq_false empty)))
  case timeoutCore =>
    exact fun l k addr s live => congrArg (fun t : State => Host.Outcome.next (t.reply .abort)) (if_pos live)
  case slotFree =>
    intro l a slot off data s awake there reached free
    rw [exec_mailboxSlotWrite_reached awake there reached, if_neg (ne_true_of_eq_false free)]
  case slotBusy =>
    intro l a slot off data s awake there reached busy
    rw [exec_mailboxSlotWrite_reached awake there reached, if_pos busy]

/-! ## The CXL primary mailbox (R400, R401) -/

/-- A command of a link that is up with a primary mailbox is answered (State.cxlCmd, written out: each row's own function stands in it). -/
theorem next_cxlCmd {s : State} {l : Fin 16} (awake : s.asleep (.link l) = false) (up : s.linkUp l = true) (cxl : s.personality l ≠ 0)
    {t u : State} (answer : t = u) : (.next (s.fromAgent (.link l) (if s.linkUp l && s.personality l ≠ 0 then t else s)) : Out) = .next u := by
  rw [State.fromAgent_awake awake, if_pos (by simp [up, cxl]), answer]

/-- Settles O20: each row is a command of the primary mailbox, and its answer is the row's own. -/
theorem cxlMailbox : Obligations.CxlMailbox := by
  refine ⟨fun _ _ awake up cxl => next_cxlCmd awake up cxl rfl, fun _ _ awake up cxl => next_cxlCmd awake up cxl rfl,
    fun _ _ awake up cxl => next_cxlCmd awake up cxl rfl, ?getLog, fun _ _ _ awake up cxl => next_cxlCmd awake up cxl rfl,
    fun _ _ _ _ awake up cxl => next_cxlCmd awake up cxl rfl, fun _ _ _ _ awake up cxl => next_cxlCmd awake up cxl rfl,
    fun _ _ awake up cxl => next_cxlCmd awake up cxl rfl, fun _ _ awake up cxl => next_cxlCmd awake up cxl rfl,
    fun _ _ _ awake up cxl => next_cxlCmd awake up cxl rfl, ?unsupported⟩
  case getLog =>
    intro l log offset len s awake up cxl known within
    exact next_cxlCmd awake up cxl ((if_neg (not_not_intro known)).trans (if_neg (Nat.not_lt.mpr within)))
  case unsupported =>
    intro l opcode s awake up cxl unknown
    exact next_cxlCmd awake up cxl (if_neg (ne_true_of_eq_false unknown))

end Sys2Proof.Machine
end

section
/-! PROOFS. How requests reach the engine and role of their line (R404, R437, R453 to R456), how responses reach the transaction that waits
for them (R443, R447, R449), what the host says to a caching agent (R436, R450), and the statements about them. -/

namespace Sys2Proof.Machine

/-! ## Requests (R437, R454) -/

section
variable {s : State} {c ev line : Nat}

/-- A line that the L2 holds or has asked for needs no room. -/
theorem State.coreFetch_known (known : ((s.core c).holds line != 0 || (s.core c).fills.contains line) = true) :
    s.coreFetch c ev line = s.coreAsks c ev line none := by
  refine if_pos ?_
  simp only [Bool.or_eq_true, bne_iff_ne, decide_eq_true_eq] at known ⊢
  exact known.elim (fun holds => .inl (.inr holds)) .inr

/-- A line that the L2 has room for is asked for (R322). -/
theorem State.coreFetch_room (served : (s.engineOf (c / 8) line).isSome = true) (away : (s.core c).holds line = 0)
    (unasked : (s.core c).fills.contains line = false) (room : ((s.core c).l2Held line).length + ((s.core c).l2Asked line).length < cacheWays 2) :
    s.coreFetch c ev line = (s.modCore c fun x => { x with fills := x.fills ++ [line] }).coreAsks c ev line none := by
  have served' : (s.engineOf (c / 8) line).isNone = false := by simpa [Option.isSome_iff_ne_none] using served
  have free : decide (cacheWays 2 ≤ ((s.core c).l2Held line).length + ((s.core c).l2Asked line).length) = false := by simpa using room
  simp only [State.coreFetch, served', away, unasked, free]
  rfl

/-- A request of a scheduler engine or a controller that may enter is taken by the engine of its line (R437). -/
theorem State.agentAsks_enter {g h role : Nat} {mgmt : Bool} {d : Option (BitVec 512)} (engine : s.engineOf g line = some (h, role))
    (enters : s.mayEnter g h = true)
    (taken : g = h ∨ s.inputHolds h { role := role, ev := ev, line := line, who := 32 + bnat mgmt, data := d } = false) :
    s.agentAsks g mgmt ev line d =
      ((s.entering g h).cohRequest h { role := role, ev := ev, line := line, who := 32 + bnat mgmt, data := d }).cohSettle h := by
  simp [State.agentAsks, engine, State.cohReq_enter enters taken]

section
variable {l : Fin 16} {d : Option (BitVec 512)} (awake : s.asleep (.link l) = false) (stream : bitOf (s.hostLink l).refusing 5 = false)
  (serves : s.linkServes l = true) (memOn : (s.hostLink l).memOff = false) (unfenced : s.on (F.LINK_STATUS_FENCED (l / 4) (l % 4)) = false)
include awake stream serves memOn unfenced

/-- A request of a link that serves CXL.mem, at a line that an extent of the link exposes, is taken by the home agent of its half (R404). -/
theorem State.hostAsks_enter {h : Nat} (exposed : s.exposedBy l line = some h) (enters : s.mayEnter (l / 8) h = true)
    (taken : l / 8 = h ∨ s.inputHolds h { role := 0, ev := ev, line := line, who := 16 + l, data := d } = false) :
    s.hostAsks l ev line d =
      ((s.entering (l / 8) h).cohRequest h { role := 0, ev := ev, line := line, who := 16 + l, data := d }).cohSettle h := by
  simp [State.hostAsks, awake, stream, serves, memOn, unfenced, exposed, State.cohReq_enter enters taken]

/-- At a line that no extent exposes it is class address misuse (R404). -/
theorem State.hostAsks_unexposed (unexposed : s.exposedBy l line = none) : s.hostAsks l ev line d =
    (s.misuse (.link l) 4 (lineAddr line)).reply (if d.isNone then .bytes (List.replicate 64 0) true else .done) := by
  simp [State.hostAsks, awake, stream, serves, memOn, unfenced, unexposed]

end

end

/-- Settles O21: a request that enters is taken by its engine, after the core's cache has made its change. -/
theorem coherenceRequests : Obligations.CoherenceRequests := by
  refine ⟨?rdKnown, ?rdRoom, ?ownKnown, ?ownRoom, ?wb, ?evict, ?agentRd, ?agentWr, ?hostRd, ?hostOwn, ?hostCur, ?hostWr, ?hostInv,
    ?unexposed, ?biconflict⟩
  case rdKnown =>
    intro k line h role s known local' engine enters taken
    exact congrArg Host.Outcome.next ((State.coreFetch_known known).trans (State.coreAsks_enter local' engine enters taken))
  case rdRoom =>
    intro k line h role s served away unasked room local' engine enters taken
    exact congrArg Host.Outcome.next
      ((State.coreFetch_room served away unasked room).trans (State.coreAsks_enter local' engine enters taken))
  case ownKnown =>
    intro k line h role s known local' engine enters taken
    exact congrArg Host.Outcome.next ((State.coreFetch_known known).trans (State.coreAsks_enter local' engine enters taken))
  case ownRoom =>
    intro k line h role s served away unasked room local' engine enters taken
    exact congrArg Host.Outcome.next
      ((State.coreFetch_room served away unasked room).trans (State.coreAsks_enter local' engine enters taken))
  case wb =>
    exact fun k line data h role s local' engine enters taken =>
      congrArg Host.Outcome.next (State.coreAsks_enter local' engine enters taken)
  case evict =>
    exact fun k line h role s local' engine enters taken => congrArg Host.Outcome.next (State.coreAsks_enter local' engine enters taken)
  case agentRd => exact fun g mgmt line h role s engine enters taken => congrArg Host.Outcome.next (State.agentAsks_enter engine enters taken)
  case agentWr =>
    exact fun g mgmt line data h role s engine enters taken => congrArg Host.Outcome.next (State.agentAsks_enter engine enters taken)
  case hostRd =>
    exact fun l line h s awake stream serves memOn unfenced exposed enters taken =>
      congrArg Host.Outcome.next (State.hostAsks_enter awake stream serves memOn unfenced exposed enters taken)
  case hostOwn =>
    exact fun l line h s awake stream serves memOn unfenced exposed enters taken =>
      congrArg Host.Outcome.next (State.hostAsks_enter awake stream serves memOn unfenced exposed enters taken)
  case hostCur =>
    exact fun l line h s awake stream serves memOn unfenced exposed enters taken =>
      congrArg Host.Outcome.next (State.hostAsks_enter awake stream serves memOn unfenced exposed enters taken)
  case hostWr =>
    exact fun l line data h s awake stream serves memOn unfenced exposed enters taken =>
      congrArg Host.Outcome.next (State.hostAsks_enter awake stream serves memOn unfenced exposed enters taken)
  case hostInv =>
    exact fun l line h s awake stream serves memOn unfenced exposed enters taken =>
      congrArg Host.Outcome.next (State.hostAsks_enter awake stream serves memOn unfenced exposed enters taken)
  case unexposed =>
    exact fun l line s awake stream serves memOn unfenced unexposed =>
      congrArg Host.Outcome.next (State.hostAsks_unexposed awake stream serves memOn unfenced unexposed)
  case biconflict =>
    intro l line h s exposed
    change execBiconflict l line s = _
    simp only [execBiconflict, exposed]

/-! ## Responses (R443, R447, R449) -/

/-- Settles O22: a response goes to the transaction that waits for it, and a held request whose wait is over is looked up again. -/
theorem coherenceResponses : Obligations.CoherenceResponses := by
  refine ⟨?snoop, ?birsp, ?flip, ?release⟩
  case snoop =>
    intro k line data p s waits
    change execCoreSnprsp k line data s = _
    simp only [execCoreSnprsp, waits]
  case birsp =>
    intro l line data h s waits
    change execBirsp l line data s = _
    simp only [execBirsp, waits]
  case flip =>
    intro l line data h s waits
    change execHostSnprsp l line data s = _
    simp only [execHostSnprsp, waits]
  case release =>
    intro h role line q r s held ended
    change execCohWaitRelease h role line s = _
    simp only [execCohWaitRelease, held, ended, Bool.not_true, Bool.false_eq_true, if_false]

/-! ## The host's snoops and responses (R436, R450, R454) -/

section
variable {s : State} {h ev line : Nat} {d : Option (BitVec 512)} (host : hostLine line = true) (routed : s.routeAlive h = true)
include host routed

/-- A snoop about a line of host memory is looked up at once (R450). -/
theorem State.hostSays_snoop (snoop : ev < 0x10) : s.hostSays h ev line d =
    ((s.lookUp { role := 1, ev := ev, line := line, who := 16 + s.routeLink h, data := d } h).afterEvent h
      { role := 1, ev := ev, line := line, who := 16 + s.routeLink h, data := d }).cohSettle h := by
  have noTag : ¬ 0x10 ≤ ev := by omega
  have noRoom : ¬ 0x11 ≤ ev := by omega
  simp [State.hostSays, host, routed, noTag, noRoom]

/-- A response that grants nothing gives its tag back and is looked up (R436, R454). -/
theorem State.hostSays_done (done : ev = 0x10 ∨ 0x14 ≤ ev) : s.hostSays h ev line d =
    (((s.tagBack (s.routeLink h) false (cohKey h 1 line)).lookUp { role := 1, ev := ev, line := line, who := 16 + s.routeLink h, data := d } h).afterEvent h
      { role := 1, ev := ev, line := line, who := 16 + s.routeLink h, data := d }).cohSettle h := by
  have tag : 0x10 ≤ ev := by omega
  have noRoom : ¬ (0x11 ≤ ev ∧ ev ≤ 0x13) := by omega
  simp [State.hostSays, host, routed, tag, noRoom]

/-- A response that grants a line makes room for it first (R454). -/
theorem State.hostSays_grant (low : 0x11 ≤ ev) (high : ev ≤ 0x13) : s.hostSays h ev line d =
    ((((s.tagBack (s.routeLink h) false (cohKey h 1 line)).cacheRoom h line).lookUp
      { role := 1, ev := ev, line := line, who := 16 + s.routeLink h, data := d } h).afterEvent h
      { role := 1, ev := ev, line := line, who := 16 + s.routeLink h, data := d }).cohSettle h := by
  have tag : 0x10 ≤ ev := by omega
  simp [State.hostSays, host, routed, tag, low, high]

end

/-- Settles O23: each row is what the host says with one event, a snoop, a response or a grant. -/
theorem cachingAgent : Obligations.CachingAgent := by
  refine ⟨?snpData, ?snpInv, ?snpCur, ?goI, ?goS, ?goE, ?goM, ?goErr, ?writePull⟩
  case snpData => exact fun h line s host routed => congrArg Host.Outcome.next (State.hostSays_snoop host routed (by decide))
  case snpInv => exact fun h line s host routed => congrArg Host.Outcome.next (State.hostSays_snoop host routed (by decide))
  case snpCur => exact fun h line s host routed => congrArg Host.Outcome.next (State.hostSays_snoop host routed (by decide))
  case goI => exact fun h line s host routed => congrArg Host.Outcome.next (State.hostSays_done host routed (by decide))
  case goS => exact fun h line data s host routed => congrArg Host.Outcome.next (State.hostSays_grant host routed (by decide) (by decide))
  case goE => exact fun h line data s host routed => congrArg Host.Outcome.next (State.hostSays_grant host routed (by decide) (by decide))
  case goM => exact fun h line data s host routed => congrArg Host.Outcome.next (State.hostSays_grant host routed (by decide) (by decide))
  case goErr => exact fun h line s host routed => congrArg Host.Outcome.next (State.hostSays_done host routed (by decide))
  case writePull => exact fun h line s host routed => congrArg Host.Outcome.next (State.hostSays_done host routed (by decide))

end Sys2Proof.Machine
end

section
/-! PROOFS. How commands arrive (R413 to R420, R496, R501, R512, R518, R537, R727, R728), the checks of a command in their order (R508), the
step (R508, R683), and the statements about them. -/

namespace Sys2Proof.Machine

/-! ## A mailbox slot that is submitted (R414 to R416) -/

/-- Slot sl of link l shows that it is in flight (R415). -/
def State.slotTaken (s : State) (l sl : Nat) (a : Agent) : State :=
  let t := ((s.setCoreSlot (l * 32 + sl) (coreOf a).isSome).setFld ⟨R.MBX_BUSY (l / 4) (l % 4), sl, sl⟩ 1).setFld
    ⟨R.MBX_DONE (l / 4) (l % 4), sl, sl⟩ 0
  t.setFld (F.MBX_STATUS_INFLIGHT (l / 4) (l % 4)) (popcount 32 (t.reg (R.MBX_BUSY (l / 4) (l % 4))).toNat)

theorem ne_true_of_not_eq_true {b : Bool} (h : b = true) : ¬ (!b) = true := by simp [h]

section
variable {s : State} {l sl : Nat} {a : Agent}

/-- A slot that is not there or is busy is refused (R414). -/
theorem State.submitOne_refused (busy : 32 ≤ sl ∨ bitOf (s.reg (R.MBX_BUSY (l / 4) (l % 4))).toNat sl = true) :
    s.submitOne l sl a = s.setFld (F.MBX_STATUS_SUBMIT_REFUSED (l / 4) (l % 4)) 1 := if_pos (by simpa using busy)

section
variable (within : sl < 32) (free : bitOf (s.reg (R.MBX_BUSY (l / 4) (l % 4))).toNat sl = false)
  (accepted : (s.setCoreSlot (l * 32 + sl) (coreOf a).isSome).accepts (.mailbox (Fin.ofNat 16 l) (Fin.ofNat 32 sl)) = true)
include within free accepted

/-- A free slot of a transport that accepts commands is in flight, and its length, its address or its packet decides (R414, R415). -/
theorem State.submitOne_taken {t : State} (taken : s.slotTaken l sl a = t) : s.submitOne l sl a =
    (if t.slotNum l sl 0 4 < 32 || (t.slotNum l sl 8 8 = 0 && 96 < t.slotNum l sl 0 4) then t.slotFails l sl 2
    else if t.slotNum l sl 8 8 = 0 then
      let x := packetOf (.mailbox (Fin.ofNat 16 l) (Fin.ofNat 32 sl)) ((List.range (t.slotNum l sl 0 4)).map fun i =>
        t.slotByte (l * 4096 + sl * 128 + 32 + i))
      t.deliverOne x.1 x.2
    else match t.slotFetch l (coreOf a) (t.slotNum l sl 8 8) (min (t.slotNum l sl 0 4) 4104) with
      | (u, none) => u.slotFails l sl 1
      | (u, some b) => u.deliverOne (packetOf (.mailbox (Fin.ofNat 16 l) (Fin.ofNat 32 sl)) b).1
          (packetOf (.mailbox (Fin.ofNat 16 l) (Fin.ofNat 32 sl)) b).2) := by
  subst taken
  exact (if_neg (by simp [within, free])).trans (if_neg (ne_true_of_not_eq_true accepted))

/-- A length that does not fit completes the slot with its format flag (R415). -/
theorem State.submitOne_format {t : State} (taken : s.slotTaken l sl a = t)
    (format : t.slotNum l sl 0 4 < 32 ∨ t.slotNum l sl 8 8 = 0 ∧ 96 < t.slotNum l sl 0 4) : s.submitOne l sl a = t.slotFails l sl 2 :=
  (State.submitOne_taken within free accepted taken).trans (if_pos (by simpa using format))

/-- A packet in the slot itself is delivered (R414). -/
theorem State.submitOne_inlined {t : State} (taken : s.slotTaken l sl a = t) (whole : 32 ≤ t.slotNum l sl 0 4)
    (fits : t.slotNum l sl 0 4 ≤ 96) (here : t.slotNum l sl 8 8 = 0) {x : Nat × Packet}
    (packet : packetOf (.mailbox (Fin.ofNat 16 l) (Fin.ofNat 32 sl)) ((List.range (t.slotNum l sl 0 4)).map fun i =>
      t.slotByte (l * 4096 + sl * 128 + 32 + i)) = x) : s.submitOne l sl a = t.deliverOne x.1 x.2 := by
  subst packet
  exact (State.submitOne_taken within free accepted taken).trans
    ((if_neg (by simp [Nat.not_lt.mpr whole, Nat.not_lt.mpr fits])).trans (if_pos here))

/-- A packet at an address is fetched, and a read that fails shows in the flags (R414, R415). -/
theorem State.submitOne_fetched {t : State} (taken : s.slotTaken l sl a = t) (whole : 32 ≤ t.slotNum l sl 0 4)
    (address : t.slotNum l sl 8 8 ≠ 0) : s.submitOne l sl a =
    (match t.slotFetch l (coreOf a) (t.slotNum l sl 8 8) (min (t.slotNum l sl 0 4) 4104) with
      | (u, none) => u.slotFails l sl 1
      | (u, some b) => u.deliverOne (packetOf (.mailbox (Fin.ofNat 16 l) (Fin.ofNat 32 sl)) b).1
          (packetOf (.mailbox (Fin.ofNat 16 l) (Fin.ofNat 32 sl)) b).2) :=
  (State.submitOne_taken within free accepted taken).trans
    ((if_neg (by simp [Nat.not_lt.mpr whole, address])).trans (if_neg address))

end

end

/-- A submission by an agent that reaches the mailbox is its slot's, and those it leads to follow (R414). -/
theorem exec_mailboxSubmit_reached {s t : State} {l : Fin 16} {a : Agent} {slot : BitVec 6} (awake : s.asleep a = false)
    (there : s.linkExists l = true) (reached : reachesMailbox l a = true) (submitted : s.submitOne l slot.toNat a = t) :
    exec (.mailboxSubmit l a slot) s = .next t.submitDue := by
  subst submitted
  exact congrArg Host.Outcome.next ((State.fromAgent_awake awake _).trans ((if_neg (by simp [there])).trans (if_neg (by simp [reached]))))

/-! ## Messages, frames and the debug port (R419, R420, R512, R518, R537, R728) -/

section
variable {s : State}

/-- An operation of the debug transport acts while the port runs (R727). -/
theorem State.dxport_runs (runs : s.tapRuns = true) (f : State → State) : s.dxport f = f (s.modDbg fun d => { d with ir := 0x11 }) := if_pos runs

/-- Selecting the transport leaves what it holds. -/
theorem State.dbg_selected (ir : Nat) : (s.modDbg fun d => { d with ir := ir }).dbg = { s.dbg with ir := ir } := rfl

/-- An opcode of no command is refused on the side-band bus after the checks that come before (R518). -/
theorem State.deliverOne_unassigned {op : Nat} {p : Packet} (unknown : s.cmdOf op p = none) (accepted : s.accepts p.via = true)
    (sideband : p.via = .sideband) (place : s.outstanding .sideband < 31) (whole : badLength p = false) (version : p.version = 1) :
    s.deliverOne op p = s.sendReply p.via p.seq.toNat op S_OPCODE 0 [] := by
  rw [sideband] at accepted
  simp [State.deliverOne, unknown, accepted, sideband, place, whole, version]

end

/-- Settles O41: each clause is one form of its row. -/
theorem commandDelivery : Obligations.CommandDelivery := by
  refine ⟨?unreached, ?refused, ?format, ?inlined, ?fetched, ?otherMessage, ?fragment, ?unassigned, ?starts, ?waits, ?frame, ?push,
    ?pushLast, ?pop, ?popEmpty, ?abandon, ?nop, ?nopOff, ?sideband⟩
  case unreached =>
    intro l a slot s awake there unreached
    exact congrArg Host.Outcome.next
      ((State.fromAgent_awake awake _).trans ((if_neg (ne_true_of_not_eq_true there)).trans (if_pos (by rw [unreached]; rfl))))
  case refused =>
    intro l a slot s awake there reached busy
    exact exec_mailboxSubmit_reached awake there reached (State.submitOne_refused busy)
  case format =>
    intro l a slot s awake there reached within free accepted format
    exact exec_mailboxSubmit_reached awake there reached (State.submitOne_format within free accepted rfl format)
  case inlined =>
    intro l a slot s awake there reached within free accepted whole fits here
    exact exec_mailboxSubmit_reached awake there reached (State.submitOne_inlined within free accepted rfl whole fits here rfl)
  case fetched =>
    intro l a slot s awake there reached within free accepted whole address
    exact exec_mailboxSubmit_reached awake there reached (State.submitOne_fetched within free accepted rfl whole address)
  case otherMessage =>
    intro l requester xid mtype mflags offset bytes s awake up other
    exact congrArg Host.Outcome.next
      ((State.fromAgent_awake awake _).trans ((if_neg (ne_true_of_not_eq_true up)).trans (if_pos other)))
  case fragment =>
    intro l requester xid mflags offset bytes s awake up accepted
    exact congrArg Host.Outcome.next ((State.fromAgent_awake awake _).trans ((if_neg (ne_true_of_not_eq_true up)).trans
      ((if_neg (by simp)).trans (if_neg (ne_true_of_not_eq_true accepted)))))
  case unassigned =>
    intro opcode p s unknown accepted sideband place whole version
    exact congrArg (fun t : State => Host.Outcome.next t.submitDue)
      (State.deliverOne_unassigned unknown accepted sideband place whole version)
  case starts =>
    intro w rest k s first command
    change execCommandDeferredStart s = _
    simp only [execCommandDeferredStart, first, command]
  case waits =>
    intro s none'
    change execCommandDeferredStart s = _
    simp only [execCommandDeferredStart, none']
  case frame =>
    intro f s ready type crc formed pan seq addr flags
    exact congrArg Host.Outcome.next ((if_neg (by simp [Nat.not_lt.mpr ready, type])).trans
      ((if_neg (ne_true_of_not_eq_true crc)).trans (if_neg (by simp [formed, pan, seq, addr, flags]))))
  case push =>
    intro data s runs room fits
    exact congrArg Host.Outcome.next ((State.dxport_runs runs _).trans ((if_neg (ne_true_of_eq_false room)).trans
      ((if_neg (Nat.not_lt.mpr fits)).trans (if_neg Bool.false_ne_true))))
  case pushLast =>
    intro data s runs room fits
    exact congrArg Host.Outcome.next ((State.dxport_runs runs _).trans ((if_neg (ne_true_of_eq_false room)).trans
      ((if_neg (Nat.not_lt.mpr fits)).trans (if_pos rfl))))
  case pop =>
    intro r l s runs replies
    change Host.Outcome.next (s.dxport _) = _
    simp only [State.dxport_runs runs, State.dxPopWord, State.dbg_selected, replies, decide_eq_true_eq]
  case popEmpty =>
    intro s runs replies
    change Host.Outcome.next (s.dxport _) = _
    simp only [State.dxport_runs runs, State.dxPopWord, State.dbg_selected, replies]
  case abandon => exact fun s runs => congrArg Host.Outcome.next (State.dxport_runs runs _)
  case nop => exact fun s runs => congrArg Host.Outcome.next (State.dxport_runs runs _)
  case nopOff => exact fun s off => congrArg Host.Outcome.next (if_neg (ne_true_of_eq_false off))
  case sideband =>
    intro m s header
    change execSidebandMessage m s = _
    simp [execSidebandMessage, header]

end Sys2Proof.Machine
end

section
/-! PROOFS. A command that passes every check has its effect, group by group (R502, R508, R512, R519 to R528), and the statements about
the groups. -/

namespace Sys2Proof.Machine

/-- A row that delivers a command which passes every check comes to the end of the command's run (R508). -/
theorem next_deliver {s : State} {c : Cmd} {op : Nat} {p : Packet} {half : Nat} {x : Run} (passes : s.passes c p half = true)
    (opcode : c.opcode = op := by rfl)
    (effect : c.run s (reqOf p half) = x := by rfl) : (.next (s.deliver c p) : Out) = .next (ends op p half x) := by
  subst opcode effect
  exact congrArg Host.Outcome.next (State.deliver_passes passes)

/-- Settles O42: each row delivers its command, and a REG_WRITE then delivers the slots that it submitted (R414). -/
theorem deviceCommands : Obligations.DeviceCommands := by
  refine ⟨fun _ _ _ passes => next_deliver passes, fun _ _ _ passes => next_deliver passes,
    fun _ _ _ passes => next_deliver passes, fun _ _ _ passes => next_deliver passes, ?regWrite,
    fun _ _ _ passes => next_deliver passes, fun _ _ _ passes => next_deliver passes,
    fun _ _ _ passes => next_deliver passes, fun _ _ _ passes => next_deliver passes,
    fun _ _ _ passes => next_deliver passes, fun _ _ _ passes => next_deliver passes⟩
  case regWrite => exact fun p half s passes => congrArg (fun t : State => Host.Outcome.next t.submitDue) (State.deliver_passes passes)

/-- Settles O43: each row delivers its command. -/
theorem panCommands : Obligations.PanCommands := by
  unfold Obligations.PanCommands
  and_intros <;> exact fun _ _ _ passes => next_deliver passes

/-- Settles O44: each row delivers its command. -/
theorem graphCommands : Obligations.GraphCommands := by
  refine ⟨?kernelRegister, fun _ _ _ passes => next_deliver passes, ?graphLoad, fun _ _ _ passes => next_deliver passes,
    fun _ _ _ passes => next_deliver passes, fun _ _ _ passes => next_deliver passes, fun _ _ _ passes => next_deliver passes, ?graphLink,
    fun _ _ _ passes => next_deliver passes, fun _ _ _ passes => next_deliver passes, fun _ _ _ passes => next_deliver passes,
    fun _ _ _ passes => next_deliver passes, fun _ _ _ passes => next_deliver passes, fun _ _ _ passes => next_deliver passes,
    fun _ _ _ passes => next_deliver passes⟩
  -- A search for a free slot or a free link is taken by cases of its result, since computing it goes too deep.
  case kernelRegister =>
    intro p half s passes
    refine next_deliver passes rfl ?_
    cases free : s.freeSlot (reqOf p half).half <;> simp only [cmdKernelRegister, free]
  case graphLoad =>
    intro p half s passes
    refine next_deliver passes rfl ?_
    dsimp only [cmdGraphLoad] <;> rfl
  case graphLink =>
    intro p half s passes
    refine next_deliver passes rfl ?_
    cases free : s.freeLink 65535 <;> simp only [cmdGraphLink, free]

/-- Settles O45: each row delivers its command. -/
theorem memoryPortCommands : Obligations.MemoryPortCommands := by
  unfold Obligations.MemoryPortCommands
  and_intros <;> exact fun _ _ _ passes => next_deliver passes

/-- Settles O46: each row delivers its command. -/
theorem governorPinCommands : Obligations.GovernorPinCommands := by
  unfold Obligations.GovernorPinCommands
  and_intros <;> exact fun _ _ _ passes => next_deliver passes

/-- Settles O47: each row delivers its command, and a TEST_RUN then starts the slices that the budget allows (R703). -/
theorem logTestCommands : Obligations.LogTestCommands := by
  refine ⟨fun _ _ _ passes => next_deliver passes, fun _ _ _ passes => next_deliver passes,
    fun _ _ _ passes => next_deliver passes, fun _ _ _ passes => next_deliver passes,
    fun _ _ _ passes => next_deliver passes, fun _ _ _ passes => next_deliver passes,
    fun _ _ _ passes => next_deliver passes, ?testRun, fun _ _ _ passes => next_deliver passes,
    fun _ _ _ passes => next_deliver passes⟩
  case testRun =>
    exact fun p half s passes => congrArg (fun t : State => Host.Outcome.next ((t.testPump 0).testPump 1)) (State.deliver_passes passes)

/-- Settles O48: each row delivers its command. -/
theorem securityCommands : Obligations.SecurityCommands := by
  unfold Obligations.SecurityCommands
  and_intros <;> exact fun _ _ _ passes => next_deliver passes

end Sys2Proof.Machine
end

section
/-! PROOFS. The checks of a command in their order (R496 to R513), the step (R508, R683), and the statements about them. -/

namespace Sys2Proof.Machine

/-! ## The checks of delivery (R508 items 1 to 3, R512) -/

section
variable {s : State} {c : Cmd} {p : Packet}

theorem State.deliver_unaccepted (closed : s.accepts p.via = false) : s.deliver c p = s := by simp [State.deliver, closed]

variable (accepted : s.accepts p.via = true)
include accepted

theorem State.deliver_outstanding (full : s.noPlace c.cls p.via = true) :
    s.deliver c p = s.sendReply p.via p.seq.toNat c.opcode S_BUSY D_OUTSTANDING [] := by simp [State.deliver, accepted, full]

variable (place : s.noPlace c.cls p.via = false)
include place

theorem State.deliver_length (cut : badLength p = true) : s.deliver c p = s.sendReply p.via p.seq.toNat c.opcode S_LENGTH 0 [] := by
  simp [State.deliver, accepted, place, cut]

variable (whole : badLength p = false)
include whole

theorem State.deliver_version (other : p.version ≠ 1) : s.deliver c p = s.sendReply p.via p.seq.toNat c.opcode S_VERSION 0 [] := by
  simp only [State.deliver, accepted, place, whole, Bool.not_true, Bool.false_eq_true, if_false]
  exact if_pos other

variable (version : p.version = 1)
include version

theorem State.deliver_duplicate (taken : s.seqTaken p.via p.seq.toNat = true) :
    s.deliver c p = s.sendReply p.via p.seq.toNat c.opcode S_DUPLICATE 0 [] := by
  simp [State.deliver, accepted, place, whole, version, taken]

variable (fresh : s.seqTaken p.via p.seq.toNat = false)
include fresh

theorem State.deliver_waits (waits : s.mustWait c p = true) : s.deliver c p =
    { s with waiting := s.waiting ++ [⟨c.opcode, p, (s.execHalf (receivingHalf p.via) p.target.toNat).getD 0⟩] } := by
  simp [State.deliver, accepted, place, whole, version, fresh, waits]

theorem State.deliver_starts (ready : s.mustWait c p = false) : s.deliver c p = s.startCmd c p := by
  simp [State.deliver, accepted, place, whole, version, fresh, ready]

end

/-! ## The checks of a start (R508 items 4 to 9) -/

/-- The header of ZEROIZE is not checked (R583), and that of another command has passed. -/
theorem header_passes {c : Cmd} {p : Packet} (header : c.opcode = 0x0905 ∨ badHeader p = none) :
    (if c.opcode = 0x0905 then none else badHeader p) = none := by
  rcases header with zeroize | good
  · exact if_pos zeroize
  · rw [good, ite_self]

section
variable {s : State} {c : Cmd} {p : Packet}

theorem State.startCmd_target
    (unreached : c.scopes.contains (scopeOf p.target.toNat) = false ∨ s.execHalf (receivingHalf p.via) p.target.toNat = none) :
    s.startCmd c p = s.sendReply p.via p.seq.toNat c.opcode S_TARGET 0x4006 [] := by
  have none' : (if c.scopes.contains (scopeOf p.target.toNat) then s.execHalf (receivingHalf p.via) p.target.toNat else none) = none := by
    rcases unreached with scope | half
    · exact if_neg (ne_true_of_eq_false scope)
    · rw [half, ite_self]
  simp only [State.startCmd, none']

variable {half : Nat} (scope : c.scopes.contains (scopeOf p.target.toNat) = true)
  (reached : s.execHalf (receivingHalf p.via) p.target.toNat = some half)
include scope reached

/-- A command whose target is reached goes on in the half that executes it. -/
theorem half_reached : (if c.scopes.contains (scopeOf p.target.toNat) then s.execHalf (receivingHalf p.via) p.target.toNat else none) = some half :=
  (if_pos scope).trans reached

theorem State.startCmd_refused {st d : Nat} (refused : s.refused513 c.opcode c.cls p.via (receivingHalf p.via) half = some (st, d)) :
    s.startCmd c p = s.sendReply p.via p.seq.toNat c.opcode st d [] := by
  simp only [State.startCmd, half_reached scope reached, refused]

variable (served : s.refused513 c.opcode c.cls p.via (receivingHalf p.via) half = none)
include served

theorem State.startCmd_length (other : p.plen.toNat ≠ c.size (reqOf p half)) :
    s.startCmd c p = s.sendReply p.via p.seq.toNat c.opcode S_LENGTH 0 [] := by
  simp only [State.startCmd, half_reached scope reached, served]
  exact if_pos other

variable (fits : p.plen.toNat = c.size (reqOf p half))
include fits

theorem State.startCmd_header {st d : Nat} (checked : c.opcode ≠ 0x0905) (bad : badHeader p = some (st, d)) :
    s.startCmd c p = s.sendReply p.via p.seq.toNat c.opcode st d [] := by
  simp only [State.startCmd, half_reached scope reached, served, if_neg checked, bad]
  exact if_neg (not_not_intro fits)

variable (header : c.opcode = 0x0905 ∨ badHeader p = none)
include header

theorem State.startCmd_field {f : FieldRule} (bad : badField s (reqOf p half) c.fields = some f) : s.startCmd c p =
    (s.fieldRefusal (reqOf p half) f).1.sendReply p.via p.seq.toNat c.opcode (s.fieldRefusal (reqOf p half) f).2.1
      (s.fieldRefusal (reqOf p half) f).2.2 [] := by
  simp only [reqOf] at bad
  simp only [State.startCmd, half_reached scope reached, served, header_passes header, bad]
  exact if_neg (not_not_intro fits)

variable (fields : badField s (reqOf p half) c.fields = none)
include fields

theorem State.startCmd_check {st d : Nat} {res : List Byte} (refused : c.check s (reqOf p half) = some (st, d, res)) :
    s.startCmd c p = s.sendReply p.via p.seq.toNat c.opcode st d res := by
  simp only [reqOf] at fields refused
  simp only [State.startCmd, half_reached scope reached, served, header_passes header, fields, refused]
  exact if_neg (not_not_intro fits)

theorem State.startCmd_held (passed : c.check s (reqOf p half) = none) (changes : c.cls = .short ∨ c.cls = .long)
    (held : s.heldUnit (c.touches s (reqOf p half)) = true) :
    s.startCmd c p = s.sendReply p.via p.seq.toNat c.opcode S_BUSY D_HELD [] := by
  have busy : ((c.cls == .short || c.cls == .long) && s.heldUnit (c.touches s (reqOf p half))) = true := by
    rw [held]
    rcases changes with short | long
    · rw [short]; rfl
    · rw [long]; rfl
  simp only [reqOf] at fields passed busy
  simp only [State.startCmd, half_reached scope reached, served, header_passes header, fields, passed, if_pos busy]
  exact if_neg (not_not_intro fits)

end

/-! ## The statements -/

/-- Settles O58: one lemma per check, each of which takes the checks before it as passed. -/
theorem checksInOrder : Obligations.ChecksInOrder := by
  intro c p s
  refine ⟨State.deliver_unaccepted, State.deliver_outstanding, State.deliver_length, State.deliver_version, State.deliver_duplicate,
    State.deliver_waits, State.deliver_starts, State.startCmd_target, fun half scope reached => ?_⟩
  refine ⟨fun _ _ => State.startCmd_refused scope reached, fun served => ⟨State.startCmd_length scope reached served, fun fits => ?_⟩⟩
  refine ⟨fun _ _ => State.startCmd_header scope reached served fits, fun header => ?_⟩
  refine ⟨fun _ => State.startCmd_field scope reached served fits header, fun fields => ?_⟩
  exact ⟨fun _ _ _ => State.startCmd_check scope reached served fits header fields, State.startCmd_held scope reached served fits header fields⟩

/-- Settles O49: by the front of the queue. -/
theorem stepTakesFront : Obligations.StepTakesFront := by
  refine ⟨?front, ?idle⟩
  case front =>
    intro c l s front
    simp only [step, front]
  case idle =>
    intro s empty
    simp only [step, empty, State.tick]

end Sys2Proof.Machine
end

section
/-! PROOFS. The link groups of the causeway (R472 to R477, R484, R494, R495), the heartbeats, the split and the rejoin (R480 to R489), and
the statements about them. -/

namespace Sys2Proof.Machine

/-! ## Flits and injections (R472, R495) -/

section
variable {s : State} {h : Fin 2} {g : Fin 4} {good : Bool} (up : s.groupUp g = true)
include up

/-- A flit that is good and meets no armed injection leaves the replay (R472). -/
theorem exec_cswFlitReceive_good (unarmed : (s.cswGroup g).armCrc = false) : exec (.cswFlitReceive h g true) s =
    .next ((s.modCswGroup (4 * h.val + g.val) fun k => { k with replay := k.replay - 1 }).retireIfDrained) :=
  congrArg Host.Outcome.next ((if_neg (by simp [up])).trans (if_neg (by simp [unarmed])))

/-- A flit whose CRC fails, by itself or by an armed injection that it uses, is counted (R472, R495). -/
theorem exec_cswFlitReceive_fails (fails : ((s.cswGroup g).armCrc || !good) = true) : exec (.cswFlitReceive h g good) s =
    .next ((if (s.cswGroup g).armCrc then (s.modCswGroup g fun k => { k with armCrc := false }).cswSet h F.CSW_INJECT_INJECT 0
      else s).crcFails h g (s.cswGroup g).armCrc) :=
  congrArg Host.Outcome.next ((if_neg (by simp [up])).trans (if_pos fails))

end

/-- Settles O25: each clause is one form of its row. -/
theorem causewayGroups : Obligations.CausewayGroups := by
  refine ⟨?good, ?failed, ?injected, ?lockLoss, ?trained, ?retry, fun _ _ => rfl, ?restored, fun _ _ => rfl, fun _ _ => rfl, ?injectCrc,
    ?injectLockLoss, ?injectDrop⟩
  case good => exact fun h g s up unarmed => exec_cswFlitReceive_good up unarmed
  case failed =>
    intro h g s up unarmed
    rw [exec_cswFlitReceive_fails up (by simp), unarmed]
    rfl
  case injected =>
    intro h g good s up armed
    rw [exec_cswFlitReceive_fails up (by simp [armed]), armed, if_pos rfl]
  case lockLoss => exact fun g s up => congrArg Host.Outcome.next (if_pos up)
  case trained => exact fun g trained s training stays => congrArg Host.Outcome.next (if_pos (by simp [training, stays]))
  case retry => exact fun g s down => congrArg Host.Outcome.next (if_pos down)
  case restored => exact fun mask s restoring => congrArg Host.Outcome.next (if_neg (by simp [restoring]))
  case injectCrc => exact fun g s up => congrArg Host.Outcome.next (if_neg (by simp [up]))
  case injectLockLoss => exact fun g s up other => congrArg Host.Outcome.next (if_neg (by simp [up, other]))
  case injectDrop => exact fun h g s up => congrArg Host.Outcome.next (if_neg (by simp [up]))

/-! ## Heartbeats, the split and the rejoin (R480 to R489) -/

/-- A heartbeat that arrives leaves the wire, and it is heard unless an injection drops it (R481, R495). -/
theorem exec_heartbeatReceive_arrives {s t : State} {h : Fin 2} {b : Beat} (sent : (s.cswHalf (1 - h.val)).wire = some b)
    (taken : (s.modCswHalf (1 - h.val) fun k => { k with wire := none }) = t) : exec (.heartbeatReceive h) s =
    .next (if 1 < (t.cswHalf h).drop then t.modCswHalf h fun k => { k with drop := k.drop - 1 } else t.hear h b) := by
  subst taken
  change execHeartbeatReceive h s = _
  simp only [execHeartbeatReceive, sent]

/-- Settles O26: each clause is one form of its row. -/
theorem causewaySplit : Obligations.CausewaySplit := by
  refine ⟨fun _ _ => rfl, ?heard, ?dropped, ?lost, ?stillUp, ?splits, ?ready, ?rejoins⟩
  case heard =>
    intro h b s sent passes
    rw [exec_heartbeatReceive_arrives sent rfl, if_neg (Nat.not_lt.mpr passes)]
  case dropped =>
    intro h b s sent drops
    rw [exec_heartbeatReceive_arrives sent rfl, if_pos drops]
  case lost => exact fun h s down => congrArg Host.Outcome.next (if_neg (not_not_intro down))
  case stillUp => exact fun h s up => congrArg Host.Outcome.next (if_pos up)
  case splits => exact fun h s down whole runs => congrArg Host.Outcome.next (if_neg (by simp [down, whole, runs]))
  case ready =>
    intro h s up split manual
    exact congrArg Host.Outcome.next ((if_neg (by simp [up, split])).trans (if_neg (by simp [manual])))
  case rejoins =>
    intro h s up split auto cut may
    exact congrArg Host.Outcome.next ((if_neg (by simp [up, split])).trans (if_pos (by simp [auto, cut, may])))

end Sys2Proof.Machine
end

section
/-! PROOFS. The frames of a configuration image (R537 to R548), the end of a load and its failures (R544 to R554), and the statements about
them. -/

namespace Sys2Proof.Machine

/-! ## A frame reaches its place (R537, R546, R547) -/

section
variable {s : State} {f : List Byte}

/-- Under a mode that loads at the slave port, a frame there is the image's next (R537). -/
theorem State.nextImageFrame_slave (own : s.fld F.CFG_STATUS_MODE ≠ 2) (known : s.fld F.CFG_STATUS_MODE < 4) :
    s.nextImageFrame (some f) = s.imageFrame f := by
  have fetched : s.cfgFetch (some f) = (s, .frame f) := (if_neg own).trans (if_neg (Nat.not_le.mpr known))
  simp [State.nextImageFrame, fetched]

/-- In CONFIG_WAIT a DEVICE frame begins the image (R546). -/
theorem State.imageFrame_device (waits : s.phase = CONFIG_WAIT) (device : fType f = 0x10) : s.imageFrame f = s.beginImage f :=
  (if_pos waits).trans (if_pos device)

/-- A DEVICE frame that nothing refuses begins LOADING with its image (R539, R545, R546). -/
theorem State.beginImage_accepted (crc : fCrc f = true) (device : deviceFrame f 0 false = true) (addr : fAddr f = 0) (len : fLen f = 512)
    (accepted : s.deviceCause (fPayload f) = none) {u : State}
    (begun : ({ ({ s with image := { port0Due := s.image.port0Due } } : State).setPhase LOADING with image := imageOf f s.image.port0Due } : State) = u) :
    s.beginImage f = (u.setFlds [(F.CFG_IMAGE_TAG_TAG, u.image.tag), (F.CFG_STATUS_ENCRYPTED, bnat u.image.encrypted),
      (F.CFG_STATUS_SIGNED, 0), (F.CFG_STATUS_PANS, 0)]).showBytes := by
  subst begun
  simp only [State.beginImage, crc, device, addr, len, accepted, beq_self_eq_true, Bool.and_self, Bool.not_true, Bool.false_eq_true, if_false]

/-- In LOADING a frame within BYTES, in its place of the segment, goes on to what its TYPE does (R546, R547). -/
theorem State.imageFrame_loading (loading : s.phase = LOADING) (crc : fCrc f = true) (fits : s.image.taken + f.length ≤ s.image.bytes)
    (segment : s.image.segFrames ≠ 64 ∨ fType f = 9) (last : ¬ (s.image.lastSeg = true ∧ fFlags f % 2 = 1)) :
    s.imageFrame f = if fType f = 9 then s.segtagFrame f else if fType f = 0x11 then s.globalFrame f
      else if fType f = 0x1F then s.endImage f else s.panFrame f := by
  have placed : ¬ ((decide (s.image.segFrames = 64) && decide (fType f ≠ 9)) || (s.image.lastSeg && decide (fFlags f % 2 = 1))) = true := by
    simp only [Bool.or_eq_true, Bool.and_eq_true, decide_eq_true_eq]
    tauto
  have notWaits : s.phase ≠ CONFIG_WAIT := by rw [loading]; decide
  refine (if_neg notWaits).trans ((if_pos loading).trans ((if_neg (by simp [crc])).trans ((if_neg (Nat.not_lt.mpr fits)).trans
    (if_neg placed))))

/-! ## What its TYPE does (R541, R542, R547, R548) -/

theorem State.globalFrame_kept (device : deviceFrame f s.image.index s.image.encrypted = true) (free : s.image.current = none)
    (low : 1 ≤ fAddr f) (high : fAddr f ≤ 6) (len : fLen f = globalLen (fAddr f)) (good : globalOk (fAddr f) (s.imagePlain f) = true) :
    s.globalFrame f = { s.noteFrame f with image := { (s.noteFrame f).image with
      globals := Bank.set (fun _ => []) (s.noteFrame f).image.globals (fAddr f) (s.imagePlain f) } } :=
  (if_neg (by simp [device, free])).trans (if_neg (by simp [low, high, len, good]))

/-- The tag of the running segment holds (R542, R543). -/
def State.tagHolds (s : State) (f : List Byte) : Bool :=
  match s.keyOf s.image.keySel with
  | some k => s.secOperational && Config.gcmTag k (segNonce s.image.iv s.image.segNo) s.image.segAad s.image.segment == (fPayload f).take 16
  | none => false

theorem State.segtagFrame_placed (device : deviceFrame f s.image.index false = true) (encrypted : s.image.encrypted = true)
    (segment : fAddr f = s.image.segNo) (len : fLen f = 32) (frames : 1 ≤ s.image.segFrames) (zero : zeroAt (fPayload f) 16 16 = true) :
    s.segtagFrame f = if s.tagHolds f then { s.noteFrame f with image := { (s.noteFrame f).image with
        segment := [], segAad := [], segNo := s.image.segNo + 1, segFrames := 0, lastSeg := decide (s.image.segFrames < 64) } }
      else s.cfgFail 0x0A s.image.index := by
  have formed : (!(deviceFrame f s.image.index false && s.image.encrypted && fAddr f == s.image.segNo && fLen f == 32 &&
      decide (1 ≤ s.image.segFrames) && zeroAt (fPayload f) 16 16)) = false := by simp [device, encrypted, segment, len, frames, zero]
  simp only [State.segtagFrame, formed, Bool.false_eq_true, if_false]
  change (if (!s.tagHolds f) = true then _ else _) = _
  cases s.tagHolds f <;> simp

/-- A HEADER that nothing refuses begins the embedded image of its pan (R547). -/
theorem State.panFrame_header (header : fType f = 1) (formed : fFormed f = true) (flags : fFlags f = bnat s.image.encrypted)
    (pan : fPan f < 256) (free : s.image.current = none) (good : badHeaderFrame (plainFrame f (s.imagePlain f)) = false)
    (once : s.image.done.contains (fPan f) = false) (accepted : s.headerCause (fPan f) (s.imagePlain f) s.image.signed = none)
    (whole : bitOf (numAt (s.imagePlain f) 10 1) 1 = false) {t : State}
    (begun : (s.setLoad (loadKey (halfOfPan (fPan f)) 0) (some { LoadJob.header { pan := fPan f, embedded := true }
      (plainFrame f (s.imagePlain f)) with payloads := fPayload f })).noteFrame f = t) :
    s.panFrame f = { t with image := { t.image with current := some (fPan f) } } := by
  subst begun
  have placed : (!fFormed f || fFlags f ≠ bnat s.image.encrypted || 256 ≤ fPan f) = false := by simp [formed, flags, pan]
  simp only [State.panFrame, placed, free, header, State.embeddedHeader, good, once, accepted, whole]
  rfl

/-- DEVICE_END enters VERIFY, and fails the image whose counts or digests do not hold (R546, R548). -/
theorem State.endImage_placed (device : deviceFrame f s.image.index false = true) (addr : fAddr f = 0) (len : fLen f = 32)
    (free : s.image.current = none) (closed : s.image.segFrames = 0) {t : State} (moved : (s.noteFrame f).setPhase VERIFY = t) :
    s.endImage f = if ({ t with image := { t.image with ended := true } } : State).image.whole (fPayload f) && zeroAt (fPayload f) 8 24
      then { t with image := { t.image with ended := true } }
      else ({ t with image := { t.image with ended := true } } : State).cfgFail 0x0C s.image.index := by
  subst moved
  have placed : ¬ ((!(deviceFrame f s.image.index false && fAddr f == 0 && fLen f == 32) || s.image.current.isSome ||
      decide (s.image.segFrames ≠ 0)) = true) := by simp [device, addr, len, free, closed]
  rw [State.endImage, if_neg placed]

end

/-- Settles O27: the frame reaches its place, and there its TYPE decides. -/
theorem imageFrames : Obligations.ImageFrames := by
  refine ⟨?device, ?global, ?segtag, ?pan, ?deviceEnd⟩
  case device =>
    intro f s own known waits type crc device addr len accepted
    exact congrArg Host.Outcome.next ((State.nextImageFrame_slave own known).trans
      ((State.imageFrame_device waits type).trans (State.beginImage_accepted crc device addr len accepted rfl)))
  case global =>
    intro f s own known loading crc fits segment last type device free low high len good
    have here : s.imageFrame f = s.globalFrame f := (State.imageFrame_loading loading crc fits (.inl segment) last).trans
      ((if_neg (by simp [type])).trans (if_pos type))
    exact congrArg Host.Outcome.next
      ((State.nextImageFrame_slave own known).trans (here.trans (State.globalFrame_kept device free low high len good)))
  case segtag =>
    intro f s own known loading crc fits segment last type device encrypted segNo len frames zero
    have here : s.imageFrame f = s.segtagFrame f := (State.imageFrame_loading loading crc fits (.inl segment) last).trans
      (if_pos type)
    exact congrArg Host.Outcome.next
      ((State.nextImageFrame_slave own known).trans (here.trans (State.segtagFrame_placed device encrypted segNo len frames zero)))
  case pan =>
    intro f s own known loading crc fits segment last type formed flags pan free good once accepted whole
    have here : s.imageFrame f = s.panFrame f := (State.imageFrame_loading loading crc fits (.inl segment) last).trans
      ((if_neg (by simp [type])).trans ((if_neg (by simp [type])).trans (if_neg (by simp [type]))))
    exact congrArg Host.Outcome.next ((State.nextImageFrame_slave own known).trans
      (here.trans (State.panFrame_header type formed flags pan free good once accepted whole rfl)))
  case deviceEnd =>
    intro f s own known loading crc fits type device addr len free closed last
    have here : s.imageFrame f = s.endImage f := (State.imageFrame_loading loading crc fits (.inl (by simp [closed])) last).trans
      ((if_neg (by simp [type])).trans ((if_neg (by simp [type])).trans (if_pos type)))
    exact congrArg Host.Outcome.next
      ((State.nextImageFrame_slave own known).trans (here.trans (State.endImage_placed device addr len free closed rfl)))

/-! ## The end of a load (R544, R549 to R554) -/

/-- Settles O28: each clause is one form of its row. -/
theorem imageEnd : Obligations.ImageEnd := by
  refine ⟨?signature, ?verified, ?doneHigh, ?stalled, ?reply, ?noReply⟩
  case signature =>
    intro s loads unchecked operational fused
    have due : ¬ ((!(decide (s.phase = LOADING) || decide (s.phase = VERIFY)) || s.image.sigOk.isSome) = true) := by
      rcases loads with loading | verify <;> simp [*]
    refine congrArg Host.Outcome.next ((if_neg due).trans ?_)
    simp [operational, fused]
  case verified =>
    exact fun s verify ended signed waits => congrArg Host.Outcome.next (if_pos (by simp [verify, ended, signed, waits]))
  case doneHigh => exact fun s waits => congrArg Host.Outcome.next (if_pos waits)
  case stalled => exact fun s loading => congrArg Host.Outcome.next (if_pos loading)
  case reply =>
    intro r l s replies
    change execCfgReplyRead s = _
    simp only [execCfgReplyRead, replies]
  case noReply =>
    intro s replies
    change execCfgReplyRead s = _
    simp only [execCfgReplyRead, replies]

end Sys2Proof.Machine
end

section
/-! PROOFS. The events of the security module (R566 to R590), the SPDM responder (R574 to R577), and the statements about them. -/

namespace Sys2Proof.Machine

/-! ## Zeroizations, fuses and tamper sources (R571, R579, R582, R583) -/

/-- A zeroization that ends in ZEROIZING leaves the module OPERATIONAL with a new key-wrap key, after the revocations of MODE 1. -/
theorem exec_zeroizationComplete_ends {s t : State} (running : s.sec.zeroizing ≠ 0)
    (revoked : (if s.sec.zeroizing = 2 then s.setFld F.SEC_KEYS_CTRL (s.fld F.SEC_KEYS_CTRL ||| 0x18) else s) = t)
    (zeroizing : ((t.modSec fun m => { m with zeroizing := 0 }).setFld F.SEC_COUNTS_ZCOUNT (s.fld F.SEC_COUNTS_ZCOUNT + 1)).secState = ZEROIZING) :
    exec .zeroizationComplete s = .next ((((t.modSec fun m => { m with zeroizing := 0 }).setFld F.SEC_COUNTS_ZCOUNT
      (s.fld F.SEC_COUNTS_ZCOUNT + 1)).agreeWrap.setFld F.SEC_STATUS_STATE OPERATIONAL).endJobs (fun j => j.opcode == 0x0905) OK 0 []) := by
  subst revoked
  change execZeroizationComplete s = _
  simp only [execZeroizationComplete, if_neg running, if_pos zeroizing]

/-- A tamper source that is watched latches, clears the battery key, zeroizes and reports, once the part is out of POWER_UP (R579). -/
theorem exec_tamperDetection_acts {s t : State} {src : Fin 7} (watched : s.tamperWatched src = true) (awake : s.phase ≠ 0)
    (latched : ((s.setFlds [(F.SEC_TAMPER_LATCH_LATCH, s.fld F.SEC_TAMPER_LATCH_LATCH ||| 2 ^ src.val), (F.SEC_STATUS_LATCHED, 1)]).count
      F.SEC_TAMPER_LATCH_COUNT none) = t) :
    exec (.tamperDetection src) s = .next (((if s.fld F.SEC_TAMPER_LATCH_LATCH = 0 then t.setFlds [(F.SEC_TAMPER_TIME_SECONDS 0,
        s.fld (F.RTC_SECONDS_SECONDS 0)), (F.SEC_TAMPER_TIME_SECONDS 1, s.fld (F.RTC_SECONDS_SECONDS 1))] else t).clearKb.startZeroize 0).secReport
      FATAL 1 src (s.fld F.SEC_TAMPER_LATCH_LATCH ||| 2 ^ src.val)) := by
  subst latched
  change execTamperDetection src s = _
  simp only [execTamperDetection, watched, Bool.not_true, Bool.false_eq_true, if_false, if_neg awake]

section
variable {s : State} {f : FuseJob} (programs : s.sec.fuse = some f)
include programs

/-- A fuse word that reads back right is blown, and the last one of its field ends the programming (R571). -/
theorem exec_fuseWordProgrammed_good {t : State} (blown : s.blow f.field f.done f.value = t) : exec (.fuseWordProgrammed true) s =
    .next (if f.done + 1 < f.words then t.modSec fun m => { m with fuse := some { f with done := f.done + 1 } }
      else (if f.field = 3 then t else t.setFld F.SEC_KEYS_CTRL (t.fld F.SEC_KEYS_CTRL ||| 2 ^ f.field)).fuseEnds OK (leBytes 4 f.words)) := by
  subst blown
  change execFuseWordProgrammed true s = _
  simp only [execFuseWordProgrammed, programs, Bool.not_true, Bool.false_eq_true, if_false]

/-- One that reads back wrong ends it (R571). -/
theorem exec_fuseWordProgrammed_bad : exec (.fuseWordProgrammed false) s = .next (s.fuseEnds S_HW_FAULT []) := by
  change execFuseWordProgrammed false s = _
  simp only [execFuseWordProgrammed, programs, Bool.not_false, if_true]

end

/-- Settles O29: each clause is one form of its row. -/
theorem securityEvents : Obligations.SecurityEvents := by
  refine ⟨?tested, ?failed, ?health, ?reseed, ?zeroized, ?revoked, ?fuseGoesOn, ?fuseEnds, ?fuseBad, ?patch, ?tamperAgain, ?tamperFirst,
    fun _ => rfl, fun _ _ => rfl⟩
  case tested => exact fun s tests boot => congrArg Host.Outcome.next ((if_neg (by simp [tests, boot])).trans (if_pos rfl))
  case failed => exact fun cause s tests boot fails => congrArg Host.Outcome.next ((if_neg (by simp [tests, boot])).trans (if_neg fails))
  case health => exact fun cause s operational => congrArg Host.Outcome.next (if_pos operational)
  case reseed => exact fun s operational => congrArg Host.Outcome.next (if_pos operational)
  case zeroized =>
    intro s mode zeroizing
    exact exec_zeroizationComplete_ends (by simp [mode]) (if_neg (by simp [mode])) zeroizing
  case revoked =>
    intro s mode zeroizing
    exact exec_zeroizationComplete_ends (by simp [mode]) (if_pos mode) zeroizing
  case fuseGoesOn =>
    intro f s programs more
    rw [exec_fuseWordProgrammed_good programs rfl, if_pos more]
  case fuseEnds =>
    intro f s programs last key
    rw [exec_fuseWordProgrammed_good programs rfl, if_neg last, if_neg key]
  case fuseBad => exact fun f s programs => exec_fuseWordProgrammed_bad programs
  case patch =>
    intro h s waits runs idle
    exact congrArg Host.Outcome.next (if_neg (by rw [runs, idle]; simp [waits]))
  case tamperAgain =>
    intro src s watched again awake
    rw [exec_tamperDetection_acts watched awake rfl, if_neg again]
  case tamperFirst =>
    intro src s watched first awake
    rw [exec_tamperDetection_acts watched awake rfl, if_pos first]

/-! ## The SPDM responder (R574 to R577) -/

@[simp] theorem leBytes_length (k n : Nat) : (leBytes k n).length = k := by
  induction k generalizing n with
  | zero => rfl
  | succ k ih => simp [leBytes, ih]

section
variable {s : State} {l : Nat} {f : State → State} (up : s.linkUp l = true) (operational : s.secState = OPERATIONAL)
  (near : l < 8 ∨ s.causewayUp 0 = true)
include up operational near

/-- While the module is OPERATIONAL, a request of a link that reaches it is answered (R567, R577). -/
theorem State.spdmServe_answers : s.spdmServe l f = f s := by
  have idle : s.secState ≠ ZEROIZING := by rw [operational]; decide
  have serves : s.secOperational = true := beq_iff_eq.mpr operational
  have reached : ¬ (8 ≤ l ∧ s.causewayUp 0 = false) := by
    rcases near with half | causeway
    · omega
    · simp [causeway]
  simp [State.spdmServe, up, idle, serves, reached]

/-- Within a session a request that needs one is answered (R574). -/
theorem State.inSession_answers (session : 0 < s.sessionsOf l) : s.inSession l f = f s :=
  (State.spdmServe_answers up operational near).trans (if_neg (by omega))

end

/-- Settles O30: the responder answers, and the answer is the request's own. -/
theorem attestation : Obligations.Attestation := by
  refine ⟨?version, ?capabilities, ?algorithms, ?digests, ?certificate, ?challenge, ?count, ?measurements, ?keyExchange, ?finish, ?keyUpdate,
    ?heartbeat, ?endSession, ?keyRetrieve, ?keyProg⟩
  case version => exact fun l s up operational near => congrArg Host.Outcome.next (State.spdmServe_answers up operational near)
  case capabilities => exact fun l s up operational near => congrArg Host.Outcome.next (State.spdmServe_answers up operational near)
  case algorithms => exact fun l s up operational near => congrArg Host.Outcome.next (State.spdmServe_answers up operational near)
  case digests => exact fun l s up operational near => congrArg Host.Outcome.next (State.spdmServe_answers up operational near)
  case certificate =>
    exact fun l offset len s up operational near => congrArg Host.Outcome.next (State.spdmServe_answers up operational near)
  case challenge => exact fun l nonce s up operational near => congrArg Host.Outcome.next (State.spdmServe_answers up operational near)
  case count => exact fun l s up operational near => congrArg Host.Outcome.next (State.spdmServe_answers up operational near)
  case measurements => exact fun l s up operational near => congrArg Host.Outcome.next (State.spdmServe_answers up operational near)
  case keyExchange =>
    intro l s up operational near linkRoom partRoom
    exact congrArg Host.Outcome.next ((State.spdmServe_answers up operational near).trans
      ((if_neg (not_not_intro rfl)).trans (if_neg (by simp [Nat.not_le.mpr linkRoom, Nat.not_le.mpr partRoom]))))
  case finish => exact fun l s up operational near session => congrArg Host.Outcome.next (State.inSession_answers up operational near session)
  case keyUpdate => exact fun l s up operational near session => congrArg Host.Outcome.next (State.inSession_answers up operational near session)
  case heartbeat => exact fun l s up operational near session => congrArg Host.Outcome.next (State.inSession_answers up operational near session)
  case endSession =>
    intro l s up operational near session last
    refine congrArg Host.Outcome.next ((State.inSession_answers up operational near session).trans ?_)
    simp only [last, if_true, Nat.sub_self]
  case keyRetrieve =>
    intro l stream s up operational near session offered
    exact congrArg Host.Outcome.next ((State.inSession_answers up operational near session).trans (if_neg (by simp [offered])))
  case keyProg =>
    intro l stream key s up operational near session selective generated
    have given : ((leBytes 32 key.toNat).isEmpty || leBytes 32 key.toNat ≠ leBytes 32 key.toNat) = false := by
      simp [← List.length_eq_zero_iff]
    refine congrArg Host.Outcome.next ((State.inSession_answers up operational near session).trans ?_)
    simp only [generated, given, Bool.false_eq_true, if_false, if_neg selective]

end Sys2Proof.Machine
end

section
/-! PROOFS. The control law of the governor (R608 to R633), the levels, banks and mirror of the pins (R634 to R658), and the statements
about them. -/

namespace Sys2Proof.Machine

/-! ## The governor (R608 to R633) -/

/-- INJECT with a kind that names a report raises it for a unit that the kind has, and is refused for another (R633). -/
theorem State.govInjectWrite_kind {s : State} {h kind unit cls code n : Nat} (known : govKind kind = some (cls, code, n)) :
    s.govInjectWrite h kind unit =
      (if unit < n then (s.setFlds [(F.GOV_INJECT_INJ_KIND h, kind), (F.GOV_INJECT_INJ_UNIT h, unit)]).govRaise h cls code unit true
      else (s.setFlds [(F.GOV_INJECT_INJ_KIND h, kind), (F.GOV_INJECT_INJ_UNIT h, unit)]).setFld (F.GOV_INJECT_INJ_REFUSED h) 1) := by
  simp only [State.govInjectWrite, known]

/-- INJECT with another kind is refused (R633). -/
theorem State.govInjectWrite_noKind {s : State} {h kind unit : Nat} (unknown : govKind kind = none) : s.govInjectWrite h kind unit =
    (s.setFlds [(F.GOV_INJECT_INJ_KIND h, kind), (F.GOV_INJECT_INJ_UNIT h, unit)]).setFld (F.GOV_INJECT_INJ_REFUSED h) 1 := by
  simp only [State.govInjectWrite, unknown]

/-- The kinds from 6 up name no report (R633). -/
theorem govKind_none : ∀ kind : Fin 8, 6 ≤ kind.val → govKind kind = none := by decide

/-- Settles O32: each clause is one form of its row. -/
theorem governorControl : Obligations.GovernorControl := by
  refine ⟨?flowLow, ?lossEnds, fun _ _ => rfl, fun _ _ => rfl, ?shared, ?alone, fun _ _ => rfl, ?autoClear, ?injected, ?noUnit, ?noKind⟩
  case flowLow => exact fun h i s low => congrArg Host.Outcome.next (if_pos low)
  case lossEnds => exact fun h s unstalled flows => congrArg Host.Outcome.next (if_neg (by simp [unstalled, flows]))
  case shared => exact fun s north south => congrArg Host.Outcome.next (if_pos (by simp [north, south]))
  case alone => exact fun s down => congrArg Host.Outcome.next (if_neg (by rcases down with down | down <;> simp [down]))
  case autoClear => exact fun s north south => congrArg Host.Outcome.next (if_pos (by simp [north, south]))
  case injected =>
    exact fun h kind unit cls code n s known has => congrArg Host.Outcome.next ((State.govInjectWrite_kind known).trans (if_pos has))
  case noUnit =>
    exact fun h kind unit cls code n s known past =>
      congrArg Host.Outcome.next ((State.govInjectWrite_kind known).trans (if_neg (Nat.not_lt.mpr past)))
  case noKind =>
    exact fun h kind unit s other => congrArg Host.Outcome.next (State.govInjectWrite_noKind (govKind_none kind other))

/-! ## The pins (R634, R651, R656, R658) -/

section
variable {s : State} {b : Nat} {l : Fin 16} {kind : Nat} {mask : Word} (awake : s.asleep (.link l) = false)
include awake

/-- A host's write of a bank acts with HOST_EN (R656). -/
theorem State.bankAccess_link (may : s.on (F.PIN_BANK_CTL_HOST_EN b) = true) :
    s.fromAgent (.link l) (s.bankAccess b (.link l) kind mask) = s.bankWrite b kind mask.toNat :=
  (State.fromAgent_awake awake _).trans (if_pos may)

/-- Without HOST_EN it changes nothing (R656). -/
theorem State.bankAccess_link_denied (denied : s.on (F.PIN_BANK_CTL_HOST_EN b) = false) :
    s.fromAgent (.link l) (s.bankAccess b (.link l) kind mask) = s :=
  (State.fromAgent_awake awake _).trans (if_neg (ne_true_of_eq_false denied))

end

/-- Management's write of a bank acts (R656). -/
theorem State.bankAccess_mgmt (s : State) (b kind : Nat) (mask : Word) (h : Fin 2) :
    s.fromAgent (.mgmt h) (s.bankAccess b (.mgmt h) kind mask) = s.bankWrite b kind mask.toNat :=
  State.fromAgent_awake rfl _

/-- One of a core is a misuse (R10, R31, R324). -/
theorem State.bankAccess_core (s : State) (b kind : Nat) (mask : Word) (c : Fin 16) :
    s.fromAgent (.core c) (s.bankAccess b (.core c) kind mask) = s.misuse (.core c) 3 (0x00300800 + 32 * b + 4 * kind) :=
  State.fromAgent_awake rfl _

/-- One of a debugger is a misuse (R738). -/
theorem State.bankAccess_debug (s : State) (b kind : Nat) (mask : Word) :
    s.fromAgent .debug (s.bankAccess b .debug kind mask) = s.misuse .debug 3 (0x00300800 + 32 * b + 4 * kind) :=
  State.fromAgent_awake rfl _

/-- Settles O33: each clause is one form of its row; the three bank rows are one access of a bank. -/
theorem pinEvents : Obligations.PinEvents := by
  refine ⟨fun _ _ _ => rfl, ?setHost, ?setDenied, ?setMgmt, ?setCore, ?setDebug, ?clrHost, ?clrDenied, ?clrMgmt, ?clrCore, ?clrDebug,
    ?tglHost, ?tglDenied, ?tglMgmt, ?tglCore, ?tglDebug, ?mirror, ?injectDrive, ?injectBank, ?injectRefused, fun _ _ _ => rfl⟩
  case setHost => exact fun b mask l s awake may => congrArg Host.Outcome.next (State.bankAccess_link awake may)
  case setDenied => exact fun b mask l s awake denied => congrArg Host.Outcome.next (State.bankAccess_link_denied awake denied)
  case setMgmt => exact fun b mask h s => congrArg Host.Outcome.next (s.bankAccess_mgmt b 0 mask h)
  case setCore => exact fun b mask c s => congrArg Host.Outcome.next (s.bankAccess_core b 0 mask c)
  case setDebug => exact fun b mask s => congrArg Host.Outcome.next (s.bankAccess_debug b 0 mask)
  case clrHost => exact fun b mask l s awake may => congrArg Host.Outcome.next (State.bankAccess_link awake may)
  case clrDenied => exact fun b mask l s awake denied => congrArg Host.Outcome.next (State.bankAccess_link_denied awake denied)
  case clrMgmt => exact fun b mask h s => congrArg Host.Outcome.next (s.bankAccess_mgmt b 1 mask h)
  case clrCore => exact fun b mask c s => congrArg Host.Outcome.next (s.bankAccess_core b 1 mask c)
  case clrDebug => exact fun b mask s => congrArg Host.Outcome.next (s.bankAccess_debug b 1 mask)
  case tglHost => exact fun b mask l s awake may => congrArg Host.Outcome.next (State.bankAccess_link awake may)
  case tglDenied => exact fun b mask l s awake denied => congrArg Host.Outcome.next (State.bankAccess_link_denied awake denied)
  case tglMgmt => exact fun b mask h s => congrArg Host.Outcome.next (s.bankAccess_mgmt b 2 mask h)
  case tglCore => exact fun b mask c s => congrArg Host.Outcome.next (s.bankAccess_core b 2 mask c)
  case tglDebug => exact fun b mask s => congrArg Host.Outcome.next (s.bankAccess_debug b 2 mask)
  case mirror =>
    exact fun l off write s awake other =>
      congrArg Host.Outcome.next ((State.fromAgent_awake awake _).trans (if_neg (ne_true_of_eq_false other)))
  case injectDrive => exact fun s => congrArg Host.Outcome.next (if_pos rfl)
  case injectBank => exact fun s => congrArg Host.Outcome.next ((if_neg (by decide)).trans (if_pos rfl))
  case injectRefused =>
    exact fun kind s other => congrArg Host.Outcome.next ((if_neg (by omega)).trans (if_neg (by omega)))

end Sys2Proof.Machine
end

section
/-! PROOFS. The log writer, the last-resort file and the real-time clock (R667 to R693), self-test (R696 to R706), and the statements about
them. -/

namespace Sys2Proof.Machine

/-! ## The log and the clock (R667 to R693) -/

section
variable {s : State} {h : Nat} {good : Bool}

/-- A slot of the writer with nothing to take changes nothing (R667). -/
theorem State.logSlot_idle (idle : s.takeReport h = none) : s.logSlot h good = s := by
  simp only [State.logSlot, idle]

/-- A slot of the writer writes what it takes (R667, R669). -/
theorem State.logSlot_taken {cls : Nat} {r : Report} {sum : Bool} {t : State} (takes : s.takeReport h = some (cls, r, sum, t))
    (due : (s.log h).wrapDue = false) : s.logSlot h good = t.writeEntry h cls r sum good := by
  simp only [State.logSlot, takes, due, Bool.false_eq_true, if_false]

/-- While SEQ_WRAP is due, a slot with a report to take writes SEQ_WRAP (R677). -/
theorem State.logSlot_wrap (busy : s.takeReport h ≠ none) (due : (s.log h).wrapDue = true) : s.logSlot h good =
    (s.modLog h fun l => { l with wrapDue := false }).useFree.writeEntry h NOTICE
      { word := Raise.word { half := h, cls := NOTICE, src := 0, code := 2, unit := h }, ctx := BitVec.ofNat 32 s.freeVal, ns := s.ns }
      false good := by
  obtain ⟨⟨cls, r, sum, t⟩, takes⟩ := Option.ne_none_iff_exists'.mp busy
  simp only [State.logSlot, takes, due, if_true]

end

section
variable {s t : State} {h bank count : Nat}

/-- INJECT with kind CE arms a bank that serves, and is refused for another (R692). -/
theorem State.errInjectWrite_ce
    (taken : s.setFlds [(F.ERR_INJECT_INJ_KIND h, 0), (F.ERR_INJECT_BANK h, bank), (F.ERR_INJECT_COUNT h, count)] = t) :
    s.errInjectWrite h 0 bank count = if t.bankServes h bank then
      (t.setFld (F.ERR_INJECT_INJECT h) 1).modLog h fun l => if bank = 0 then { l with inject0 := 1 } else { l with inject1 := 1 }
      else t.setFld (F.ERR_INJECT_INJ_REFUSED h) 1 := by
  delta State.errInjectWrite
  rw [taken]
  rfl

/-- INJECT with kind UE does so too (R692). -/
theorem State.errInjectWrite_ue
    (taken : s.setFlds [(F.ERR_INJECT_INJ_KIND h, 1), (F.ERR_INJECT_BANK h, bank), (F.ERR_INJECT_COUNT h, count)] = t) :
    s.errInjectWrite h 1 bank count = if t.bankServes h bank then
      (t.setFld (F.ERR_INJECT_INJECT h) 1).modLog h fun l => if bank = 0 then { l with inject0 := 2 } else { l with inject1 := 2 }
      else t.setFld (F.ERR_INJECT_INJ_REFUSED h) 1 := by
  delta State.errInjectWrite
  rw [taken]
  rfl

/-- INJECT with kind WORD raises the word, or is refused (R692). -/
theorem State.errInjectWrite_word
    (taken : s.setFlds [(F.ERR_INJECT_INJ_KIND h, 2), (F.ERR_INJECT_BANK h, bank), (F.ERR_INJECT_COUNT h, count)] = t) :
    s.errInjectWrite h 2 bank count = if wordRefused (t.reg (R.ERR_INJ_WORD h)).toNat then t.setFld (F.ERR_INJECT_INJ_REFUSED h) 1
      else t.raise (injectedWord h (t.reg (R.ERR_INJ_WORD h)).toNat (t.reg (R.ERR_INJ_CTX h)).toNat) := by
  delta State.errInjectWrite
  rw [taken]
  rfl

/-- INJECT with kind STORM raises it as often as COUNT says, or is refused (R692). -/
theorem State.errInjectWrite_storm
    (taken : s.setFlds [(F.ERR_INJECT_INJ_KIND h, 3), (F.ERR_INJECT_BANK h, bank), (F.ERR_INJECT_COUNT h, count)] = t) :
    s.errInjectWrite h 3 bank count = if wordRefused (t.reg (R.ERR_INJ_WORD h)).toNat then t.setFld (F.ERR_INJECT_INJ_REFUSED h) 1
      else t.each (List.range (t.fld (F.ERR_INJECT_COUNT h))) fun _ u =>
        u.raise (injectedWord h (t.reg (R.ERR_INJ_WORD h)).toNat (t.reg (R.ERR_INJ_CTX h)).toNat) := by
  delta State.errInjectWrite
  rw [taken]
  rfl

end

/-- Settles O35: each clause is one form of its row. -/
theorem logAndClock : Obligations.LogAndClock := by
  refine ⟨?idle, ?taken, ?wrap, ?ce, ?ceRefused, ?ue, ?ueRefused, ?word, ?wordRefused, ?storm, ?stormRefused, fun _ _ => rfl, ?exhausted,
    ?subsec, ?second, ?crystal, ?copy, fun _ _ => rfl⟩
  case idle => exact fun h good s idle => congrArg Host.Outcome.next (State.logSlot_idle idle)
  case taken =>
    intro h good s busy due
    obtain ⟨⟨cls, r, sum, t⟩, takes⟩ := Option.ne_none_iff_exists'.mp busy
    rw [takes]
    exact congrArg Host.Outcome.next (State.logSlot_taken takes due)
  case wrap => exact fun h good s busy due => congrArg Host.Outcome.next (State.logSlot_wrap busy due)
  case ce => exact fun h b s serves => congrArg Host.Outcome.next ((State.errInjectWrite_ce rfl).trans (if_pos serves))
  case ceRefused =>
    exact fun h b s out =>
      congrArg Host.Outcome.next ((State.errInjectWrite_ce rfl).trans (if_neg (ne_true_of_eq_false out)))
  case ue => exact fun h b s serves => congrArg Host.Outcome.next ((State.errInjectWrite_ue rfl).trans (if_pos serves))
  case ueRefused =>
    exact fun h b s out =>
      congrArg Host.Outcome.next ((State.errInjectWrite_ue rfl).trans (if_neg (ne_true_of_eq_false out)))
  case word =>
    exact fun h word ctx s taken =>
      congrArg Host.Outcome.next ((State.errInjectWrite_word rfl).trans (if_neg (ne_true_of_eq_false taken)))
  case wordRefused => exact fun h word ctx s refused => congrArg Host.Outcome.next ((State.errInjectWrite_word rfl).trans (if_pos refused))
  case storm =>
    exact fun h word ctx n s taken =>
      congrArg Host.Outcome.next ((State.errInjectWrite_storm rfl).trans (if_neg (ne_true_of_eq_false taken)))
  case stormRefused =>
    exact fun h word ctx n s refused =>
      congrArg Host.Outcome.next ((State.errInjectWrite_storm rfl).trans (if_pos refused))
  case exhausted => exact fun s ended => congrArg Host.Outcome.next (if_pos ended)
  case subsec =>
    exact fun s runs within => congrArg Host.Outcome.next ((if_neg (ne_true_of_eq_false runs)).trans (if_pos within))
  case second =>
    exact fun s runs full =>
      congrArg Host.Outcome.next ((if_neg (ne_true_of_eq_false runs)).trans (if_neg (Nat.not_lt.mpr full)))
  case crystal => exact fun s ran supplied => congrArg Host.Outcome.next (if_neg (by simp [ran, supplied]))
  case copy => exact fun s up joined => congrArg Host.Outcome.next (if_pos (by simp [up, joined]))

/-! ## Self-test (R696 to R706) -/

section
variable {s : State} {h : Fin 2} (enabled : s.on (F.ST_CTL_EN h) = true)
include enabled

/-- A period that finds no sweep starts one (R701). -/
theorem exec_selftestSweepStart_idle (idle : (s.sweep h).kind = 0) :
    exec (.selftestSweepStart h) s = .next ((s.startSweep h 1).testPump h) := by
  change execSelftestSweepStart h s = _
  simp only [execSelftestSweepStart, enabled, idle, Bool.not_true, Bool.false_eq_true, if_false]

/-- One that finds a sweep of an earlier period marks one due and overrun (R701). -/
theorem exec_selftestSweepStart_overrun (late : (s.sweep h).kind = 1) : exec (.selftestSweepStart h) s =
    .next ((s.modSweep h fun w => { w with due := true }).setFld (F.ST_STATUS_OVERRUN h) 1) := by
  change execSelftestSweepStart h s = _
  simp only [execSelftestSweepStart, enabled, late, Bool.not_true, Bool.false_eq_true, if_false]

/-- One that finds a sweep of TEST_RUN marks one due (R701). -/
theorem exec_selftestSweepStart_due (other : 2 ≤ (s.sweep h).kind) : exec (.selftestSweepStart h) s =
    .next (s.modSweep h fun w => { w with due := true }) := by
  obtain ⟨k, kind⟩ := Nat.exists_eq_add_of_le' other
  change execSelftestSweepStart h s = _
  simp only [execSelftestSweepStart, enabled, kind, Bool.not_true, Bool.false_eq_true, if_false]

end

section
variable {s : State} {n : Fin 256} {x : Slice} (tested : s.slice n = some x)
include tested

/-- A save that is over begins the patterns (R696). -/
theorem exec_sliceSaveDone_saved (saves : x.phase = 2) :
    exec (.sliceSaveDone n) s = .next (s.setSlice n (some { s.saveSlice n x with phase := 3 })) := by
  change execSliceSaveDone n s = _
  simp only [execSliceSaveDone, tested, saves, if_true]

/-- Patterns that are over compare their signature with the golden value (R696, R706). -/
theorem exec_slicePatternsDone_compared {signature : Dword} (applies : x.phase = 3) : exec (.slicePatternsDone n signature) s =
    .next (if (s.invertedAt n || signature != (s.pan n).golden.getD 0) = true then
      ((s.setInvertedAt n false).when (s.invertedAt n) fun u => u.setFld (F.ST_INJECT_INJECT (halfOfPan n)) 0).sliceFails n x 1
        ((signature ^^^ (s.pan n).golden.getD 0).toNat) (s.invertedAt n)
      else s.setSlice n (some { x with phase := 4 })) := by
  change execSlicePatternsDone n signature s = _
  simp only [execSlicePatternsDone, tested, applies, ne_eq, not_true_eq_false, if_false]

/-- A restore that is over ends the slice: failed where the save area is lost, else passed, and the pan's hold ends (R696, R697). -/
theorem exec_sliceRestoreDone_restored {lost : Bool} (restores : x.phase = 4) : exec (.sliceRestoreDone n lost) s =
    .next (if lost = true then s.sliceFails n x 2 0 false
      else (((((s.restoreSlice n x).endSlice n x (some true)).count (F.ST_COUNTS_PASSED (halfOfPan n)) none).clearHold n
        (F.PAN_SLUICE_STATUS_HOLD_TEST n)).testPump (halfOfPan n)).settle) := by
  change execSliceRestoreDone n lost s = _
  simp only [execSliceRestoreDone, tested, restores, ne_eq, not_true_eq_false, if_false]

end

/-- Settles O37: each clause is one form of its row. -/
theorem selftestEvents : Obligations.SelftestEvents := by
  refine ⟨fun h s enabled idle => exec_selftestSweepStart_idle enabled idle,
    fun h s enabled late => exec_selftestSweepStart_overrun enabled late,
    fun h s enabled other => exec_selftestSweepStart_due enabled other, fun n x s tested saves => exec_sliceSaveDone_saved tested saves,
    ?agrees, ?differs, ?lost, ?restored, fun _ _ => rfl, ?report, ?reportRefused, ?fail, ?failRefused⟩
  case agrees =>
    intro n x signature s tested applies plain golden
    rw [exec_slicePatternsDone_compared tested applies, if_neg (by simp [plain, golden])]
  case differs =>
    intro n x signature s tested applies fails
    rw [exec_slicePatternsDone_compared tested applies, if_pos (by simpa using fails)]
  case lost => exact fun n x s tested restores => exec_sliceRestoreDone_restored tested restores
  case restored => exact fun n x s tested restores => exec_sliceRestoreDone_restored tested restores
  case report => exact fun h pan s own => congrArg Host.Outcome.next ((if_neg (by simp [own])).trans (if_pos rfl))
  case reportRefused => exact fun h pan s other => congrArg Host.Outcome.next (if_pos (by simp [other]))
  case fail =>
    exact fun h pan s own testable =>
      congrArg Host.Outcome.next ((if_neg (by simp [own, testable])).trans (if_neg (by decide)))
  case failRefused => exact fun h pan s out => congrArg Host.Outcome.next (if_pos (by rcases out with out | out <;> simp [out]))

end Sys2Proof.Machine
end

section
/-! PROOFS. Debugging of rakes and trace (R732 to R742), the test access port and the debug module (R724 to R738), and the statements about
them. -/

namespace Sys2Proof.Machine

/-! ## Rakes and trace (R732 to R742) -/

section
variable {s t : State} {halt resume step all : Bool} {n k : Nat}
  (taken : s.setFlds [(F.DBG_RAKE_CTL_ALL, bnat all), (F.DBG_RAKE_CTL_PAN, n), (F.DBG_RAKE_CTL_RAKE, k)] = t)
include taken

/-- A request of DBG_RAKE_CTL without HALT in the scope sets REFUSED (R736, R742). -/
theorem State.writeRakeCtl_refused (asks : (halt || resume || step) = true) (denied : bitOf t.dbgScope 2 = false) :
    s.writeRakeCtl halt resume step all n k = t.setFld F.DBG_STATUS_REFUSED 1 := by
  delta State.writeRakeCtl
  rw [taken]
  exact (if_neg (by simp [asks])).trans (if_neg (ne_true_of_eq_false denied))

variable (may : bitOf t.dbgScope 2 = true)
include may

/-- HALTREQ requests a halt of the rakes selected (R732, R742). -/
theorem State.writeRakeCtl_halt : s.writeRakeCtl true false false all n k = t.each t.dbgRakes fun r x => x.haltRequest r := by
  delta State.writeRakeCtl
  rw [taken]
  exact (if_neg (by decide)).trans (if_pos may)

/-- RESUMEREQ resumes the rakes selected (R734, R742). -/
theorem State.writeRakeCtl_resume : s.writeRakeCtl false true false all n k = t.each t.dbgRakes fun r x => x.resumeRake r := by
  delta State.writeRakeCtl
  rw [taken]
  exact (if_neg (by decide)).trans (if_pos may)

/-- STEP steps the rake selected (R733, R742). -/
theorem State.writeRakeCtl_step : s.writeRakeCtl false false true all n k = t.stepRake t.dbgRake := by
  delta State.writeRakeCtl
  rw [taken]
  exact (if_neg (by decide)).trans (if_pos may)

end

/-- The oldest trace record is sent while trace runs (R740). -/
theorem exec_traceRecordEmit_oldest {s : State} {x : List Byte} {rest : List (List Byte)} (enabled : s.on F.DBG_TRACE_CTL_EN = true)
    (scope : bitOf s.dbgScope 0 = true) (waits : s.dbg.trace = x :: rest) : exec .traceRecordEmit s =
    .next (({ s with dbg := { s.dbg with trace := rest } } : State).reply (.bytes x false)) := by
  change execTraceRecordEmit s = _
  simp only [execTraceRecordEmit, enabled, scope, waits, Bool.and_self, if_true]

/-- Settles O9: each clause is one form of its row; a write of DBG_RAKE_CTL needs HALT in the scope that it finds. -/
theorem rakeDebugging : Obligations.RakeDebugging := by
  refine ⟨?halt, ?haltRefused, ?resume, ?step, ?hit, fun x rest s enabled scope waits => exec_traceRecordEmit_oldest enabled scope waits,
    fun _ => rfl⟩
  case halt => exact fun n k all s may => congrArg Host.Outcome.next (State.writeRakeCtl_halt rfl may)
  case haltRefused => exact fun n k all s denied => congrArg Host.Outcome.next (State.writeRakeCtl_refused rfl rfl denied)
  case resume => exact fun n k all s may => congrArg Host.Outcome.next (State.writeRakeCtl_resume rfl may)
  case step => exact fun n k s may => congrArg Host.Outcome.next (State.writeRakeCtl_step rfl may)
  case hit =>
    intro s runs breaks untaken uncommitted noSegment noNote noWait
    exact congrArg Host.Outcome.next (if_pos (by simp [runs, breaks, untaken, uncommitted, noSegment, noNote, noWait]))

/-! ## The test access port (R724 to R726) -/

section
variable {s : State} (runs : s.tapRuns = true)
include runs

/-- An instruction is selected while the TAP runs (R724, R725). -/
theorem State.selectIr_runs (code : Nat) : s.selectIr code = s.modDbg fun d => { d with ir := code } := if_pos runs

/-- A boundary instruction is selected with COMMANDS in the scope (R726). -/
theorem State.selectBoundary_scope (code : Nat) (scope : bitOf s.dbgScope 0 = true) :
    s.selectBoundary code = s.modDbg fun d => { d with ir := code } :=
  (if_neg (by simp [runs])).trans ((if_pos scope).trans (State.selectIr_runs runs code))

/-- Without COMMANDS it acts as BYPASS and is noted (R726). -/
theorem State.selectBoundary_refused (code : Nat) (denied : bitOf s.dbgScope 0 = false) :
    s.selectBoundary code = (s.modDbg fun d => { d with ir := 0xFF }).setFld F.DBG_STATUS_INSTR_REFUSED 1 := by
  rw [← State.selectIr_runs runs]
  exact (if_neg (by simp [runs])).trans (if_neg (ne_true_of_eq_false denied))

/-- EXTEST captures the cells and takes the values shifted in (R725, R726). -/
theorem exec_extest_scope (cells : List Bool) (scope : bitOf s.dbgScope 0 = true) : exec (.extest cells) s =
    .next (((s.modDbg fun d => { d with ir := 3 }).reply (.words (s.modDbg fun d => { d with ir := 3 }).captureCells)).loadCells cells) := by
  change execExtest cells s = _
  rw [execExtest, State.selectBoundary_scope runs 3 scope]
  exact congrArg Host.Outcome.next (if_pos rfl)

/-- EXTEST without COMMANDS is BYPASS (R726). -/
theorem exec_extest_refused (cells : List Bool) (denied : bitOf s.dbgScope 0 = false) : exec (.extest cells) s =
    .next ((s.modDbg fun d => { d with ir := 0xFF }).setFld F.DBG_STATUS_INSTR_REFUSED 1) := by
  change execExtest cells s = _
  rw [execExtest, State.selectBoundary_refused runs 3 denied]
  exact congrArg Host.Outcome.next (if_neg (by decide : ¬ 0xFF = 3))

end

/-! ## The debug module (R730, R731) -/

/-- A request with HALT in the scope acts (R736). -/
theorem State.needHalt_may {s : State} (may : s.mayHalt = true) (f : State → State) : s.needHalt f = f s := if_pos may

/-- A request without it sets REFUSED (R736). -/
theorem State.needHalt_denied {s : State} (denied : s.mayHalt = false) (f : State → State) :
    s.needHalt f = s.setFld F.DBG_STATUS_REFUSED 1 := if_neg (ne_true_of_eq_false denied)

/-- A trigger fires on a core that runs when it is of type mcontrol6, watches something and chains to no other (R730). -/
theorem exec_dmTriggerFire_fires {s : State} {c : Fin 16} {t : Fin 4} (live : (s.core c).live = true) (runs : s.isHalted c = false)
    (type : bitsOf (s.tdata1 c t) 63 60 = 6) (armed : bitsOf (s.tdata1 c t) 2 0 ≠ 0) (unchained : bitOf (s.tdata1 c t) 11 = false) :
    exec (.dmTriggerFire c t) s = .next (s.useFree.fireTrigger c t s.freeVal) :=
  congrArg Host.Outcome.next (if_neg (by simp [live, runs, type, armed, unchained]))

section
variable {s : State} {c : Nat} (may : s.mayHalt = true) (noError : s.dbg.cmderr = 0)
include may noError

/-- A register access of a halted core makes its transfer (R730). -/
theorem State.abstractGate_halted (core : c < 16) (halted : s.isHalted c = true) (f : State → State) : s.abstractGate c f = f s :=
  (if_neg (by simp [may])).trans ((if_neg (by simp [noError])).trans (if_neg (by simp [halted, core])))

/-- One of a core that runs is an error (R730). -/
theorem State.abstractGate_running (runs : s.isHalted c = false) (f : State → State) :
    s.abstractGate c f = s.modDbg fun d => { d with cmderr := 4 } :=
  (if_neg (by simp [may])).trans ((if_neg (by simp [noError])).trans ((if_pos (by simp [runs])).trans (if_pos noError)))

end

/-- A transfer to a register writes it (R730). -/
theorem State.transfer_write {s t : State} {c regno v : Nat} (writes : s.hartWrite c regno v = some t) :
    s.transfer c regno true v = t := by
  simp only [State.transfer, writes, if_true, Option.getD_some]

/-- A transfer to no register is an error (R730). -/
theorem State.transfer_noRegister {s : State} {c regno v : Nat} (noError : s.dbg.cmderr = 0) (none : s.hartWrite c regno v = none) :
    s.transfer c regno true v = s.modDbg fun d => { d with cmderr := 3 } := by
  simp only [State.transfer, none, if_true, Option.getD_none]
  exact if_pos noError

/-- A transfer from a register sets the data registers and answers (R730). -/
theorem State.transfer_read {s t : State} {c regno v w : Nat} (reads : s.hartRead c regno = (t, some w)) :
    s.transfer c regno false v = (t.setDmData w).reply (.num w) := by
  simp only [State.transfer, reads, Bool.false_eq_true, if_false]

/-- Reading a register access of a halted core answers with the register (R730). -/
theorem exec_dmAccessRegister_read {s : State} {c : Fin 16} {regno : BitVec 16} {v : Dword} (may : s.mayHalt = true)
    (noError : s.dbg.cmderr = 0) (halted : s.isHalted c = true) (there : (s.hartRead c regno.toNat).2 ≠ none) :
    exec (.dmAccessRegister c regno false v) s = .next (((s.hartRead c regno.toNat).1.setDmData
      ((s.hartRead c regno.toNat).2.getD 0)).reply (.num ((s.hartRead c regno.toNat).2.getD 0))) := by
  obtain ⟨w, reads⟩ := Option.ne_none_iff_exists'.mp there
  rw [reads, Option.getD_some]
  exact congrArg Host.Outcome.next
    ((State.abstractGate_halted may noError c.isLt halted _).trans (State.transfer_read (Prod.ext rfl reads)))

/-! ## The system bus (R738) -/

section
variable {s : State} {addr size : Nat} {f : State → State}

/-- Without MEMORY in the scope a bus access is refused (R738). -/
theorem State.sbPermitted_denied (denied : bitOf s.dbgScope 1 = false) : s.sbPermitted addr size f = s.sbRefuse 5 7 addr :=
  if_pos (by simp [denied])

variable (scope : bitOf s.dbgScope 1 = true)
include scope

/-- An access of a size that the bus does not have is refused (R738). -/
theorem State.sbPermitted_size (large : 4 ≤ size) : s.sbPermitted addr size f = s.sbRefuse 1 4 addr :=
  (if_neg (by simp [scope])).trans (if_pos large)

variable (fits : size < 4)
include fits

/-- A misaligned access is refused (R738). -/
theorem State.sbPermitted_misaligned (misaligned : addr % 2 ^ size ≠ 0) : s.sbPermitted addr size f = s.sbRefuse 1 3 addr :=
  (if_neg (by simp [scope])).trans ((if_neg (Nat.not_le.mpr fits)).trans (if_pos misaligned))

/-- Any other access is made (R738). -/
theorem State.sbPermitted_made (aligned : addr % 2 ^ size = 0) : s.sbPermitted addr size f = f s :=
  (if_neg (by simp [scope])).trans ((if_neg (Nat.not_le.mpr fits)).trans (if_neg (not_not.mpr aligned)))

end

/-- What a bus access is refused with does not depend on whether it writes (R738). -/
theorem exec_systemBusAccess_refused {s : State} {addr : Dword} {size : Fin 8} {code e : Nat}
    (refused : ∀ f, s.sbPermitted addr.toNat size f = s.sbRefuse code e addr.toNat) (write : Bool) (v : Dword) :
    exec (.systemBusAccess addr size write v) s =
      .next ((s.misuse .debug code (addr.toNat % 2 ^ 32)).modDbg fun d => { d with sberror := e }) := by
  cases write
  · exact congrArg Host.Outcome.next ((if_neg Bool.false_ne_true).trans (refused _))
  · exact congrArg Host.Outcome.next ((if_pos rfl).trans (refused _))

section
variable {s t : State} {addr size v : Nat} (scope : bitOf s.dbgScope 1 = true) (fits : size < 4) (aligned : addr % 2 ^ size = 0)
include scope fits aligned

/-- A bus write that the device takes is done (R738). -/
theorem State.sbWrite_done (done : s.busWrite .debug addr (2 ^ size) v = (t, .ok)) : s.sbWrite addr size v = t := by
  rw [State.sbWrite, State.sbPermitted_made scope fits aligned]
  simp only [done]

/-- A bus read that the device serves keeps and answers its value (R738). -/
theorem State.sbRead_done {w : Nat} (done : s.busRead .debug addr (2 ^ size) = (t, w, .ok)) :
    s.sbRead addr size = (t.modDbg fun d => { d with sbdata := w }).reply (.num w) := by
  rw [State.sbRead, State.sbPermitted_made scope fits aligned]
  simp only [done]

end

/-- Settles O40: each clause is one form of its row. -/
theorem debugPort : Obligations.DebugPort := by
  refine ⟨fun _ => rfl, ?idcode, ?sample, fun cells s runs scope => exec_extest_scope runs cells scope,
    fun cells s runs denied => exec_extest_refused runs cells denied, ?clamp, ?clampRefused, ?highz, ?highzRefused, ?bypass, ?dmiWrite,
    ?dmiRead, ?halt, ?resume, ?reset, ?resetAll, ?step, ?haltRefused, ?resumeRefused, ?resetRefused, ?stepRefused, ?resetAllRefused,
    ?triggerHalts, ?triggerBreaks, ?write, ?writeNone, fun c regno v s may ok halted there => exec_dmAccessRegister_read may ok halted there,
    ?running, ?busWrite, ?busRead, ?busDenied, ?busSize, ?busMisaligned⟩
  case idcode =>
    exact fun s runs =>
      congrArg Host.Outcome.next ((if_pos runs).trans (congrArg (State.reply · _) (State.selectIr_runs runs 1)))
  case sample =>
    intro cells s runs
    refine congrArg Host.Outcome.next ((if_pos runs).trans ?_)
    rw [State.selectIr_runs runs]
    rfl
  case clamp => exact fun s runs scope => congrArg Host.Outcome.next (State.selectBoundary_scope runs 4 scope)
  case clampRefused => exact fun s runs denied => congrArg Host.Outcome.next (State.selectBoundary_refused runs 4 denied)
  case highz => exact fun s runs scope => congrArg Host.Outcome.next (State.selectBoundary_scope runs 5 scope)
  case highzRefused => exact fun s runs denied => congrArg Host.Outcome.next (State.selectBoundary_refused runs 5 denied)
  case bypass => exact fun s runs => congrArg Host.Outcome.next (State.selectIr_runs runs 0xFF)
  case dmiWrite =>
    exact fun a v s runs => congrArg Host.Outcome.next
      ((if_neg (by simp [runs])).trans (congrArg (State.dmiWrite · a.toNat v.toNat) (State.selectIr_runs runs 0x10)))
  case dmiRead =>
    exact fun a v s runs => congrArg Host.Outcome.next
      ((if_neg (by simp [runs])).trans (congrArg (State.dmiRead · a.toNat) (State.selectIr_runs runs 0x10)))
  case halt => exact fun c s may => congrArg Host.Outcome.next (State.needHalt_may may _)
  case resume => exact fun c s may => congrArg Host.Outcome.next (State.needHalt_may may _)
  case reset => exact fun c s may => congrArg Host.Outcome.next (State.needHalt_may may _)
  case resetAll => exact fun s may => congrArg Host.Outcome.next (State.needHalt_may may _)
  case step => exact fun c s may => congrArg Host.Outcome.next (State.needHalt_may may _)
  case haltRefused => exact fun c s denied => congrArg Host.Outcome.next (State.needHalt_denied denied _)
  case resumeRefused => exact fun c s denied => congrArg Host.Outcome.next (State.needHalt_denied denied _)
  case resetRefused => exact fun c s denied => congrArg Host.Outcome.next (State.needHalt_denied denied _)
  case stepRefused => exact fun c s denied => congrArg Host.Outcome.next (State.needHalt_denied denied _)
  case resetAllRefused => exact fun s denied => congrArg Host.Outcome.next (State.needHalt_denied denied _)
  case triggerHalts =>
    exact fun c t s live runs type armed unchained action => (exec_dmTriggerFire_fires live runs type armed unchained).trans
      (congrArg Host.Outcome.next (if_pos action))
  case triggerBreaks =>
    exact fun c t s live runs type armed unchained action => (exec_dmTriggerFire_fires live runs type armed unchained).trans
      (congrArg Host.Outcome.next ((if_neg (fun halts => absurd (action.symm.trans halts) (by decide))).trans (if_pos action)))
  case write =>
    exact fun c regno v t s may ok halted writes => congrArg Host.Outcome.next
      ((State.abstractGate_halted may ok c.isLt halted _).trans (State.transfer_write writes))
  case writeNone =>
    exact fun c regno v s may ok halted none => congrArg Host.Outcome.next
      ((State.abstractGate_halted may ok c.isLt halted _).trans (State.transfer_noRegister ok none))
  case running =>
    exact fun c regno v write s may ok runs => congrArg Host.Outcome.next (State.abstractGate_running may ok runs _)
  case busWrite =>
    exact fun addr size v s scope fits aligned done =>
      congrArg Host.Outcome.next (State.sbWrite_done scope fits aligned (Prod.ext rfl done))
  case busRead =>
    exact fun addr size v s scope fits aligned done =>
      congrArg Host.Outcome.next (State.sbRead_done scope fits aligned (Prod.ext rfl (Prod.ext rfl done)))
  case busDenied =>
    exact fun addr size v write s denied => exec_systemBusAccess_refused (fun _ => State.sbPermitted_denied denied) write v
  case busSize =>
    exact fun addr size v write s scope large => exec_systemBusAccess_refused (fun _ => State.sbPermitted_size scope large) write v
  case busMisaligned =>
    exact fun addr size v write s scope fits misaligned =>
      exec_systemBusAccess_refused (fun _ => State.sbPermitted_misaligned scope fits misaligned) write v

end Sys2Proof.Machine
end

section
/-! PROOFS. Which registers a report writes (R668, R671, R740), and the statement about its mailbox events. -/

namespace Sys2Proof.Machine

/-! ## Registers that an operation leaves as they are -/

/-- A write to a field of another register leaves a register as it is. -/
theorem State.reg_setFld_other (s : State) (f : Fld) (v : Nat) {a : Nat} (other : a ≠ f.addr) : (s.setFld f v).reg a = s.reg a :=
  s.reg_setReg_other f.addr a _ other

/-- A count in other registers leaves a register as it is (R760). -/
theorem State.reg_count_other (s : State) (f : Fld) (sat : Option Fld) {a : Nat} (other : a ≠ f.addr) (flag : ∀ g ∈ sat, a ≠ g.addr) :
    (s.count f sat).reg a = s.reg a := by
  unfold State.count
  split
  · exact s.reg_setFld_other f _ other
  · cases sat with
    | none => rfl
    | some g => exact s.reg_setFld_other g 1 (flag g rfl)

/-- A step that leaves a register as it is does so where it is made only under a condition. -/
theorem State.reg_when {f : State → State} {a : Nat} (keeps : ∀ t, (f t).reg a = t.reg a) (s : State) (b : Bool) :
    (s.when b f).reg a = s.reg a := by
  cases b
  · rfl
  · exact keeps s

/-- Steps that each leave a register as it is leave it as it is together. -/
theorem State.reg_each {f : Nat → State → State} {a : Nat} (keeps : ∀ n t, (f n t).reg a = t.reg a) (s : State) (l : List Nat) :
    (s.each l f).reg a = s.reg a := by
  unfold State.each
  induction l generalizing s with
  | nil => rfl
  | cons n r ih => exact (ih _).trans (keeps n s)

/-- What one of the steps brings about holds after all of them, when every step keeps it. -/
theorem State.each_brings {p : State → Prop} {f : Nat → State → State} {n : Nat} (brings : ∀ t, p (f n t))
    (keeps : ∀ m t, p t → p (f m t)) {l : List Nat} (mem : n ∈ l) (s : State) : p (s.each l f) := by
  unfold State.each
  induction l generalizing s with
  | nil => cases mem
  | cons m r ih =>
    rcases List.mem_cons.mp mem with rfl | later
    · exact List.foldlRecOn r _ (brings s) fun t holds k _ => keeps k t holds
    · exact ih later _

/-! ## Mailbox events (R418, R434, R671) -/

/-- Links have event registers of their own (R434). -/
theorem mbxEvent_addr_injective {l n : Nat} (other : l ≠ n) : R.MBX_EVENT (l / 4) (l % 4) ≠ R.MBX_EVENT (n / 4) (n % 4) := by
  unfold R.MBX_EVENT
  omega

/-- An event register is none of the registers that a report may write or look at beside (R434, R492, R668, R672, R740). -/
theorem mbxEvent_addr_other (l h : Nat) : R.MBX_EVENT (l / 4) (l % 4) ≠ R.CSW_STATUS h ∧ R.MBX_EVENT (l / 4) (l % 4) ≠ R.ERR_STATUS h ∧
    R.MBX_EVENT (l / 4) (l % 4) ≠ R.ERR_LOST h ∧ R.MBX_EVENT (l / 4) (l % 4) ≠ R.ERR_LOG h ∧
    R.MBX_EVENT (l / 4) (l % 4) ≠ R.DBG_TRACE_CTL := by
  unfold R.MBX_EVENT R.CSW_STATUS R.ERR_STATUS R.ERR_LOST R.ERR_LOG R.DBG_TRACE_CTL
  omega

/-- Sending leaves the registers as they are. -/
theorem State.reg_sendIf (s : State) (b : Bool) (x : Sent) (a : Nat) : (if b then s.send x else s).reg a = s.reg a := by
  cases b <;> rfl

/-- An event that sets changes the registers as the write of its bit does; one that is set already changes none (R418). -/
theorem State.reg_mbxEvent (s : State) (l bit a : Nat) : (s.mbxEvent l bit).reg a =
    if s.on ⟨R.MBX_EVENT (l / 4) (l % 4), bit, bit⟩ then s.reg a else (s.setFld ⟨R.MBX_EVENT (l / 4) (l % 4), bit, bit⟩ 1).reg a := by
  by_cases set : s.on ⟨R.MBX_EVENT (l / 4) (l % 4), bit, bit⟩ = true
  · exact (congrArg (State.reg · a) (if_pos set)).trans (if_pos set).symm
  · rw [if_neg set]
    refine (congrArg (State.reg · a) (if_neg set)).trans ?_
    generalize s.setFld ⟨R.MBX_EVENT (l / 4) (l % 4), bit, bit⟩ 1 = t
    exact (State.reg_sendIf _ _ _ a).trans (State.reg_sendIf t _ _ a)

/-- An event of a link leaves every other register as it is (R418). -/
theorem State.reg_mbxEvent_other (s : State) (l bit : Nat) {a : Nat} (other : a ≠ R.MBX_EVENT (l / 4) (l % 4)) :
    (s.mbxEvent l bit).reg a = s.reg a := by
  rw [s.reg_mbxEvent]
  split
  · rfl
  · exact s.reg_setFld_other _ 1 other

/-- A field reads what its register's word gives. -/
theorem State.fld_congr {s t : State} {f : Fld} (same : t.reg f.addr = s.reg f.addr) : t.fld f = s.fld f := by
  unfold State.fld
  rw [same]

/-- An event of a link is set afterwards (R418). -/
theorem State.mbxEvent_sets (s : State) (l bit : Nat) (within : bit < 32) :
    (s.mbxEvent l bit).on ⟨R.MBX_EVENT (l / 4) (l % 4), bit, bit⟩ = true := by
  by_cases set : s.on ⟨R.MBX_EVENT (l / 4) (l % 4), bit, bit⟩ = true
  · rw [State.on, State.fld_congr ((s.reg_mbxEvent l bit _).trans (if_pos set))]
    exact set
  · rw [State.on, State.fld_congr ((s.reg_mbxEvent l bit _).trans (if_neg set)), State.fld_setFld_same _ _ _ within le_rfl,
      Nat.add_sub_cancel_left]
    rfl

/-- An event that is set stays set while events of any links set (R418). -/
theorem State.mbxEvent_keeps {s : State} {l bit : Nat} (within : bit < 32) (n : Nat)
    (set : s.on ⟨R.MBX_EVENT (l / 4) (l % 4), bit, bit⟩ = true) :
    (s.mbxEvent n bit).on ⟨R.MBX_EVENT (l / 4) (l % 4), bit, bit⟩ = true := by
  by_cases same : l = n
  · exact same ▸ s.mbxEvent_sets l bit within
  · rw [State.on, State.fld_congr (s.reg_mbxEvent_other n bit (mbxEvent_addr_injective same))]
    exact set

/-- The bit of LOG, or of FATAL, in an event register (R434). -/
theorem eventBit_lt (fatal : Bool) : (if fatal then 2 else 1) < 32 := by
  cases fatal <;> decide

section
variable {s : State} {h l : Nat} {fatal : Bool}

/-- The events of a report set on each link that it reaches (R671). -/
theorem State.mbxEvents_sets (link : l < 16) (reached : l / 8 = h ∨ s.causewayUp h = true) :
    (s.mbxEvents h fatal).on ⟨R.MBX_EVENT (l / 4) (l % 4), if fatal then 2 else 1, if fatal then 2 else 1⟩ = true := by
  refine State.each_brings (p := fun t => t.on ⟨R.MBX_EVENT (l / 4) (l % 4), if fatal then 2 else 1, if fatal then 2 else 1⟩ = true)
    (n := l) (fun t => ?brings) (fun n t set => ?keeps) (List.mem_range.mpr link) s
  case brings =>
    rw [if_pos (by simpa using reached)]
    exact t.mbxEvent_sets l _ (eventBit_lt fatal)
  case keeps =>
    split
    · exact State.mbxEvent_keeps (eventBit_lt fatal) n set
    · exact set

/-- They leave the event register of any other link as it is (R671). -/
theorem State.reg_mbxEvents_unreached (far : l / 8 ≠ h) (down : s.causewayUp h = false) :
    (s.mbxEvents h fatal).reg (R.MBX_EVENT (l / 4) (l % 4)) = s.reg (R.MBX_EVENT (l / 4) (l % 4)) := by
  refine State.reg_each (fun n t => ?_) s _
  split
  case isTrue reached =>
    have near : n / 8 = h := by simpa [down] using reached
    exact t.reg_mbxEvent_other n _ (mbxEvent_addr_injective fun same => far (same ▸ near))
  case isFalse => rfl

end

/-! ## What a report does beside (R668, R672, R740) -/

section
variable (s : State) (l : Nat)

/-- A lost report leaves the event registers as they are (R668). -/
theorem State.mbxEvent_countLost (h cls : Nat) :
    (s.countLost h cls).reg (R.MBX_EVENT (l / 4) (l % 4)) = s.reg (R.MBX_EVENT (l / 4) (l % 4)) := by
  obtain ⟨-, status, lost, log, -⟩ := mbxEvent_addr_other l h
  have flag {hi lo : Nat} : ∀ g ∈ some (⟨R.ERR_LOG h, hi, lo⟩ : Fld), R.MBX_EVENT (l / 4) (l % 4) ≠ g.addr := by
    rintro g ⟨⟩
    exact log
  unfold State.countLost
  split
  · exact (State.reg_setFld_other _ _ 1 status).trans (s.reg_count_other _ _ log flag)
  · split
    · exact s.reg_count_other _ _ lost flag
    · exact s.reg_count_other _ _ lost flag

/-- A report that is queued leaves them as they are (R665, R668). -/
theorem State.mbxEvent_enqueueReport (h cls : Nat) (r : Report) :
    (s.enqueueReport h cls r).reg (R.MBX_EVENT (l / 4) (l % 4)) = s.reg (R.MBX_EVENT (l / 4) (l % 4)) :=
  State.reg_when (fun t => t.mbxEvent_countLost l h cls) (s.setLog h _) _

/-- A trace record leaves them as they are (R740). -/
theorem State.mbxEvent_trace (k h w : Nat) :
    (s.trace k h w).reg (R.MBX_EVENT (l / 4) (l % 4)) = s.reg (R.MBX_EVENT (l / 4) (l % 4)) := by
  obtain ⟨-, -, -, -, trace⟩ := mbxEvent_addr_other l h
  unfold State.trace
  split
  · rfl
  · split
    · rfl
    · exact s.reg_count_other _ _ trace (by simp)

/-- So of a report only its lines reach the event registers (R671). -/
theorem State.mbxEvent_raise (r : Raise) :
    (s.raise r).reg (R.MBX_EVENT (l / 4) (l % 4)) = (s.reportLines r).reg (R.MBX_EVENT (l / 4) (l % 4)) :=
  (State.mbxEvent_trace _ l _ _ _).trans (State.mbxEvent_enqueueReport _ l _ _ _)

end

/-! ## The lines of a report (R670 to R673) -/

/-- A latch of ERR_STATUS leaves the causeway's state as it is. -/
theorem State.causewayUp_setErrStatus (s : State) (h hi lo k : Nat) :
    (s.setFld ⟨R.ERR_STATUS h, hi, lo⟩ 1).causewayUp k = s.causewayUp k := by
  have other : R.CSW_STATUS k ≠ R.ERR_STATUS h := by
    unfold R.CSW_STATUS R.ERR_STATUS
    omega
  rw [State.causewayUp, State.causewayUp, s.fld_setFld_other _ _ 1 other]

/-- t is s as far as the events of a report look: the same causeway and the same event registers. -/
def EventsAsIn (s t : State) : Prop :=
  (∀ h, t.causewayUp h = s.causewayUp h) ∧ ∀ l, t.reg (R.MBX_EVENT (l / 4) (l % 4)) = s.reg (R.MBX_EVENT (l / 4) (l % 4))

/-- A latch of ERR_STATUS leaves both as they are (R672, R673). -/
theorem EventsAsIn.setErrStatus (s : State) (h hi lo : Nat) : EventsAsIn s (s.setFld ⟨R.ERR_STATUS h, hi, lo⟩ 1) :=
  ⟨s.causewayUp_setErrStatus h hi lo, fun l => s.reg_setFld_other _ 1 (mbxEvent_addr_other l h).2.1⟩

/-- A FATAL report sets its events after its latch (R670, R671, R673). -/
theorem State.reportLines_fatal (s : State) {r : Raise} (fatal : r.cls = FATAL) :
    ∃ t, EventsAsIn s t ∧ s.reportLines r = t.mbxEvents r.half true :=
  ⟨_, .setErrStatus s r.half 30 30, if_pos fatal⟩

/-- An ERROR report sets its events, after its latch where its source is enabled (R671, R672). -/
theorem State.reportLines_error (s : State) {r : Raise} (error : r.cls = ERROR) :
    ∃ t, EventsAsIn s t ∧ s.reportLines r = t.mbxEvents r.half false := by
  refine ⟨_, ?_, (if_neg (by simp [error, ERROR])).trans (if_pos error)⟩
  split
  · exact .setErrStatus s r.half 31 31
  · exact ⟨fun _ => rfl, fun _ => rfl⟩

/-- A report of any other class touches no line (R671). -/
theorem State.reportLines_other (s : State) {r : Raise} (notFatal : r.cls ≠ FATAL) (notError : r.cls ≠ ERROR) : s.reportLines r = s :=
  (if_neg notFatal).trans (if_neg notError)

/-- Some group of a half is UP exactly where its UP field is not 0 (R492). -/
theorem State.causewayUp_iff (s : State) (h : Nat) : s.causewayUp h = true ↔ s.fld (F.CSW_STATUS_UP h) ≠ 0 := bne_iff_ne

section
variable {s : State} {r : Raise} {l : Nat}

/-- A report whose lines set an event sets it on every link that it reaches (R671). -/
theorem State.raise_sets {t : State} {fatal : Bool} {bit : Nat} (asIn : EventsAsIn s t)
    (lines : s.reportLines r = t.mbxEvents r.half fatal) (isBit : (if fatal then 2 else 1) = bit) (link : l < 16)
    (reached : l / 8 = r.half ∨ s.fld (F.CSW_STATUS_UP r.half) ≠ 0) :
    (s.raise r).on ⟨R.MBX_EVENT (l / 4) (l % 4), bit, bit⟩ = true := by
  subst isBit
  rw [← s.causewayUp_iff, ← asIn.1] at reached
  rw [State.on, State.fld_congr (s.mbxEvent_raise l r), lines]
  exact State.mbxEvents_sets link reached

/-- No report changes the event register of a link that it does not reach (R671). -/
theorem State.reg_raise_unreached (far : l / 8 ≠ r.half) (down : s.fld (F.CSW_STATUS_UP r.half) = 0) :
    (s.raise r).reg (R.MBX_EVENT (l / 4) (l % 4)) = s.reg (R.MBX_EVENT (l / 4) (l % 4)) := by
  have kept {t : State} {fatal : Bool} (asIn : EventsAsIn s t) (lines : s.reportLines r = t.mbxEvents r.half fatal) :
      (s.reportLines r).reg (R.MBX_EVENT (l / 4) (l % 4)) = s.reg (R.MBX_EVENT (l / 4) (l % 4)) := by
    rw [lines, State.reg_mbxEvents_unreached far, asIn.2]
    rw [asIn.1, ← Bool.not_eq_true, s.causewayUp_iff]
    exact not_not.mpr down
  rw [s.mbxEvent_raise]
  by_cases fatal : r.cls = FATAL
  · obtain ⟨t, asIn, lines⟩ := s.reportLines_fatal fatal
    exact kept asIn lines
  by_cases error : r.cls = ERROR
  · obtain ⟨t, asIn, lines⟩ := s.reportLines_error error
    exact kept asIn lines
  · rw [s.reportLines_other fatal error]

end

/-- Settles O54: the lines of the report set the events of R671, and nothing else that raising it does touches an event register. -/
theorem reportEvents : Obligations.ReportEvents := by
  intro s r l _ link
  refine ⟨fun error reached => ?error, fun fatal reached => ?fatal, ?other⟩
  case error =>
    obtain ⟨t, asIn, lines⟩ := s.reportLines_error error
    exact State.raise_sets asIn lines rfl link reached
  case fatal =>
    obtain ⟨t, asIn, lines⟩ := s.reportLines_fatal fatal
    exact State.raise_sets asIn lines rfl link reached
  case other =>
    rintro (notice | ⟨far, down⟩)
    · rw [s.mbxEvent_raise, s.reportLines_other (by simp [notice, NOTICE, FATAL]) (by simp [notice, NOTICE, ERROR])]
    · exact State.reg_raise_unreached far down

end Sys2Proof.Machine
end
